-- ==== Sys2Proof/Word.lean ====
section
/-! DEFINITION. Words, bytes and the plainest arithmetic on them. A register field's contents are held as a natural
number below 2 to the field's width (spec/00_scope.md, "Registers"); the functions here cut a number to a width and read it as
a signed one. -/

namespace Sys2Proof

/-- One byte of an addressed memory. -/
abbrev Byte := BitVec 8

/-- A number cut to `w` bits: what a field of that width keeps. -/
def trunc (w v : Nat) : Nat := v % 2 ^ w

/-- A `w`-bit word read as a two's-complement number. -/
def toSigned (w v : Nat) : Int :=
  if trunc w v < 2 ^ (w - 1) then (trunc w v : Int) else (trunc w v : Int) - (2 ^ w : Nat)

/-- The `w`-bit two's-complement word of an integer. -/
def ofSigned (w : Nat) (x : Int) : Nat := (x % ((2 ^ w : Nat) : Int)).toNat

/-- One bit of a word. -/
def bit (v k : Nat) : Bool := v.testBit k

/-- Bits `lo` to `lo + w - 1` of a word. -/
def bitsAt (v lo w : Nat) : Nat := (v / 2 ^ lo) % 2 ^ w

/-- A truth value as a one-bit field. -/
def b2n (b : Bool) : Nat := if b then 1 else 0

/-- Round a quotient to the nearest integer, ties to even. -/
def divRne (a : Int) (b : Nat) : Int :=
  let q := a / (b : Int)
  let r := a - q * (b : Int)
  if 2 * r < (b : Int) then q else if (b : Int) < 2 * r then q + 1 else if q % 2 = 0 then q else q + 1

/-- An integer held to a closed range. -/
def clampInt (x lo hi : Int) : Int := if x < lo then lo else if hi < x then hi else x

end Sys2Proof
end

