-- ==== Sys2Proof/Syntax.lean ====
section
/-! DEFINITION. The commands of the part: one constructor a row of the table of operations and events, with what a host, a
lane's firmware, a bus or the hardware outside the block brings with it. -/

namespace Sys2Proof

/-- The eight dies (spec/01, Table 01-1). -/
inductive Die
  | sw | ha | hb | ga | gb | pa | pb | ld
  deriving DecidableEq, Repr

/-- One of a pair: lane A or B, baseband A or B, port die A or B, culvert plane A or B. -/
inductive Side
  | a | b
  deriving DecidableEq, Repr

/-- A sample as a receiving die meets it: the interface it came by, the key its descriptor is matched with, the arrival stamp of
Table 03-2, the group delay of an analog chain in ns, the sensor's own stamp where it has one (ticks, PTP ns, an epoch, or ns of
the day), and the components as binary64 patterns. -/
structure RawSample where
  die : Die
  portType : Nat
  portIndex : Nat
  key : Nat
  arrival : Nat
  delay : Nat
  own : Option Int
  comps : List Nat
  deriving DecidableEq, Repr

/-- What a lane's loop engine meets in a tick: a pipeline fails its built-in test (R244); it does not complete the tick (R63). -/
structure LaneTick where
  fail : Bool
  late : Bool
  deriving DecidableEq, Repr

/-- A place in the furrow work of a solver run (R190, R195): the iteration, its first attempt or its retry, the operations done in it. -/
structure FurrowAt where
  iter : Nat
  retry : Bool
  ops : Nat
  deriving DecidableEq, Repr

/-- A tracking channel that may lose lock (R252): how long in ms its phase-lock indicator has stayed below 0.5 and its C/N0 below
25 dB-Hz. -/
structure LockMeas where
  channel : Nat
  pliMs : Nat
  cn0Ms : Nat
  deriving DecidableEq, Repr

/-- A tracking channel whose indicator has recovered (R253): the coherent intervals for which it was below 0.5. -/
structure SlipMeas where
  channel : Nat
  intervals : Nat
  deriving DecidableEq, Repr

/-- The source of a datagram: IP address and UDP port. -/
structure HostAddr where
  ip : Nat
  port : Nat
  deriving DecidableEq, Repr

/-- A control message as a dispatcher writes it into a flume (spec/15, Table 15-6) and as an operator sends it: its origin stamp, the
port die of ingress, the session slot, the slot's key ID, the message counter and the payload bytes. -/
structure Cmd where
  stamp : Nat
  die : Nat
  slot : Nat
  keyId : Nat
  counter : Nat
  payload : List Nat
  deriving DecidableEq, Repr

/-- An entry of a channel plan (spec/09, R250): system, PRN, band, and the predicted code phase and Doppler where the lane can
predict them. -/
structure PlanEntry where
  sys : Nat
  prn : Nat
  band : Nat
  pred : Option (Nat × Int)
  deriving DecidableEq, Repr

/-- What a channel's correlators give at an epoch (spec/09, R251, R259, R260): the flags of its entry, the transmit time in its system's
time scale in fs from the GPS epoch, the phase as binary64, the Doppler as binary32, C/N0 in 0.01 dB-Hz, the normalised powers of E, L,
NE and NL and the prompt I and Q, all binary64. -/
structure Meas where
  channel : Nat
  halfOk : Bool
  prValid : Bool
  phaseValid : Bool
  tx : Int
  phase : Nat
  doppler : Nat
  cn0 : Nat
  powers : List Nat
  prompt : List Nat
  deriving DecidableEq, Repr

/-- A CAN frame (spec/11): identifier, extended, FD, bit-rate switch, data length code, ESI, remote, payload bytes. -/
structure CanFrame where
  id : Nat
  ide : Bool
  fdf : Bool
  brs : Bool
  esi : Bool
  remote : Bool
  dlc : Nat
  data : List Nat
  deriving DecidableEq, Repr

/-- The kinds of a sluice's outputs: a CAN TX signal, a DAC output, a digital output. -/
inductive OutKind
  | can | dac | dio | uart
  deriving DecidableEq, Repr

/-- The data set of a PTP Announce (IEEE 1588-2019): the sending clock and port, priorities, clock quality, grandmaster, steps
removed, UTC offset and flags. -/
structure Announce where
  src : Nat
  srcPort : Nat
  prio1 : Nat
  cls : Nat
  accuracy : Nat
  variance : Nat
  prio2 : Nat
  gm : Nat
  steps : Nat
  utc : Int
  utcValid : Bool
  leap61 : Bool
  leap59 : Bool
  deriving DecidableEq, Repr

/-- A PTP message as the ordinary clock meets it (spec/12, R350): ingress port, messageType, versionPTP, domain, two-step flag,
sequenceId, source, correctionField in 2^-16 ns, the timestamp it carries in ns, compensated ingress in 2^-16 ns, the port identity a
Delay_Resp answers, and an Announce's data set. -/
structure PtpMsg where
  port : Nat
  kind : Nat
  version : Nat
  domain : Nat
  twoStep : Bool
  seq : Nat
  src : Nat
  srcPort : Nat
  corr : Int
  origin : Int
  arrival : Int
  req : Nat × Nat
  ann : Announce
  deriving DecidableEq, Repr

/-- A UDP datagram as a listener meets it (spec/12, R338): ingress port 0 to 5, VLAN, IPv4 addresses, destination port, the ingress
stamp in ns, the payload. -/
structure Dgram where
  port : Nat
  vid : Nat
  dst : Nat
  src : Nat
  udp : Nat
  stamp : Nat
  payload : List Nat
  deriving DecidableEq, Repr

/-- Who writes a register: a host's session, the sequencer of a lane, the steward's or the die's own firmware. -/
inductive By
  | host (slot : Nat) | helm (x : Side) | firmware
  deriving DecidableEq, Repr

/-- A management request: the port die of ingress, the session slot, its COUNTER (spec/15, R392, R395). -/
structure Req where
  die : Die
  slot : Nat
  counter : Nat
  deriving DecidableEq, Repr

/-- A command or event of the part (spec/opcode_table.json): those with operands in the table's order, then those without. -/
inductive Instr
  /-- R6: A write to a register word that has no row of its own acts field by field according to each field's access code. The writer, the die, block and offset, the word, and what lies outside: whether a training succeeds, whether a CAN frame is past its start. -/
  | registerWrite (by' : By) (d : Die) (off word : Nat) (env : Bool)
  /-- R11: Reading the low word of a 64-bit pair latches the high word for the next read from the same session, on the same die when addressed through an alias. The session and the address. -/
  | pairLowRead (slot addr : Nat)
  /-- R11: Writing the low word of a directly written 64-bit pair only stages that word. -/
  | pairLowWrite (by' : By) (d : Die) (off word : Nat)
  /-- R11: Writing the high word of a directly written 64-bit pair applies both halves together. -/
  | pairHighWrite (by' : By) (d : Die) (off word : Nat)
  /-- R16: A receiving culvert port discards a packet that fails its CRC and requests retransmission from the sender. The link (a die, 8 the bridge) and whether it is plane B's. -/
  | culvertCrcError (l : Nat) (b : Bool)
  /-- R17: After 256 culvert cycles without a valid flit or idle pattern, a switch marks the link down and senders route around it. -/
  | linkDown (l : Nat) (b : Bool)
  /-- R14: When a die's path to log intake returns, it delivers its local ring and writes one spill record per key and per class count. -/
  | logPathReturn (d : Die)
  /-- R211: At each 1 ms tick edge the port dies latch and deliver feedback, pulse edges, read-backs and TRIPPED, and each lane computes its loop slots and writes its outputs. What each lane's loop engine meets. -/
  | loopTick (a b : LaneTick)
  /-- R35: An armed, uninhibited lane whose partner's line has read high for the 10 ns filter interval pulls its own headgate line low. -/
  | claimAssert (x : Side)
  /-- R37: A change on HEADGATE_A_N or HEADGATE_B_N drives each port-die arbiter between NONE, A and B. The lane's line and whether it reads low. -/
  | headgateLineChange (x : Side) (low : Bool)
  /-- R41: A change of LANE_INHIBIT_x_N enables or disables that lane's claim driver, raises INHIBIT_HELD for an ACTIVE lane, and is audited. -/
  | laneInhibitChange (x : Side) (low : Bool)
  /-- R43: A lane's output write reaches a sluice and is latched if the lane owns it, otherwise refused and counted in HG_STALE_WR. Output `i` of a kind at port die `y`. -/
  | sluiceWrite (x : Side) (y : Side) (k : OutKind) (i w : Nat)
  /-- R45: A leat flit is received and CRC-checked; a failing flit and those after it are discarded and a NAK is sent. -/
  | leatFlitReceive (x : Side) (flit : List Nat)
  /-- R45: A sender that receives a NAK resends from the failing flit out of its 64-flit replay window. The SEQ that the NAK names. -/
  | leatNak (x : Side) (seq : Nat)
  /-- R46: After 32 consecutive failing flits or 1 µs without a valid flit the receiver marks the leat down. -/
  | leatDown (x : Side) (silent : Bool)
  /-- R46: While the leat is down, both ends retry training every 10 ms. Whether the training succeeds. -/
  | leatRetrainTimer (ok : Bool)
  /-- R46: A write of LEAT_CTRL.RETRAIN forces link retraining unless the lane is ACTIVE with a STANDBY_READY partner. Whether the training succeeds. -/
  | retrain (x : Side) (ok : Bool)
  /-- R46: A write of LEAT_CTRL.LOOPBACK loops the leat transmitter to the receiver for test, accepted only in DOWN or STARTING. -/
  | loopback (x : Side) (on : Bool)
  /-- R53: The standby compares the active lane's digest with its own for the same tick or cycle, and counts and logs each mismatch. -/
  | digestReceive (x : Side) (cycle : Bool)
  /-- R54: A standby that has completed READY_COUNT clean comparisons with every other condition met becomes STANDBY_READY. -/
  | standbyReady (x : Side)
  /-- R55: A STANDBY_READY lane that reaches a mismatch limit or loses a readiness condition drops to NOT_READY. -/
  | readyLost (x : Side)
  /-- R58: A HANDSHAKE flit carries readiness, layout hash, determinism class and paired-field hash, and the receiving lane compares them with its own. -/
  | handshake (x : Side)
  /-- R63: A firmware write of HG_CTRL.RELEASE releases an ACTIVE lane's claim within 50 ns under cause code 1. -/
  | release (x : Side)
  /-- R61: A write of HG_CTRL.ARM arms the claim driver, subject to the readiness conditions. -/
  | arm (x : Side)
  /-- R35: A write of HG_CTRL.DISARM disarms the claim driver. -/
  | disarm (x : Side)
  /-- R63: A disagreement between the two sequencer cores releases the lane's line within 20 ns, and the lane resets. -/
  | lockstepMismatch (x : Side)
  /-- R63: No tick-done strobe by tick edge plus 900 µs in two consecutive ticks releases the active lane under cause code 3. -/
  | tickDoneTimeout (x : Side)
  /-- R63: An uncorrectable SRAM error in a region in use releases the lane within 100 ns under cause code 5. Whether the page is one of a region in use, and its number among those, or else its number among the spare pages. -/
  | sramUe (x : Side) (inUse : Bool) (page : Nat)
  /-- R71: An unplanned release leaves the LOCKOUT_WINDOW of operating time and FAULT_SWAPS falls. -/
  | faultHistoryAge (x : Side)
  /-- R71: An ENGINEER write of HG_LOCKOUT.CLEAR ends the lockout and clears the fault history. -/
  | clearLockout (slot : Nat) (x : Side)
  /-- R80: An ENGINEER write of HG_LOCKOUT.CLEAR_DRILL clears the DRILL_FAIL mark. -/
  | clearDrill (slot : Nat) (x : Side)
  /-- R66: A host SWAP request to the active lane is accepted as a planned swap only while the partner is STANDBY_READY and armed. -/
  | swap (r : Req) (b : List Nat)
  /-- R66: A low level on SWAP_REQ_N held for 10 µs requests a planned swap when SWAP_PIN_EN is set, and is audited. -/
  | swapReqPin (low : Bool)
  /-- R65: At 300 µs after the chosen tick edge the active lane retests its partner and releases its line for a planned swap, or cancels it. -/
  | swapRelease (x : Side)
  /-- R72: When the primary lane has held STANDBY_READY for REVERT_HOLDOFF it requests a planned swap with cause code 11. -/
  | reversion (x : Side)
  /-- R76: An ENGINEER DRILL request starts a drill with a planned swap to the standby, or is refused with DRILL_REFUSED. -/
  | drill (r : Req) (b : List Nat)
  /-- R78: DRILL_ABORT cancels a pending drill swap or returns control at the next eligible tick, without a verdict. -/
  | drillAbort (r : Req) (b : List Nat)
  /-- R82: A refresh from the arbiter's owner restarts the dead-hand timer and ends a tripped dead-hand at once. -/
  | deadhandRefresh (x : Side) (y : Side)
  /-- R81: A port die without a refresh from its owner for DH_TIMEOUT trips its dead-hand and each output takes its configured action. -/
  | deadhandTrip (y : Side)
  /-- R300: At each device-time millisecond boundary a RAMP output moves DH_RATE codes toward DH_VALUE and its read-back word follows. -/
  | deadhandRampStep (y : Side)
  /-- R84: The receiving die stamps a sample, matches it to a source and sends it to both helms on CONTROL, or discards and counts it. -/
  | sampleReceive (r : RawSample)
  /-- R91: At the cutoff t_F plus ADMIT each sample-receiving die sends its seal with the last sequence number per source. -/
  | frameCutoff (d : Die)
  /-- R91: A lane receives a die's seal for the frame being closed. -/
  | sealReceive (x : Side) (d : Die)
  /-- R91: The confluence closes the frame once every seal and sealed sample is held, aligns and projects it, and the estimator runs its live update. -/
  | frameClose (x : Side)
  /-- R92: At t_C plus 50 µs a frame still missing seals or sealed samples closes and is flagged SEAL_SHORT. -/
  | sealShort (x : Side)
  /-- R128: After POS_LOST_FRAMES consecutive dead-reckoning frames the position variances are inflated once and POS_REACQUIRE is set. -/
  | posReacquire (x : Side)
  /-- R136: When the convergence thresholds have held for CONV_HOLD the estimator becomes CONVERGED. -/
  | convGained (x : Side)
  /-- R111: Each lane emits the frame record at exactly t_F plus 400 µs to assembly and the telemetry flumes. -/
  | frameRecordEmit (x : Side)
  /-- R127: An EXCLUDED absolute source returns after RETURN_RUN consecutive frames without rejection. -/
  | srcReturned (x : Side) (n : Nat)
  /-- R135: A committed EST_CTRL.REINIT returns the estimator to INIT at the commit boundary. -/
  | reinit (x : Side)
  /-- R115: A committed EST_CTRL.REDATUM moves the datum and shifts set-points at the commit boundary. -/
  | redatum (x : Side)
  /-- R58: A write of EST_SNAP.FREEZE freezes or resumes the estimator state readout of the die written. -/
  | estFreeze (x : Side) (on : Bool)
  /-- R140: A MODE command is tested and either changes the mode at the boundary or is refused. -/
  | modeCmd (c : Cmd)
  /-- R147: A TARGET_POS command sets a new position target from latitude and longitude. -/
  | targetPos (c : Cmd)
  /-- R147: A MOVE_REL command sets a position target relative to the current reference. -/
  | moveRel (c : Cmd)
  /-- R146: A TARGET_HDG command sets a heading target with the chosen turn direction. -/
  | targetHdg (c : Cmd)
  /-- R148: A JOYSTICK command sets the joystick demand and clears JOY_LOST. -/
  | joystick (c : Cmd)
  /-- R138: A THRUSTER_MANUAL command sets one thruster's thrust fraction and azimuth in MANUAL. -/
  | thrusterManual (c : Cmd)
  /-- R155: A WAYPOINTS command replaces the stored waypoint list whole at its boundary. -/
  | waypoints (c : Cmd)
  /-- R145: A TAKE_COMMAND command gives command to the sending OPERATE or higher session and is logged. -/
  | takeCommand (c : Cmd)
  /-- R149: A STOP command sets every ramp axis target to its stop point and ends a track. -/
  | stopCmd (c : Cmd)
  /-- R408: TEL_SUB sets a session's telemetry subscription at the boundary that admits it. -/
  | telSub (c : Cmd)
  /-- R148: With no JOYSTICK command admitted for JOY_TIMEOUT in modes 2 or 3, the demand becomes 0 and JOY_LOST is set. -/
  | joyLost (x : Side)
  /-- R157: When a stop waypoint's DWELL has run, and H has reached its target, the next track leg starts. -/
  | waypointDwell (x : Side)
  /-- R182: Once the boundary frame record and firmware selections are in the input table, the assembly program runs and reports its status. -/
  | assemblyRun (x : Side)
  /-- R177: After WIND_HOLD without a wind contribution the wind force becomes 0 and WIND_LOST is set. -/
  | windLost (x : Side)
  /-- R192: At t_S the solver runs the interior-point iteration on the furrow schedule and ends OPTIMAL, ITER_LIMIT, NONFINITE or STALE. Whether 30 µs of budget remain after it, and whether the engine under test passes. -/
  | solverRun (x : Side) (room pass : Bool)
  /-- R195: When the core-cycle count reaches SOL_BUDGET the run ends DEADLINE, or STALE without a completed iterate. Where the budget runs out, and whether at the end of phase U; the place that a lane on its internal oscillator finds by device time. -/
  | solverDeadline (x : Side) (at' : FurrowAt) (phaseU : Bool)
  /-- R190: An operand-register parity error in a furrow engine is treated as a non-finite flag and counted against the engine. The physical engine, and where in the run. -/
  | furrowParityError (x : Side) (e : Nat) (at' : FurrowAt)
  /-- R58: A write of SOL_TRACE_CTRL.FREEZE freezes or resumes the result and trace readouts of the die written. -/
  | solTraceFreeze (x : Side) (on : Bool)
  /-- R225: When DWELL_CNT reaches DWELL the slot changes region, replacing INTEG so the output continues bumplessly. -/
  | regionSwap (x : Side) (i : Nat)
  /-- R218: When BFP_CNT reaches BFP_DWELL the slot lowers BX by 1 and doubles its six state words. -/
  | bfpExit (x : Side) (i : Nat)
  /-- R232: A repetitive-controller period out of range, or no pulse edge for RC_PER_MAX_US, sets RC_HOLD. -/
  | rcHold (x : Side) (i : Nat)
  /-- R236: When PL_CNT reaches PL_TIME the slot latches PLAUS_FAULT and logs it. -/
  | plausFault (x : Side) (i : Nat)
  /-- R237: A committed LOOP_PLAUS_ACK bit clears the slot's PLAUS_FAULT and resets its monitor. -/
  | plausAck (x : Side) (i : Nat)
  /-- R58: A write of LOOP_TRACE_CTRL.FREEZE freezes or resumes the per-slot status and state readouts of the die written. -/
  | loopTraceFreeze (x : Side) (on : Bool)
  /-- R247: Every 10 ms the bias-tee monitor classifies the antenna current and changes state after 10 equal classifications. The antenna current in 0.1 mA. -/
  | antMonitorSample (x : Side) (cur : Nat)
  /-- R248: After RETRY_S seconds with the bias off after a SHORT, the monitor tries the bias again. -/
  | antBiasRetry (x : Side)
  /-- R248: A write of GNS_CTRL.ANT_RETRY tries the antenna bias again at once. -/
  | antRetry (x : Side)
  /-- R250: A baseband receives the channel plan of the lane that owns the sluices and follows it. The plan that lane `y` forms over the signals its firmware lists, by system, PRN and band, arrives at baseband `x`. -/
  | channelPlan (x : Side) (y : Side) (signals : List (Nat × Nat × Nat))
  /-- R252: A channel whose lock indicator or C/N0 stays low for its limit loses lock and searches around its prediction. -/
  | lockLoss (x : Side) (c : LockMeas)
  /-- R252: A channel that has not regained lock within REACQ_S is freed and its signal returns to the search list. -/
  | reacqTimeout (x : Side) (c : Nat)
  /-- R253: A brief drop of the lock indicator without loss of lock counts a cycle slip and clears LOCK_TIME. -/
  | cycleSlip (x : Side) (c : SlipMeas)
  /-- R272: A channel completes pull-in and tracks, and a baseband in ALL_LOST raises SIGNALS_BACK. -/
  | channelLocked (x : Side) (c : Nat)
  /-- R255: An acquisition dwell completes; a cell above threshold is verified and a verified hit is handed to a free channel. Whether the cell exceeds the threshold. -/
  | acqDwell (x : Side) (above : Bool)
  /-- R258: At each fusion-frame instant a baseband takes a measurement epoch and hands the raw record to both helms within 80 µs. The epoch, both gains, the ns to the hand-over, what the channels measure, and whether the channel under test fails. -/
  | gnssEpoch (x : Side) (epoch agc1 agc5 handNs : Nat) (meas : List Meas) (bistFail : Bool)
  /-- R261: A navigation page that passes its check is sent to both helms as a navigation record, otherwise counted in GNS_NAV_ERR. When the last bit ended, the page's type and bits, and whether the check passes. -/
  | navPage (x : Side) (c ended page bits : Nat) (good : Bool)
  /-- R264: The receiving port die checks an RTCM 3 frame and forwards a good one, stamped, to both helms. The bytes collected at UART `u`. -/
  | rtcmFrame (y : Side) (u stamp : Nat) (frame : List Nat)
  /-- R266: An SSR correction whose age exceeds SSR_AGE_MAX stops applying, the satellite falls back to broadcast data and CORR_STALE is logged. The system: 0 GPS, 1 Galileo, 2 QZSS, 3 BeiDou. -/
  | corrStale (x : Side) (g : Nat)
  /-- R267: SBAS use resumes 60 s after a type 0 message suspended it. -/
  | sbasResume (x : Side)
  /-- R270: A write of GNS_CTRL.REFLECT_START starts a 64-pulse reflectometer run, or is refused with RESOURCE_HELD. -/
  | reflectStart (x : Side)
  /-- R270: A reflectometer run completes and reports the cable length and the proposed delay. The round trip in ps. -/
  | reflectDone (x : Side) (rtPs : Nat)
  /-- R274: After HW_INTERVAL asleep the baseband wakes and starts hot. -/
  | hwWake (x : Side)
  /-- R274: Once ephemerides and a time solution are current, or HW_WAKE_MAX has passed, the baseband sleeps again. Whether the ephemerides are current. -/
  | hwSleep (x : Side) (fresh : Bool)
  /-- R275: A write of GNS_CTRL.SNAP_TRIGGER triggers a snapshot capture, or counts it as missed. -/
  | snapTrigger (x : Side)
  /-- R276: Once the current dwell, reflectometer pulse or RF wake has ended, the triggered capture starts. The ns after the last tick edge at which it starts, less than 1,000,000. -/
  | captureStart (x : Side) (t0 : Nat)
  /-- R277: A capture completes, its header is written, and the buffer is held. The sample bytes. -/
  | captureDone (x : Side) (samples : List Nat)
  /-- R277: A write of GNS_CTRL.SNAP_RELEASE discards a held capture and resumes the search. -/
  | snapRelease (x : Side)
  /-- R277: When HOLD_MAX passes, a held capture is discarded and SNAP_DISCARDED is raised. -/
  | snapDiscarded (x : Side)
  /-- R279: A baseband weir fires when its quantity has been past THRESH for MIN_DUR, logging or triggering a capture. -/
  | gnsWeirFire (x : Side) (k : Nat)
  /-- R281: An analog channel forms a decimated output, stamps it, evaluates its weirs and forwards it unless FILLING. -/
  | analogOutput (y : Side) (n at' : Nat)
  /-- R283: A synchronising reset zeroes a channel's moving-average history at the first first-stage sample after its trigger. -/
  | syncReset (y : Side) (n : Nat)
  /-- R283: A write of SIG_SYNC triggers a synchronising reset of the channels named. The word written. -/
  | sigSync (y : Side) (w : Nat)
  /-- R287: A port-die weir whose channel has stayed past THRESH for MIN_DUR fires and takes its routes. -/
  | weirFire (y : Side) (k : Nat)
  /-- R291: A UART framer completes a sentence, checks it and sends it to both helms, or discards and counts it. The characters received; 256 and more for a stop-bit error or a break. -/
  | sentenceReceive (y : Side) (u arrival : Nat) (chars : List Nat)
  /-- R294: A DIO input's new level counts once it has held for DEBOUNCE_US. -/
  | dioInputChange (y : Side) (n : Nat) (high : Bool) (heldUs : Nat)
  /-- R295: A PULSE input stamps a rising edge, applies its lockout and updates its period. -/
  | pulseEdge (y : Side) (n stamp : Nat)
  /-- R296: A feedback entry whose source delivers nothing for STALE_MS becomes stale. -/
  | feedbackStale (y : Side) (f : Nat)
  /-- R298: Every 10 ms each DAC output measures its load and changes state after 10 consecutive OPEN or SHORT readings. The load current in nA. -/
  | dacLoadMeasure (y : Side) (o na : Nat)
  /-- R305: A write of SIG_TEST drives a TEST output from an ENGINEER session, ends a test drive, or is refused with RESOURCE_HELD. The word written. -/
  | sigTest (y : Side) (w : Nat)
  /-- R513: A port die leaving reset while the package runs takes the current layout before its arbiter leaves reset and starts in dead-hand. -/
  | portDieRestart (y : Side)
  /-- R311: At 250 µs after a due tick the scheduler composes a periodic message from the sluice latches and enqueues it. -/
  | canMsgCompose (y : Side) (m : Nat)
  /-- R314: A write of CAN_TX_CTRL.PUSH by the owning lane enqueues the staged raw frame, or is refused. Lane `x` writes to port `k` of port die `y`. -/
  | pushFrame (x : Side) (y : Side) (k tag : Nat)
  /-- R318: A write of CAN_TX_CTRL.CANCEL removes the oldest queued raw frame with the tag, or marks a late cancellation. Whether the head frame's attempt is past its start of frame. -/
  | cancel (x : Side) (y : Side) (k tag : Nat) (onBus : Bool)
  /-- R317: A head frame loses arbitration and contends again, moving to the tail after REQUEUE_LOSSES losses. -/
  | canArbitrationLost (y : Side) (k : Nat)
  /-- R315: A frame is acknowledged and completes, with a completion record to both helms. -/
  | canFrameSent (y : Side) (k sof : Nat) (tdcv : Option Nat)
  /-- R316: A transmission error raises the error counts and the frame contends again at the next bus idle. -/
  | canError (y : Side) (k : Nat) (tx ack dominant fdBits : Bool) (tdcv : Option Nat)
  /-- R320: After 128 occurrences of 11 recessive bits the port recovers from bus-off and resumes from the FIFO head. -/
  | busOn (y : Side) (k : Nat)
  /-- R323: A received frame is filtered, forwarded as a sample and used to update RX signals, or counted as overflow. Whether the port die has yet to take frames from the receive FIFO. -/
  | canFrameReceive (y : Side) (k sof : Nat) (frame : CanFrame) (held : Bool)
  /-- R326: At each device-time millisecond boundary the CAN counter is latched with device time. -/
  | canPairLatch (y : Side) (count : Nat)
  /-- R328: At the end of each 10 s window each port reports its census to the steward. -/
  | canCensusWindow (y : Side)
  /-- R330: At the next bus idle after a controller is retired, the spare takes over its pins and configuration. -/
  | canSpareTakeover (y : Side) (k : Nat)
  /-- R333: A port stamps a received frame, applies VLAN, storm and size rules, learns its source and forwards it or delivers it to the device. The port, the stamp in ns, whether FCS and symbols are good, the frame without FCS. -/
  | ethFrameReceive (k stamp : Nat) (ok : Bool) (bytes : List Nat)
  /-- R333: A learned address unused for AGE_S ages out of the switch table. -/
  | macAge (y : Side) (vid mac : Nat)
  /-- R339: An IEC 61162-450 datagram reaches its listener's die and is checked, de-duplicated and turned into samples. -/
  | iec61162450Datagram (g : Dgram)
  /-- R340: A UDP sensor stream datagram reaches its listener's die and is checked, de-duplicated and turned into a sample. -/
  | udpSensorDatagram (g : Dgram)
  /-- R343: A port sends a frame, stamps it and adds the residence time to a forwarded PTP event message. The port and the egress stamp in ns. -/
  | ethFrameTransmit (k stamp : Nat)
  /-- R344: In P2P each port sends a Pdelay_Req every 2^LOG_PDELAY s and updates meanLinkDelay. -/
  | pdelayReqTimer (k : Nat)
  /-- R348: The ordinary clock sends Sync, Announce or Delay_Req at the intervals of PTP_OC_INTERVALS. The messageType that is due. -/
  | ptpMessageTimer (kind : Nat)
  /-- R350: The ordinary clock processes a received PTP message, and the servo forms offsetFromMaster and the mean delay. -/
  | ptpMessageReceive (m : PtpMsg)
  /-- R349: A steward firmware read of a transmit-queue key with VALID set removes the entry and latches its timestamp. -/
  | ptpTxqKeyRead (k : Nat) (host : Bool)
  /-- R351: Each port reports its link partner's PTP traffic over the last 10 s and raises PARTNER_CHANGED on a change. -/
  | ptpPartnerWindow (k : Nat)
  /-- R356: At each spine mark a die latches its tally, corrects its error and trim, and aligns at start. The error in 1/16 ns. -/
  | spineMark (d : Die) (e16 : Int)
  /-- R358: A die that sees no mark within 1.25 ms of its boundary runs on and sets SPINE_LOST. -/
  | spineMarkMissing (d : Die)
  /-- R359: The spine backup becomes master after two missing marks, or after the master reports a switch to its oscillator. -/
  | spineMasterTakeover (y : Side)
  /-- R367: A SERVICE commit of TIM_STEP_CTRL.STEP_ACCEPT accepts a pending or host-set step, which the master announces. -/
  | stepAccept (slot : Nat)
  /-- R372: A time-pulse pin emits an edge at E − PIN_DLY. -/
  | timePulseEdge (y : Side) (k : Nat)
  /-- R363: A steward firmware write of TIM_INCR sets the master's increment; a host write is ignored and logged. From a host's session, or from the steward firmware. -/
  | timIncrWrite (d : Die) (host : Option Nat) (v : Nat)
  /-- R364: A steward firmware write of TIM_SLEW starts a slew that replaces the remainder of the old one. From a host's session, or from the steward firmware. -/
  | timSlewWrite (d : Die) (host : Option Nat) (v : Int)
  /-- R380: A failed qualification step is retried every 10 ms. -/
  | qualRetry (d : Die)
  /-- R381: Qualification ends and the die leaves reset on its home root, the other root, or is held, with STAT set. The counts of Table 14-3; resources that fail their self-test. -/
  | qualificationDone (d : Die) (edges : Nat) (winA winB : List Nat) (sum : Nat) (fails : List (Nat × Nat))
  /-- R382: Each 100 µs window counts the serving root against the other, and after two bad windows the fault is attributed. The count, and the deviations of both roots from their baselines in ppm. -/
  | clockMonitorWindow (d : Die) (count : Option Nat) (own other : Nat)
  /-- R383: No edge on the serving root for 1 µs is a root failure. -/
  | fastDetectorTrip (d : Die)
  /-- R384: When the clocks resume after a switch the die adds the pause to its tally. The pause in IOSC periods. -/
  | clockResume (d : Die) (periods : Nat)
  /-- R385: Every 100 ms the trim logic retrims the fallback PLL to the serving root. -/
  | fallbackTrim (d : Die) (iosc watch : Int)
  /-- R388: A write of CLK_CTRL.MOVE_OTHER moves a die on its fallback clock to the other root, or leaves the move pending, or refuses it. -/
  | moveOther (d : Die)
  /-- R388: A pending move is retried every 10 ms until the other root meets its conditions. -/
  | moveRetry (d : Die)
  /-- R388: The root PLL has relocked and the die switches to the new root and raises MOVED. -/
  | moveRelockDone (d : Die)
  /-- R389: A write of CLK_CTRL.MOVE_HOME returns a die to its requalified home root through the fallback clock, or is refused. -/
  | moveHome (d : Die)
  /-- R389: A failed root qualifies again after 1 s of continuous good windows. The root: REFCLK_B or REFCLK_A. -/
  | requalified (d : Die) (b : Bool)
  /-- R439: A write of CLK_CTRL.NME_ACK acknowledges the die's CLKFAIL. -/
  | clkNmeAck (d : Die)
  /-- R391: A write of CLK_GATE_CFG.DISABLE keeps every clock gate open or lets them gate again. -/
  | gateDisable (d : Die) (on : Bool)
  /-- R388: A SERVICE CLK_MOVE request makes the steward write a move to the named die and answers OK or RESOURCE_HELD. -/
  | clkMove (r : Req) (b : List Nat)
  /-- R396: A first part with MORE not followed by its second part within 100 ms is discarded and the request answered MALFORMED. -/
  | moreTimeout (y : Side) (slot : Nat)
  /-- R399: OPEN creates a session with a new session key installed in both dispatchers. The port die, where it came from, whether over IPv6, the datagram. -/
  | openSession (d : Die) (src : HostAddr) (v6 : Bool) (b : List Nat)
  /-- R401: CLOSE ends the session, rolls back its transaction and vacates its command. The request and its payload. -/
  | closeSession (r : Req) (b : List Nat)
  /-- R403: KEEPALIVE is answered by the port die and keeps the session from its idle timeout. -/
  | keepalive (y : Side) (slot ctr : Nat)
  /-- R403: IDENT returns the ordering code, unit serial, firmware versions and layout hash. -/
  | ident (r : Req) (b : List Nat)
  /-- R403: READ returns 1 to 256 register words, resolving alias windows. The request and its payload: the address and the count. -/
  | readWords (r : Req) (b : List Nat)
  /-- R422: WRITE applies an RW, WO or W1C field at once, or is refused for a word holding a TX field. The request, its payload (the address and the word), and what lies outside as in REGISTER_WRITE. -/
  | writeWord (r : Req) (b : List Nat) (env : Bool)
  /-- R413: TXN_BEGIN opens a transaction and returns its TXN_ID, or is answered TXN_HELD. The request and its payload. -/
  | txnBegin (r : Req) (b : List Nat)
  /-- R414: TXN_WRITE stages one word at a TX address, or is refused. The request and its payload: the address and the word. -/
  | txnWrite (r : Req) (b : List Nat)
  /-- R417: TXN_COMMIT validates the staged words and, on a pass, stores them PENDING, writes the audit and sends them to the dies for boundary B. -/
  | txnCommit (r : Req) (b : List Nat)
  /-- R415: TXN_ABORT discards the staged words and closes the transaction. -/
  | txnAbort (r : Req) (b : List Nat)
  /-- R415: A SERVICE TXN_BREAK discards another session's transaction. -/
  | txnBreak (r : Req) (b : List Nat)
  /-- R420: At B − 1 ms the steward marks the copy VALID and orders the apply, moves B, or after four moves marks it VOID and answers TXN_APPLY_FAIL. Whether a live die concerned has not acknowledged. -/
  | txnAckDeadline (late : Bool)
  /-- R401: A session with no accepted message for IDLE_S closes. -/
  | sessionIdleTimeout (slot : Nat)
  /-- R398: KEY_SET writes a slot's key, key ID and role, closing any session of that slot. The request, or none over the debug UART, and its payload. -/
  | keySet (by' : Option Req) (b : List Nat)
  /-- R412: SNAP_EXPORT starts a DATA transfer of the named baseband's held capture. -/
  | snapExport (r : Req) (b : List Nat)
  /-- R412: DATA_ACK acknowledges the transfer up to an offset, and the final acknowledgement completes the transfer. -/
  | dataAck (r : Req) (b : List Nat)
  /-- R412: After 1 s without an acknowledgement the steward resends from the last acknowledged offset. -/
  | dataResend (slot : Nat)
  /-- R412: After 10 s without progress the transfer ends as failed. -/
  | dataTransferFail (slot : Nat)
  /-- R406: 1 ms after a boundary the space of every command-flume entry stamped at or before it returns to its half. -/
  | flumeSpaceReturn (x : Side)
  /-- R427: LYT_BEGIN clears the staged layout region and its verified mark. The request and its payload: the length. -/
  | lytBegin (r : Req) (b : List Nat)
  /-- R426: LYT_DATA writes part of the staged layout image. The request and its payload: the offset and the bytes. -/
  | lytData (r : Req) (b : List Nat)
  /-- R427: LYT_VERIFY starts the checks of the staged layout image as a long operation. -/
  | lytVerify (r : Req) (b : List Nat)
  /-- R428: LYT_APPLY applies a verified image to every die, or starts a structural change through the standby, or is refused. The request and its payload: the hash expected. -/
  | lytApply (r : Req) (b : List Nat)
  /-- R433: LYT_ABORT ends a structural change as failed before the handover. -/
  | lytAbort (r : Req) (b : List Nat)
  /-- R412: LYT_EXPORT sends the current or staged layout image by a DATA transfer. -/
  | lytExport (r : Req) (b : List Nat)
  /-- R438: A port die without a heartbeat for 10 ms marks the steward SILENT and pulls NME_OUT_N low. -/
  | stewardSilent (y : Side)
  /-- R472: 3 s after an announced steward restart without a heartbeat the port dies act under the silent-steward rule. -/
  | stewardRestartWindow (y : Side)
  /-- R442: Each 1 ms rail mean is compared with its bands and RAIL_WARN or RAIL_FAULT is raised or cleared. -/
  | railSample (r mv : Nat)
  /-- R443: Every 10 ms each temperature sensor is compared with TEMP_WARN and TEMP_CRIT. -/
  | tempSample (k : Nat) (t : Int)
  /-- R443: Every 1 ms core currents are sampled and CUR_WARN raised above its limit. -/
  | currentSample (r cur : Nat)
  /-- R444: A counted fault occurrence on a resource is classed TRANSIENT or PERMANENT and logged. -/
  | resourceOccurrence (d : Die) (kind i : Nat) (selftest : Bool)
  /-- R444: An occurrence leaves the PERM_WINDOW and the resource's WINDOW count falls. The resource. -/
  | occurrenceAge (d : Die) (kind i : Nat)
  /-- R449: A log record arrives at intake, or is counted in the spill table when intake is full. -/
  | logRecordReceive (d : Die)
  /-- R450: Once per second per session the active lane writes a spill record counting JOYSTICK and THRUSTER_MANUAL commands. -/
  | demandSpill (x : Side) (slot : Nat)
  /-- R510: A die sends a held audit record once intake can take it, and again after a steward restart. -/
  | auditHoldSend (d : Die)
  /-- R451: LOG_EXPORT sends records from a record number by a DATA transfer. -/
  | logExport (r : Req) (b : List Nat)
  /-- R452: LOG_MARK sets the mark that near-wrap and lost-record accounting count from. -/
  | logMark (r : Req) (b : List Nat)
  /-- R439: NME_ACK acknowledges the named die's CLKFAIL and clears its other NME events. -/
  | nmeAck (r : Req) (b : List Nat)
  /-- R446: RETIRE_CLEAR returns a retired resource to service at its die's next start if its self-test passes. -/
  | retireClear (r : Req) (b : List Nat)
  /-- R456: UPD_BEGIN starts a lane or steward update, swapping first if the target is ACTIVE, or is refused. -/
  | updBegin (r : Req) (b : List Nat)
  /-- R457: UPD_DATA delivers a part of an image block, which is written once all four parts pass its CRC. -/
  | updData (r : Req) (b : List Nat)
  /-- R459: UPD_VERIFY starts the checks of the received image as a long operation. -/
  | updVerify (r : Req) (b : List Nat)
  /-- R460: UPD_ACTIVATE resets the target helm, or announces and restarts the steward, on the verified image. -/
  | updActivate (r : Req) (b : List Nat)
  /-- R462: A lane in TRIAL with a new determinism class becomes UPD_READY after UPD_SETTLE of good running. -/
  | updReady (x : Side)
  /-- R464: UPD_CONFIRM moves a ready trial slot, or a matching restored slot, to CONFIRMED. -/
  | updConfirm (r : Req) (b : List Nat)
  /-- R469: UPD_ABORT in RECEIVING or VERIFYING discards the image and restores the region from the partner. -/
  | updAbort (r : Req) (b : List Nat)
  /-- R464: A lane whose confirm window runs out fails its trial and is restored from its partner. -/
  | trialTimeout (x : Side)
  /-- R466: Once the partner runs, a restoration starts streaming its image over the leat as IMAGE flits. -/
  | restoreStart (x : Side)
  /-- R466: The restored image is written and checked, the target starts, and the slot rests IDLE with RESTORED. -/
  | restoreDone (x : Side)
  /-- R474: FUSE_LAYOUT_KEY writes the layout-key hash into the next free OTP slot, or is refused when none is left. -/
  | fuseLayoutKey (r : Req) (b : List Nat)
  /-- R453: A boot ROM that cannot reach the ledger retries the read every 100 ms. -/
  | bootLedgerRetry (d : Die) (fails : List (Nat × Nat))
  /-- R453: A helm's boot ROM finishes checking its image and starts the firmware, which reaches STARTING and reads its settings. -/
  | laneBoot (x : Side) (fails : List (Nat × Nat))
  /-- R477: On RESET_N rising the straps and PWR_GOOD are sampled and clock qualification begins. -/
  | resetRelease (straps : Nat) (good : Bool)
  /-- R490: A rail below 90 % of nominal for 1 µs holds its die in reset with its pads released. -/
  | brownOut (d : Die)
  /-- R490: A rail above 93 % for 100 µs releases the die, which qualifies its clocks and starts without RESET_N. -/
  | brownOutRelease (d : Die)
  /-- R480: With the arbiters in NONE, a lane with an applied layout and 16 completed ticks becomes eligible, and the primary arms. -/
  | laneEligible (x : Side)
  /-- R480: 1 s after becoming eligible the non-primary lane arms if the primary's line is still high. -/
  | electWait (x : Side)
  /-- R497: The SAMPLE/PRELOAD TAP instruction samples or preloads the boundary-scan register. -/
  | jtagSamplePreload (pins shifted : Nat)
  /-- R497: The EXTEST TAP instruction drives the pins from the boundary-scan register, whatever the sluices hold. -/
  | jtagExtest (pins : Nat) (shifted : Option Nat)
  /-- R17: A culvert link that was marked down carries valid flits again and senders route over it once more, so a die's path to the steward or the ledger returns. -/
  | culvertLinkUp (l : Nat) (b : Bool)
  /-- R351: An Ethernet port's link comes up or goes down, updating LINK, SPEED and partner abilities and raising LINK_UP or LINK_DOWN and PARTNER_CHANGED. -/
  | ethLinkChange (k : Nat) (up : Bool) (speed : Nat) (an pause : Bool)
  /-- R284: Each 32.5 kS/s first-stage sample enters a channel, counting toward FILLING, marking or clearing OVERRANGE, and carrying a pending synchronising reset. -/
  | firstStageSample (y : Side) (n : Nat) (v : Int)
  /-- R279: A fired baseband weir re-arms when its quantity has returned past THRESH by HYST. -/
  | gnsWeirRearm (x : Side) (k : Nat)
  /-- R28: At each vessel-cycle boundary committed values apply, admitted commands are applied, and the per-cycle updates of the lanes run. -/
  | vesselCycleBoundary
  /-- R31: At the release tick the held solver result enters the loop slots and the run status is counted. -/
  | releaseTick
  /-- R77: When DRILL_DWELL has passed with every comparison holding, the drill passes and control returns by a planned swap. -/
  | drillDwellEnd
  /-- R361: At the announce-receipt timeout the ordinary clock leaves SLAVE and device time enters HOLDOVER. -/
  | announceTimeout
  /-- R363: At each reference update the steward servo sets the increment and slew, performs the initial set, or refuses a step. The update: the offset in ns and the measured frequency error in ppb, binary64. -/
  | servoUpdate (theta : Int) (fmeas : Nat)
  /-- R361: With no valid reference update for REF_TIMEOUT device time enters HOLDOVER. -/
  | refTimeout
  /-- R361: With no TIM_INCR write from the steward for REF_TIMEOUT the master enters HOLDOVER. -/
  | incrTimeout
  /-- R361: When the offset has stayed within LOCK_THRESH for LOCK_HOLD device time becomes LOCKED. -/
  | timeLocked
  /-- R368: At the mark after the announcement every die adds the step to its tally and calendar and increments its step epoch. -/
  | stepMark
  /-- R371: A UTC offset change takes effect at the boundary after the announced leap day ends. -/
  | utcLeap
  /-- R419: At boundary B each die applies the held values on the steward's order, and the steward answers OK. -/
  | txnApply
  /-- R416: An open transaction idle for TXN_IDLE rolls back and closes. -/
  | txnExpired
  /-- R401: Every 10 ms the dispatchers exchange their last-accepted times per session. -/
  | sessionTimeExchange
  /-- R427: Layout verification ends, marking the image verified or answering LYT_INVALID. -/
  | lytVerifyDone
  /-- R430: The migrated settings are written PENDING and the image is sent to the standby, ending the long operation. -/
  | migrateDone
  /-- R430: The restructured lane becomes LYT_READY after LYT_SETTLE with convergence and 10 OPTIMAL runs, and the handover swap follows. -/
  | lytReady
  /-- R433: A restructured lane not LYT_READY within LYT_CONV_MAX ends the structural change as failed. -/
  | lytConvTimeout
  /-- R429: At the first boundary at least 10 ms after the layout check the image is applied to every die and the lanes start in STANDBY. -/
  | firstApply
  /-- R438: Every 1 ms the steward sends a heartbeat to PA and PB, which stop pulling NME_OUT_N low at the first after a restart. -/
  | stewardHeartbeat
  /-- R440: A steward not serving its watchdog for 100 ms is reset. -/
  | stewardWatchdog
  /-- R440: The restarted steward rebuilds its session table and voids any PENDING settings copy before serving requests. -/
  | stewardRestartDone
  /-- R451: After 2 ms in intake a record is written to the ring in order, marked LATE if needed. -/
  | logRecordWrite
  /-- R449: When fewer than 96 general intake entries are in use the steward writes one spill record per key and clears the table. -/
  | spillFlush
  /-- R457: A block part without its other three parts within 10 s is discarded. -/
  | updPartTimeout
  /-- R459: Image verification ends, setting VERIFIED and returning the hash, or failing the update. -/
  | updVerifyDone
  /-- R472: A steward image whose confirm window runs out raises UNCONFIRMED and keeps running. -/
  | stewardTrialTimeout
  /-- R479: The steward's image check ends, its firmware starts and it acts on the journal. -/
  | stewardBoot
  /-- R479: The power-up check of the current layout image ends, scheduling the first apply or leaving the lanes in STARTING. -/
  | layoutCheckDone
  /-- R477: RESET_N low holds every die in reset. -/
  | resetAssert
  /-- R476: A falling edge of PWR_GOOD after start-up is logged as a WARNING and resets nothing. -/
  | pwrGoodFall
  /-- R476: When PWR_GOOD was low at reset release, the dies leave reset once it has been high for 1 ms. -/
  | pwrGoodWait
  /-- R497: The BYPASS TAP instruction selects the bypass register. -/
  | jtagBypass
  /-- R497: The IDCODE TAP instruction returns part number 0x08A8 and version 0x0. -/
  | jtagIdcode
  /-- R497: The HIGHZ TAP instruction places the scanned outputs in high impedance. -/
  | jtagHighz
  /-- R497: The CLAMP TAP instruction holds the pins at boundary-scan values while bypassing. -/
  | jtagClamp
  /-- R364: A slew in force finishes adding its amount to device time, the extra rate ends and SLEWING clears. -/
  | slewDone
  deriving DecidableEq, Repr

end Sys2Proof
end

