-- ==== Sys2Proof/Decode.lean ====
section
/-! DEFINITION. The reading of command words. The table of operations and events gives no row any bits: commands reach the part as
messages, register accesses and events of pins, each with its own format in the chapters, so no word spells a command. -/

namespace Sys2Proof

/-- The command that a table word spells: the table gives no row any bits (spec/opcode_table.json), so none. -/
def decodeTableWord (nbits w : Nat) : Option Instr :=
  match nbits, w with
  | _, _ => none

end Sys2Proof
end

