-- ==== Sys2Proof/Machine/Crc.lean ====
section
/-! DEFINITION. CRC-32C and CRC-24Q over bytes, and little-endian byte lists. The spec names the codes (spec/01, spec/02, spec/09);
their polynomials, start and final values are those their names stand for (assumption log). -/

namespace Sys2Proof.Machine

/-- One bit of the reflected CRC-32C register. -/
def crcBit (c : Nat) : Nat := if c % 2 = 1 then Nat.xor (c / 2) 0x82F63B78 else c / 2

/-- One byte taken into the register. -/
def crcByte (c b : Nat) : Nat :=
  crcBit (crcBit (crcBit (crcBit (crcBit (crcBit (crcBit (crcBit (Nat.xor c (b % 256)))))))))

/-- CRC-32C of a byte list. -/
def crc32c (l : List Nat) : Nat := Nat.xor (l.foldl crcByte 0xFFFFFFFF) 0xFFFFFFFF

/-- One bit of the CRC-24Q register. -/
def crc24Bit (c : Nat) : Nat := let d := c * 2; if d / 0x1000000 % 2 = 1 then Nat.xor d 0x1864CFB else d

/-- One byte taken into the CRC-24Q register. -/
def crc24Byte (c b : Nat) : Nat :=
  crc24Bit (crc24Bit (crc24Bit (crc24Bit (crc24Bit (crc24Bit (crc24Bit (crc24Bit (Nat.xor c (b % 256 * 65536)))))))))

/-- CRC-24Q of a byte list; 0 over a frame with its own check (spec/09, R264). -/
def crc24q (l : List Nat) : Nat := l.foldl crc24Byte 0

/-- The `n` little-endian bytes of a number. -/
def leBytes : Nat → Nat → List Nat
  | 0, _ => []
  | n + 1, v => v % 256 :: leBytes n (v / 256)

/-- The number of a little-endian byte list. -/
def leNat : List Nat → Nat
  | [] => 0
  | b :: r => b % 256 + 256 * leNat r

/-- Bytes brought to a length with zeros. -/
def padTo (n : Nat) (l : List Nat) : List Nat := (l.take n).map (fun b => b % 256) ++ List.replicate (n - l.length) 0

/-- CRC-32C over a list of 32-bit words, each taken little-endian. -/
def crcWords (l : List Nat) : Nat := crc32c (l.flatMap (leBytes 4))

end Sys2Proof.Machine
end

