-- ==== Sys2Proof/Config.lean ====
section
/-! DEFINITION. What an implementation fixes and the manual leaves open. Every opaque constant here is a free value: nothing
in Lean can evaluate it, so a statement about a machine that uses it holds whatever the value is. -/

namespace Sys2Proof.Config

/-- The detail bits of an event that the spec logs and to which it gives neither an event bit nor a row of Table 17-6; `k` tells
the events apart. -/
opaque openDetail (k : Nat) : Nat

/-- Flits left in the sender's replay window after an ACK flit: the spec names the ACK and not what of it frees. -/
opaque replayAfterAck (flit : List Nat) : Nat

/-- Sine of a binary64 angle in radians: the spec fixes no rounding of it for the lane firmware. -/
opaque fsin (x : Nat) : Nat

/-- Cosine of a binary64 angle in radians. -/
opaque fcos (x : Nat) : Nat

/-- Arc tangent of y and x, in radians. -/
opaque fatan2 (y x : Nat) : Nat

/-- Exponential in binary64. -/
opaque fexp (x : Nat) : Nat

/-- North, east and down of a geodetic point (degrees, degrees, m) from a datum (degrees, degrees): R113 names the tangent plane
and gives no series. -/
opaque geoToNed (lat0 lon0 lat lon h : Nat) : List Nat

/-- Latitude and longitude in degrees of the point north and east of a datum (R113, R115). -/
opaque nedToGeo (lat0 lon0 n e : Nat) : List Nat

/-- Earth-centred position of an antenna from the datum, its north and east, the height of the reference point (the datum height less
d) and its lever arm (R120). -/
opaque antennaEcef (lat0 lon0 n e height : Nat) (lever : List Nat) : List Nat

/-- An earth-centred vector in north-east-down of the datum (R120). -/
opaque ecefToNed (lat0 lon0 : Nat) (v : List Nat) : List Nat

/-- From the navigation store, a satellite's earth-centred position and velocity, its clock offset and drift (m, m/s) and the
corrections in force, at an instant; none without a usable ephemeris (R120, R262, R265 to R267). -/
opaque satState (nav : List Nat) (sys prn : Nat) (t : Int) : Option (List Nat)

/-- The carrier loop over one interval (R251 gives its orders and bandwidth, not its discrete form): as an FLL or a PLL, the bandwidth in
Hz, the prompt I and Q, its frequency and rate states, the interval in s; the states after it. -/
opaque carrierLoop (fll : Bool) (bw : Nat) (prompt states : List Nat) (dt : Nat) : List Nat

/-- The carrier-aided code loop over one interval (R251): the bandwidth in 0.01 Hz, the discriminator, the carrier's frequency state, its
own state, the interval in s; the state after it. -/
opaque codeLoop (bw disc aid own dt : Nat) : Nat

/-- A satellite of a system (0 GPS, 1 Galileo, 2 QZSS, 3 BeiDou) holds an SSR correction whose issue of data does not match the ephemeris
in use (R266; the messages' layouts are RTCM's). -/
opaque issueMismatch (nav : List Nat) (g : Nat) : Bool

/-- Zenith delay of the standard atmosphere at an antenna, m (R120). -/
opaque zenithDelay (ecef : List Nat) : Nat

/-- Double differences of the moving baseline: how many resolve, the residual ratio, the heading in degrees (R121). -/
opaque baseline (nav lowRec highRec : List Nat) : List Nat

/-- The lane firmware's least-squares fix on ionosphere-free ranges, from the records and the earth-frame lever arms of their antennas:
latitude, longitude and height of the reference point, u, v, clock bias, clock drift (R135). -/
opaque leastSquares (nav : List Nat) (records levers : List (List Nat)) (t : Int) : Option (List Nat)

/-- Unit vector along a taut wire in the sensor frame from its two angles in degrees (Table 03-4 names the vector, not the
order of the angles). -/
opaque wireVector (a b : Nat) : List Nat

/-- Unit line of sight in the sensor frame from bearing and elevation in degrees (Table 03-4). -/
opaque sightVector (bearing elevation : Nat) : List Nat

/-- Roll and pitch in degrees corrected by a mounting quaternion (Table 03-4 names the correction, not its formula). -/
opaque attitudeCorrect (roll pitch : Nat) (q : List Nat) : List Nat

/-- One step of the low-pass filter of the mean environmental force (R159 gives the time constant, not the discrete form): old
value, new value, interval and time constant in s. -/
opaque lowPass (old new dt tc : Nat) : Nat

/-- The formatter of a sentence as a source's MATCH holds it (Table 03-8 names the formatter, not its code). -/
opaque sentenceKey (bytes : List Nat) : Nat

/-- Time of day in ns of a sentence's valid time field (R88). -/
opaque sentenceTime (bytes : List Nat) : Option Int

/-- The fields a source takes from a sentence, binary64 (the sentence formats are IEC 61162-1's). -/
opaque sentenceFields (bytes : List Nat) : List Nat

/-- The field that a feedback entry's FIELD names, if a sentence carries it, binary64 (Table 10-10 gives no numbering). -/
opaque sentenceField (field : Nat) (bytes : List Nat) : Option Nat

/-- The fields a source takes from a CAN payload, binary64 (Table 03-8 gives scale factors for framer fields, not their places). -/
opaque canFields (bytes : List Nat) : List Nat

/-- The value of a piecewise-linear table of the layout beyond its first and its last point (R172, R176, R179): the chapters state
none. -/
opaque tableBeyond (points : List (Nat × Nat)) (x : Nat) : Nat

/-- The slope of a table of points at an inner point of it, and beyond its ends (P' of R173): the chapters state none. -/
opaque slopeOpen (points : List (Nat × Nat)) (x : Nat) : Nat

/-- The input table of the assembly stage, 4,096 binary64 words, from what R179's text says the firmware writes to it: the chapters
give no places. -/
opaque inputTable (items : List (List Nat)) : List Nat

/-- Which of the arrays l (3) and u (4) ASM_FAIL names for a row with l > u (R182). -/
opaque crossedArray (row : Nat) : Nat

/-- A slack or a state variable of the fallback vector of a first solver cycle: R197 gives the thrust variables alone. -/
opaque fallbackOther (j : Nat) : Nat

/-- Where in a run the core-cycle count reaches SOL_BUDGET (R193, R195), from the budget, the schedule and what the run's iterations do:
the iteration, retry, and operations done or none for the end of phase U. The cycles of an operation are not in the spec. -/
opaque deadlinePlace (budget : Nat) (schedule profile : List Nat) : Nat × Bool × Option Nat

/-- Core cycles a furrow engine was busy in a run (Table 07-8): the schedule's timing is the layout's. -/
opaque engineBusy (engine run : Nat) : Nat

/-- The stride of an operand whose stride code is the reserved one (Table 06-4). -/
opaque reservedStride : Int

/-- The disturbance frequency in Hz, binary64, that a feedback word stands for (R230 gives RC_SRC 2 no scale). -/
opaque rateHz (word : Int) : Nat

/-- End of a lane's pass in µs after the tick edge: pipeline timing is not in the model. -/
opaque passEnd (tick : Nat) : Nat

/-- Size of the per-cycle copy in KiB: R48 names its contents and not their encoding. -/
opaque cycleKib (cycle : Nat) : Nat

/-- Estimated time to completion of a long operation, ms, at a percentage (Table 15-8 gives no rule for the estimate). -/
opaque remainMs (progress : Nat) : Nat

/-- The device's MAC address, from OTP (R337). -/
opaque macAddress : Nat

/-- The ordinary clock's identity, the EUI-64 in OTP (R348). -/
opaque clockIdentity : Nat

/-- The frame with which a port die answers an ARP request, a neighbour solicitation or an echo request (R337), if the frame is one
for an address of the device: the interface's words, the frame. -/
opaque stackReply (iface frame : List Nat) : Option (List Nat)

/-- The frame of a PTP message of the device (IEEE 1588-2019's own formats): messageType, sequenceId, a timestamp in ns, the data set
of the device, what it answers. -/
opaque ptpFrame (kind seq : Nat) (ts : Int) (data : List Nat) (answers : List Nat) : List Nat

/-- The clockAccuracy announced in holdover (R348 states none). -/
opaque holdoverAccuracy : Nat

/-- The offsetScaledLogVariance the ordinary clock announces (the chapters state none). -/
opaque clockVariance : Nat

/-- The payload bytes of a log record whose event names words for them, or none: the chapters give no places (R448). -/
opaque recordPayload (code : Nat) (words : List Nat) : List Nat

/-- The random ID of the n-th session (R399). -/
opaque sessionId (n : Nat) : Nat

/-- The 16-byte device nonce of the n-th session (R399). -/
opaque deviceNonce (n : Nat) : List Nat

/-- The six characters of the unit serial, from OTP (R4). -/
opaque unitSerial : List Nat

/-- The 64-byte header of a capture, from its items (R275 gives no places). -/
opaque captureHeader (items : List Nat) : List Nat

/-- Verification of an Ed25519 signature (RFC 8032, which the spec names and does not restate): key, message, signature. -/
opaque ed25519 (key message signature : List Nat) : Bool

/-- Section and byte offset of an LY value that fails verification (R427 step 6): the sections' inner encoding is not in the spec. -/
opaque lyPlace (image : List Nat) : Nat × Nat

/-- The SHA-256 of the firmware signer's key, from OTP (R454). -/
opaque firmwareKeyHash : List Nat

/-- UPD_FAIL.REASON of an update that a loss of power has ended (Table 18-7): the list of reasons has none for it. -/
opaque powerLossReason : Nat

/-- The fraction of a die's tally, 32 bits below the nanosecond, at a device time (spec/13, R352): State holds the integer part. -/
opaque tallyFraction (die at' : Nat) : Nat

/-- The UTC parameters that the active lane's navigation store holds of GPS (spec/13, R370): GPS less UTC in s, and whether the current UTC
day ends with 23:59:60 or at 23:59:58. -/
opaque gpsUtc (nav : List Nat) (day : Int) : Option (Int × Bool × Bool)

/-- Accesses that a die's closing gates held and replayed in the tick that ends at a device time (spec/14, R390). -/
opaque gateReplays (die at' : Nat) : Nat

/-- The manufacturer identity in IDCODE[11:1] (R497 gives the part number and the version). -/
opaque jtagManufacturer : Nat

end Sys2Proof.Config
end

