-- ==== Sys2Proof/Machine/Store.lean ====
section
/-! DEFINITION. The register store: every register field of the part, and every internal count or mode the chapters name,
is a `Fld`; the store keeps the fields that differ from their reset value, in one canonical form. -/

namespace Sys2Proof.Machine

/-- Access codes of a field (spec/00_scope.md, Table 00-2); `int` marks state that has no address. -/
inductive Acc
  | ro | rw | w1c | wo | tx | ly | int
  deriving DecidableEq, Repr

/-- How a field's reset value depends on its entry number. -/
inductive Rst
  /-- One value for every entry. -/
  | const (v : Nat)
  /-- Entry `i` below `n` resets to `i`, the others to `v` (LOOP_SLOT.PHYS, LOOP_PHYS.LOGICAL). -/
  | index (n v : Nat)
  /-- One value an entry, from a list (the die of each temperature sensor). -/
  | table (l : List Nat)
  deriving DecidableEq, Repr

/-- One field: its identity, the 28-bit address of its word (block and offset, spec/01 R20) in entry 0, the place and width of
its bits, its access code and reset, and the spacing and number of its entries. -/
structure Fld where
  id : Nat
  off : Nat
  lo : Nat
  w : Nat
  acc : Acc
  rst : Rst
  stride : Nat
  count : Nat
  deriving DecidableEq, Repr

/-- The reset value of entry `i`. -/
def Fld.reset (F : Fld) (i : Nat) : Nat :=
  match F.rst with
  | .const v => v
  | .index n v => if i < n then i else v
  | .table l => l.getD i 0

/-- The key of entry `i` of field `F` on die number `d`. -/
def Fld.key (F : Fld) (d i : Nat) : Nat := (F.id * 8 + d) * 65536 + i

/-- Cells: keys and non-zero contents. -/
abbrev Cells := List (Nat × Nat)

/-- What a key reads; a key that is not listed reads 0. -/
def cellsGet : Cells → Nat → Nat
  | [], _ => 0
  | (k, v) :: r, x => if k = x then v else cellsGet r x

/-- Insert a key before the first greater one. -/
def cellsIns : Cells → Nat → Nat → Cells
  | [], x, v => [(x, v)]
  | (k, u) :: r, x, v => if x < k then (x, v) :: (k, u) :: r else (k, u) :: cellsIns r x v

/-- Write a key: 0 takes the entry out, any other value stands in its place. -/
def cellsPut (l : Cells) (x v : Nat) : Cells :=
  let r := l.filter (fun c => c.1 != x)
  if v = 0 then r else cellsIns r x v

/-- The canonical form: keys strictly rising, no entry 0. -/
def cellsWf : Cells → Bool
  | [] => true
  | [(_, v)] => v != 0
  | (k, v) :: (k', v') :: r => v != 0 && decide (k < k') && cellsWf ((k', v') :: r)

/-- Read entry `i` of `F` on die `d`: the stored cell is the difference (exclusive or) from the reset value. -/
def storeGet (c : Cells) (d : Nat) (F : Fld) (i : Nat) : Nat :=
  if i < F.count then Nat.xor (cellsGet c (F.key d i)) (F.reset i) else 0

/-- Write entry `i` of `F` on die `d`, cut to the field's width; an entry that does not exist is not written. -/
def storeSet (c : Cells) (d : Nat) (F : Fld) (i v : Nat) : Cells :=
  if i < F.count then cellsPut c (F.key d i) (Nat.xor (trunc F.w v) (F.reset i)) else c

/-- A row of the register map: one word or one entry of a table, the dies that implement it, its fields, and the words of entry 0 that
are reserved whole, with their access code. -/
structure RegRow where
  off : Nat
  size : Nat
  stride : Nat
  count : Nat
  dies : List Nat
  flds : List Fld
  resv : List (Nat × Acc)
  deriving DecidableEq, Repr

end Sys2Proof.Machine
end

