-- ==== Sys2Proof/Machine/Internal.lean ====
section
/-! DEFINITION. Internal state: the counts, modes, timers and latches that the chapters name or imply and that have no
address of their own. Each is a field of the register store with no place in the register map. -/

namespace Sys2Proof.Machine

/-- The outputs are held: no sluice write and no refresh until a MODE command is ACCEPTED (R482, R484). -/
def I_MODE.OUT_HELD : Fld := ⟨3400, 0, 0, 1, .int, .const 1, 0, 1⟩
/-- The last 64 frames of the source, newest in bit 0, 1 rejected (R127); 64 entries. -/
def I_EST.REJ_HISTORY : Fld := ⟨3401, 0, 0, 64, .int, .const 0, 0, 64⟩
/-- Frames in a row in which an EXCLUDED source was not rejected (R127); 64 entries. -/
def I_EST.OK_RUN : Fld := ⟨3402, 0, 0, 16, .int, .const 0, 0, 64⟩
/-- Dead-reckoning frames in a row (R128). -/
def I_EST.DR_FRAMES : Fld := ⟨3403, 0, 0, 16, .int, .const 0, 0, 1⟩
/-- The variances have been inflated in this loss of position (R128). -/
def I_EST.INFLATED : Fld := ⟨3404, 0, 0, 1, .int, .const 0, 0, 1⟩
/-- Device time since which the thresholds have held, ns (R136). -/
def I_EST.CONV_SINCE : Fld := ⟨3405, 0, 0, 64, .int, .const 0, 0, 1⟩
/-- The thresholds held at the last frame (R136). -/
def I_EST.CONV_HELD : Fld := ⟨3406, 0, 0, 1, .int, .const 0, 0, 1⟩
/-- Scalars applied in the last frame (Table 04-4). -/
def I_EST.FUSED : Fld := ⟨3407, 0, 0, 16, .int, .const 0, 0, 1⟩
/-- Scalars rejected in the last frame (Table 04-4). -/
def I_EST.REJECTED : Fld := ⟨3408, 0, 0, 16, .int, .const 0, 0, 1⟩
/-- Sources with a scalar applied in the last frame (Table 04-4). -/
def I_EST.FUSED_SRC : Fld := ⟨3409, 0, 0, 64, .int, .const 0, 0, 1⟩
/-- Sources rejected in the last frame (Table 04-4). -/
def I_EST.REJECT_SRC : Fld := ⟨3410, 0, 0, 64, .int, .const 0, 0, 1⟩
/-- Sources that contributed to the last frame (Table 03-5). -/
def I_EST.CONTRIB : Fld := ⟨3411, 0, 0, 64, .int, .const 0, 0, 1⟩
/-- Scalars handed to the estimator in the last frame (Table 03-5). -/
def I_EST.SCALARS : Fld := ⟨3412, 0, 0, 16, .int, .const 0, 0, 1⟩
/-- The relative source is to be zeroed again (R123); 64 entries. -/
def I_EST.REZERO : Fld := ⟨3413, 0, 0, 1, .int, .const 0, 0, 64⟩
/-- Device time of the boundary that admitted the last JOYSTICK command, ns (R148). -/
def I_SP.JOY_AT : Fld := ⟨3414, 0, 0, 64, .int, .const 0, 0, 1⟩
/-- Velocity cap of L in TRACK, binary64 (R156). -/
def I_SP.CAP : Fld := ⟨3415, 0, 0, 64, .int, .const 0, 0, 1⟩
/-- Device time at which the dwell of the stop waypoint began, ns (R157). -/
def I_SP.DWELL_AT : Fld := ⟨3416, 0, 0, 64, .int, .const 0, 0, 1⟩
/-- The next assembly starts from the measured thrust and its run cold (R168, R191). -/
def I_SOL.FROM_FB : Fld := ⟨3417, 0, 0, 1, .int, .const 1, 0, 1⟩
/-- A previous result vector exists since the mode entered 2 to 6 or the lane started (R197). -/
def I_SOL.HAVE_PREV : Fld := ⟨3418, 0, 0, 1, .int, .const 0, 0, 1⟩
/-- Device time of the last closed frame the estimator updated, ns (R127). -/
def I_EST.T0 : Fld := ⟨3419, 0, 0, 64, .int, .const 0, 0, 1⟩
/-- Milliseconds since a frame had a wind contribution (R177, R178). -/
def I_ASM.WIND_AGE : Fld := ⟨3420, 0, 0, 32, .int, .const 0, 0, 1⟩
/-- The rudder regions have been chosen since the lane started (R166). -/
def I_ASM.RUDDER_SET : Fld := ⟨3421, 0, 0, 1, .int, .const 0, 0, 1⟩
/-- Thrusters whose availability changed at the last boundary (R168). -/
def I_ASM.CHANGED : Fld := ⟨3422, 0, 0, 32, .int, .const 0, 0, 1⟩
/-- BANK register of the assembly stage (Table 06-5). -/
def I_ASM.BANK : Fld := ⟨3423, 0, 0, 8, .int, .const 0, 0, 1⟩
/-- STRIDE register of the assembly stage, signed (Table 06-5). -/
def I_ASM.STRIDE : Fld := ⟨3424, 0, 0, 16, .int, .const 0, 0, 1⟩
/-- The next run starts cold (R191). -/
def I_SOL.COLD : Fld := ⟨3425, 0, 0, 1, .int, .const 1, 0, 1⟩
/-- Height of the datum, m, binary64 (R115, R120). -/
def I_EST.DATUM_H : Fld := ⟨3426, 0, 0, 64, .int, .const 0, 0, 1⟩
/-- The cap of L has fallen to the pass speed of the waypoint that ends the leg (R156). -/
def I_SP.FALLEN : Fld := ⟨3427, 0, 0, 1, .int, .const 0, 0, 1⟩
/-- The source's clock model is valid (R95); 64 entries. -/
def I_CFL.VALID : Fld := ⟨3800, 0, 0, 1, .int, .const 0, 0, 64⟩
/-- The next block of the source is its second (R95); 64 entries. -/
def I_CFL.SECOND : Fld := ⟨3801, 0, 0, 1, .int, .const 0, 0, 64⟩
/-- Drift d of the source's clock model, binary64 (R94); 64 entries. -/
def I_CFL.DRIFT : Fld := ⟨3802, 0, 0, 64, .int, .const 0, 0, 64⟩
/-- Anchor s_a of the source's clock model, signed ns (R94); 64 entries. -/
def I_CFL.ANCHOR : Fld := ⟨3803, 0, 0, 64, .int, .const 0, 0, 64⟩
/-- Mapped time of the newest sample of the source used in a closed frame, signed ns (R105); 64 entries. -/
def I_CFL.LAST_USED : Fld := ⟨3804, 0, 0, 64, .int, .const 0, 0, 64⟩
/-- A sample of the source has been used in a closed frame (R105); 64 entries. -/
def I_CFL.USED_ONCE : Fld := ⟨3805, 0, 0, 1, .int, .const 0, 0, 64⟩
/-- Device time of the last accepted time step, ns; replays do not reach back across it (R107). -/
def I_CFL.STEP_T : Fld := ⟨3806, 0, 0, 64, .int, .const 0, 0, 1⟩
/-- Instant of the frame to be closed, ns (R90). -/
def I_CFL.FRAME_T : Fld := ⟨3807, 0, 0, 64, .int, .const 0, 0, 1⟩
/-- That frame is not yet closed (R90). -/
def I_CFL.FRAME_OPEN : Fld := ⟨3808, 0, 0, 1, .int, .const 0, 0, 1⟩
/-- Cutoff of the last closed frame, ns (R90). -/
def I_CFL.LAST_CUTOFF : Fld := ⟨3809, 0, 0, 64, .int, .const 0, 0, 1⟩
/-- Instant of the last closed frame, ns (R116). -/
def I_CFL.PREV_T : Fld := ⟨3810, 0, 0, 64, .int, .const 0, 0, 1⟩
/-- FLAGS of the frame record being formed (Table 03-5). -/
def I_CFL.FLAGS : Fld := ⟨3811, 0, 0, 16, .int, .const 0, 0, 1⟩
/-- Rollback depth the next record carries (R108). -/
def I_CFL.ROLLBACK : Fld := ⟨3812, 0, 0, 8, .int, .const 0, 0, 1⟩
/-- The present vessel cycle holds an accepted time step (R30). -/
def I_CFL.SAW_STEP : Fld := ⟨3813, 0, 0, 1, .int, .const 0, 0, 1⟩
/-- Clock state of the source: 0 undefined, 1 FIXED, 2 PAIRING, 3 PAIRED, 4 CLOCK_ADRIFT (R96, R97); 64 entries. -/
def I_CFL.CLOCK : Fld := ⟨3814, 0, 0, 3, .int, .const 0, 0, 64⟩
/-- Arrival stamp of the newest sample admitted from the source (Table 03-10); 64 entries. -/
def I_CFL.LAST_ARRIVAL : Fld := ⟨3815, 0, 0, 64, .int, .const 0, 0, 64⟩
/-- Value of the SCALAR source in the last frame, binary64 (R172); 64 entries. -/
def I_CFL.SCALAR : Fld := ⟨3816, 0, 0, 64, .int, .const 0, 0, 64⟩
/-- Instant of the last frame whose record has been emitted, ns (R111). -/
def I_CFL.EMITTED : Fld := ⟨3817, 0, 0, 64, .int, .const 0, 0, 1⟩
/-- The state readout of block 0x027 is frozen (R58). -/
def I_EST.FROZEN : Fld := ⟨3818, 0, 0, 1, .int, .const 0, 0, 1⟩
/-- JOYSTICK and THRUSTER_MANUAL commands of the session since its last spill record (R450); 8 entries. -/
def I_SP.DEMANDS : Fld := ⟨3819, 0, 0, 32, .int, .const 0, 0, 8⟩
/-- Stamp of the first of them (R450); 8 entries. -/
def I_SP.DEMAND_FIRST : Fld := ⟨3820, 0, 0, 64, .int, .const 0, 0, 8⟩
/-- Stamp of the last of them (R450); 8 entries. -/
def I_SP.DEMAND_LAST : Fld := ⟨3821, 0, 0, 64, .int, .const 0, 0, 8⟩
/-- SSR corrections of GPS, Galileo, QZSS, BeiDou (entries 0 to 3) have fallen back to broadcast data (R266); 4 entries. -/
def I_EST.CORR_STALE : Fld := ⟨3822, 0, 0, 1, .int, .const 0, 0, 4⟩
/-- SBAS use is suspended (R267). -/
def I_EST.SBAS_OFF : Fld := ⟨3823, 0, 0, 1, .int, .const 0, 0, 1⟩
/-- Stamp of the type 0 message that suspended it, ns (R267). -/
def I_EST.SBAS_AT : Fld := ⟨3824, 0, 0, 64, .int, .const 0, 0, 1⟩
/-- Pipelines taken out of use (R244). -/
def I_LOOP.PIPES_OUT : Fld := ⟨3825, 0, 0, 3, .int, .const 0, 0, 1⟩
/-- Physical slot whose context is tested next (R242). -/
def I_LOOP.BIST_NEXT : Fld := ⟨3826, 0, 0, 9, .int, .const 0, 0, 1⟩
/-- The failure of the last pipeline has been logged (R244). -/
def I_LOOP.DEAD_LOGGED : Fld := ⟨3827, 0, 0, 1, .int, .const 0, 0, 1⟩
/-- Weir states delivered to the lane, PA's first (R289); 128 entries. -/
def I_LANE.WEIR : Fld := ⟨3828, 0, 0, 1, .int, .const 0, 0, 128⟩
/-- Feedback values delivered at the last tick, PA's table first (R211); 256 entries. -/
def I_LANE.FB : Fld := ⟨3829, 0, 0, 32, .int, .const 0, 0, 256⟩
/-- Their stale marks (R223); 256 entries. -/
def I_LANE.FB_STALE : Fld := ⟨3830, 0, 0, 1, .int, .const 0, 0, 256⟩
/-- TRIPPED of PA (entry 0) and PB (entry 1) at the last tick (R211); 2 entries. -/
def I_LANE.TRIP : Fld := ⟨3831, 0, 0, 1, .int, .const 0, 0, 2⟩
/-- Digital-output bitmap the lane writes to PA (entry 0) and PB (entry 1) (R51); 2 entries. -/
def I_LANE.DIO_MAP : Fld := ⟨3832, 0, 0, 24, .int, .const 0, 0, 2⟩
/-- Telemetry entries the session subscribes to: bit 0 FRAME, bit 1 CYCLE (R408); 8 entries. -/
def I_TEL.MASK : Fld := ⟨3833, 0, 0, 2, .int, .const 2, 0, 8⟩
/-- Every so many frame records go to the session (R408); 8 entries. -/
def I_TEL.DIV : Fld := ⟨3834, 0, 0, 8, .int, .const 1, 0, 8⟩
/-- Frame records emitted (R408). -/
def I_TEL.FRAMES : Fld := ⟨3835, 0, 0, 32, .int, .const 0, 0, 1⟩
/-- Vessel cycle in ms, from the TIME section of the layout (R28). -/
def I_TIME.CYCLE_MS : Fld := ⟨3836, 0, 0, 16, .int, .const 50, 0, 1⟩
/-- The lane has released its line and has not seen the other lane's line low since (R35). -/
def I_LANE.WAIT_OTHER_LOW : Fld := ⟨3837, 0, 0, 1, .int, .const 0, 0, 1⟩
/-- Cause code of the planned swap that is pending on this active lane; 0 none (R65). -/
def I_LANE.SWAP_CAUSE : Fld := ⟨3838, 0, 0, 4, .int, .const 0, 0, 1⟩
/-- Operating time in ms at which the pending swap was accepted (R65). -/
def I_LANE.SWAP_ACCEPTED : Fld := ⟨3839, 0, 0, 64, .int, .const 0, 0, 1⟩
/-- Cause code of the lane's last release; 0 none since it became active (R63). -/
def I_LANE.RELEASE_CAUSE : Fld := ⟨3840, 0, 0, 4, .int, .const 0, 0, 1⟩
/-- The partner was STANDBY_READY immediately before this lane handed over by a planned swap (R56). -/
def I_LANE.PARTNER_READY : Fld := ⟨3841, 0, 0, 1, .int, .const 0, 0, 1⟩
/-- The lane has released under cause codes 1 to 6 and resets at the arbiter transition away from it (R70). -/
def I_LANE.RESET_DUE : Fld := ⟨3842, 0, 0, 1, .int, .const 0, 0, 1⟩
/-- Ticks computed in a row, saturating at 255 (R61). -/
def I_LANE.TICKS_RUN : Fld := ⟨3843, 0, 0, 8, .int, .const 0, 0, 1⟩
/-- Ticks in a row without a tick-done strobe (R63). -/
def I_LANE.MISSED_TICKS : Fld := ⟨3844, 0, 0, 8, .int, .const 0, 0, 1⟩
/-- The tick-done strobe has risen in the present tick (R63). -/
def I_LANE.TICK_DONE : Fld := ⟨3845, 0, 0, 1, .int, .const 0, 0, 1⟩
/-- Ticks since a limit of R55 was reached, up to 1,000 (R61). -/
def I_LANE.LIMIT_AGE : Fld := ⟨3846, 0, 0, 16, .int, .const 1000, 0, 1⟩
/-- The last 1,000 compared ticks, newest in bit 0, 1 a mismatch (R55). -/
def I_LANE.CMP_HISTORY : Fld := ⟨3847, 0, 0, 1000, .int, .const 0, 0, 1⟩
/-- Cycle-digest mismatches in a row that R59 does not excuse (R55). -/
def I_LANE.CYCLE_MISS_RUN : Fld := ⟨3848, 0, 0, 8, .int, .const 0, 0, 1⟩
/-- The lane's tick digest of the present tick (R51). -/
def I_LANE.TICK_DIGEST : Fld := ⟨3849, 0, 0, 32, .int, .const 0, 0, 1⟩
/-- The tick digest of the present tick has been written on CONTROL (R51). -/
def I_LANE.TICK_DIGEST_VALID : Fld := ⟨3850, 0, 0, 1, .int, .const 0, 0, 1⟩
/-- The lane's cycle digest of the present cycle (R52). -/
def I_LANE.CYCLE_DIGEST : Fld := ⟨3851, 0, 0, 32, .int, .const 0, 0, 1⟩
/-- The cycle digest of the present cycle has been formed (R52). -/
def I_LANE.CYCLE_DIGEST_VALID : Fld := ⟨3852, 0, 0, 1, .int, .const 0, 0, 1⟩
/-- The present tick started from a per-tick copy (R53). -/
def I_LANE.TICK_COPY_APPLIED : Fld := ⟨3853, 0, 0, 1, .int, .const 0, 0, 1⟩
/-- Per-tick copies missed in a row (R50). -/
def I_LANE.TICK_MISS_RUN : Fld := ⟨3854, 0, 0, 8, .int, .const 0, 0, 1⟩
/-- Per-cycle copies missed in a row (R50). -/
def I_LANE.CYCLE_COPY_MISS_RUN : Fld := ⟨3855, 0, 0, 8, .int, .const 0, 0, 1⟩
/-- Ticks left in which the new active lane compares sluice read-backs (R69). -/
def I_LANE.WRITE_PATH_LEFT : Fld := ⟨3856, 0, 0, 2, .int, .const 0, 0, 1⟩
/-- Milliseconds of STANDBY_READY counted toward REVERT_HOLDOFF (R72). -/
def I_LANE.HOLDOFF_MS : Fld := ⟨3857, 0, 0, 32, .int, .const 0, 0, 1⟩
/-- SHA-256 of the layout image the lane has applied (R54). -/
def I_LANE.LAYOUT_HASH : Fld := ⟨3858, 0, 0, 256, .int, .const 0, 0, 1⟩
/-- The lane has an applied layout (R480). -/
def I_LANE.LAYOUT_APPLIED : Fld := ⟨3859, 0, 0, 1, .int, .const 0, 0, 1⟩
/-- Determinism class of the lane's firmware image (R54). -/
def I_LANE.DET_CLASS : Fld := ⟨3860, 0, 0, 32, .int, .const 0, 0, 1⟩
/-- Format of the leat copies of the lane's firmware image (R454). -/
def I_LANE.COPY_FORMAT : Fld := ⟨3861, 0, 0, 16, .int, .const 0, 0, 1⟩
/-- Lane state the partner's last HANDSHAKE flit carried (R58). -/
def I_LANE.PARTNER_STATE : Fld := ⟨3862, 0, 0, 3, .int, .const 0, 0, 1⟩
/-- The lane is LYT_READY (R430). -/
def I_LANE.LYT_RDY : Fld := ⟨3863, 0, 0, 1, .int, .const 0, 0, 1⟩
/-- The lane is UPD_READY (R462). -/
def I_LANE.UPD_RDY : Fld := ⟨3864, 0, 0, 1, .int, .const 0, 0, 1⟩
/-- Device time of the present tick edge, ns (R65). -/
def I_LANE.TICK_EDGE : Fld := ⟨3865, 0, 0, 64, .int, .const 0, 0, 1⟩
/-- Every loop slot restarts from the sluice read-back at the next tick (R431). -/
def I_LANE.RESTART_ALL : Fld := ⟨3866, 0, 0, 1, .int, .const 0, 0, 1⟩
/-- Milliseconds for which the conditions of LYT_READY or UPD_READY have held (R430). -/
def I_LANE.READY_TICKS : Fld := ⟨3867, 0, 0, 32, .int, .const 0, 0, 1⟩
/-- Sequence number of the next flit the receiver expects (R45). -/
def I_LEAT.RX_SEQ : Fld := ⟨3868, 0, 0, 16, .int, .const 0, 0, 1⟩
/-- The receiver discards flits until the failing one is resent (R45). -/
def I_LEAT.RX_GAP : Fld := ⟨3869, 0, 0, 1, .int, .const 0, 0, 1⟩
/-- Failing flits in a row (R46). -/
def I_LEAT.FAIL_RUN : Fld := ⟨3870, 0, 0, 8, .int, .const 0, 0, 1⟩
/-- Sequence number of the next flit the transmitter sends (R45). -/
def I_LEAT.TX_SEQ : Fld := ⟨3871, 0, 0, 16, .int, .const 0, 0, 1⟩
/-- A NAK has been sent and the failing flit has not yet come again (R45). -/
def I_LEAT.NAK_PENDING : Fld := ⟨3872, 0, 0, 1, .int, .const 0, 0, 1⟩
/-- The lane is eligible to claim (R480). -/
def I_LANE.ELIGIBLE : Fld := ⟨3873, 0, 0, 1, .int, .const 0, 0, 1⟩
/-- Device time at which the lane became eligible, ns (R480). -/
def I_LANE.ELIG_AT : Fld := ⟨3874, 0, 0, 64, .int, .const 0, 0, 1⟩
/-- The present tick edge is a vessel-cycle boundary of the lane, and the boundary has not run (R28, R29). -/
def I_TIME.BOUND_DUE : Fld := ⟨3875, 0, 0, 1, .int, .const 0, 0, 1⟩
/-- Device time of the lane's last vessel-cycle boundary, ns; a time step shifts it (R28, R31). -/
def I_TIME.BOUND_AT : Fld := ⟨3876, 0, 0, 64, .int, .const 0, 0, 1⟩
/-- After a time step: no vessel-cycle boundary before this device time, ns (R30). -/
def I_TIME.BOUND_HOLD : Fld := ⟨3877, 0, 0, 64, .int, .const 0, 0, 1⟩
/-- The present tick is the release tick of the cycle, and the release has not run (R31). -/
def I_TIME.RELEASE_DUE : Fld := ⟨3878, 0, 0, 1, .int, .const 0, 0, 1⟩
/-- The cycle has had its release tick (R31). -/
def I_TIME.RELEASED : Fld := ⟨3879, 0, 0, 1, .int, .const 1, 0, 1⟩
/-- SEQ of the failing flit that the NAK names (R45). -/
def I_LEAT.NAK_SEQ : Fld := ⟨3880, 0, 0, 16, .int, .const 0, 0, 1⟩
/-- SEQ of the flit from which the sender last went back (R45). -/
def I_LEAT.RESEND : Fld := ⟨3881, 0, 0, 16, .int, .const 0, 0, 1⟩
/-- Lives of the source clock model: it counts each time the model is cleared (R96); 64 entries. -/
def I_CFL.LIFE : Fld := ⟨3882, 0, 0, 16, .int, .const 0, 0, 64⟩
/-- FLAGS bits that the next frame record takes over (R133). -/
def I_CFL.NEXT_FLAGS : Fld := ⟨3883, 0, 0, 16, .int, .const 0, 0, 1⟩
/-- Origin stamp of the last command applied at the present boundary (R144). -/
def I_SP.LAST_STAMP : Fld := ⟨3884, 0, 0, 64, .int, .const 0, 0, 1⟩
/-- Its die (R144). -/
def I_SP.LAST_DIE : Fld := ⟨3885, 0, 0, 4, .int, .const 0, 0, 1⟩
/-- Its sequence number (R144). -/
def I_SP.LAST_CNT : Fld := ⟨3886, 0, 0, 64, .int, .const 0, 0, 1⟩
/-- The last frame closed in INIT had a POSITION contribution (R486). -/
def I_EST.PLAN_FIX : Fld := ⟨3887, 0, 0, 1, .int, .const 0, 0, 1⟩
/-- Its latitude in degrees, binary64 (R486). -/
def I_EST.PLAN_LAT : Fld := ⟨3888, 0, 0, 64, .int, .const 0, 0, 1⟩
/-- Its longitude in degrees, binary64 (R486). -/
def I_EST.PLAN_LON : Fld := ⟨3889, 0, 0, 64, .int, .const 0, 0, 1⟩
/-- Its height in m, binary64 (R486). -/
def I_EST.PLAN_H : Fld := ⟨3890, 0, 0, 64, .int, .const 0, 0, 1⟩
/-- Source stamp of the last state a port-die weir has delivered, signed, ns (R289); 128 entries. -/
def I_LANE.WEIR_AT : Fld := ⟨3891, 0, 0, 64, .int, .const 0, 0, 128⟩
/-- Spare SRAM page: 0 free, page + 1 it serves, 0x1FFFF itself retired (R445); 256 entries. -/
def I_SRAM.PAGE : Fld := ⟨4200, 0, 0, 17, .int, .const 0, 0, 256⟩
/-- Device time E of the next edge of the time-pulse pin, ns (R372); 4 entries. -/
def I_TP.NEXT : Fld := ⟨4600, 0, 0, 64, .int, .const 0, 0, 4⟩
/-- E of the last edge emitted, ns (R373); 4 entries. -/
def I_TP.LAST : Fld := ⟨4601, 0, 0, 64, .int, .const 0, 0, 4⟩
/-- Level at the time-pulse pin (R372, R374); 4 entries. -/
def I_TP.LEVEL : Fld := ⟨4602, 0, 0, 1, .int, .const 0, 0, 4⟩
/-- The analog channel has been retired and is disabled (Table 17-3); 16 entries. -/
def I_PORT.AIN_RETIRED : Fld := ⟨4603, 0, 0, 1, .int, .const 0, 0, 16⟩
/-- Arbiter state of the port die at the last tick (R250). -/
def I_PORT.TICK_OWNER : Fld := ⟨4604, 0, 0, 2, .int, .const 0, 0, 1⟩
/-- The arbiters differed at the last tick (R40). -/
def I_PORT.DIFF : Fld := ⟨4605, 0, 0, 1, .int, .const 0, 0, 1⟩
/-- Level at the pin of a digital output (R299); 40 entries. -/
def I_OUT.LEVEL : Fld := ⟨4606, 0, 0, 1, .int, .const 0, 0, 40⟩
/-- An owner has written the output since the last dead-hand trip or layout apply (R301); 40 entries. -/
def I_OUT.WRITTEN : Fld := ⟨4607, 0, 0, 1, .int, .const 0, 0, 40⟩
/-- A value has been latched since the layout was applied (R302); 40 entries. -/
def I_OUT.EVER : Fld := ⟨4608, 0, 0, 1, .int, .const 0, 0, 40⟩
/-- Load measurements above 1 MOhm in a row, up to 10 (R298); 16 entries. -/
def I_OUT.OPEN_RUN : Fld := ⟨4609, 0, 0, 4, .int, .const 0, 0, 16⟩
/-- Load measurements at the current limit in a row, up to 10 (R298); 16 entries. -/
def I_OUT.SHORT_RUN : Fld := ⟨4610, 0, 0, 4, .int, .const 0, 0, 16⟩
/-- Latched output word of the CAN TX signal (R312); 128 entries. -/
def I_TXS.WORD : Fld := ⟨4611, 0, 0, 32, .int, .const 0, 0, 128⟩
/-- An owner has written the signal since the last dead-hand trip or layout apply (R301); 128 entries. -/
def I_TXS.WRITTEN : Fld := ⟨4612, 0, 0, 1, .int, .const 0, 0, 128⟩
/-- An owner has written the signal since the last layout apply (R313); 128 entries. -/
def I_TXS.EVER : Fld := ⟨4613, 0, 0, 1, .int, .const 0, 0, 128⟩
/-- Raw value last composed from a latch (R313); 128 entries. -/
def I_TXS.HELD : Fld := ⟨4614, 0, 0, 32, .int, .const 0, 0, 128⟩
/-- The VDDIO bank of the die is below its brown-out threshold (Table 10-4). -/
def I_PORT.BANK_LOW : Fld := ⟨4615, 0, 0, 1, .int, .const 0, 0, 1⟩
/-- A raw value has been composed from a latch since the last layout apply (R313); 128 entries. -/
def I_TXS.COMPOSED : Fld := ⟨4616, 0, 0, 1, .int, .const 0, 0, 128⟩
/-- Arrival stamp of the channel's last output, ns (R287); 16 entries. -/
def I_AIN.AT : Fld := ⟨4617, 0, 0, 64, .int, .const 0, 0, 16⟩
/-- The weir's channel is on the DIR side of THRESH (R287); 64 entries. -/
def I_WEIR.RUN : Fld := ⟨4618, 0, 0, 1, .int, .const 0, 0, 64⟩
/-- Arrival stamp of the first output of that run, ns (R287); 64 entries. -/
def I_WEIR.SINCE : Fld := ⟨4619, 0, 0, 64, .int, .const 0, 0, 64⟩
/-- Debounced level of an INPUT (R294); 24 entries. -/
def I_DIO.LEVEL : Fld := ⟨4620, 0, 0, 1, .int, .const 0, 0, 24⟩
/-- Rising edges stamped at a PULSE input, up to 2 (R295); 24 entries. -/
def I_DIO.EDGES : Fld := ⟨4621, 0, 0, 2, .int, .const 0, 0, 24⟩
/-- Stamp of the last edge, ns (R295); 24 entries. -/
def I_DIO.EDGE_AT : Fld := ⟨4622, 0, 0, 64, .int, .const 0, 0, 24⟩
/-- Stamp of the last edge that has entered a tick, ns (R211, R231); 24 entries. -/
def I_DIO.TICK_EDGE : Fld := ⟨4623, 0, 0, 64, .int, .const 0, 0, 24⟩
/-- Interval between the last two edges that have entered a tick, ns (R230); 24 entries. -/
def I_DIO.TICK_PERIOD : Fld := ⟨4624, 0, 0, 64, .int, .const 0, 0, 24⟩
/-- Edges that have entered a tick, up to 2 (R230); 24 entries. -/
def I_DIO.TICK_COUNT : Fld := ⟨4625, 0, 0, 2, .int, .const 0, 0, 24⟩
/-- An edge entered the last tick (R231); 24 entries. -/
def I_DIO.TICK_NEW : Fld := ⟨4626, 0, 0, 1, .int, .const 0, 0, 24⟩
/-- Stamp of the last valid sentence that carried the entry's field, ns (R296); 128 entries. -/
def I_FB.AT : Fld := ⟨4627, 0, 0, 64, .int, .const 0, 0, 128⟩
/-- Such a sentence has been received (R296); 128 entries. -/
def I_FB.HAVE : Fld := ⟨4628, 0, 0, 1, .int, .const 0, 0, 128⟩
/-- The field's value, binary64 (R296); 128 entries. -/
def I_FB.RAW : Fld := ⟨4629, 0, 0, 64, .int, .const 0, 0, 128⟩
/-- Device time of the last frame that carried the CAN RX signal, ns (R325); 128 entries. -/
def I_RXS.AT : Fld := ⟨4630, 0, 0, 64, .int, .const 0, 0, 128⟩
/-- Such a frame has been received (R325); 128 entries. -/
def I_RXS.HAVE : Fld := ⟨4631, 0, 0, 1, .int, .const 0, 0, 128⟩
/-- The last frame with its identifier ended before the signal's last bit (R325); 128 entries. -/
def I_RXS.SHORT : Fld := ⟨4632, 0, 0, 1, .int, .const 0, 0, 128⟩
/-- Transmit error count (R319, R320); 4 entries. -/
def I_CAN.TEC : Fld := ⟨4633, 0, 0, 9, .int, .const 0, 0, 4⟩
/-- Acknowledgement errors in a row at a transmit error count of 128 or more (R319); 4 entries. -/
def I_CAN.ACK_RUN : Fld := ⟨4634, 0, 0, 8, .int, .const 0, 0, 4⟩
/-- Occurrences of 11 recessive bits since bus-off (R320); 4 entries. -/
def I_CAN.BUS_OFF_TIMES : Fld := ⟨4635, 0, 0, 8, .int, .const 0, 0, 4⟩
/-- The spare takes over the port at the next bus idle (R330); 4 entries. -/
def I_CAN.TAKEOVER : Fld := ⟨4636, 0, 0, 1, .int, .const 0, 0, 4⟩
/-- No controller is left for the port (R330); 4 entries. -/
def I_CAN.DEAD : Fld := ⟨4637, 0, 0, 1, .int, .const 0, 0, 4⟩
/-- Flags of the census window that runs (R328); 4 entries. -/
def I_CEN.FLAGS : Fld := ⟨4638, 0, 0, 2, .int, .const 0, 0, 4⟩
/-- Classic frames of the census window that runs (R328); 4 entries. -/
def I_CEN.CLASSIC : Fld := ⟨4639, 0, 0, 32, .int, .const 0, 0, 4⟩
/-- FD frames of the census window that runs (R328); 4 entries. -/
def I_CEN.FD : Fld := ⟨4640, 0, 0, 32, .int, .const 0, 0, 4⟩
/-- FD frames with BRS of the census window that runs (R328); 4 entries. -/
def I_CEN.BRS : Fld := ⟨4641, 0, 0, 32, .int, .const 0, 0, 4⟩
/-- Error frames of the census window that runs (R328); 4 entries. -/
def I_CEN.ERR : Fld := ⟨4642, 0, 0, 32, .int, .const 0, 0, 4⟩
/-- The dispatcher holds the session key of an open session (R399); 8 entries. -/
def I_HST.OPEN : Fld := ⟨4643, 0, 0, 1, .int, .const 0, 0, 8⟩
/-- Session ID the dispatcher checks (R394); 8 entries. -/
def I_HST.SESS : Fld := ⟨4644, 0, 0, 32, .int, .const 0, 0, 8⟩
/-- Role of the slot at the dispatcher (R402); 8 entries. -/
def I_HST.ROLE : Fld := ⟨4645, 0, 0, 2, .int, .const 0, 0, 8⟩
/-- Key ID of the slot at the dispatcher (R405); 8 entries. -/
def I_HST.KEY_ID : Fld := ⟨4646, 0, 0, 16, .int, .const 0, 0, 8⟩
/-- One more than the highest COUNTER seen (R395); 8 entries. -/
def I_HST.HIGH : Fld := ⟨4647, 0, 0, 64, .int, .const 0, 0, 8⟩
/-- Bit i: the COUNTER i below the highest one is taken (R395); 8 entries. -/
def I_HST.SEEN : Fld := ⟨4648, 0, 0, 65, .int, .const 0, 0, 8⟩
/-- Device time of the session's last accepted message, ns (R401); 8 entries. -/
def I_HST.LAST : Fld := ⟨4649, 0, 0, 64, .int, .const 0, 0, 8⟩
/-- Messages accepted since the last collection (R401); 8 entries. -/
def I_HST.RX_NEW : Fld := ⟨4650, 0, 0, 32, .int, .const 0, 0, 8⟩
/-- Entries refused since the last collection (R406); 8 entries. -/
def I_HST.FULL_NEW : Fld := ⟨4651, 0, 0, 32, .int, .const 0, 0, 8⟩
/-- UDP source port of the session's last accepted message (R407); 8 entries. -/
def I_HST.PEER_PORT : Fld := ⟨4652, 0, 0, 16, .int, .const 0, 0, 8⟩
/-- That message came over IPv6 (R407); 8 entries. -/
def I_HST.PEER_V6 : Fld := ⟨4653, 0, 0, 1, .int, .const 0, 0, 8⟩
/-- The arbiter stays in reset until the die holds the current layout (R513). -/
def I_PORT.ARB_HELD : Fld := ⟨4654, 0, 0, 1, .int, .const 0, 0, 1⟩
/-- The dispatcher refuses audited commands (R425). -/
def I_HST.AUDIT_STOP : Fld := ⟨4655, 0, 0, 1, .int, .const 0, 0, 1⟩
/-- Frames dropped for their VLAN (R334); 3 entries. -/
def I_ETH.VLAN_DROP : Fld := ⟨4656, 0, 0, 32, .int, .const 0, 0, 3⟩
/-- Datagrams addressed to the device that nothing takes (R337). -/
def I_ETH.DEV_DROP : Fld := ⟨4657, 0, 0, 32, .int, .const 0, 0, 1⟩
/-- Frames flooded while the address table is full (R333). -/
def I_ETH.FULL_DROP : Fld := ⟨4658, 0, 0, 32, .int, .const 0, 0, 1⟩
/-- Millisecond in which the storm counts below stand (R336); 3 entries. -/
def I_ETH.STORM_MS : Fld := ⟨4659, 0, 0, 64, .int, .const 0, 0, 3⟩
/-- Broadcast frames admitted in that millisecond (R336); 3 entries. -/
def I_ETH.BC : Fld := ⟨4660, 0, 0, 32, .int, .const 0, 0, 3⟩
/-- Unknown-multicast frames admitted in that millisecond (R336); 3 entries. -/
def I_ETH.MC : Fld := ⟨4661, 0, 0, 32, .int, .const 0, 0, 3⟩
/-- Device time from which STORM may be raised again, ns (R336); 3 entries. -/
def I_ETH.STORM_AT : Fld := ⟨4662, 0, 0, 64, .int, .const 0, 0, 3⟩
/-- PDELAY_DROPPED has been raised for the port (R345); 3 entries. -/
def I_ETH.PDELAY_SEEN : Fld := ⟨4663, 0, 0, 1, .int, .const 0, 0, 3⟩
/-- Domain of the last PTP message in the window (R351); 3 entries. -/
def I_PW.DOMAIN : Fld := ⟨4664, 0, 0, 8, .int, .const 0, 0, 3⟩
/-- The last Sync in the window was two-step (R351); 3 entries. -/
def I_PW.TWO_STEP : Fld := ⟨4665, 0, 0, 1, .int, .const 0, 0, 3⟩
/-- Sync seen in the window (R351); 3 entries. -/
def I_PW.SYNC : Fld := ⟨4666, 0, 0, 1, .int, .const 0, 0, 3⟩
/-- Announce seen in the window (R351); 3 entries. -/
def I_PW.ANNOUNCE : Fld := ⟨4667, 0, 0, 1, .int, .const 0, 0, 3⟩
/-- Delay_Req seen in the window (R351); 3 entries. -/
def I_PW.DELAY_REQ : Fld := ⟨4668, 0, 0, 1, .int, .const 0, 0, 3⟩
/-- Pdelay_Req seen in the window (R351); 3 entries. -/
def I_PW.PDELAY_REQ : Fld := ⟨4669, 0, 0, 1, .int, .const 0, 0, 3⟩
/-- versionPTP seen in the window (R351); 3 entries. -/
def I_PW.VERSION : Fld := ⟨4670, 0, 0, 4, .int, .const 0, 0, 3⟩
/-- Device time at which the die saw the steward's last heartbeat, ns (R438). -/
def I_PORT.BEAT_AT : Fld := ⟨4671, 0, 0, 64, .int, .const 0, 0, 1⟩
/-- The steward has announced a restart and has sent no heartbeat since (R472). -/
def I_PORT.ANNOUNCED : Fld := ⟨4672, 0, 0, 1, .int, .const 0, 0, 1⟩
/-- Device time of the announcement, ns (R472). -/
def I_PORT.ANNOUNCED_AT : Fld := ⟨4673, 0, 0, 64, .int, .const 0, 0, 1⟩
/-- STEWARD_RESTART has been logged for the announced restart (R472). -/
def I_PORT.GAP_LOGGED : Fld := ⟨4674, 0, 0, 1, .int, .const 0, 0, 1⟩
/-- The output has received a write in the present tick (R77); 40 entries. -/
def I_OUT.TICK : Fld := ⟨4675, 0, 0, 1, .int, .const 0, 0, 40⟩
/-- The transmit signal has received a write in the present tick (R77); 128 entries. -/
def I_TXS.TICK : Fld := ⟨4676, 0, 0, 1, .int, .const 0, 0, 128⟩
/-- Sample count at which the channel last formed an output (R281); 16 entries. -/
def I_AIN.DONE : Fld := ⟨4677, 0, 0, 64, .int, .const 0, 0, 16⟩
/-- Device time at which the next load measurement of the output is due, ns (R298); 16 entries. -/
def I_OUT.MEASURE_DUE : Fld := ⟨4678, 0, 0, 64, .int, .const 0, 0, 16⟩
/-- The millisecond boundary after the last tick-edge latch has not stepped the ramps (R301). -/
def I_PORT.RAMP_DUE : Fld := ⟨4679, 0, 0, 1, .int, .const 0, 0, 1⟩
/-- One more than the device time of the tick at which the scheduler last composed the message, ns (R311); 64 entries. -/
def I_TXM.SEEN : Fld := ⟨4680, 0, 0, 64, .int, .const 0, 0, 64⟩
/-- Device time at which the census window ends, ns (R328). -/
def I_PORT.CENSUS_DUE : Fld := ⟨4681, 0, 0, 64, .int, .const 0, 0, 1⟩
/-- Device time at which the next Pdelay_Req of the port is due, ns (R344); 3 entries. -/
def I_ETH.PDELAY_DUE : Fld := ⟨4682, 0, 0, 64, .int, .const 0, 0, 3⟩
/-- Device time at which the partner window of the port ends, ns (R351); 3 entries. -/
def I_PW.DUE : Fld := ⟨4683, 0, 0, 64, .int, .const 0, 0, 3⟩
/-- IP address from which the session's last accepted message came (R407); 8 entries. -/
def I_HST.PEER_ADDR : Fld := ⟨4684, 0, 0, 128, .int, .const 0, 0, 8⟩
/-- NHP port, as the steward has last given it (R392). -/
def I_HST.UDP_PORT : Fld := ⟨4685, 0, 0, 16, .int, .const 46120, 0, 1⟩
/-- Idle time in s after which a session closes, as the steward has last given it (R401). -/
def I_HST.IDLE_S : Fld := ⟨4686, 0, 0, 8, .int, .const 30, 0, 1⟩
/-- Samples discarded at the die because no source entry matches (R83). -/
def I_DIE.UNMATCHED : Fld := ⟨5000, 0, 0, 32, .int, .const 0, 0, 1⟩
/-- Framing errors of the source: sentences without a valid time field (R88); 64 entries. -/
def I_SRC.FRAMING : Fld := ⟨5001, 0, 0, 32, .int, .const 0, 0, 64⟩
/-- Sequence number of the last sample the die sent for the source (R84); 64 entries. -/
def I_SRC.SEQ : Fld := ⟨5002, 0, 0, 32, .int, .const 0, 0, 64⟩
/-- Class of the last antenna-current classification: 1 PRESENT, 2 OPEN, 3 SHORT (R247). -/
def I_GNS.ANT_CLASS : Fld := ⟨5003, 0, 0, 2, .int, .const 0, 0, 1⟩
/-- Equal classifications in a row, up to 10 (R247). -/
def I_GNS.ANT_RUN : Fld := ⟨5004, 0, 0, 4, .int, .const 0, 0, 1⟩
/-- The bias is switched off after a SHORT (R247, R248). -/
def I_GNS.BIAS_OFF : Fld := ⟨5005, 0, 0, 1, .int, .const 0, 0, 1⟩
/-- Device time at which the bias was switched off, ns (R248). -/
def I_GNS.OFF_AT : Fld := ⟨5006, 0, 0, 64, .int, .const 0, 0, 1⟩
/-- The bias has been tried again and no new state is reached (R248). -/
def I_GNS.RETRYING : Fld := ⟨5007, 0, 0, 1, .int, .const 0, 0, 1⟩
/-- The next record carries DELAY_CHANGED (R269). -/
def I_GNS.DELAY_CHANGED : Fld := ⟨5008, 0, 0, 1, .int, .const 0, 0, 1⟩
/-- Channel at which the rotation of built-in tests goes on (R254). -/
def I_GNS.BIST_NEXT : Fld := ⟨5009, 0, 0, 8, .int, .const 0, 0, 1⟩
/-- Harbour watch (R273). -/
def I_GNS.WATCH : Fld := ⟨5010, 0, 0, 1, .int, .const 0, 0, 1⟩
/-- Device time at which the present sleep or wake began, ns (R274). -/
def I_GNS.WATCH_AT : Fld := ⟨5011, 0, 0, 64, .int, .const 0, 0, 1⟩
/-- Device time at which the held capture ended, ns (R277). -/
def I_GNS.HOLD_AT : Fld := ⟨5012, 0, 0, 64, .int, .const 0, 0, 1⟩
/-- The baseband weir has fired and is not yet re-armed (R279); 4 entries. -/
def I_GWEIR.FIRED : Fld := ⟨5013, 0, 0, 1, .int, .const 0, 0, 4⟩
/-- The weir's quantity is on the DIR side of THRESH (R279); 4 entries. -/
def I_GWEIR.RUN : Fld := ⟨5014, 0, 0, 1, .int, .const 0, 0, 4⟩
/-- Device time since which it is, ns (R279); 4 entries. -/
def I_GWEIR.SINCE : Fld := ⟨5015, 0, 0, 64, .int, .const 0, 0, 4⟩
/-- Device time at which the channel lost lock, ns (R252); 160 entries. -/
def I_CHAN.REACQ_AT : Fld := ⟨5016, 0, 0, 64, .int, .const 0, 0, 160⟩
/-- The next record entry of the channel carries SLIP (R253); 160 entries. -/
def I_CHAN.SLIP : Fld := ⟨5017, 0, 0, 1, .int, .const 0, 0, 160⟩
/-- The channel is retired at the next epoch: 1 by the count, 2 by its self-test (R254); 160 entries. -/
def I_CHAN.RETIRE_DUE : Fld := ⟨5018, 0, 0, 2, .int, .const 0, 0, 160⟩
/-- One more than the device time of the last measurement epoch, ns; 0 before the first (R258). -/
def I_GNS.EPOCH_SEEN : Fld := ⟨5019, 0, 0, 64, .int, .const 0, 0, 1⟩
/-- Device time at which the waiting capture was triggered, ns (R276). -/
def I_GNS.TRIG_AT : Fld := ⟨5020, 0, 0, 64, .int, .const 0, 0, 1⟩
/-- Device time at which the reflectometer run began, ns (R270). -/
def I_GNS.REFLECT_AT : Fld := ⟨5021, 0, 0, 64, .int, .const 0, 0, 1⟩
/-- Device time of the hand-over to pull-in, ns (R251); 160 entries. -/
def I_CHAN.AT : Fld := ⟨5022, 0, 0, 64, .int, .const 0, 0, 160⟩
/-- Device time at which LOCK_TIME began to grow, ns (R253, R260); 160 entries. -/
def I_CHAN.LOCK_AT : Fld := ⟨5023, 0, 0, 64, .int, .const 0, 0, 160⟩
/-- The channel has a code phase and Doppler, predicted or last measured (R252, R254, R256); 160 entries. -/
def I_CHAN.PREDICTED : Fld := ⟨5024, 0, 0, 1, .int, .const 0, 0, 160⟩
/-- They: code phase in half chips (R252, R254); 160 entries. -/
def I_CHAN.CODE_PHASE : Fld := ⟨5025, 0, 0, 32, .int, .const 0, 0, 160⟩
/-- They: Doppler, signed, Hz (R252, R254); 160 entries. -/
def I_CHAN.DOPPLER : Fld := ⟨5026, 0, 0, 32, .int, .const 0, 0, 160⟩
/-- Value of the code discriminator at the last epoch, binary64 (R251); 160 entries. -/
def I_CHAN.CODE_ERR : Fld := ⟨5027, 0, 0, 64, .int, .const 0, 0, 160⟩
/-- State of the code loop, binary64 (R251); 160 entries. -/
def I_CHAN.CODE_RATE : Fld := ⟨5028, 0, 0, 64, .int, .const 0, 0, 160⟩
/-- Frequency state of the carrier loop, binary64 (R251); 160 entries. -/
def I_CHAN.CARR_FREQ : Fld := ⟨5029, 0, 0, 64, .int, .const 0, 0, 160⟩
/-- Rate state of the carrier loop, binary64 (R251); 160 entries. -/
def I_CHAN.CARR_RATE : Fld := ⟨5030, 0, 0, 64, .int, .const 0, 0, 160⟩
/-- Device time at which the next classification of the antenna current is due, ns (R247). -/
def I_GNS.ANT_DUE : Fld := ⟨5031, 0, 0, 64, .int, .const 0, 0, 1⟩
/-- 0 held in reset, 1 qualifying its clocks, 2 running, 3 in its boot ROM (the steward) (R475). -/
def I_DIE.RUN : Fld := ⟨5400, 0, 0, 2, .int, .const 1, 0, 1⟩
/-- The die's next log sequence number (R375). -/
def I_DIE.SEQ : Fld := ⟨5401, 0, 0, 32, .int, .const 0, 0, 1⟩
/-- PERM_COUNT as the steward has distributed it (R444). -/
def I_DIE.PERM_COUNT : Fld := ⟨5402, 0, 0, 4, .int, .const 3, 0, 1⟩
/-- PERM_WINDOW as the steward has distributed it, min (R444). -/
def I_DIE.PERM_WINDOW : Fld := ⟨5403, 0, 0, 12, .int, .const 10, 0, 1⟩
/-- An NME event of the die other than CLKFAIL is unacknowledged (R439). -/
def I_DIE.NME : Fld := ⟨5404, 0, 0, 1, .int, .const 0, 0, 1⟩
/-- The die's CLKFAIL is unacknowledged (R384, R439). -/
def I_DIE.CLKFAIL : Fld := ⟨5405, 0, 0, 1, .int, .const 0, 0, 1⟩
/-- Marks in a row with an error of at most 4 ns, up to 16 (R357). -/
def I_TIM.GOOD_RUN : Fld := ⟨5406, 0, 0, 5, .int, .const 0, 0, 1⟩
/-- The die is starting from reset: a large error aligns it (R356). -/
def I_TIM.FRESH : Fld := ⟨5407, 0, 0, 1, .int, .const 1, 0, 1⟩
/-- The die takes the master's value at the next mark (R356). -/
def I_TIM.ALIGN_DUE : Fld := ⟨5408, 0, 0, 1, .int, .const 0, 0, 1⟩
/-- Millisecond boundaries in a row without a mark (R359). -/
def I_TIM.MISSED : Fld := ⟨5409, 0, 0, 8, .int, .const 0, 0, 1⟩
/-- Device time of the last TIM_INCR write at the master, ns (R361). -/
def I_TIM.INCR_AT : Fld := ⟨5410, 0, 0, 64, .int, .const 0, 0, 1⟩
/-- Bad monitor windows in a row (R382). -/
def I_CLK.BAD_RUN : Fld := ⟨5411, 0, 0, 2, .int, .const 0, 0, 1⟩
/-- Device time of the last bad window or of the failure, ns (R388, R389). -/
def I_CLK.BAD_AT : Fld := ⟨5412, 0, 0, 64, .int, .const 0, 0, 1⟩
/-- A MOVE_OTHER is pending (R388). -/
def I_CLK.PENDING : Fld := ⟨5413, 0, 0, 1, .int, .const 0, 0, 1⟩
/-- The move in progress goes to the home root (R389). -/
def I_CLK.TO_HOME : Fld := ⟨5414, 0, 0, 1, .int, .const 0, 0, 1⟩
/-- What the fallback PLL is trimmed by, signed ppm (R385). -/
def I_CLK.TRIM : Fld := ⟨5415, 0, 0, 16, .int, .const 0, 0, 1⟩
/-- The port die has marked the steward SILENT (R438). -/
def I_DIE.STEWARD_SILENT : Fld := ⟨5416, 0, 0, 1, .int, .const 0, 0, 1⟩
/-- Session key of the slot, as installed in the die, bytes as a little-endian number (R399); 8 entries. -/
def I_HST.KEY : Fld := ⟨5417, 0, 0, 256, .int, .const 0, 0, 8⟩
/-- Messages the die has sent in the session (R395); 8 entries. -/
def I_HST.TX : Fld := ⟨5418, 0, 0, 56, .int, .const 0, 0, 8⟩
/-- A rail of the die is below its brown-out threshold (R475, R490). -/
def I_DIE.RAIL_BAD : Fld := ⟨5419, 0, 0, 1, .int, .const 0, 0, 1⟩
/-- Clock code of Table 14-4 that the die's qualification shows on STAT, 0 for none (R381). -/
def I_CLK.STAT : Fld := ⟨5420, 0, 0, 3, .int, .const 0, 0, 1⟩
/-- Sequence number that the last seal of the die gave for the source (R91); 64 entries. -/
def I_SRC.SEALED : Fld := ⟨5421, 0, 0, 32, .int, .const 0, 0, 64⟩
/-- Pauses of the clock tree whose length has not yet been added to the tally (R384, R388, R389). -/
def I_CLK.PAUSES : Fld := ⟨5422, 0, 0, 2, .int, .const 0, 0, 1⟩
/-- Device time at which the next trim of the fallback PLL is due, ns (R385). -/
def I_CLK.TRIM_DUE : Fld := ⟨5423, 0, 0, 64, .int, .const 0, 0, 1⟩
/-- Device time at which a pending MOVE_OTHER is tried again, ns (R388). -/
def I_CLK.RETRY_DUE : Fld := ⟨5424, 0, 0, 64, .int, .const 0, 0, 1⟩
/-- The fast detector has tripped in qualification, which restarts at the next retry (R381, R383). -/
def I_CLK.RESTART : Fld := ⟨5425, 0, 0, 1, .int, .const 0, 0, 1⟩
/-- TEMP_CRIT as the steward has distributed it, °C (the helms act on it) (R443). -/
def I_DIE.TEMP_CRIT : Fld := ⟨5426, 0, 0, 8, .int, .const 110, 0, 1⟩
/-- A sensor of the helm is in its TEMP_CRIT condition, as the helm itself reads it (R443); 3 entries. -/
def I_DIE.HOT : Fld := ⟨5427, 0, 0, 1, .int, .const 0, 0, 3⟩
/-- HEADGATE_A_N (entry 0) or HEADGATE_B_N (entry 1) reads low (R37); 2 entries. -/
def I_PKG.LINE_LOW : Fld := ⟨5800, 0, 0, 1, .int, .const 0, 0, 2⟩
/-- The claim driver of lane A (entry 0) or B (entry 1) pulls its line low (R35); 2 entries. -/
def I_PKG.LINE_PULL : Fld := ⟨5801, 0, 0, 1, .int, .const 0, 0, 2⟩
/-- LANE_INHIBIT_A_N (entry 0) or LANE_INHIBIT_B_N (entry 1) is low (R41); 2 entries. -/
def I_PKG.INHIBIT_LOW : Fld := ⟨5802, 0, 0, 1, .int, .const 0, 0, 2⟩
/-- The debounced level of SWAP_REQ_N is low (R66). -/
def I_PKG.SWAP_REQ_LOW : Fld := ⟨5803, 0, 0, 1, .int, .const 0, 0, 1⟩
/-- 0 no DRILL, 1 swap out pending, 2 dwell, 3 swap back pending (R77). -/
def I_PKG.DRILL_PHASE : Fld := ⟨5804, 0, 0, 2, .int, .const 0, 0, 1⟩
/-- The drilled lane is lane B (R77). -/
def I_PKG.DRILLED_B : Fld := ⟨5805, 0, 0, 1, .int, .const 0, 0, 1⟩
/-- Operating time in ms at which the dwell began (R77). -/
def I_PKG.DRILL_START : Fld := ⟨5806, 0, 0, 64, .int, .const 0, 0, 1⟩
/-- 0 none, 1 pass, 2 fail, 3 aborted, 4 stranded (R77). -/
def I_PKG.DRILL_VERDICT : Fld := ⟨5807, 0, 0, 3, .int, .const 0, 0, 1⟩
/-- The lane that has lost authority and whose successor is not yet granted: 0 none, 1 A, 2 B (R37). -/
def I_PKG.SWO_FROM : Fld := ⟨5808, 0, 0, 2, .int, .const 0, 0, 1⟩
/-- Cause code of that loss (R63). -/
def I_PKG.SWO_CAUSE : Fld := ⟨5809, 0, 0, 4, .int, .const 0, 0, 1⟩
/-- Operating time as the steward counts it, ms (R71). -/
def I_PKG.OPERATING_MS : Fld := ⟨5810, 0, 0, 64, .int, .const 0, 0, 1⟩
/-- Link d of plane A (entry 2 d) or B (entry 2 d + 1) is down; links 0 to 7 the dies, 8 the bridge (R17); 18 entries. -/
def I_PKG.CULVERT_DOWN : Fld := ⟨5811, 0, 0, 1, .int, .const 0, 0, 18⟩
/-- Free values drawn so far (the model's own). -/
def I_PKG.FREE_COUNT : Fld := ⟨5812, 0, 0, 64, .int, .const 0, 0, 1⟩
/-- RESET_N is low (R477). -/
def I_PKG.RESET_LOW : Fld := ⟨5813, 0, 0, 1, .int, .const 0, 0, 1⟩
/-- BOOT_STRAP[3:0] as sampled at the last rising edge of RESET_N (R477). -/
def I_PKG.STRAPS : Fld := ⟨5814, 0, 0, 4, .int, .const 0, 0, 1⟩
/-- PWR_GOOD is high (R476). -/
def I_PKG.PWR_GOOD : Fld := ⟨5815, 0, 0, 1, .int, .const 1, 0, 1⟩
/-- PWR_GOOD was low when RESET_N was released: every die stays in reset (R476). -/
def I_PKG.PG_WAIT : Fld := ⟨5816, 0, 0, 1, .int, .const 0, 0, 1⟩
/-- STAT[3:0] (R487). -/
def I_PKG.STAT : Fld := ⟨5817, 0, 0, 4, .int, .const 5, 0, 1⟩
/-- TAP instruction: 0 BYPASS, 1 IDCODE, 2 SAMPLE/PRELOAD, 3 EXTEST, 4 HIGHZ, 5 CLAMP (R497). -/
def I_JTAG.IR : Fld := ⟨5818, 0, 0, 3, .int, .const 1, 0, 1⟩
/-- Data register that the TAP shifts out: the bypass bit or the identification (R497). -/
def I_JTAG.DR : Fld := ⟨5819, 0, 0, 32, .int, .const 0, 0, 1⟩
/-- Boundary-scan values that EXTEST and CLAMP drive, one bit a digital ball (R497). -/
def I_JTAG.BSR : Fld := ⟨5820, 0, 0, 142, .int, .const 0, 0, 1⟩
/-- Levels of the digital balls that the boundary-scan register captured last (R497). -/
def I_JTAG.CAP : Fld := ⟨5821, 0, 0, 142, .int, .const 0, 0, 1⟩
/-- LOCKOUT_WINDOW of lane A (entry 0) or B (entry 1) as the steward last had it, min (R71); 2 entries. -/
def I_PKG.LOCKOUT_MIN : Fld := ⟨5822, 0, 0, 8, .int, .const 60, 0, 2⟩
/-- Furrow engines that lane A (entry 0) or B (entry 1) has still to retire because its partner has (R59); 2 entries. -/
def I_PKG.MIRROR : Fld := ⟨5823, 0, 0, 9, .int, .const 0, 0, 2⟩
/-- Lane A (entry 0) or B (entry 1) lost its power under cause code 6 and has not logged it yet (R70); 2 entries. -/
def I_PKG.LOST : Fld := ⟨5824, 0, 0, 1, .int, .const 0, 0, 2⟩
/-- Telemetry sequence number of the session (R407); 8 entries. -/
def I_TEL.SEQ : Fld := ⟨6200, 0, 0, 32, .int, .const 0, 0, 8⟩
/-- Words of the image the restoration in progress has brought (R466). -/
def I_UPD.RESTORE_WORDS : Fld := ⟨6201, 0, 0, 32, .int, .const 0, 0, 1⟩
/-- The sensor is in its TEMP_WARN condition (R443); 15 entries. -/
def I_STW.TEMP_WARN : Fld := ⟨6202, 0, 0, 1, .int, .const 0, 0, 15⟩
/-- The sensor is in its TEMP_CRIT condition (R443); 15 entries. -/
def I_STW.TEMP_CRIT : Fld := ⟨6203, 0, 0, 1, .int, .const 0, 0, 15⟩
/-- Device time of the last valid reference update, ns (R361). -/
def I_TIM.REF_AT : Fld := ⟨6204, 0, 0, 64, .int, .const 0, 0, 1⟩
/-- Device time since which the offset has stayed within LOCK_THRESH, ns (R361). -/
def I_TIM.LOCK_SINCE : Fld := ⟨6205, 0, 0, 64, .int, .const 0, 0, 1⟩
/-- The offset was within LOCK_THRESH at the last update (R361). -/
def I_TIM.IN_LOCK : Fld := ⟨6206, 0, 0, 1, .int, .const 0, 0, 1⟩
/-- Device time state before HOLDOVER_DEGRADED (R360). -/
def I_TIM.PRIOR : Fld := ⟨6207, 0, 0, 3, .int, .const 0, 0, 1⟩
/-- The announced step, signed ns (R368). -/
def I_TIM.STEP : Fld := ⟨6208, 0, 0, 64, .int, .const 0, 0, 1⟩
/-- A step is announced for the next mark (R368). -/
def I_TIM.STEP_DUE : Fld := ⟨6209, 0, 0, 1, .int, .const 0, 0, 1⟩
/-- What the slew in force has still to add, in thousandths of a ns, signed (R364). -/
def I_TIM.SLEW_LEFT : Fld := ⟨6210, 0, 0, 64, .int, .const 0, 0, 1⟩
/-- Pre-shared key of the slot, from the settings store (R398); 8 entries. -/
def I_HST.PSK : Fld := ⟨6211, 0, 0, 256, .int, .const 0, 0, 8⟩
/-- Step epoch of the last record, in the order of R375, that the ring has taken (R375, R451). -/
def I_LOG.EPOCH : Fld := ⟨6212, 0, 0, 8, .int, .const 0, 0, 1⟩
/-- Its stamp (R375, R451). -/
def I_LOG.STAMP : Fld := ⟨6213, 0, 0, 64, .int, .const 0, 0, 1⟩
/-- Its die (R375, R451). -/
def I_LOG.DIE : Fld := ⟨6214, 0, 0, 3, .int, .const 0, 0, 1⟩
/-- Its sequence number (R375, R451). -/
def I_LOG.SEQ : Fld := ⟨6215, 0, 0, 32, .int, .const 0, 0, 1⟩
/-- Session slot that started the long operation (R411). -/
def I_HST.BUSY_SLOT : Fld := ⟨6216, 0, 0, 3, .int, .const 0, 0, 1⟩
/-- Host nonce of the OPEN that opened the slot's session (R399); 8 entries. -/
def I_HST.NONCE : Fld := ⟨6217, 0, 0, 128, .int, .const 0, 0, 8⟩
/-- Last-accepted time of the session as the steward has collected it, ns (R401); 8 entries. -/
def I_HST.IDLE_LAST : Fld := ⟨6218, 0, 0, 64, .int, .const 0, 0, 8⟩
/-- Device time of the owner's last transaction request, ns (R416). -/
def I_TXN.AT : Fld := ⟨6219, 0, 0, 64, .int, .const 0, 0, 1⟩
/-- Apply boundary of the commit, ns (R419). -/
def I_TXN.B : Fld := ⟨6220, 0, 0, 64, .int, .const 0, 0, 1⟩
/-- Moves of the apply boundary (R419). -/
def I_TXN.MOVES : Fld := ⟨6221, 0, 0, 3, .int, .const 0, 0, 1⟩
/-- Length the last LYT_BEGIN gave (R426). -/
def I_LYT.LEN : Fld := ⟨6222, 0, 0, 32, .int, .const 0, 0, 1⟩
/-- The image verification in progress is that of the staged layout (R427). -/
def I_LYT.VERIFYING : Fld := ⟨6223, 0, 0, 1, .int, .const 0, 0, 1⟩
/-- Device time at which the target lane restarted, ns (R433). -/
def I_LYT.AT : Fld := ⟨6224, 0, 0, 64, .int, .const 0, 0, 1⟩
/-- The commit marker in the loader journal is set (R435). -/
def I_LYT.MARKER : Fld := ⟨6225, 0, 0, 1, .int, .const 0, 0, 1⟩
/-- The current image: 0 not checked since the start, 1 passed and not yet applied, 2 failed or none, 3 applied (R479). -/
def I_LYT.BOOT : Fld := ⟨6226, 0, 0, 2, .int, .const 0, 0, 1⟩
/-- Boundary of the first apply, ns (R479). -/
def I_LYT.APPLY_AT : Fld := ⟨6227, 0, 0, 64, .int, .const 0, 0, 1⟩
/-- Layout-key hash in an OTP slot (R474); 4 entries. -/
def I_OTP.LYT_KEY : Fld := ⟨6228, 0, 0, 256, .int, .const 0, 0, 4⟩
/-- OTP slots written (R474). -/
def I_OTP.LYT_KEYS : Fld := ⟨6229, 0, 0, 3, .int, .const 0, 0, 1⟩
/-- The steward has not acted on the journal since the package left reset (R470, R479). -/
def I_STW.POWER_UP : Fld := ⟨6230, 0, 0, 1, .int, .const 1, 0, 1⟩
/-- The steward waits in ROM service mode for the ledger (Table 19-2). -/
def I_STW.WAIT_LEDGER : Fld := ⟨6231, 0, 0, 1, .int, .const 0, 0, 1⟩
/-- Rail means in a row on the other side of the RAIL_WARN band than the rail's flag says (R442); 12 entries. -/
def I_PWR.WARN_RUN : Fld := ⟨6232, 0, 0, 4, .int, .const 0, 0, 12⟩
/-- Rail means in a row on the other side of the 5 % band than the rail's flag says (R442); 12 entries. -/
def I_PWR.FAULT_RUN : Fld := ⟨6233, 0, 0, 4, .int, .const 0, 0, 12⟩
/-- The rail's current was above its limit at the last sample (R443); 12 entries. -/
def I_PWR.CUR_HIGH : Fld := ⟨6234, 0, 0, 1, .int, .const 0, 0, 12⟩
/-- RETIRE_CLEAR has named this entry of the retirement list (R446); 64 entries. -/
def I_RET.CLEAR : Fld := ⟨6235, 0, 0, 1, .int, .const 0, 0, 64⟩
/-- LENGTH of the slot's image (Table 18-3); 3 entries. -/
def I_UPD.LEN : Fld := ⟨6236, 0, 0, 32, .int, .const 0, 0, 3⟩
/-- Source of the update: 0 host, 1 partner (R456). -/
def I_UPD.SRC : Fld := ⟨6237, 0, 0, 1, .int, .const 0, 0, 1⟩
/-- Receive bitmap of the slot being written (R455). -/
def I_UPD.BITMAP : Fld := ⟨6238, 0, 0, 896, .int, .const 0, 0, 1⟩
/-- HASH of the slot's image, bytes as a little-endian number (Table 18-3); 3 entries. -/
def I_UPD.HASH : Fld := ⟨6239, 0, 0, 256, .int, .const 0, 0, 3⟩
/-- DET_CLASS of the slot's image (Table 18-3); 3 entries. -/
def I_UPD.DET : Fld := ⟨6240, 0, 0, 16, .int, .const 0, 0, 3⟩
/-- TRIAL_START of the slot, ns (Table 18-3); 3 entries. -/
def I_UPD.TRIAL_AT : Fld := ⟨6241, 0, 0, 64, .int, .const 0, 0, 3⟩
/-- Watchdog resets of the steward in its trial, up to 2 (R472). -/
def I_UPD.WD_RESETS : Fld := ⟨6242, 0, 0, 2, .int, .const 0, 0, 1⟩
/-- The image verification in progress is that of an update (R459). -/
def I_UPD.VERIFYING : Fld := ⟨6243, 0, 0, 1, .int, .const 0, 0, 1⟩
/-- The lane runs on its old firmware while its region is restored (R458, R466); 2 entries. -/
def I_UPD.KEEP : Fld := ⟨6244, 0, 0, 1, .int, .const 0, 0, 2⟩
/-- The partner streams the image of a restoration (R466). -/
def I_UPD.ON : Fld := ⟨6245, 0, 0, 1, .int, .const 0, 0, 1⟩
/-- Key ID of the slot, from the settings store (R398); 8 entries. -/
def I_KEY.KEY_ID : Fld := ⟨6246, 0, 0, 16, .int, .const 0, 0, 8⟩
/-- Role of the slot, from the settings store (R398); 8 entries. -/
def I_KEY.ROLE : Fld := ⟨6247, 0, 0, 2, .int, .const 0, 0, 8⟩
/-- A key stands in the settings store for the slot (R398); 8 entries. -/
def I_KEY.KEYED : Fld := ⟨6248, 0, 0, 1, .int, .const 0, 0, 8⟩
/-- Entries of the retirement list in the health page (R446). -/
def I_RET.COUNT : Fld := ⟨6249, 0, 0, 8, .int, .const 0, 0, 1⟩
/-- Device time at which the next Sync, Announce or Delay_Req of the ordinary clock is due, ns (R348); 3 entries. -/
def I_PTP.DUE : Fld := ⟨6250, 0, 0, 64, .int, .const 0, 0, 3⟩
/-- A reference update waits for the servo (R363). -/
def I_TIM.REF_DUE : Fld := ⟨6251, 0, 0, 1, .int, .const 0, 0, 1⟩
/-- theta of the reference update that waits, signed ns (R363). -/
def I_TIM.REF_THETA : Fld := ⟨6252, 0, 0, 64, .int, .const 0, 0, 1⟩
/-- Measured frequency error of the update that waits, ppb, binary64 (R363). -/
def I_TIM.REF_F : Fld := ⟨6253, 0, 0, 64, .int, .const 0, 0, 1⟩
/-- Device time at which the step was announced, ns (R368). -/
def I_TIM.STEP_AT : Fld := ⟨6254, 0, 0, 64, .int, .const 0, 0, 1⟩
/-- UTC offset that waits for its leap day to end, signed (R371). -/
def I_TIM.UTC_NEW : Fld := ⟨6255, 0, 0, 16, .int, .const 0, 0, 1⟩
/-- A changed UTC offset waits (R371). -/
def I_TIM.UTC_DUE : Fld := ⟨6256, 0, 0, 1, .int, .const 0, 0, 1⟩
/-- UTC day, in days of the device timescale less the offset, at whose end LEAP61 or LEAP59 acts (R371). -/
def I_TIM.LEAP_DAY : Fld := ⟨6257, 0, 0, 64, .int, .const 0, 0, 1⟩
/-- Requests answered ROLE_DENIED (R402). -/
def I_HST.DENIED : Fld := ⟨6258, 0, 0, 32, .int, .const 0, 0, 1⟩
/-- Device time at which the next mean of the rail is due, ns (Table 17-1); 12 entries. -/
def I_PWR.DUE : Fld := ⟨6259, 0, 0, 64, .int, .const 0, 0, 12⟩

/-- Identities of the group: lane state that the per-cycle copy carries (R48). -/
def cycleIds : Nat × Nat := (3400, 3800)

/-- Identities of the group: lane state that a lane reset clears (R70). -/
def laneIds : Nat × Nat := (3800, 4200)

/-- Identities of the group: lane state kept in the health page (R71, R80). -/
def keptIds : Nat × Nat := (4200, 4600)

/-- Identities of the group: state of a port die. -/
def portIds : Nat × Nat := (4600, 5000)

/-- Identities of the group: state of a baseband. -/
def bbIds : Nat × Nat := (5000, 5400)

/-- Identities of the group: state of any die. -/
def dieIds : Nat × Nat := (5400, 5800)

/-- Identities of the group: state of the package, held under die 0. -/
def pkgIds : Nat × Nat := (5800, 6200)

/-- Identities of the group: state of the steward, its stores and fuses, held under die 0. -/
def sysIds : Nat × Nat := (6200, 6600)

end Sys2Proof.Machine
end

