-- ==== Sys2Proof/Machine/RegsLane.lean ====
section
/-! DEFINITION. The register fields of the helm dies (spec chapters 02 to 08) and of the headgate arbiters in the port dies, one definition a field, with the
address, bits, access and reset of its field table, and the register map rows they make. -/

namespace Sys2Proof.Machine

/-- spec/02, HG_STATUS, bits [2:0]: Table 02-1. -/
def HG_STATUS.LANE_STATE : Fld := ⟨1, 0x100000, 0, 3, .ro, .const 1, 0, 1⟩
/-- spec/02, HG_STATUS, bits [3:3]: 1: own headgate line reads low. -/
def HG_STATUS.LINE_OWN : Fld := ⟨2, 0x100000, 3, 1, .ro, .const 0, 0, 1⟩
/-- spec/02, HG_STATUS, bits [4:4]: 1: other lane's line reads low. -/
def HG_STATUS.LINE_OTHER : Fld := ⟨3, 0x100000, 4, 1, .ro, .const 0, 0, 1⟩
/-- spec/02, HG_STATUS, bits [5:5]: Claim driver armed. -/
def HG_STATUS.ARMED : Fld := ⟨4, 0x100000, 5, 1, .ro, .const 0, 0, 1⟩
/-- spec/02, HG_STATUS, bits [6:6]: 1: own LANE_INHIBIT_x_N is low. Reset: pin. -/
def HG_STATUS.INHIBIT : Fld := ⟨5, 0x100000, 6, 1, .ro, .const 0, 0, 1⟩
/-- spec/02, HG_STATUS, bits [7:7]: 1: this lane is primary. -/
def HG_STATUS.PRIMARY : Fld := ⟨6, 0x100000, 7, 1, .ro, .const 0, 0, 1⟩
/-- spec/02, HG_STATUS, bits [8:8]: A DRILL is in progress. -/
def HG_STATUS.DRILL_ACTIVE : Fld := ⟨7, 0x100000, 8, 1, .ro, .const 0, 0, 1⟩
/-- spec/02, HG_STATUS, bits [9:9]: Reversion requested, swap pending. -/
def HG_STATUS.REVERT_PENDING : Fld := ⟨8, 0x100000, 9, 1, .ro, .const 0, 0, 1⟩
/-- spec/02, HG_STATUS, bits [10:10]: Paired-field hashes differ. -/
def HG_STATUS.PAIR_DIFF : Fld := ⟨9, 0x100000, 10, 1, .ro, .const 0, 0, 1⟩
/-- spec/02, HG_STATUS, bits [11:11]: Layout hashes differ. -/
def HG_STATUS.LAYOUT_DIFF : Fld := ⟨10, 0x100000, 11, 1, .ro, .const 0, 0, 1⟩
/-- spec/02, HG_STATUS, bits [12:12]: Determinism classes differ. -/
def HG_STATUS.FW_INCOMPAT : Fld := ⟨11, 0x100000, 12, 1, .ro, .const 0, 0, 1⟩
/-- spec/02, HG_STATUS, bits [13:13]: R50 not met. -/
def HG_STATUS.COPIES_STALE : Fld := ⟨12, 0x100000, 13, 1, .ro, .const 0, 0, 1⟩
/-- spec/02, HG_STATUS, bits [14:14]: R55 limit reached since readiness last held. -/
def HG_STATUS.MISS_LIMIT : Fld := ⟨13, 0x100000, 14, 1, .ro, .const 0, 0, 1⟩
/-- spec/02, HG_STATUS, bits [15:15]: Lane carries the DRILL_FAIL mark; survives RESET_N (R80). Reset: kept. -/
def HG_STATUS.DRILL_FAIL : Fld := ⟨14, 0x100000, 15, 1, .ro, .const 0, 0, 1⟩
/-- spec/02, HG_STATUS, bits [31:16]: Seconds of REVERT_HOLDOFF remaining; 0 when not counting. -/
def HG_STATUS.HOLDOFF_LEFT : Fld := ⟨15, 0x100000, 16, 16, .ro, .const 0, 0, 1⟩
/-- spec/02, HG_CTRL, bits [0:0]: 1: release own claim now (cause code 1); ignored unless ACTIVE. -/
def HG_CTRL.RELEASE : Fld := ⟨16, 0x100004, 0, 1, .wo, .const 0, 0, 1⟩
/-- spec/02, HG_CTRL, bits [1:1]: 1: arm the claim driver, subject to R60 to R62. -/
def HG_CTRL.ARM : Fld := ⟨17, 0x100004, 1, 1, .wo, .const 0, 0, 1⟩
/-- spec/02, HG_CTRL, bits [2:2]: 1: disarm the claim driver. -/
def HG_CTRL.DISARM : Fld := ⟨18, 0x100004, 2, 1, .wo, .const 0, 0, 1⟩
/-- spec/02, HG_CFG, bits [0:0]: 0: lane A primary; 1: lane B primary. -/
def HG_CFG.PRIMARY_B : Fld := ⟨19, 0x100008, 0, 1, .ly, .const 0, 0, 1⟩
/-- spec/02, HG_CFG, bits [1:1]: 1: SWAP_REQ_N makes planned swaps. -/
def HG_CFG.SWAP_PIN_EN : Fld := ⟨20, 0x100008, 1, 1, .ly, .const 0, 0, 1⟩
/-- spec/02, HG_POLICY, bits [10:0]: Seconds, 10 to 1,800. -/
def HG_POLICY.REVERT_HOLDOFF : Fld := ⟨21, 0x10000c, 0, 11, .tx, .const 0x3c, 0, 1⟩
/-- spec/02, HG_POLICY, bits [19:16]: Consecutive mismatches, 1 to 15. -/
def HG_POLICY.DIGEST_MISS_LIMIT : Fld := ⟨22, 0x10000c, 16, 4, .tx, .const 4, 0, 1⟩
/-- spec/02, HG_POLICY, bits [31:20]: Clean ticks, 100 to 4,095. -/
def HG_POLICY.READY_COUNT : Fld := ⟨23, 0x10000c, 20, 12, .tx, .const 0x3e8, 0, 1⟩
/-- spec/02, HG_POLICY2, bits [9:0]: Seconds, 2 to 600. -/
def HG_POLICY2.DRILL_DWELL : Fld := ⟨24, 0x100010, 0, 10, .tx, .const 0xa, 0, 1⟩
/-- spec/02, HG_POLICY2, bits [15:12]: Unplanned switch-overs, 1 to 15. -/
def HG_POLICY2.LOCKOUT_COUNT : Fld := ⟨25, 0x100010, 12, 4, .tx, .const 3, 0, 1⟩
/-- spec/02, HG_POLICY2, bits [23:16]: Minutes, 1 to 255. -/
def HG_POLICY2.LOCKOUT_WINDOW : Fld := ⟨26, 0x100010, 16, 8, .tx, .const 0x3c, 0, 1⟩
/-- spec/02, HG_CMP, bits [15:0]: Consecutive clean compared ticks; saturates at 65,535. -/
def HG_CMP.CLEAN_RUN : Fld := ⟨27, 0x100014, 0, 16, .ro, .const 0, 0, 1⟩
/-- spec/02, HG_CMP, bits [23:16]: Consecutive mismatching compared ticks; saturates at 255. -/
def HG_CMP.MISS_RUN : Fld := ⟨28, 0x100014, 16, 8, .ro, .const 0, 0, 1⟩
/-- spec/02, HG_CMP, bits [31:24]: Mismatches in the last 1,000 compared ticks. -/
def HG_CMP.MISS_WINDOW : Fld := ⟨29, 0x100014, 24, 8, .ro, .const 0, 0, 1⟩
/-- spec/02, HG_TICK_MISMATCH, bits [31:0]: Tick-digest mismatches since reset; wraps. -/
def HG_TICK_MISMATCH.COUNT : Fld := ⟨30, 0x100018, 0, 32, .ro, .const 0, 0, 1⟩
/-- spec/02, HG_CYCLE_MISMATCH, bits [31:0]: Cycle-digest mismatches since reset, including those excused by R59; wraps. -/
def HG_CYCLE_MISMATCH.COUNT : Fld := ⟨31, 0x10001c, 0, 32, .ro, .const 0, 0, 1⟩
/-- spec/02, HG_EVENT, bits [0:0]: This lane became ACTIVE by a planned swap. -/
def HG_EVENT.SWAP_DONE : Fld := ⟨32, 0x100020, 0, 1, .w1c, .const 0, 0, 1⟩
/-- spec/02, HG_EVENT, bits [1:1]: This lane became ACTIVE after an unplanned trigger. -/
def HG_EVENT.TAKEOVER : Fld := ⟨33, 0x100020, 1, 1, .w1c, .const 0, 0, 1⟩
/-- spec/02, HG_EVENT, bits [2:2]: Takeover under R61. -/
def HG_EVENT.TAKEOVER_UNREADY : Fld := ⟨34, 0x100020, 2, 1, .w1c, .const 0, 0, 1⟩
/-- spec/02, HG_EVENT, bits [3:3]: Entered STANDBY_READY. -/
def HG_EVENT.READY_GAINED : Fld := ⟨35, 0x100020, 3, 1, .w1c, .const 0, 0, 1⟩
/-- spec/02, HG_EVENT, bits [4:4]: Left STANDBY_READY. -/
def HG_EVENT.READY_LOST : Fld := ⟨36, 0x100020, 4, 1, .w1c, .const 0, 0, 1⟩
/-- spec/02, HG_EVENT, bits [5:5]: A planned swap was refused. -/
def HG_EVENT.SWAP_REFUSED : Fld := ⟨37, 0x100020, 5, 1, .w1c, .const 0, 0, 1⟩
/-- spec/02, HG_EVENT, bits [6:6]: . -/
def HG_EVENT.DRILL_PASS : Fld := ⟨38, 0x100020, 6, 1, .w1c, .const 0, 0, 1⟩
/-- spec/02, HG_EVENT, bits [7:7]: . -/
def HG_EVENT.DRILL_FAIL : Fld := ⟨39, 0x100020, 7, 1, .w1c, .const 0, 0, 1⟩
/-- spec/02, HG_EVENT, bits [8:8]: Entered LOCKED_OUT. -/
def HG_EVENT.LOCKOUT : Fld := ⟨40, 0x100020, 8, 1, .w1c, .const 0, 0, 1⟩
/-- spec/02, HG_EVENT, bits [9:9]: R69 difference. -/
def HG_EVENT.WRITE_PATH : Fld := ⟨41, 0x100020, 9, 1, .w1c, .const 0, 0, 1⟩
/-- spec/02, HG_EVENT, bits [10:10]: Inhibit pin low while ACTIVE. -/
def HG_EVENT.INHIBIT_HELD : Fld := ⟨42, 0x100020, 10, 1, .w1c, .const 0, 0, 1⟩
/-- spec/02, HG_EVENT, bits [11:11]: R38. -/
def HG_EVENT.BOTH_LOW : Fld := ⟨43, 0x100020, 11, 1, .w1c, .const 0, 0, 1⟩
/-- spec/02, HG_LAST_SWAP, bits [3:0]: Cause code of the last switch-over involving this lane (Tables 02-5 and 02-6); 0 for none. -/
def HG_LAST_SWAP.CAUSE : Fld := ⟨44, 0x100024, 0, 4, .ro, .const 0, 0, 1⟩
/-- spec/02, HG_LAST_SWAP, bits [4:4]: 1: this lane gained control; 0: it lost control. -/
def HG_LAST_SWAP.GAINED : Fld := ⟨45, 0x100024, 4, 1, .ro, .const 0, 0, 1⟩
/-- spec/02, HG_LAST_SWAP, bits [31:16]: Switch-overs since reset; saturates. -/
def HG_LAST_SWAP.SWAP_COUNT : Fld := ⟨46, 0x100024, 16, 16, .ro, .const 0, 0, 1⟩
/-- spec/02, HG_LOCKOUT, bits [0:0]: LOCKED_OUT held; survives RESET_N. Reset: kept. -/
def HG_LOCKOUT.LOCKED : Fld := ⟨47, 0x100028, 0, 1, .ro, .const 0, 0, 1⟩
/-- spec/02, HG_LOCKOUT, bits [1:1]: 1: clear the lockout and its fault history; ENGINEER session only. -/
def HG_LOCKOUT.CLEAR : Fld := ⟨48, 0x100028, 1, 1, .wo, .const 0, 0, 1⟩
/-- spec/02, HG_LOCKOUT, bits [2:2]: 1: clear the DRILL_FAIL mark; ENGINEER session only. -/
def HG_LOCKOUT.CLEAR_DRILL : Fld := ⟨49, 0x100028, 2, 1, .wo, .const 0, 0, 1⟩
/-- spec/02, HG_LOCKOUT, bits [7:4]: Unplanned switch-overs caused within LOCKOUT_WINDOW. Reset: kept. -/
def HG_LOCKOUT.FAULT_SWAPS : Fld := ⟨50, 0x100028, 4, 4, .ro, .const 0, 0, 1⟩
/-- spec/02, HG_PAIR_HASH, bits [31:0]: CRC-32C of the paired fields at the last vessel-cycle boundary (R58). -/
def HG_PAIR_HASH.HASH : Fld := ⟨51, 0x10002c, 0, 32, .ro, .const 0, 0, 1⟩
/-- spec/02, HG_REQ, bits [0:0]: 1: request a planned swap (cause code 7). -/
def HG_REQ.SWAP : Fld := ⟨52, 0x100030, 0, 1, .wo, .const 0, 0, 1⟩
/-- spec/02, HG_REQ, bits [1:1]: 1: start a DRILL. -/
def HG_REQ.DRILL : Fld := ⟨53, 0x100030, 1, 1, .wo, .const 0, 0, 1⟩
/-- spec/02, HG_REQ, bits [2:2]: 1: abort the DRILL in progress. -/
def HG_REQ.DRILL_ABORT : Fld := ⟨54, 0x100030, 2, 1, .wo, .const 0, 0, 1⟩
/-- spec/02, HG_OWNER, bits [1:0]: Arbiter state: 0 NONE, 1 A, 2 B. -/
def HG_OWNER.OWNER : Fld := ⟨55, 0x100100, 0, 2, .ro, .const 0, 0, 1⟩
/-- spec/02, HG_OWNER, bits [2:2]: 1: HEADGATE_A_N reads low. -/
def HG_OWNER.LINE_A : Fld := ⟨56, 0x100100, 2, 1, .ro, .const 0, 0, 1⟩
/-- spec/02, HG_OWNER, bits [3:3]: 1: HEADGATE_B_N reads low. -/
def HG_OWNER.LINE_B : Fld := ⟨57, 0x100100, 3, 1, .ro, .const 0, 0, 1⟩
/-- spec/02, HG_OWNER, bits [4:4]: 1: the other port die reported the same state at the last tick. -/
def HG_OWNER.PEER_AGREE : Fld := ⟨58, 0x100100, 4, 1, .ro, .const 0, 0, 1⟩
/-- spec/02, HG_OWNER, bits [31:16]: Grant edges since reset; saturates. -/
def HG_OWNER.GRANTS : Fld := ⟨59, 0x100100, 16, 16, .ro, .const 0, 0, 1⟩
/-- spec/02, HG_ARB_EVENT, bits [0:0]: A grant edge occurred. -/
def HG_ARB_EVENT.GRANT : Fld := ⟨60, 0x100104, 0, 1, .w1c, .const 0, 0, 1⟩
/-- spec/02, HG_ARB_EVENT, bits [1:1]: The arbiter moved to NONE. -/
def HG_ARB_EVENT.TO_NONE : Fld := ⟨61, 0x100104, 1, 1, .w1c, .const 0, 0, 1⟩
/-- spec/02, HG_ARB_EVENT, bits [2:2]: Both lines sampled low. -/
def HG_ARB_EVENT.BOTH_LOW : Fld := ⟨62, 0x100104, 2, 1, .w1c, .const 0, 0, 1⟩
/-- spec/02, HG_ARB_EVENT, bits [3:3]: R40 disagreement. -/
def HG_ARB_EVENT.SPLIT : Fld := ⟨63, 0x100104, 3, 1, .w1c, .const 0, 0, 1⟩
/-- spec/02, HG_STALE_WR, bits [31:0]: Writes refused under R43; wraps. -/
def HG_STALE_WR.COUNT : Fld := ⟨64, 0x100108, 0, 32, .ro, .const 0, 0, 1⟩
/-- spec/02, HG_DH_CFG, bits [10:0]: Milliseconds, 20 to 2,000. -/
def HG_DH_CFG.DH_TIMEOUT : Fld := ⟨65, 0x10010c, 0, 11, .ly, .const 0xc8, 0, 1⟩
/-- spec/02, HG_DH_STATUS, bits [0:0]: Dead-hand in force. -/
def HG_DH_STATUS.TRIPPED : Fld := ⟨66, 0x100110, 0, 1, .ro, .const 1, 0, 1⟩
/-- spec/02, HG_DH_STATUS, bits [1:1]: A trip occurred. -/
def HG_DH_STATUS.TRIP_EVT : Fld := ⟨67, 0x100110, 1, 1, .w1c, .const 0, 0, 1⟩
/-- spec/02, HG_DH_STATUS, bits [31:16]: Milliseconds since the last refresh; saturates. -/
def HG_DH_STATUS.SINCE_REFRESH : Fld := ⟨68, 0x100110, 16, 16, .ro, .const 0xffff, 0, 1⟩
/-- spec/02, HG_ARB_CFG, bits [0:0]: 0: lane A primary; 1: lane B primary. The arbiter uses it under R37; set under R39. -/
def HG_ARB_CFG.PRIMARY_B : Fld := ⟨69, 0x100114, 0, 1, .ly, .const 0, 0, 1⟩
/-- spec/02, LEAT_STATUS, bits [0:0]: Link trained and up (R46). -/
def LEAT_STATUS.UP : Fld := ⟨70, 0x110000, 0, 1, .ro, .const 0, 0, 1⟩
/-- spec/02, LEAT_STATUS, bits [1:1]: Per-tick copies current. -/
def LEAT_STATUS.TICK_CURRENT : Fld := ⟨71, 0x110000, 1, 1, .ro, .const 0, 0, 1⟩
/-- spec/02, LEAT_STATUS, bits [2:2]: Per-cycle copies current. -/
def LEAT_STATUS.CYCLE_CURRENT : Fld := ⟨72, 0x110000, 2, 1, .ro, .const 0, 0, 1⟩
/-- spec/02, LEAT_STATUS, bits [3:3]: 1: this lane sends copies (ACTIVE). -/
def LEAT_STATUS.SENDING : Fld := ⟨73, 0x110000, 3, 1, .ro, .const 0, 0, 1⟩
/-- spec/02, LEAT_STATUS, bits [15:8]: Flits held in the replay window, 0 to 64. -/
def LEAT_STATUS.REPLAY_USED : Fld := ⟨74, 0x110000, 8, 8, .ro, .const 0, 0, 1⟩
/-- spec/02, LEAT_CTRL, bits [0:0]: 1: force link retraining now; ignored while ACTIVE with a STANDBY_READY partner. -/
def LEAT_CTRL.RETRAIN : Fld := ⟨75, 0x110004, 0, 1, .wo, .const 0, 0, 1⟩
/-- spec/02, LEAT_CTRL, bits [1:1]: 1: loop the transmitter to the receiver for test; accepted only in DOWN or STARTING. -/
def LEAT_CTRL.LOOPBACK : Fld := ⟨76, 0x110004, 1, 1, .rw, .const 0, 0, 1⟩
/-- spec/02, LEAT_CRC_ERR, bits [31:0]: Received flits failing CRC-32C; wraps. -/
def LEAT_CRC_ERR.COUNT : Fld := ⟨77, 0x110008, 0, 32, .ro, .const 0, 0, 1⟩
/-- spec/02, LEAT_RETX, bits [31:0]: Go-back-N retransmissions started; wraps. -/
def LEAT_RETX.COUNT : Fld := ⟨78, 0x11000c, 0, 32, .ro, .const 0, 0, 1⟩
/-- spec/02, LEAT_MISS, bits [15:0]: Per-tick copies discarded or absent (R49); saturates. -/
def LEAT_MISS.TICK_MISS : Fld := ⟨79, 0x110010, 0, 16, .ro, .const 0, 0, 1⟩
/-- spec/02, LEAT_MISS, bits [31:16]: Per-cycle copies discarded or absent; saturates. -/
def LEAT_MISS.CYCLE_MISS : Fld := ⟨80, 0x110010, 16, 16, .ro, .const 0, 0, 1⟩
/-- spec/02, LEAT_LAST_COPY, bits [12:0]: Size of the last per-tick copy in 4-byte words, at most 6,144. -/
def LEAT_LAST_COPY.TICK_WORDS : Fld := ⟨81, 0x110014, 0, 13, .ro, .const 0, 0, 1⟩
/-- spec/02, LEAT_LAST_COPY, bits [27:16]: Size of the last per-cycle copy in KiB, rounded up, at most 2,048. -/
def LEAT_LAST_COPY.CYCLE_KIB : Fld := ⟨82, 0x110014, 16, 12, .ro, .const 0, 0, 1⟩
/-- spec/03, CFL_STATUS, bits [7:0]: Fusion frame in ms, from the layout. -/
def CFL_STATUS.FRAME_MS : Fld := ⟨83, 0x200000, 0, 8, .ro, .const 0xa, 0, 1⟩
/-- spec/03, CFL_STATUS, bits [8:8]: The last frame closed short (R92). -/
def CFL_STATUS.SEAL_SHORT : Fld := ⟨84, 0x200000, 8, 1, .ro, .const 0, 0, 1⟩
/-- spec/03, CFL_STATUS, bits [9:9]: The last frame used assumed roll and pitch (R110). -/
def CFL_STATUS.ATT_ASSUMED : Fld := ⟨85, 0x200000, 9, 1, .ro, .const 0, 0, 1⟩
/-- spec/03, CFL_STATUS, bits [10:10]: A replay is in progress. -/
def CFL_STATUS.REPLAYING : Fld := ⟨86, 0x200000, 10, 1, .ro, .const 0, 0, 1⟩
/-- spec/03, CFL_STATUS, bits [22:16]: Defined sources, 0 to 64. -/
def CFL_STATUS.SOURCES : Fld := ⟨87, 0x200000, 16, 7, .ro, .const 0, 0, 1⟩
/-- spec/03, CFL_CFG, bits [4:0]: Admission window in units of 10 µs, 0 to 20 (R90). -/
def CFL_CFG.ADMIT : Fld := ⟨88, 0x200004, 0, 5, .ly, .const 0xa, 0, 1⟩
/-- spec/03, CFL_EXTRAP_MAX, bits [10:0]: Milliseconds, 10 to 1,000 (R102). -/
def CFL_EXTRAP_MAX.EXTRAP_MAX : Fld := ⟨89, 0x200008, 0, 11, .tx, .const 0xc8, 0, 1⟩
/-- spec/03, CFL_ENABLE_LO, bits [31:0]: Bit n of LO is source n, bit n of HI is source 32 + n; 0 stops contributions (R99). -/
def CFL_ENABLE_LO.ENABLE : Fld := ⟨90, 0x20000c, 0, 32, .tx, .const 0xffffffff, 0, 1⟩
/-- spec/03, CFL_ENABLE_HI, bits [31:0]: Bit n of LO is source n, bit n of HI is source 32 + n; 0 stops contributions (R99). -/
def CFL_ENABLE_HI.ENABLE : Fld := ⟨91, 0x200010, 0, 32, .tx, .const 0xffffffff, 0, 1⟩
/-- spec/03, CFL_ADRIFT_LO, bits [31:0]: Bit set: source in CLOCK_ADRIFT. -/
def CFL_ADRIFT_LO.ADRIFT : Fld := ⟨92, 0x200014, 0, 32, .ro, .const 0, 0, 1⟩
/-- spec/03, CFL_ADRIFT_HI, bits [31:0]: Bit set: source in CLOCK_ADRIFT. -/
def CFL_ADRIFT_HI.ADRIFT : Fld := ⟨93, 0x200018, 0, 32, .ro, .const 0, 0, 1⟩
/-- spec/03, CFL_LATE_REPLAYED, bits [31:0]: Late samples folded in (R106); wraps. -/
def CFL_LATE_REPLAYED.COUNT : Fld := ⟨94, 0x20001c, 0, 32, .ro, .const 0, 0, 1⟩
/-- spec/03, CFL_LATE_DROPPED, bits [31:0]: Late samples discarded (R106, R107); wraps. -/
def CFL_LATE_DROPPED.COUNT : Fld := ⟨95, 0x200020, 0, 32, .ro, .const 0, 0, 1⟩
/-- spec/03, CFL_UNUSABLE, bits [31:0]: Contributions beyond EXTRAP_MAX (R102); wraps. -/
def CFL_UNUSABLE.COUNT : Fld := ⟨96, 0x200024, 0, 32, .ro, .const 0, 0, 1⟩
/-- spec/03, CFL_SEAL_SHORT, bits [31:0]: Frames closed short (R92); wraps. -/
def CFL_SEAL_SHORT.COUNT : Fld := ⟨97, 0x200028, 0, 32, .ro, .const 0, 0, 1⟩
/-- spec/03, CFL_MEAS_OVF, bits [31:0]: Contributions withheld by the scalar limit (R104); wraps. -/
def CFL_MEAS_OVF.COUNT : Fld := ⟨98, 0x20002c, 0, 32, .ro, .const 0, 0, 1⟩
/-- spec/03, CFL_EVENT, bits [0:0]: A source entered CLOCK_ADRIFT. -/
def CFL_EVENT.ADRIFT_ENTER : Fld := ⟨99, 0x200030, 0, 1, .w1c, .const 0, 0, 1⟩
/-- spec/03, CFL_EVENT, bits [1:1]: A source became PAIRED. -/
def CFL_EVENT.REPAIRED : Fld := ⟨100, 0x200030, 1, 1, .w1c, .const 0, 0, 1⟩
/-- spec/03, CFL_EVENT, bits [2:2]: A late sample was discarded. -/
def CFL_EVENT.LATE_DROP : Fld := ⟨101, 0x200030, 2, 1, .w1c, .const 0, 0, 1⟩
/-- spec/03, CFL_EVENT, bits [3:3]: A frame closed short. -/
def CFL_EVENT.SEAL_SHORT : Fld := ⟨102, 0x200030, 3, 1, .w1c, .const 0, 0, 1⟩
/-- spec/03, CFL_EVENT, bits [4:4]: A frame used assumed roll and pitch. -/
def CFL_EVENT.ATT_ASSUMED : Fld := ⟨103, 0x200030, 4, 1, .w1c, .const 0, 0, 1⟩
/-- spec/03, CFL_EVENT, bits [5:5]: Contributions were withheld. -/
def CFL_EVENT.MEAS_OVF : Fld := ⟨104, 0x200030, 5, 1, .w1c, .const 0, 0, 1⟩
/-- spec/03, CFL_SRC, bits [7:0]; 64 entries: Table 03-1; 0 undefined. -/
def CFL_SRC.KIND : Fld := ⟨105, 0x210000, 0, 8, .ly, .const 0, 64, 64⟩
/-- spec/03, CFL_SRC, bits [15:8]; 64 entries: Receiving die ID: 3, 4, 5 or 6. -/
def CFL_SRC.DIE : Fld := ⟨106, 0x210000, 8, 8, .ly, .const 0, 64, 64⟩
/-- spec/03, CFL_SRC, bits [23:16]; 64 entries: 0 baseband, 1 UART, 2 CAN FD, 3 IEC 61162-450, 4 UDP sensor stream, 5 analog. -/
def CFL_SRC.PORT_TYPE : Fld := ⟨107, 0x210000, 16, 8, .ly, .const 0, 64, 64⟩
/-- spec/03, CFL_SRC, bits [31:24]; 64 entries: Port within the die. -/
def CFL_SRC.PORT_INDEX : Fld := ⟨108, 0x210000, 24, 8, .ly, .const 0, 64, 64⟩
/-- spec/03, CFL_SRC, bits [7:0]; 64 entries: 0 FIXED, 1 SOURCE_CLOCK, 2 PTP, 3 SENTENCE_UTC, 4 EPOCH. -/
def CFL_SRC.STAMP : Fld := ⟨109, 0x210004, 0, 8, .ly, .const 0, 64, 64⟩
/-- spec/03, CFL_SRC, bits [15:8]; 64 entries: [0] 0 FORWARD, 1 HOME; [1] 0 LINEAR, 1 HOLD; [7:2] reserved. -/
def CFL_SRC.ALIGN : Fld := ⟨110, 0x210004, 8, 8, .ly, .const 0, 64, 64⟩
/-- spec/03, CFL_SRC, bits [23:16]; 64 entries: Mounting table index, 0 to 63. -/
def CFL_SRC.MOUNT : Fld := ⟨111, 0x210004, 16, 8, .ly, .const 0, 64, 64⟩
/-- spec/03, CFL_SRC, bits [31:24]; 64 entries: Scalars per contribution, 1 to 128. -/
def CFL_SRC.MAX_SCALARS : Fld := ⟨112, 0x210004, 24, 8, .ly, .const 0, 64, 64⟩
/-- spec/03, CFL_SRC, bits [31:0]; 64 entries: ns, unsigned. -/
def CFL_SRC.LATENCY : Fld := ⟨113, 0x210008, 0, 32, .ly, .const 0, 64, 64⟩
/-- spec/03, CFL_SRC, bits [31:0]; 64 entries: Source tick in ps (SOURCE_CLOCK); 1,000 for PTP. -/
def CFL_SRC.TICK_PS : Fld := ⟨114, 0x21000c, 0, 32, .ly, .const 0, 64, 64⟩
/-- spec/03, CFL_SRC, bits [31:0]; 64 entries: CAN identifier, stream ID, sentence formatter or analog channel. -/
def CFL_SRC.MATCH : Fld := ⟨115, 0x210010, 0, 32, .ly, .const 0, 64, 64⟩
/-- spec/03, CFL_SRC, bits [31:0]; 64 entries: Bits of MATCH compared. -/
def CFL_SRC.MATCH_MASK : Fld := ⟨116, 0x210014, 0, 32, .ly, .const 0, 64, 64⟩
/-- spec/03, CFL_SRC, bits [15:0]; 64 entries: Nominal sample period. -/
def CFL_SRC.PERIOD_MS : Fld := ⟨117, 0x210018, 0, 16, .ly, .const 0, 64, 64⟩
/-- spec/03, CFL_SRC, bits [31:16]; 64 entries: No sample for this long: source reported SILENT. -/
def CFL_SRC.SILENT_MS : Fld := ⟨118, 0x210018, 16, 16, .ly, .const 0, 64, 64⟩
/-- spec/03, CFL_SRC, bits [31:0]; 64 entries: binary32; used by the estimator to weight a contribution by its span. -/
def CFL_SRC.SPAN_SIGMA : Fld := ⟨119, 0x21001c, 0, 32, .ly, .const 0, 64, 64⟩
/-- spec/03, CFL_SRC, bits [31:0]; 64 entries: . -/
def CFL_SRC.UNIT_MAP0 : Fld := ⟨120, 0x210020, 0, 32, .ly, .const 0, 64, 64⟩
/-- spec/03, CFL_SRC, bits [31:0]; 64 entries: . -/
def CFL_SRC.UNIT_MAP1 : Fld := ⟨121, 0x210024, 0, 32, .ly, .const 0, 64, 64⟩
/-- spec/03, CFL_SRC, bits [31:0]; 64 entries: . -/
def CFL_SRC.UNIT_MAP2 : Fld := ⟨122, 0x210028, 0, 32, .ly, .const 0, 64, 64⟩
/-- spec/03, CFL_SRC, bits [31:0]; 64 entries: . -/
def CFL_SRC.UNIT_MAP3 : Fld := ⟨123, 0x21002c, 0, 32, .ly, .const 0, 64, 64⟩
/-- spec/03, CFL_SRC, bits [31:0]; 64 entries: . -/
def CFL_SRC.UNIT_MAP4 : Fld := ⟨124, 0x210030, 0, 32, .ly, .const 0, 64, 64⟩
/-- spec/03, CFL_SRC, bits [31:0]; 64 entries: . -/
def CFL_SRC.UNIT_MAP5 : Fld := ⟨125, 0x210034, 0, 32, .ly, .const 0, 64, 64⟩
/-- spec/03, CFL_SRC, bits [31:0]; 64 entries: . -/
def CFL_SRC.UNIT_MAP6 : Fld := ⟨126, 0x210038, 0, 32, .ly, .const 0, 64, 64⟩
/-- spec/03, CFL_SRC, bits [31:0]; 64 entries: . -/
def CFL_SRC.UNIT_MAP7 : Fld := ⟨127, 0x21003c, 0, 32, .ly, .const 0, 64, 64⟩
/-- spec/03, CFL_MOUNT, bits [63:0]; 64 entries: . -/
def CFL_MOUNT.Q_W : Fld := ⟨128, 0x220000, 0, 64, .ly, .const 0x3ff0000000000000, 64, 64⟩
/-- spec/03, CFL_MOUNT, bits [63:0]; 64 entries: . -/
def CFL_MOUNT.Q_X : Fld := ⟨129, 0x220008, 0, 64, .ly, .const 0, 64, 64⟩
/-- spec/03, CFL_MOUNT, bits [63:0]; 64 entries: . -/
def CFL_MOUNT.Q_Y : Fld := ⟨130, 0x220010, 0, 64, .ly, .const 0, 64, 64⟩
/-- spec/03, CFL_MOUNT, bits [63:0]; 64 entries: . -/
def CFL_MOUNT.Q_Z : Fld := ⟨131, 0x220018, 0, 64, .ly, .const 0, 64, 64⟩
/-- spec/03, CFL_MOUNT, bits [63:0]; 64 entries: . -/
def CFL_MOUNT.LEVER_X : Fld := ⟨132, 0x220020, 0, 64, .ly, .const 0, 64, 64⟩
/-- spec/03, CFL_MOUNT, bits [63:0]; 64 entries: . -/
def CFL_MOUNT.LEVER_Y : Fld := ⟨133, 0x220028, 0, 64, .ly, .const 0, 64, 64⟩
/-- spec/03, CFL_MOUNT, bits [63:0]; 64 entries: . -/
def CFL_MOUNT.LEVER_Z : Fld := ⟨134, 0x220030, 0, 64, .ly, .const 0, 64, 64⟩
/-- spec/03, CFL_MOUNT, bits [7:0]; 64 entries: [0] in attitude order, [1] in heading order; [7:2] reserved. -/
def CFL_MOUNT.ROLE : Fld := ⟨135, 0x220038, 0, 8, .ly, .const 0, 64, 64⟩
/-- spec/03, CFL_MOUNT, bits [15:8]; 64 entries: Position in that order, 0 to 2. -/
def CFL_MOUNT.ORDER : Fld := ⟨136, 0x220038, 8, 8, .ly, .const 0, 64, 64⟩
/-- spec/03, CFL_SST, bits [2:0]; 64 entries: 0 UNDEFINED, 1 FIXED, 2 PAIRING, 3 PAIRED, 4 CLOCK_ADRIFT, 5 SILENT. -/
def CFL_SST.STATE : Fld := ⟨137, 0x230000, 0, 3, .ro, .const 0, 32, 64⟩
/-- spec/03, CFL_SST, bits [3:3]; 64 entries: Bit clear in CFL_ENABLE. -/
def CFL_SST.DISABLED : Fld := ⟨138, 0x230000, 3, 1, .ro, .const 0, 32, 64⟩
/-- spec/03, CFL_SST, bits [9:4]; 64 entries: Samples toward pairing, 0 to 32. -/
def CFL_SST.PAIR_COUNT : Fld := ⟨139, 0x230000, 4, 6, .ro, .const 0, 32, 64⟩
/-- spec/03, CFL_SST, bits [15:0]; 64 entries: Samples admitted; wraps. -/
def CFL_SST.ADMITTED : Fld := ⟨140, 0x230004, 0, 16, .ro, .const 0, 32, 64⟩
/-- spec/03, CFL_SST, bits [31:16]; 64 entries: Samples discarded in quarantine; wraps. -/
def CFL_SST.DISCARDED : Fld := ⟨141, 0x230004, 16, 16, .ro, .const 0, 32, 64⟩
/-- spec/03, CFL_SST, bits [63:0]; 64 entries: o in ns, signed. -/
def CFL_SST.OFFSET : Fld := ⟨142, 0x230008, 0, 64, .ro, .const 0, 32, 64⟩
/-- spec/03, CFL_SST, bits [31:0]; 64 entries: d in units of 0.001 ppm, signed. -/
def CFL_SST.DRIFT : Fld := ⟨143, 0x230010, 0, 32, .ro, .const 0, 32, 64⟩
/-- spec/03, CFL_SST, bits [31:0]; 64 entries: eps of the last sample in ns, signed, saturating. -/
def CFL_SST.ERROR : Fld := ⟨144, 0x230014, 0, 32, .ro, .const 0, 32, 64⟩
/-- spec/03, CFL_SST, bits [31:0]; 64 entries: Span of the last contribution in µs; saturates. -/
def CFL_SST.SPAN : Fld := ⟨145, 0x230018, 0, 32, .ro, .const 0, 32, 64⟩
/-- spec/03, CFL_SST, bits [31:0]; 64 entries: Low 32 bits of the last mapped time in ns. -/
def CFL_SST.MAPPED_LO : Fld := ⟨146, 0x23001c, 0, 32, .ro, .const 0, 32, 64⟩
/-- spec/04, EST_STATUS, bits [1:0]: 0 INIT, 1 CONVERGING, 2 CONVERGED. -/
def EST_STATUS.PHASE : Fld := ⟨147, 0x240000, 0, 2, .ro, .const 0, 0, 1⟩
/-- spec/04, EST_STATUS, bits [2:2]: R128. -/
def EST_STATUS.DEAD_RECKONING : Fld := ⟨148, 0x240000, 2, 1, .ro, .const 0, 0, 1⟩
/-- spec/04, EST_STATUS, bits [3:3]: R121. -/
def EST_STATUS.HEADING_FIXED : Fld := ⟨149, 0x240000, 3, 1, .ro, .const 0, 0, 1⟩
/-- spec/04, EST_STATUS, bits [4:4]: R128. -/
def EST_STATUS.POS_REACQUIRE : Fld := ⟨150, 0x240000, 4, 1, .ro, .const 0, 0, 1⟩
/-- spec/04, EST_STATUS, bits [5:5]: R115. -/
def EST_STATUS.DATUM_FAR : Fld := ⟨151, 0x240000, 5, 1, .ro, .const 0, 0, 1⟩
/-- spec/04, EST_STATUS, bits [6:6]: R118. -/
def EST_STATUS.WAVE_CLAMPED : Fld := ⟨152, 0x240000, 6, 1, .ro, .const 0, 0, 1⟩
/-- spec/04, EST_STATUS, bits [7:7]: A replay is in progress. -/
def EST_STATUS.REPLAYING : Fld := ⟨153, 0x240000, 7, 1, .ro, .const 0, 0, 1⟩
/-- spec/04, EST_STATUS, bits [15:8]: Frames the replay still has to re-run. -/
def EST_STATUS.REPLAY_LEFT : Fld := ⟨154, 0x240000, 8, 8, .ro, .const 0, 0, 1⟩
/-- spec/04, EST_STATUS, bits [23:16]: Depth of the last finished replay. -/
def EST_STATUS.DEPTH : Fld := ⟨155, 0x240000, 16, 8, .ro, .const 0, 0, 1⟩
/-- spec/04, EST_CTRL, bits [0:0]: 1: return to INIT at the commit boundary (R135); reads 0. -/
def EST_CTRL.REINIT : Fld := ⟨156, 0x240004, 0, 1, .tx, .const 0, 0, 1⟩
/-- spec/04, EST_CTRL, bits [1:1]: 1: move the datum at the commit boundary (R115); reads 0. -/
def EST_CTRL.REDATUM : Fld := ⟨157, 0x240004, 1, 1, .tx, .const 0, 0, 1⟩
/-- spec/04, EST_TIMING, bits [8:0]: B, 0 to 256 (R129). -/
def EST_TIMING.BUDGET : Fld := ⟨158, 0x240008, 0, 9, .ly, .const 0, 0, 1⟩
/-- spec/04, EST_TIMING, bits [22:16]: R131; 19 to 64 once a layout is applied. -/
def EST_TIMING.REPLAY_STEPS : Fld := ⟨159, 0x240008, 16, 7, .ly, .const 0, 0, 1⟩
/-- spec/04, EST_GATE, bits [7:0]: Units of 0.1, 20 to 100 (2.0 to 10.0). -/
def EST_GATE.GATE : Fld := ⟨160, 0x24000c, 0, 8, .tx, .const 0x28, 0, 1⟩
/-- spec/04, EST_GATE, bits [15:8]: Frames of 64, 4 to 64. -/
def EST_GATE.REJECT_EXCL : Fld := ⟨161, 0x24000c, 8, 8, .tx, .const 0x14, 0, 1⟩
/-- spec/04, EST_GATE, bits [23:16]: Frames, 16 to 255. -/
def EST_GATE.RETURN_RUN : Fld := ⟨162, 0x24000c, 16, 8, .tx, .const 0x40, 0, 1⟩
/-- spec/04, EST_POSLOST, bits [15:0]: Frames, 10 to 10,000. -/
def EST_POSLOST.POS_LOST_FRAMES : Fld := ⟨163, 0x240010, 0, 16, .tx, .const 0x32, 0, 1⟩
/-- spec/04, EST_WAVE, bits [7:0]: Units of 0.01 rad/s, 10 to 200. -/
def EST_WAVE.OMEGA_MIN : Fld := ⟨164, 0x240014, 0, 8, .tx, .const 0x1e, 0, 1⟩
/-- spec/04, EST_WAVE, bits [15:8]: Units of 0.01 rad/s, above OMEGA_MIN, up to 250. -/
def EST_WAVE.OMEGA_MAX : Fld := ⟨165, 0x240014, 8, 8, .tx, .const 0x82, 0, 1⟩
/-- spec/04, EST_WAVE, bits [23:16]: Units of 0.01, 1 to 50. -/
def EST_WAVE.ZETA : Fld := ⟨166, 0x240014, 16, 8, .tx, .const 0xa, 0, 1⟩
/-- spec/04, EST_WAVE, bits [31:24]: Seconds, 30 to 255. -/
def EST_WAVE.WAVE_WIN : Fld := ⟨167, 0x240014, 24, 8, .tx, .const 0x78, 0, 1⟩
/-- spec/04, EST_BIAS_TC, bits [15:0]: Bias time constant in s, 100 to 10,000. -/
def EST_BIAS_TC.T_B : Fld := ⟨168, 0x240018, 0, 16, .tx, .const 0x3e8, 0, 1⟩
/-- spec/04, EST_CONV, bits [7:0]: Units of 0.1 m. -/
def EST_CONV.CONV_POS : Fld := ⟨169, 0x24001c, 0, 8, .tx, .const 0xa, 0, 1⟩
/-- spec/04, EST_CONV, bits [15:8]: Units of 0.01°. -/
def EST_CONV.CONV_HDG : Fld := ⟨170, 0x24001c, 8, 8, .tx, .const 0x32, 0, 1⟩
/-- spec/04, EST_CONV, bits [23:16]: Units of 10 kN. -/
def EST_CONV.CONV_BIAS : Fld := ⟨171, 0x24001c, 16, 8, .tx, .const 5, 0, 1⟩
/-- spec/04, EST_CONV, bits [31:24]: Seconds. -/
def EST_CONV.CONV_HOLD : Fld := ⟨172, 0x24001c, 24, 8, .tx, .const 0x1e, 0, 1⟩
/-- spec/04, EST_GNSS, bits [7:0]: Units of 0.1, 15 to 100. -/
def EST_GNSS.FIX_RATIO : Fld := ⟨173, 0x240020, 0, 8, .tx, .const 0x1e, 0, 1⟩
/-- spec/04, EST_GNSS, bits [15:8]: Degrees, 0 to 30. -/
def EST_GNSS.ELEV_MASK : Fld := ⟨174, 0x240020, 8, 8, .tx, .const 0xa, 0, 1⟩
/-- spec/04, EST_DATUM_LAT, bits [63:0]: Datum latitude, longitude in degrees, binary64; pairs under R11. -/
def EST_DATUM_LAT.DEG : Fld := ⟨175, 0x240024, 0, 64, .ro, .const 0, 0, 1⟩
/-- spec/04, EST_DATUM_LON, bits [63:0]: Datum latitude, longitude in degrees, binary64; pairs under R11. -/
def EST_DATUM_LON.DEG : Fld := ⟨176, 0x24002c, 0, 64, .ro, .const 0, 0, 1⟩
/-- spec/04, EST_DATUM_ID, bits [31:0]: Datum moves since the lane started. -/
def EST_DATUM_ID.COUNT : Fld := ⟨177, 0x240034, 0, 32, .ro, .const 0, 0, 1⟩
/-- spec/04, EST_FUSED, bits [31:0]: Scalars applied; wraps. -/
def EST_FUSED.V : Fld := ⟨178, 0x240038, 0, 32, .ro, .const 0, 0, 1⟩
/-- spec/04, EST_REJECTED, bits [31:0]: Scalars rejected (R126); wraps. -/
def EST_REJECTED.V : Fld := ⟨179, 0x24003c, 0, 32, .ro, .const 0, 0, 1⟩
/-- spec/04, EST_REPLAYS, bits [31:0]: Replays finished; wraps. -/
def EST_REPLAYS.V : Fld := ⟨180, 0x240040, 0, 32, .ro, .const 0, 0, 1⟩
/-- spec/04, EST_REPLAY_ABANDONED, bits [31:0]: Replays abandoned (R133); wraps. -/
def EST_REPLAY_ABANDONED.V : Fld := ⟨181, 0x240044, 0, 32, .ro, .const 0, 0, 1⟩
/-- spec/04, EST_EVENT, bits [0:0]: Entered CONVERGED. -/
def EST_EVENT.CONV_GAINED : Fld := ⟨182, 0x240048, 0, 1, .w1c, .const 0, 0, 1⟩
/-- spec/04, EST_EVENT, bits [1:1]: Left CONVERGED. -/
def EST_EVENT.CONV_LOST : Fld := ⟨183, 0x240048, 1, 1, .w1c, .const 0, 0, 1⟩
/-- spec/04, EST_EVENT, bits [2:2]: DEAD_RECKONING set. -/
def EST_EVENT.DR_ENTER : Fld := ⟨184, 0x240048, 2, 1, .w1c, .const 0, 0, 1⟩
/-- spec/04, EST_EVENT, bits [3:3]: DEAD_RECKONING cleared. -/
def EST_EVENT.DR_EXIT : Fld := ⟨185, 0x240048, 3, 1, .w1c, .const 0, 0, 1⟩
/-- spec/04, EST_EVENT, bits [4:4]: A source became EXCLUDED. -/
def EST_EVENT.SRC_EXCLUDED : Fld := ⟨186, 0x240048, 4, 1, .w1c, .const 0, 0, 1⟩
/-- spec/04, EST_EVENT, bits [5:5]: A source returned from EXCLUDED. -/
def EST_EVENT.SRC_RETURNED : Fld := ⟨187, 0x240048, 5, 1, .w1c, .const 0, 0, 1⟩
/-- spec/04, EST_EVENT, bits [6:6]: Baseline fixed. -/
def EST_EVENT.FIX_GAINED : Fld := ⟨188, 0x240048, 6, 1, .w1c, .const 0, 0, 1⟩
/-- spec/04, EST_EVENT, bits [7:7]: Baseline fix lost. -/
def EST_EVENT.FIX_LOST : Fld := ⟨189, 0x240048, 7, 1, .w1c, .const 0, 0, 1⟩
/-- spec/04, EST_EVENT, bits [8:8]: Datum moved. -/
def EST_EVENT.REDATUM : Fld := ⟨190, 0x240048, 8, 1, .w1c, .const 0, 0, 1⟩
/-- spec/04, EST_EVENT, bits [9:9]: R133. -/
def EST_EVENT.REPLAY_ABANDON : Fld := ⟨191, 0x240048, 9, 1, .w1c, .const 0, 0, 1⟩
/-- spec/04, EST_EVENT, bits [10:10]: R128 inflation applied. -/
def EST_EVENT.POS_REACQUIRE : Fld := ⟨192, 0x240048, 10, 1, .w1c, .const 0, 0, 1⟩
/-- spec/04, EST_SNAP, bits [0:0]: 1: freeze block 0x027 at the last frame; 0: resume updating at each frame. -/
def EST_SNAP.FREEZE : Fld := ⟨193, 0x24004c, 0, 1, .wo, .const 0, 0, 1⟩
/-- spec/04, EST_SRC, bits [31:0]; 64 entries: binary32. GNSS: pseudorange (m); POSITION, TAUT_WIRE, RANGE_BEARING: per axis (m); HEADING: heading (°); ATTITUDE: yaw rate (°/s). -/
def EST_SRC.SIGMA_A : Fld := ⟨194, 0x260000, 0, 32, .tx, .const 0, 32, 64⟩
/-- spec/04, EST_SRC, bits [31:0]; 64 entries: binary32. GNSS: range rate (m/s); otherwise unused. -/
def EST_SRC.SIGMA_B : Fld := ⟨195, 0x260004, 0, 32, .tx, .const 0, 32, 64⟩
/-- spec/04, EST_SRC, bits [31:0]; 64 entries: binary32. Higher-indexed GNSS source: baseline heading (°); otherwise unused. -/
def EST_SRC.SIGMA_C : Fld := ⟨196, 0x260008, 0, 32, .tx, .const 0, 32, 64⟩
/-- spec/04, EST_SRC, bits [31:0]; 64 entries: binary32, 0 to 1. -/
def EST_SRC.W_BASE : Fld := ⟨197, 0x26000c, 0, 32, .tx, .const 0, 32, 64⟩
/-- spec/04, EST_SRC, bits [31:0]; 64 entries: binary32, 1/16 to 1 (R127). -/
def EST_SRC.W_DYN : Fld := ⟨198, 0x260010, 0, 32, .ro, .const 0x3f800000, 32, 64⟩
/-- spec/04, EST_SRC, bits [7:0]; 64 entries: 0 NOT_USED, 1 FUSED, 2 EXCLUDED, 3 AWAIT_ZERO. -/
def EST_SRC.STATE : Fld := ⟨199, 0x260014, 0, 8, .ro, .const 0, 32, 64⟩
/-- spec/04, EST_SRC, bits [15:8]; 64 entries: Frames rejected among the last 64. -/
def EST_SRC.REJ64 : Fld := ⟨200, 0x260014, 8, 8, .ro, .const 0, 32, 64⟩
/-- spec/05, SP_STATUS, bits [2:0]: Table 05-1. -/
def SP_STATUS.MODE : Fld := ⟨201, 0x280000, 0, 3, .ro, .const 0, 0, 1⟩
/-- spec/05, SP_STATUS, bits [3:3]: R153. -/
def SP_STATUS.RAMP_LIMITED : Fld := ⟨202, 0x280000, 3, 1, .ro, .const 0, 0, 1⟩
/-- spec/05, SP_STATUS, bits [4:4]: R141. -/
def SP_STATUS.EST_DEGRADED : Fld := ⟨203, 0x280000, 4, 1, .ro, .const 0, 0, 1⟩
/-- spec/05, SP_STATUS, bits [5:5]: R148. -/
def SP_STATUS.JOY_LOST : Fld := ⟨204, 0x280000, 5, 1, .ro, .const 0, 0, 1⟩
/-- spec/05, SP_STATUS, bits [6:6]: R152. -/
def SP_STATUS.RAMP_OVERLIMIT : Fld := ⟨205, 0x280000, 6, 1, .ro, .const 0, 0, 1⟩
/-- spec/05, SP_STATUS, bits [7:7]: TRACK dwell running. -/
def SP_STATUS.DWELLING : Fld := ⟨206, 0x280000, 7, 1, .ro, .const 0, 0, 1⟩
/-- spec/05, SP_STATUS, bits [15:8]: Waypoint that ends the current leg. -/
def SP_STATUS.WP_INDEX : Fld := ⟨207, 0x280000, 8, 8, .ro, .const 0, 0, 1⟩
/-- spec/05, SP_STATUS, bits [19:16]: Session slot in command, 0 to 7; 0xF vacant. -/
def SP_STATUS.CMD_SLOT : Fld := ⟨208, 0x280000, 16, 4, .ro, .const 0xf, 0, 1⟩
/-- spec/05, SP_CFG, bits [7:0]: Units of 10 ms, 10 to 255. -/
def SP_CFG.JOY_TIMEOUT : Fld := ⟨209, 0x280004, 0, 8, .tx, .const 0x32, 0, 1⟩
/-- spec/05, SP_CFG, bits [15:8]: Degrees, 1 to 90. -/
def SP_CFG.TRACK_TURN_MAX : Fld := ⟨210, 0x280004, 8, 8, .tx, .const 0xa, 0, 1⟩
/-- spec/05, SP_CFG, bits [23:16]: Units of 0.1°, 5 to 200. -/
def SP_CFG.WV_DEADBAND : Fld := ⟨211, 0x280004, 16, 8, .tx, .const 0x14, 0, 1⟩
/-- spec/05, SP_CFG, bits [31:24]: Units of 10 s, 1 to 255. -/
def SP_CFG.WV_TC : Fld := ⟨212, 0x280004, 24, 8, .tx, .const 0xc, 0, 1⟩
/-- spec/05, SP_CFG2, bits [9:0]: Metres, 1 to 1,000. -/
def SP_CFG2.MOVE_MAX : Fld := ⟨213, 0x280008, 0, 10, .tx, .const 0x32, 0, 1⟩
/-- spec/05, SP_CFG2, bits [23:16]: Units of 0.01 m/s, 5 to 255. -/
def SP_CFG2.TRACK_VMAX : Fld := ⟨214, 0x280008, 16, 8, .tx, .const 0x64, 0, 1⟩
/-- spec/05, SP_EVENT, bits [0:0]: The mode changed. -/
def SP_EVENT.MODE_CHANGED : Fld := ⟨215, 0x28000c, 0, 1, .w1c, .const 0, 0, 1⟩
/-- spec/05, SP_EVENT, bits [1:1]: Command passed to another session. -/
def SP_EVENT.CMD_TAKEN : Fld := ⟨216, 0x28000c, 1, 1, .w1c, .const 0, 0, 1⟩
/-- spec/05, SP_EVENT, bits [2:2]: R141. -/
def SP_EVENT.EST_DEGRADED : Fld := ⟨217, 0x28000c, 2, 1, .w1c, .const 0, 0, 1⟩
/-- spec/05, SP_EVENT, bits [3:3]: R148. -/
def SP_EVENT.JOY_LOST : Fld := ⟨218, 0x28000c, 3, 1, .w1c, .const 0, 0, 1⟩
/-- spec/05, SP_EVENT, bits [4:4]: R158. -/
def SP_EVENT.TRACK_DONE : Fld := ⟨219, 0x28000c, 4, 1, .w1c, .const 0, 0, 1⟩
/-- spec/05, SP_EVENT, bits [5:5]: RAMP_LIMITED cleared. -/
def SP_EVENT.TARGET_REACHED : Fld := ⟨220, 0x28000c, 5, 1, .w1c, .const 0, 0, 1⟩
/-- spec/05, SP_V_L, bits [31:0]: m/s, 0.05 to 3.0 (0.5). -/
def SP_V_L.V : Fld := ⟨221, 0x280010, 0, 32, .tx, .const 0x3f000000, 0, 1⟩
/-- spec/05, SP_A_L, bits [31:0]: m/s², 0.005 to 0.5 (0.05). -/
def SP_A_L.V : Fld := ⟨222, 0x280014, 0, 32, .tx, .const 0x3d4ccccd, 0, 1⟩
/-- spec/05, SP_J_L, bits [31:0]: m/s³, 0.001 to 0.5 (0.02). -/
def SP_J_L.V : Fld := ⟨223, 0x280018, 0, 32, .tx, .const 0x3ca3d70a, 0, 1⟩
/-- spec/05, SP_V_H, bits [31:0]: °/s, 0.1 to 10 (3.0). -/
def SP_V_H.V : Fld := ⟨224, 0x28001c, 0, 32, .tx, .const 0x40400000, 0, 1⟩
/-- spec/05, SP_A_H, bits [31:0]: °/s², 0.01 to 5 (0.5). -/
def SP_A_H.V : Fld := ⟨225, 0x280020, 0, 32, .tx, .const 0x3f000000, 0, 1⟩
/-- spec/05, SP_J_H, bits [31:0]: °/s³, 0.01 to 5 (0.2). -/
def SP_J_H.V : Fld := ⟨226, 0x280024, 0, 32, .tx, .const 0x3e4ccccd, 0, 1⟩
/-- spec/05, SP_JOY_FX, bits [31:0]: kN at full surge deflection. -/
def SP_JOY_FX.V : Fld := ⟨227, 0x280028, 0, 32, .tx, .const 0, 0, 1⟩
/-- spec/05, SP_JOY_FY, bits [31:0]: kN at full sway deflection. -/
def SP_JOY_FY.V : Fld := ⟨228, 0x28002c, 0, 32, .tx, .const 0, 0, 1⟩
/-- spec/05, SP_JOY_MZ, bits [31:0]: kN·m at full yaw deflection. -/
def SP_JOY_MZ.V : Fld := ⟨229, 0x280030, 0, 32, .tx, .const 0, 0, 1⟩
/-- spec/05, SP_PIVOT_X, bits [31:0]: m, vessel frame. -/
def SP_PIVOT_X.V : Fld := ⟨230, 0x280034, 0, 32, .tx, .const 0, 0, 1⟩
/-- spec/05, SP_PIVOT_Y, bits [31:0]: m, vessel frame. -/
def SP_PIVOT_Y.V : Fld := ⟨231, 0x280038, 0, 32, .tx, .const 0, 0, 1⟩
/-- spec/05, SP_WV_FMIN, bits [31:0]: kN, 1 to 1,000. -/
def SP_WV_FMIN.V : Fld := ⟨232, 0x28003c, 0, 32, .tx, .const 0, 0, 1⟩
/-- spec/05, SP_ACCEPTED, bits [31:0]: Commands ACCEPTED; wraps. -/
def SP_ACCEPTED.V : Fld := ⟨233, 0x280040, 0, 32, .ro, .const 0, 0, 1⟩
/-- spec/05, SP_REFUSED, bits [31:0]: Commands refused (R146); wraps. -/
def SP_REFUSED.V : Fld := ⟨234, 0x280044, 0, 32, .ro, .const 0, 0, 1⟩
/-- spec/05, SP_REF_N_REF, bits [63:0]: Table 05-5. -/
def SP_REF_N_REF.V : Fld := ⟨235, 0x290000, 0, 64, .ro, .const 0, 0, 1⟩
/-- spec/05, SP_REF_E_REF, bits [63:0]: Table 05-5. -/
def SP_REF_E_REF.V : Fld := ⟨236, 0x290008, 0, 64, .ro, .const 0, 0, 1⟩
/-- spec/05, SP_REF_PSI_REF, bits [63:0]: Table 05-5. -/
def SP_REF_PSI_REF.V : Fld := ⟨237, 0x290010, 0, 64, .ro, .const 0, 0, 1⟩
/-- spec/05, SP_REF_VN_REF, bits [63:0]: Table 05-5. -/
def SP_REF_VN_REF.V : Fld := ⟨238, 0x290018, 0, 64, .ro, .const 0, 0, 1⟩
/-- spec/05, SP_REF_VE_REF, bits [63:0]: Table 05-5. -/
def SP_REF_VE_REF.V : Fld := ⟨239, 0x290020, 0, 64, .ro, .const 0, 0, 1⟩
/-- spec/05, SP_REF_R_REF, bits [63:0]: Table 05-5. -/
def SP_REF_R_REF.V : Fld := ⟨240, 0x290028, 0, 64, .ro, .const 0, 0, 1⟩
/-- spec/05, SP_REF_N_TGT, bits [63:0]: Table 05-5. -/
def SP_REF_N_TGT.V : Fld := ⟨241, 0x290030, 0, 64, .ro, .const 0, 0, 1⟩
/-- spec/05, SP_REF_E_TGT, bits [63:0]: Table 05-5. -/
def SP_REF_E_TGT.V : Fld := ⟨242, 0x290038, 0, 64, .ro, .const 0, 0, 1⟩
/-- spec/05, SP_REF_PSI_TGT, bits [63:0]: Table 05-5. -/
def SP_REF_PSI_TGT.V : Fld := ⟨243, 0x290040, 0, 64, .ro, .const 0, 0, 1⟩
/-- spec/05, SP_WP, bits [63:0]; 64 entries: binary64, m from the datum. -/
def SP_WP.N : Fld := ⟨244, 0x2a0000, 0, 64, .ro, .const 0, 32, 64⟩
/-- spec/05, SP_WP, bits [63:0]; 64 entries: binary64, m from the datum. -/
def SP_WP.E : Fld := ⟨245, 0x2a0008, 0, 64, .ro, .const 0, 32, 64⟩
/-- spec/05, SP_WP, bits [31:0]; 64 entries: binary32, m/s, of the leg that ends here. -/
def SP_WP.SPEED : Fld := ⟨246, 0x2a0010, 0, 32, .ro, .const 0, 32, 64⟩
/-- spec/05, SP_WP, bits [31:0]; 64 entries: binary32, °; NaN: the leg's course. -/
def SP_WP.HDG : Fld := ⟨247, 0x2a0014, 0, 32, .ro, .const 0, 32, 64⟩
/-- spec/05, SP_WP, bits [15:0]; 64 entries: Seconds, 0 to 65,535. -/
def SP_WP.DWELL : Fld := ⟨248, 0x2a0018, 0, 16, .ro, .const 0, 32, 64⟩
/-- spec/05, SP_WP, bits [23:16]; 64 entries: [0] stop waypoint (R156), [1] passed, [7:2] reserved 0. -/
def SP_WP.FLAGS : Fld := ⟨249, 0x2a0018, 16, 8, .ro, .const 0, 32, 64⟩
/-- spec/06, ASM_STATUS, bits [2:0]: 0 ASM_OK, 1 ASM_SKIPPED, 2 ASM_NONFINITE, 3 ASM_BOUND_CROSSED, 4 ASM_UNWRITTEN. -/
def ASM_STATUS.RESULT : Fld := ⟨250, 0x2c0000, 0, 3, .ro, .const 1, 0, 1⟩
/-- spec/06, ASM_STATUS, bits [3:3]: A step-0 power slack exceeds 1 kW (R175). -/
def ASM_STATUS.POWER_SHORT : Fld := ⟨251, 0x2c0000, 3, 1, .ro, .const 0, 0, 1⟩
/-- spec/06, ASM_STATUS, bits [4:4]: Step-0 sector slack non-zero (R175). -/
def ASM_STATUS.SECTOR_SLACK : Fld := ⟨252, 0x2c0000, 4, 1, .ro, .const 0, 0, 1⟩
/-- spec/06, ASM_STATUS, bits [5:5]: R169 widened a bound this cycle. -/
def ASM_STATUS.REACH_WIDENED : Fld := ⟨253, 0x2c0000, 5, 1, .ro, .const 0, 0, 1⟩
/-- spec/06, ASM_STATUS, bits [6:6]: R177. -/
def ASM_STATUS.WIND_LOST : Fld := ⟨254, 0x2c0000, 6, 1, .ro, .const 0, 0, 1⟩
/-- spec/06, ASM_STATUS, bits [7:7]: R168 applied this cycle. -/
def ASM_STATUS.FROM_FEEDBACK : Fld := ⟨255, 0x2c0000, 7, 1, .ro, .const 0, 0, 1⟩
/-- spec/06, ASM_STATUS, bits [11:8]: Sections in the layout, 1 to 8. -/
def ASM_STATUS.SECTIONS : Fld := ⟨256, 0x2c0000, 8, 4, .ro, .const 0, 0, 1⟩
/-- spec/06, ASM_SIZE, bits [12:0]: n, up to 4,096. -/
def ASM_SIZE.NVARS : Fld := ⟨257, 0x2c0004, 0, 13, .ly, .const 0, 0, 1⟩
/-- spec/06, ASM_SIZE, bits [29:16]: m, up to 8,192. -/
def ASM_SIZE.NROWS : Fld := ⟨258, 0x2c0004, 16, 14, .ly, .const 0, 0, 1⟩
/-- spec/06, ASM_HORIZON, bits [7:0]: N, 4 to 128. -/
def ASM_HORIZON.STEPS : Fld := ⟨259, 0x2c0008, 0, 8, .ly, .const 0, 0, 1⟩
/-- spec/06, ASM_HORIZON, bits [15:8]: 0 to N (R174). -/
def ASM_HORIZON.LOAD_STEPS : Fld := ⟨260, 0x2c0008, 8, 8, .ly, .const 0, 0, 1⟩
/-- spec/06, ASM_HORIZON, bits [31:16]: Δ in ms, 100 to 5,000. -/
def ASM_HORIZON.STEP_MS : Fld := ⟨261, 0x2c0008, 16, 16, .ly, .const 0, 0, 1⟩
/-- spec/06, ASM_PROG, bits [15:0]: Program words. -/
def ASM_PROG.WORDS : Fld := ⟨262, 0x2c000c, 0, 16, .ly, .const 0, 0, 1⟩
/-- spec/06, ASM_PROG, bits [31:16]: ASM_BOUND in µs (R181). -/
def ASM_PROG.BOUND_US : Fld := ⟨263, 0x2c000c, 16, 16, .ly, .const 0, 0, 1⟩
/-- spec/06, ASM_FAIL, bits [3:0]: 0 P, 1 q, 2 A, 3 l, 4 u (R182). -/
def ASM_FAIL.ARRAY : Fld := ⟨264, 0x2c0010, 0, 4, .ro, .const 0, 0, 1⟩
/-- spec/06, ASM_FAIL, bits [27:4]: Slot or row index. -/
def ASM_FAIL.INDEX : Fld := ⟨265, 0x2c0010, 4, 24, .ro, .const 0, 0, 1⟩
/-- spec/06, ASM_THR_ENABLE, bits [31:0]: Bit i: thruster i may be used (R170). -/
def ASM_THR_ENABLE.ENABLE : Fld := ⟨266, 0x2c0014, 0, 32, .tx, .const 0xffffffff, 0, 1⟩
/-- spec/06, ASM_EVENT, bits [0:0]: A run ended with a status other than ASM_OK. -/
def ASM_EVENT.ASM_FAIL : Fld := ⟨267, 0x2c0018, 0, 1, .w1c, .const 0, 0, 1⟩
/-- spec/06, ASM_EVENT, bits [1:1]: POWER_SHORT set. -/
def ASM_EVENT.SHORT_SET : Fld := ⟨268, 0x2c0018, 1, 1, .w1c, .const 0, 0, 1⟩
/-- spec/06, ASM_EVENT, bits [2:2]: POWER_SHORT cleared. -/
def ASM_EVENT.SHORT_CLEAR : Fld := ⟨269, 0x2c0018, 2, 1, .w1c, .const 0, 0, 1⟩
/-- spec/06, ASM_EVENT, bits [3:3]: Sector slack used. -/
def ASM_EVENT.SECTOR_SLACK : Fld := ⟨270, 0x2c0018, 3, 1, .w1c, .const 0, 0, 1⟩
/-- spec/06, ASM_EVENT, bits [4:4]: R169. -/
def ASM_EVENT.REACH_WIDENED : Fld := ⟨271, 0x2c0018, 4, 1, .w1c, .const 0, 0, 1⟩
/-- spec/06, ASM_EVENT, bits [5:5]: R177. -/
def ASM_EVENT.WIND_LOST : Fld := ⟨272, 0x2c0018, 5, 1, .w1c, .const 0, 0, 1⟩
/-- spec/06, ASM_EVENT, bits [6:6]: A thruster's availability changed. -/
def ASM_EVENT.AVAIL_CHANGED : Fld := ⟨273, 0x2c0018, 6, 1, .w1c, .const 0, 0, 1⟩
/-- spec/06, ASM_EVENT, bits [7:7]: The power grouping changed. -/
def ASM_EVENT.TIE_CHANGED : Fld := ⟨274, 0x2c0018, 7, 1, .w1c, .const 0, 0, 1⟩
/-- spec/06, ASM_RUNS, bits [31:0]: Runs started; wraps. -/
def ASM_RUNS.V : Fld := ⟨275, 0x2c001c, 0, 32, .ro, .const 0, 0, 1⟩
/-- spec/06, ASM_FAILS, bits [31:0]: Runs not ASM_OK; wraps. -/
def ASM_FAILS.V : Fld := ⟨276, 0x2c0020, 0, 32, .ro, .const 0, 0, 1⟩
/-- spec/06, ASM_SHORT_CYCLES, bits [31:0]: Cycles with POWER_SHORT; wraps. -/
def ASM_SHORT_CYCLES.V : Fld := ⟨277, 0x2c0024, 0, 32, .ro, .const 0, 0, 1⟩
/-- spec/06, ASM_Q_N, bits [31:0]: State weights per unit² of Table 04-1, ≥ 0. -/
def ASM_Q_N.V : Fld := ⟨278, 0x2c0040, 0, 32, .tx, .const 0, 0, 1⟩
/-- spec/06, ASM_Q_E, bits [31:0]: State weights per unit² of Table 04-1, ≥ 0. -/
def ASM_Q_E.V : Fld := ⟨279, 0x2c0044, 0, 32, .tx, .const 0, 0, 1⟩
/-- spec/06, ASM_Q_PSI, bits [31:0]: State weights per unit² of Table 04-1, ≥ 0. -/
def ASM_Q_PSI.V : Fld := ⟨280, 0x2c0048, 0, 32, .tx, .const 0, 0, 1⟩
/-- spec/06, ASM_Q_U, bits [31:0]: State weights per unit² of Table 04-1, ≥ 0. -/
def ASM_Q_U.V : Fld := ⟨281, 0x2c004c, 0, 32, .tx, .const 0, 0, 1⟩
/-- spec/06, ASM_Q_V, bits [31:0]: State weights per unit² of Table 04-1, ≥ 0. -/
def ASM_Q_V.V : Fld := ⟨282, 0x2c0050, 0, 32, .tx, .const 0, 0, 1⟩
/-- spec/06, ASM_Q_R, bits [31:0]: State weights per unit² of Table 04-1, ≥ 0. -/
def ASM_Q_R.V : Fld := ⟨283, 0x2c0054, 0, 32, .tx, .const 0, 0, 1⟩
/-- spec/06, ASM_QN_SCALE, bits [31:0]: Terminal factor, 1 to 1,000 (10). -/
def ASM_QN_SCALE.V : Fld := ⟨284, 0x2c0058, 0, 32, .tx, .const 0, 0, 1⟩
/-- spec/06, ASM_QT_X, bits [31:0]: Joystick force weights, ≥ 0. -/
def ASM_QT_X.V : Fld := ⟨285, 0x2c005c, 0, 32, .tx, .const 0, 0, 1⟩
/-- spec/06, ASM_QT_Y, bits [31:0]: Joystick force weights, ≥ 0. -/
def ASM_QT_Y.V : Fld := ⟨286, 0x2c0060, 0, 32, .tx, .const 0, 0, 1⟩
/-- spec/06, ASM_QT_N, bits [31:0]: Joystick force weights, ≥ 0. -/
def ASM_QT_N.V : Fld := ⟨287, 0x2c0064, 0, 32, .tx, .const 0, 0, 1⟩
/-- spec/06, ASM_RHO_LIN, bits [31:0]: Power slack, per kW, ≥ 0. -/
def ASM_RHO_LIN.V : Fld := ⟨288, 0x2c0068, 0, 32, .tx, .const 0, 0, 1⟩
/-- spec/06, ASM_RHO_QUAD, bits [31:0]: Power slack, per kW², > 0. -/
def ASM_RHO_QUAD.V : Fld := ⟨289, 0x2c006c, 0, 32, .tx, .const 0, 0, 1⟩
/-- spec/06, ASM_RHO_SEC, bits [31:0]: Sector slack, per kN, > 0. -/
def ASM_RHO_SEC.V : Fld := ⟨290, 0x2c0070, 0, 32, .tx, .const 0, 0, 1⟩
/-- spec/06, ASM_AVAIL_FRAC, bits [31:0]: 0.5 to 1.0 (0.90). -/
def ASM_AVAIL_FRAC.V : Fld := ⟨291, 0x2c0074, 0, 32, .tx, .const 0, 0, 1⟩
/-- spec/06, ASM_LOAD_RATE, bits [31:0]: Fraction of online rated power per s, 0.01 to 1.0 (0.20). -/
def ASM_LOAD_RATE.V : Fld := ⟨292, 0x2c0078, 0, 32, .tx, .const 0, 0, 1⟩
/-- spec/06, ASM_WIND_GAIN, bits [31:0]: 0 to 1.0 (1.0). -/
def ASM_WIND_GAIN.V : Fld := ⟨293, 0x2c007c, 0, 32, .tx, .const 0, 0, 1⟩
/-- spec/06, ASM_WIND_HOLD, bits [31:0]: Seconds, 0 to 60 (10). -/
def ASM_WIND_HOLD.V : Fld := ⟨294, 0x2c0080, 0, 32, .tx, .const 0, 0, 1⟩
/-- spec/06, ASM_THR, bits [31:0]; 32 entries: binary32, per kN², ≥ 0. -/
def ASM_THR.W_THR : Fld := ⟨295, 0x2d0000, 0, 32, .tx, .const 0, 32, 32⟩
/-- spec/06, ASM_THR, bits [31:0]; 32 entries: binary32, per kN², ≥ 0. -/
def ASM_THR.W_RATE : Fld := ⟨296, 0x2d0004, 0, 32, .tx, .const 0, 32, 32⟩
/-- spec/06, ASM_THR, bits [7:0]; 32 entries: [0] AVAILABLE, [1] OP_DISABLED, [2] DRIVE_NOT_READY, [3] PLAUSIBILITY, [4] RETIRED, [5] REACH_WIDENED, [6] ASTERN (R166), [7] SECTOR_ACTIVE. -/
def ASM_THR.STATE : Fld := ⟨297, 0x2d0008, 0, 8, .ro, .const 0, 32, 32⟩
/-- spec/06, ASM_THR, bits [31:0]; 32 entries: binary32, window start in ° (R171). -/
def ASM_THR.SEC_LO : Fld := ⟨298, 0x2d000c, 0, 32, .ro, .const 0, 32, 32⟩
/-- spec/06, ASM_THR, bits [31:0]; 32 entries: binary32, window end in °. -/
def ASM_THR.SEC_HI : Fld := ⟨299, 0x2d0010, 0, 32, .ro, .const 0, 32, 32⟩
/-- spec/06, ASM_THR, bits [31:0]; 32 entries: binary32, kW at feedback. -/
def ASM_THR.P_EST : Fld := ⟨300, 0x2d0014, 0, 32, .ro, .const 0, 32, 32⟩
/-- spec/06, ASM_THR, bits [31:0]; 32 entries: binary32, kN at the boundary tick. -/
def ASM_THR.FB_FX : Fld := ⟨301, 0x2d0018, 0, 32, .ro, .const 0, 32, 32⟩
/-- spec/06, ASM_THR, bits [31:0]; 32 entries: binary32, kN at the boundary tick. -/
def ASM_THR.FB_FY : Fld := ⟨302, 0x2d001c, 0, 32, .ro, .const 0, 32, 32⟩
/-- spec/06, ASM_SEC, bits [31:0]; 8 entries: binary32, kW (R172). -/
def ASM_SEC.CAP : Fld := ⟨303, 0x2e0000, 0, 32, .ro, .const 0, 32, 8⟩
/-- spec/06, ASM_SEC, bits [31:0]; 8 entries: binary32, kW. -/
def ASM_SEC.HOTEL : Fld := ⟨304, 0x2e0004, 0, 32, .ro, .const 0, 32, 8⟩
/-- spec/06, ASM_SEC, bits [31:0]; 8 entries: binary32, kW. -/
def ASM_SEC.AVAIL : Fld := ⟨305, 0x2e0008, 0, 32, .ro, .const 0, 32, 8⟩
/-- spec/06, ASM_SEC, bits [31:0]; 8 entries: binary32, kW; step-0 power slack of the last result. -/
def ASM_SEC.SLACK0 : Fld := ⟨306, 0x2e000c, 0, 32, .ro, .const 0, 32, 8⟩
/-- spec/06, ASM_SEC, bits [7:0]; 8 entries: Bit j: the section's j-th set online. -/
def ASM_SEC.ONLINE : Fld := ⟨307, 0x2e0010, 0, 8, .ro, .const 0, 32, 8⟩
/-- spec/06, ASM_SEC, bits [15:8]; 8 entries: Lowest section index of its tie group. -/
def ASM_SEC.GROUP : Fld := ⟨308, 0x2e0010, 8, 8, .ro, .const 0, 32, 8⟩
/-- spec/07, SOL_STATUS, bits [2:0]: Table 07-2. -/
def SOL_STATUS.RESULT : Fld := ⟨309, 0x300000, 0, 3, .ro, .const 5, 0, 1⟩
/-- spec/07, SOL_STATUS, bits [8:3]: Completed iterates of the last run, 0 to 40. -/
def SOL_STATUS.ITERS : Fld := ⟨310, 0x300000, 3, 6, .ro, .const 0, 0, 1⟩
/-- spec/07, SOL_STATUS, bits [9:9]: The last run warm-started (R191). -/
def SOL_STATUS.WARM : Fld := ⟨311, 0x300000, 9, 1, .ro, .const 0, 0, 1⟩
/-- spec/07, SOL_STATUS, bits [10:10]: At least one pivot replaced. -/
def SOL_STATUS.PIV_REPLACED : Fld := ⟨312, 0x300000, 10, 1, .ro, .const 0, 0, 1⟩
/-- spec/07, SOL_STATUS, bits [11:11]: Refinement extended to 4 steps. -/
def SOL_STATUS.REFINE_EXT : Fld := ⟨313, 0x300000, 11, 1, .ro, .const 0, 0, 1⟩
/-- spec/07, SOL_STATUS, bits [12:12]: R190 retry used. -/
def SOL_STATUS.RETRY : Fld := ⟨314, 0x300000, 12, 1, .ro, .const 0, 0, 1⟩
/-- spec/07, SOL_STATUS, bits [13:13]: R196 changed a value. -/
def SOL_STATUS.CLIPPED : Fld := ⟨315, 0x300000, 13, 1, .ro, .const 0, 0, 1⟩
/-- spec/07, SOL_STATUS, bits [14:14]: The fallback law is in force. -/
def SOL_STATUS.FALLBACK : Fld := ⟨316, 0x300000, 14, 1, .ro, .const 0, 0, 1⟩
/-- spec/07, SOL_STATUS, bits [15:15]: R207. -/
def SOL_STATUS.SOLVER_LOST : Fld := ⟨317, 0x300000, 15, 1, .ro, .const 0, 0, 1⟩
/-- spec/07, SOL_STATUS, bits [31:16]: Pivots replaced in the last run; saturates. -/
def SOL_STATUS.PIV_COUNT : Fld := ⟨318, 0x300000, 16, 16, .ro, .const 0, 0, 1⟩
/-- spec/07, SOL_CFG, bits [6:0]: Percent of the vessel cycle, 20 to 90. -/
def SOL_CFG.DEADLINE_PCT : Fld := ⟨319, 0x300004, 0, 7, .ly, .const 0x46, 0, 1⟩
/-- spec/07, SOL_CFG, bits [24:16]: Release tick in ms after the boundary (R31). -/
def SOL_CFG.RELEASE_MS : Fld := ⟨320, 0x300004, 16, 9, .ly, .const 0, 0, 1⟩
/-- spec/07, SOL_START, bits [15:0]: t_S in µs after the boundary (R193). -/
def SOL_START.START_US : Fld := ⟨321, 0x300008, 0, 16, .ly, .const 0, 0, 1⟩
/-- spec/07, SOL_BUDGET, bits [31:0]: Core cycles from t_S to the deadline (R193). -/
def SOL_BUDGET.CYCLES : Fld := ⟨322, 0x30000c, 0, 32, .ly, .const 0, 0, 1⟩
/-- spec/07, SOL_TIMING, bits [15:0]: T_IT in µs (R209). -/
def SOL_TIMING.ITER_US : Fld := ⟨323, 0x300010, 0, 16, .ly, .const 0, 0, 1⟩
/-- spec/07, SOL_TIMING, bits [31:16]: SOL_NOMINAL in units of 10 µs. -/
def SOL_TIMING.NOMINAL : Fld := ⟨324, 0x300010, 16, 16, .ly, .const 0, 0, 1⟩
/-- spec/07, SOL_SIZE, bits [11:0]: 1 to 2,048. -/
def SOL_SIZE.SUPERNODES : Fld := ⟨325, 0x300014, 0, 12, .ly, .const 0, 0, 1⟩
/-- spec/07, SOL_SIZE, bits [31:12]: Words in the furrow schedule. -/
def SOL_SIZE.SCHED_WORDS : Fld := ⟨326, 0x300014, 12, 20, .ly, .const 0, 0, 1⟩
/-- spec/07, SOL_NNZ, bits [20:0]: Non-zeros of L, up to 1,048,576. -/
def SOL_NNZ.NNZ_L : Fld := ⟨327, 0x300018, 0, 21, .ly, .const 0, 0, 1⟩
/-- spec/07, SOL_ITER, bits [5:0]: 5 to 40. -/
def SOL_ITER.ITER_MAX : Fld := ⟨328, 0x30001c, 0, 6, .tx, .const 0x28, 0, 1⟩
/-- spec/07, SOL_ITER, bits [11:8]: 1 to 10 (R201). -/
def SOL_ITER.FALLBACK_N : Fld := ⟨329, 0x30001c, 8, 4, .tx, .const 3, 0, 1⟩
/-- spec/07, SOL_ITER, bits [22:16]: 3 to 100 (R202). -/
def SOL_ITER.RETURN_N : Fld := ⟨330, 0x30001c, 16, 7, .tx, .const 0xa, 0, 1⟩
/-- spec/07, SOL_REFINE, bits [1:0]: 0 to 2 (R189). -/
def SOL_REFINE.REFINE_BASE : Fld := ⟨331, 0x300020, 0, 2, .tx, .const 1, 0, 1⟩
/-- spec/07, SOL_EPS_P, bits [31:0]: 1e-10 to 1e-3 (1e-6). -/
def SOL_EPS_P.V : Fld := ⟨332, 0x300024, 0, 32, .tx, .const 0, 0, 1⟩
/-- spec/07, SOL_EPS_D, bits [31:0]: 1e-10 to 1e-3 (1e-6). -/
def SOL_EPS_D.V : Fld := ⟨333, 0x300028, 0, 32, .tx, .const 0, 0, 1⟩
/-- spec/07, SOL_EPS_GAP, bits [31:0]: 1e-12 to 1e-4 (1e-8). -/
def SOL_EPS_GAP.V : Fld := ⟨334, 0x30002c, 0, 32, .tx, .const 0, 0, 1⟩
/-- spec/07, SOL_DELTA_P, bits [31:0]: 1e-12 to 1e-6 (1e-9). -/
def SOL_DELTA_P.V : Fld := ⟨335, 0x300030, 0, 32, .tx, .const 0, 0, 1⟩
/-- spec/07, SOL_DELTA_D, bits [31:0]: 1e-12 to 1e-6 (1e-9). -/
def SOL_DELTA_D.V : Fld := ⟨336, 0x300034, 0, 32, .tx, .const 0, 0, 1⟩
/-- spec/07, SOL_PIV_MIN, bits [31:0]: Relative to block scale, 1e-16 to 1e-8 (1e-13). -/
def SOL_PIV_MIN.V : Fld := ⟨337, 0x300038, 0, 32, .tx, .const 0, 0, 1⟩
/-- spec/07, SOL_PIV_REPL, bits [31:0]: 1e-12 to 1e-4 (1e-8). -/
def SOL_PIV_REPL.V : Fld := ⟨338, 0x30003c, 0, 32, .tx, .const 0, 0, 1⟩
/-- spec/07, SOL_TAU, bits [31:0]: 0.9 to 0.999 (0.99). -/
def SOL_TAU.V : Fld := ⟨339, 0x300040, 0, 32, .tx, .const 0, 0, 1⟩
/-- spec/07, SOL_WS_PUSH, bits [31:0]: 1e-6 to 1 (1e-2). -/
def SOL_WS_PUSH.V : Fld := ⟨340, 0x300044, 0, 32, .tx, .const 0, 0, 1⟩
/-- spec/07, SOL_CONSEC, bits [7:0]: R200; saturates. -/
def SOL_CONSEC.NOT_OPT_RUN : Fld := ⟨341, 0x300048, 0, 8, .ro, .const 0, 0, 1⟩
/-- spec/07, SOL_CONSEC, bits [15:8]: R200; saturates. -/
def SOL_CONSEC.OPT_RUN : Fld := ⟨342, 0x300048, 8, 8, .ro, .const 0, 0, 1⟩
/-- spec/07, SOL_MERIT, bits [31:0]: binary32, φ of the returned iterate (R185); 0 for STALE, SKIPPED and a NONFINITE run without an iterate. -/
def SOL_MERIT.MERIT : Fld := ⟨343, 0x30004c, 0, 32, .ro, .const 0, 0, 1⟩
/-- spec/07, SOL_EVENT, bits [0:0]: A counted run was not OPTIMAL. -/
def SOL_EVENT.NOT_OPTIMAL : Fld := ⟨344, 0x300050, 0, 1, .w1c, .const 0, 0, 1⟩
/-- spec/07, SOL_EVENT, bits [1:1]: R201. -/
def SOL_EVENT.FALLBACK_ENTER : Fld := ⟨345, 0x300050, 1, 1, .w1c, .const 0, 0, 1⟩
/-- spec/07, SOL_EVENT, bits [2:2]: R202. -/
def SOL_EVENT.FALLBACK_EXIT : Fld := ⟨346, 0x300050, 2, 1, .w1c, .const 0, 0, 1⟩
/-- spec/07, SOL_EVENT, bits [3:3]: A run ended NONFINITE. -/
def SOL_EVENT.NONFINITE : Fld := ⟨347, 0x300050, 3, 1, .w1c, .const 0, 0, 1⟩
/-- spec/07, SOL_EVENT, bits [4:4]: A run ended DEADLINE. -/
def SOL_EVENT.DEADLINE : Fld := ⟨348, 0x300050, 4, 1, .w1c, .const 0, 0, 1⟩
/-- spec/07, SOL_EVENT, bits [5:5]: A run ended STALE. -/
def SOL_EVENT.STALE : Fld := ⟨349, 0x300050, 5, 1, .w1c, .const 0, 0, 1⟩
/-- spec/07, SOL_EVENT, bits [6:6]: A pivot was replaced. -/
def SOL_EVENT.PIV_REPLACED : Fld := ⟨350, 0x300050, 6, 1, .w1c, .const 0, 0, 1⟩
/-- spec/07, SOL_EVENT, bits [7:7]: Refinement was extended. -/
def SOL_EVENT.REFINE_EXT : Fld := ⟨351, 0x300050, 7, 1, .w1c, .const 0, 0, 1⟩
/-- spec/07, SOL_EVENT, bits [8:8]: R205. -/
def SOL_EVENT.ENGINE_RETIRED : Fld := ⟨352, 0x300050, 8, 1, .w1c, .const 0, 0, 1⟩
/-- spec/07, SOL_EVENT, bits [9:9]: R207. -/
def SOL_EVENT.SOLVER_LOST : Fld := ⟨353, 0x300050, 9, 1, .w1c, .const 0, 0, 1⟩
/-- spec/07, SOL_EVENT, bits [10:10]: R194. -/
def SOL_EVENT.TIME_DEADLINE : Fld := ⟨354, 0x300050, 10, 1, .w1c, .const 0, 0, 1⟩
/-- spec/07, SOL_RUNS, bits [31:0]: Runs, including those that did not start; wraps. -/
def SOL_RUNS.V : Fld := ⟨355, 0x300054, 0, 32, .ro, .const 0, 0, 1⟩
/-- spec/07, SOL_OPTIMAL, bits [31:0]: Runs OPTIMAL; wraps. -/
def SOL_OPTIMAL.V : Fld := ⟨356, 0x300058, 0, 32, .ro, .const 0, 0, 1⟩
/-- spec/07, SOL_ITER_LIMIT, bits [31:0]: Runs ITER_LIMIT; wraps. -/
def SOL_ITER_LIMIT.V : Fld := ⟨357, 0x30005c, 0, 32, .ro, .const 0, 0, 1⟩
/-- spec/07, SOL_DEADLINE, bits [31:0]: Runs DEADLINE; wraps. -/
def SOL_DEADLINE.V : Fld := ⟨358, 0x300060, 0, 32, .ro, .const 0, 0, 1⟩
/-- spec/07, SOL_STALE, bits [31:0]: Runs STALE; wraps. -/
def SOL_STALE.V : Fld := ⟨359, 0x300064, 0, 32, .ro, .const 0, 0, 1⟩
/-- spec/07, SOL_NONFINITE, bits [31:0]: Runs NONFINITE; wraps. -/
def SOL_NONFINITE.V : Fld := ⟨360, 0x300068, 0, 32, .ro, .const 0, 0, 1⟩
/-- spec/07, SOL_PIV_REPL_CNT, bits [31:0]: Pivots replaced; wraps. -/
def SOL_PIV_REPL_CNT.V : Fld := ⟨361, 0x30006c, 0, 32, .ro, .const 0, 0, 1⟩
/-- spec/07, SOL_REFINE_EXT, bits [31:0]: Solves with extended refinement; wraps. -/
def SOL_REFINE_EXT.V : Fld := ⟨362, 0x300070, 0, 32, .ro, .const 0, 0, 1⟩
/-- spec/07, SOL_TRACE_CTRL, bits [0:0]: 1: freeze blocks 0x032 and 0x033 at the last release tick; 0: update them at each release tick. -/
def SOL_TRACE_CTRL.FREEZE : Fld := ⟨363, 0x300074, 0, 1, .rw, .const 0, 0, 1⟩
/-- spec/07, SOL_FURROW_MAP, bits [3:0]: . -/
def SOL_FURROW_MAP.PHYS0 : Fld := ⟨364, 0x310000, 0, 4, .ro, .const 0, 0, 1⟩
/-- spec/07, SOL_FURROW_MAP, bits [7:4]: . -/
def SOL_FURROW_MAP.PHYS1 : Fld := ⟨365, 0x310000, 4, 4, .ro, .const 1, 0, 1⟩
/-- spec/07, SOL_FURROW_MAP, bits [11:8]: . -/
def SOL_FURROW_MAP.PHYS2 : Fld := ⟨366, 0x310000, 8, 4, .ro, .const 2, 0, 1⟩
/-- spec/07, SOL_FURROW_MAP, bits [15:12]: . -/
def SOL_FURROW_MAP.PHYS3 : Fld := ⟨367, 0x310000, 12, 4, .ro, .const 3, 0, 1⟩
/-- spec/07, SOL_FURROW_MAP, bits [19:16]: . -/
def SOL_FURROW_MAP.PHYS4 : Fld := ⟨368, 0x310000, 16, 4, .ro, .const 4, 0, 1⟩
/-- spec/07, SOL_FURROW_MAP, bits [23:20]: . -/
def SOL_FURROW_MAP.PHYS5 : Fld := ⟨369, 0x310000, 20, 4, .ro, .const 5, 0, 1⟩
/-- spec/07, SOL_FURROW_MAP, bits [27:24]: . -/
def SOL_FURROW_MAP.PHYS6 : Fld := ⟨370, 0x310000, 24, 4, .ro, .const 6, 0, 1⟩
/-- spec/07, SOL_FURROW_MAP, bits [31:28]: . -/
def SOL_FURROW_MAP.PHYS7 : Fld := ⟨371, 0x310000, 28, 4, .ro, .const 7, 0, 1⟩
/-- spec/07, SOL_FURROW_STATE, bits [8:0]: Bit p: physical engine p retired. -/
def SOL_FURROW_STATE.RETIRED : Fld := ⟨372, 0x310004, 0, 9, .ro, .const 0, 0, 1⟩
/-- spec/07, SOL_FURROW_STATE, bits [9:9]: Engine 8 serves a logical engine. -/
def SOL_FURROW_STATE.SPARE_USED : Fld := ⟨373, 0x310004, 9, 1, .ro, .const 0, 0, 1⟩
/-- spec/07, SOL_FURROW_STATE, bits [10:10]: R207. -/
def SOL_FURROW_STATE.SOLVER_LOST : Fld := ⟨374, 0x310004, 10, 1, .ro, .const 0, 0, 1⟩
/-- spec/07, SOL_FURROW_STATE, bits [19:16]: Physical engine due for the next test (R206). -/
def SOL_FURROW_STATE.BIST_NEXT : Fld := ⟨375, 0x310004, 16, 4, .ro, .const 0, 0, 1⟩
/-- spec/07, SOL_ENG, bits [31:0]; 9 entries: Operand-register parity errors since reset; wraps. -/
def SOL_ENG.PARITY : Fld := ⟨376, 0x310100, 0, 32, .ro, .const 0, 16, 9⟩
/-- spec/07, SOL_ENG, bits [31:0]; 9 entries: Built-in test failures since reset; wraps. -/
def SOL_ENG.BIST_FAIL : Fld := ⟨377, 0x310104, 0, 32, .ro, .const 0, 16, 9⟩
/-- spec/07, SOL_ENG, bits [31:0]; 9 entries: Core cycles busy in the last run. -/
def SOL_ENG.BUSY : Fld := ⟨378, 0x310108, 0, 32, .ro, .const 0, 16, 9⟩
/-- spec/07, SOL_ENG, bits [7:0]; 9 entries: Faults within the steward's permanent-fault window. -/
def SOL_ENG.WINDOW : Fld := ⟨379, 0x31010c, 0, 8, .ro, .const 0, 16, 9⟩
/-- spec/07, SOL_TRACE, bits [31:0]; 41 entries: binary32, r_p (R185). -/
def SOL_TRACE.R_P : Fld := ⟨380, 0x330000, 0, 32, .ro, .const 0, 32, 41⟩
/-- spec/07, SOL_TRACE, bits [31:0]; 41 entries: binary32, r_d. -/
def SOL_TRACE.R_D : Fld := ⟨381, 0x330004, 0, 32, .ro, .const 0, 32, 41⟩
/-- spec/07, SOL_TRACE, bits [31:0]; 41 entries: binary32, μ. -/
def SOL_TRACE.MU : Fld := ⟨382, 0x330008, 0, 32, .ro, .const 0, 32, 41⟩
/-- spec/07, SOL_TRACE, bits [31:0]; 41 entries: binary32, φ. -/
def SOL_TRACE.MERIT : Fld := ⟨383, 0x33000c, 0, 32, .ro, .const 0, 32, 41⟩
/-- spec/07, SOL_TRACE, bits [31:0]; 41 entries: binary32, step length taken; 0 for entry 0. -/
def SOL_TRACE.ALPHA : Fld := ⟨384, 0x330010, 0, 32, .ro, .const 0, 32, 41⟩
/-- spec/07, SOL_TRACE, bits [31:0]; 41 entries: binary32, centring σ; 0 for entry 0. -/
def SOL_TRACE.SIGMA : Fld := ⟨385, 0x330014, 0, 32, .ro, .const 0, 32, 41⟩
/-- spec/07, SOL_TRACE, bits [15:0]; 41 entries: Pivots replaced in this iteration. -/
def SOL_TRACE.PIVOTS : Fld := ⟨386, 0x330018, 0, 16, .ro, .const 0, 32, 41⟩
/-- spec/07, SOL_TRACE, bits [31:16]; 41 entries: [0] retry used, [1] refinement extended, [2] completed, [15:3] reserved 0. -/
def SOL_TRACE.FLAGS : Fld := ⟨387, 0x330018, 16, 16, .ro, .const 0, 32, 41⟩
/-- spec/08, LOOP_STATUS, bits [8:0]: Logical slots defined, 0 to 256. -/
def LOOP_STATUS.DEFINED : Fld := ⟨388, 0x340000, 0, 9, .ro, .const 0, 0, 1⟩
/-- spec/08, LOOP_STATUS, bits [13:9]: Free spare slots, 0 to 16. -/
def LOOP_STATUS.SPARES_LEFT : Fld := ⟨389, 0x340000, 9, 5, .ro, .const 0x10, 0, 1⟩
/-- spec/08, LOOP_STATUS, bits [14:14]: The fallback law is in force. -/
def LOOP_STATUS.FALLBACK : Fld := ⟨390, 0x340000, 14, 1, .ro, .const 0, 0, 1⟩
/-- spec/08, LOOP_STATUS, bits [15:15]: R243. -/
def LOOP_STATUS.SLOT_LOST : Fld := ⟨391, 0x340000, 15, 1, .ro, .const 0, 0, 1⟩
/-- spec/08, LOOP_STATUS, bits [16:16]: R244. -/
def LOOP_STATUS.PIPE_DEGRADED : Fld := ⟨392, 0x340000, 16, 1, .ro, .const 0, 0, 1⟩
/-- spec/08, LOOP_STATUS, bits [17:17]: A slot has BX > 0. -/
def LOOP_STATUS.BFP_ANY : Fld := ⟨393, 0x340000, 17, 1, .ro, .const 0, 0, 1⟩
/-- spec/08, LOOP_STATUS, bits [18:18]: A slot holds PLAUS_FAULT. -/
def LOOP_STATUS.PLAUS_ANY : Fld := ⟨394, 0x340000, 18, 1, .ro, .const 0, 0, 1⟩
/-- spec/08, LOOP_STATUS, bits [19:19]: A slot has RC_HOLD. -/
def LOOP_STATUS.RC_HOLD_ANY : Fld := ⟨395, 0x340000, 19, 1, .ro, .const 0, 0, 1⟩
/-- spec/08, LOOP_CFG, bits [7:0]: LOOP_BOUND in µs, at most 180 (R212). -/
def LOOP_CFG.BOUND_US : Fld := ⟨396, 0x340004, 0, 8, .ly, .const 0, 0, 1⟩
/-- spec/08, LOOP_CFG, bits [8:8]: 1: slots 0 to 2 reserved for the fallback law. -/
def LOOP_CFG.FALLBACK_RES : Fld := ⟨397, 0x340004, 8, 1, .ly, .const 0, 0, 1⟩
/-- spec/08, LOOP_PLAUS_ACK, bits [31:0]; 8 entries: Register k, bit n: 1 clears PLAUS_FAULT of logical slot 32k + n at commit (R237); reads 0. -/
def LOOP_PLAUS_ACK.ACK : Fld := ⟨398, 0x340008, 0, 32, .tx, .const 0, 4, 8⟩
/-- spec/08, LOOP_TRACE_CTRL, bits [0:0]: 1: freeze the per-slot status and block 0x037 at the last tick; 0: update them every tick. -/
def LOOP_TRACE_CTRL.FREEZE : Fld := ⟨399, 0x340028, 0, 1, .rw, .const 0, 0, 1⟩
/-- spec/08, LOOP_EVENT, bits [0:0]: A region changed. -/
def LOOP_EVENT.REGION_SWAP : Fld := ⟨400, 0x34002c, 0, 1, .w1c, .const 0, 0, 1⟩
/-- spec/08, LOOP_EVENT, bits [1:1]: R226. -/
def LOOP_EVENT.CLAMP_ON_SWAP : Fld := ⟨401, 0x34002c, 1, 1, .w1c, .const 0, 0, 1⟩
/-- spec/08, LOOP_EVENT, bits [2:2]: R216. -/
def LOOP_EVENT.BFP_ENTER : Fld := ⟨402, 0x34002c, 2, 1, .w1c, .const 0, 0, 1⟩
/-- spec/08, LOOP_EVENT, bits [3:3]: R218. -/
def LOOP_EVENT.BFP_EXIT : Fld := ⟨403, 0x34002c, 3, 1, .w1c, .const 0, 0, 1⟩
/-- spec/08, LOOP_EVENT, bits [4:4]: R217. -/
def LOOP_EVENT.STATE_SAT : Fld := ⟨404, 0x34002c, 4, 1, .w1c, .const 0, 0, 1⟩
/-- spec/08, LOOP_EVENT, bits [5:5]: R236. -/
def LOOP_EVENT.PLAUS_FAULT : Fld := ⟨405, 0x34002c, 5, 1, .w1c, .const 0, 0, 1⟩
/-- spec/08, LOOP_EVENT, bits [6:6]: R237. -/
def LOOP_EVENT.PLAUS_CLEARED : Fld := ⟨406, 0x34002c, 6, 1, .w1c, .const 0, 0, 1⟩
/-- spec/08, LOOP_EVENT, bits [7:7]: R232. -/
def LOOP_EVENT.RC_HOLD : Fld := ⟨407, 0x34002c, 7, 1, .w1c, .const 0, 0, 1⟩
/-- spec/08, LOOP_EVENT, bits [8:8]: R242. -/
def LOOP_EVENT.SLOT_RETIRED : Fld := ⟨408, 0x34002c, 8, 1, .w1c, .const 0, 0, 1⟩
/-- spec/08, LOOP_EVENT, bits [9:9]: R243. -/
def LOOP_EVENT.SLOT_LOST : Fld := ⟨409, 0x34002c, 9, 1, .w1c, .const 0, 0, 1⟩
/-- spec/08, LOOP_EVENT, bits [10:10]: R244. -/
def LOOP_EVENT.PIPE_DEGRADED : Fld := ⟨410, 0x34002c, 10, 1, .w1c, .const 0, 0, 1⟩
/-- spec/08, LOOP_EVENT, bits [11:11]: R229. -/
def LOOP_EVENT.RESTART : Fld := ⟨411, 0x34002c, 11, 1, .w1c, .const 0, 0, 1⟩
/-- spec/08, LOOP_EVENT, bits [12:12]: R223. -/
def LOOP_EVENT.FB_STALE : Fld := ⟨412, 0x34002c, 12, 1, .w1c, .const 0, 0, 1⟩
/-- spec/08, LOOP_TICKS, bits [31:0]: Ticks computed; wraps. -/
def LOOP_TICKS.V : Fld := ⟨413, 0x340030, 0, 32, .ro, .const 0, 0, 1⟩
/-- spec/08, LOOP_SWAPS, bits [31:0]: Region changes, all slots; wraps. -/
def LOOP_SWAPS.V : Fld := ⟨414, 0x340034, 0, 32, .ro, .const 0, 0, 1⟩
/-- spec/08, LOOP_CLAMP_SWAPS, bits [31:0]: LOOP_CLAMP_ON_SWAP occurrences; wraps. -/
def LOOP_CLAMP_SWAPS.V : Fld := ⟨415, 0x340038, 0, 32, .ro, .const 0, 0, 1⟩
/-- spec/08, LOOP_BFP_RAISES, bits [31:0]: Raises of BX; wraps. -/
def LOOP_BFP_RAISES.V : Fld := ⟨416, 0x34003c, 0, 32, .ro, .const 0, 0, 1⟩
/-- spec/08, LOOP_STATE_SAT, bits [31:0]: Slot-ticks with STATE_SAT; wraps. -/
def LOOP_STATE_SAT.V : Fld := ⟨417, 0x340040, 0, 32, .ro, .const 0, 0, 1⟩
/-- spec/08, LOOP_OUT_SAT, bits [31:0]: Slot-ticks with OUT_SAT; wraps. -/
def LOOP_OUT_SAT.V : Fld := ⟨418, 0x340044, 0, 32, .ro, .const 0, 0, 1⟩
/-- spec/08, LOOP_PASS_MAX, bits [31:0]: Latest pass end since reset, in µs after the tick edge. -/
def LOOP_PASS_MAX.V : Fld := ⟨419, 0x340048, 0, 32, .ro, .const 0, 0, 1⟩
/-- spec/08, LOOP_SLOT, bits [15:0]; 256 entries: Physical slot serving it; 0xFFFF when lost. Reset: i. -/
def LOOP_SLOT.PHYS : Fld := ⟨420, 0x341000, 0, 16, .ro, .index 256 0x0, 16, 256⟩
/-- spec/08, LOOP_SLOT, bits [23:16]; 256 entries: Current region. -/
def LOOP_SLOT.REGION : Fld := ⟨421, 0x341000, 16, 8, .ro, .const 0, 16, 256⟩
/-- spec/08, LOOP_SLOT, bits [31:24]; 256 entries: Block exponent. -/
def LOOP_SLOT.BX : Fld := ⟨422, 0x341000, 24, 8, .ro, .const 0, 16, 256⟩
/-- spec/08, LOOP_SLOT, bits [15:0]; 256 entries: [0] LIMITED, [1] ENGAGED, [2] SWAP_HOLD, [3] PLAUS_FAULT, [4] RC_HOLD, [5] FB_STALE, [6] OUT_SAT, [7] STATE_SAT, [8] TRACKING, [9] LOST, [10] RC_PARTIAL, [15:11] reserved. -/
def LOOP_SLOT.FLAGS : Fld := ⟨423, 0x341004, 0, 16, .ro, .const 0, 16, 256⟩
/-- spec/08, LOOP_SLOT, bits [31:16]; 256 entries: Region changes of this slot; wraps. -/
def LOOP_SLOT.SWAPS : Fld := ⟨424, 0x341004, 16, 16, .ro, .const 0, 16, 256⟩
/-- spec/08, LOOP_SLOT, bits [31:0]; 256 entries: Output word. -/
def LOOP_SLOT.OUT : Fld := ⟨425, 0x341008, 0, 32, .ro, .const 0, 16, 256⟩
/-- spec/08, LOOP_SLOT, bits [31:0]; 256 entries: Pre-limit output code. -/
def LOOP_SLOT.U_PRE : Fld := ⟨426, 0x34100c, 0, 32, .ro, .const 0, 16, 256⟩
/-- spec/08, LOOP_PHYS, bits [15:0]; 272 entries: Logical slot served; 0xFFFF none. Reset: p, or 0xFFFF for p ≥ 256. -/
def LOOP_PHYS.LOGICAL : Fld := ⟨427, 0x342000, 0, 16, .ro, .index 256 0xffff, 4, 272⟩
/-- spec/08, LOOP_PHYS, bits [16:16]; 272 entries: Retired. -/
def LOOP_PHYS.RETIRED : Fld := ⟨428, 0x342000, 16, 1, .ro, .const 0, 4, 272⟩
/-- spec/08, LOOP_PHYS, bits [20:17]; 272 entries: Faults within the steward's permanent-fault window. -/
def LOOP_PHYS.WINDOW : Fld := ⟨429, 0x342000, 17, 4, .ro, .const 0, 4, 272⟩
/-- spec/08, LOOP_PHYS, bits [31:24]; 272 entries: Built-in test failures; saturates. -/
def LOOP_PHYS.BIST_FAIL : Fld := ⟨430, 0x342000, 24, 8, .ro, .const 0, 4, 272⟩
/-- spec/08, LOOP_DESC, bits [7:0]; 256 entries: 0 UNUSED, 1 THRUST, 2 AZIMUTH, 3 RUDDER, 4 INNER (cascade), 5 FALLBACK_X, 6 FALLBACK_Y, 7 FALLBACK_N, 8 GENERAL. -/
def LOOP_DESC.ROLE : Fld := ⟨431, 0x350000, 0, 8, .ly, .const 0, 128, 256⟩
/-- spec/08, LOOP_DESC, bits [15:8]; 256 entries: Thruster index 0 to 31; 0xFF none. -/
def LOOP_DESC.THRUSTER : Fld := ⟨432, 0x350000, 8, 8, .ly, .const 0, 128, 256⟩
/-- spec/08, LOOP_DESC, bits [23:16]; 256 entries: 0 lane value, 1 slot output, 2 zero. -/
def LOOP_DESC.SP_KIND : Fld := ⟨433, 0x350000, 16, 8, .ly, .const 0, 128, 256⟩
/-- spec/08, LOOP_DESC, bits [31:24]; 256 entries: 0 none, 1 feedback table, 2 slot output. -/
def LOOP_DESC.FB_KIND : Fld := ⟨434, 0x350000, 24, 8, .ly, .const 0, 128, 256⟩
/-- spec/08, LOOP_DESC, bits [15:0]; 256 entries: Lane value (Table 08-2) or slot. -/
def LOOP_DESC.SP_INDEX : Fld := ⟨435, 0x350004, 0, 16, .ly, .const 0, 128, 256⟩
/-- spec/08, LOOP_DESC, bits [31:16]; 256 entries: Feedback-table entry or slot. -/
def LOOP_DESC.FB_INDEX : Fld := ⟨436, 0x350004, 16, 16, .ly, .const 0, 128, 256⟩
/-- spec/08, LOOP_DESC, bits [7:0]; 256 entries: 0 none, 1 own set-point, 2 feedback table, 3 slot output, 4 lane value. -/
def LOOP_DESC.FF_KIND : Fld := ⟨437, 0x350008, 0, 8, .ly, .const 0, 128, 256⟩
/-- spec/08, LOOP_DESC, bits [15:8]; 256 entries: 0 none, 1 own set-point, 2 own feedback, 3 feedback table, 4 slot output. -/
def LOOP_DESC.SCHED_KIND : Fld := ⟨438, 0x350008, 8, 8, .ly, .const 0, 128, 256⟩
/-- spec/08, LOOP_DESC, bits [31:16]; 256 entries: As FF_KIND. -/
def LOOP_DESC.FF_INDEX : Fld := ⟨439, 0x350008, 16, 16, .ly, .const 0, 128, 256⟩
/-- spec/08, LOOP_DESC, bits [15:0]; 256 entries: As SCHED_KIND. -/
def LOOP_DESC.SCHED_INDEX : Fld := ⟨440, 0x35000c, 0, 16, .ly, .const 0, 128, 256⟩
/-- spec/08, LOOP_DESC, bits [23:16]; 256 entries: 1 to 16. -/
def LOOP_DESC.NREG : Fld := ⟨441, 0x35000c, 16, 8, .ly, .const 0, 128, 256⟩
/-- spec/08, LOOP_DESC, bits [31:24]; 256 entries: [0] WRAP, [1] DERIV_ON, [2] BQ_POS, [4:3] AW, [5] RC_EN, [6] PLAUS_EN, [7] BFP_EN. -/
def LOOP_DESC.OPTIONS : Fld := ⟨442, 0x35000c, 24, 8, .ly, .const 0, 128, 256⟩
/-- spec/08, LOOP_DESC, bits [63:0]; 256 entries: binary64, engineering full scale of set-point and feedback. -/
def LOOP_DESC.FS : Fld := ⟨443, 0x350010, 0, 64, .ly, .const 0, 128, 256⟩
/-- spec/08, LOOP_DESC, bits [63:0]; 256 entries: binary64, engineering full scale of the output. -/
def LOOP_DESC.OUT_FS : Fld := ⟨444, 0x350018, 0, 64, .ly, .const 0, 128, 256⟩
/-- spec/08, LOOP_DESC, bits [63:0]; 256 entries: binary64. -/
def LOOP_DESC.FS_FF : Fld := ⟨445, 0x350020, 0, 64, .ly, .const 0, 128, 256⟩
/-- spec/08, LOOP_DESC, bits [63:0]; 256 entries: binary64. -/
def LOOP_DESC.FS_SCHED : Fld := ⟨446, 0x350028, 0, 64, .ly, .const 0, 128, 256⟩
/-- spec/08, LOOP_DESC, bits [31:0]; 256 entries: [3:0] die 5 or 6, 0 none; [7:4] 1 CAN signal, 2 DAC; [15:8] reserved; [31:16] output index in the die. -/
def LOOP_DESC.OUT_A : Fld := ⟨447, 0x350030, 0, 32, .ly, .const 0, 128, 256⟩
/-- spec/08, LOOP_DESC, bits [31:0]; 256 entries: As OUT_A. -/
def LOOP_DESC.OUT_B : Fld := ⟨448, 0x350034, 0, 32, .ly, .const 0, 128, 256⟩
/-- spec/08, LOOP_DESC, bits [15:0]; 256 entries: First region-pool entry, 0 to 511. -/
def LOOP_DESC.REGION_BASE : Fld := ⟨449, 0x350038, 0, 16, .ly, .const 0, 128, 256⟩
/-- spec/08, LOOP_DESC, bits [23:16]; 256 entries: 4 to 8. -/
def LOOP_DESC.RC_LOG2N : Fld := ⟨450, 0x350038, 16, 8, .ly, .const 0, 128, 256⟩
/-- spec/08, LOOP_DESC, bits [31:24]; 256 entries: 0 FIXED, 1 PULSE, 2 RATE. -/
def LOOP_DESC.RC_SRC : Fld := ⟨451, 0x350038, 24, 8, .ly, .const 0, 128, 256⟩
/-- spec/08, LOOP_DESC, bits [15:0]; 256 entries: Pulse input or feedback-table entry. -/
def LOOP_DESC.RC_SRC_INDEX : Fld := ⟨452, 0x35003c, 0, 16, .ly, .const 0, 128, 256⟩
/-- spec/08, LOOP_DESC, bits [31:16]; 256 entries: First bin in the pool; a multiple of 2^RC_LOG2N. -/
def LOOP_DESC.RC_BASE : Fld := ⟨453, 0x35003c, 16, 16, .ly, .const 0, 128, 256⟩
/-- spec/08, LOOP_DESC, bits [31:0]; 256 entries: Fixed period, 2,000 to 60,000,000 µs. -/
def LOOP_DESC.RC_PERIOD_US : Fld := ⟨454, 0x350040, 0, 32, .tx, .const 0, 128, 256⟩
/-- spec/08, LOOP_DESC, bits [31:0]; 256 entries: µs. -/
def LOOP_DESC.RC_PER_MIN_US : Fld := ⟨455, 0x350044, 0, 32, .tx, .const 0, 128, 256⟩
/-- spec/08, LOOP_DESC, bits [31:0]; 256 entries: µs, above RC_PER_MIN_US. -/
def LOOP_DESC.RC_PER_MAX_US : Fld := ⟨456, 0x350048, 0, 32, .tx, .const 0, 128, 256⟩
/-- spec/08, LOOP_DESC, bits [7:0]; 256 entries: Bins, below 2^RC_LOG2N. -/
def LOOP_DESC.RC_LEAD : Fld := ⟨457, 0x35004c, 0, 8, .tx, .const 0, 128, 256⟩
/-- spec/08, LOOP_DESC, bits [15:8]; 256 entries: 0 level, 1 rate (R236). -/
def LOOP_DESC.MODEL_ON : Fld := ⟨458, 0x35004c, 8, 8, .ly, .const 0, 128, 256⟩
/-- spec/08, LOOP_DESC, bits [23:16]; 256 entries: 1 to 16. -/
def LOOP_DESC.DT_DIV : Fld := ⟨459, 0x35004c, 16, 8, .tx, .const 0, 128, 256⟩
/-- spec/08, LOOP_DESC, bits [31:24]; 256 entries: 0 to 12. -/
def LOOP_DESC.DT_TAPS : Fld := ⟨460, 0x35004c, 24, 8, .tx, .const 0, 128, 256⟩
/-- spec/08, LOOP_DESC, bits [31:0]; 256 entries: Coefficient word. -/
def LOOP_DESC.MOD_K : Fld := ⟨461, 0x350050, 0, 32, .tx, .const 0, 128, 256⟩
/-- spec/08, LOOP_DESC, bits [31:0]; 256 entries: Coefficient word, 0 to 1.0. -/
def LOOP_DESC.MOD_ALPHA : Fld := ⟨462, 0x350054, 0, 32, .tx, .const 0, 128, 256⟩
/-- spec/08, LOOP_DESC, bits [31:0]; 256 entries: Coefficient word, 0 to 1.0. -/
def LOOP_DESC.RES_BETA : Fld := ⟨463, 0x350058, 0, 32, .tx, .const 0, 128, 256⟩
/-- spec/08, LOOP_DESC, bits [31:0]; 256 entries: Signal code, > 0. -/
def LOOP_DESC.PL_THRESH : Fld := ⟨464, 0x35005c, 0, 32, .tx, .const 0, 128, 256⟩
/-- spec/08, LOOP_DESC, bits [15:0]; 256 entries: Ticks, 1 to 65,535. -/
def LOOP_DESC.PL_TIME : Fld := ⟨465, 0x350060, 0, 16, .tx, .const 0, 128, 256⟩
/-- spec/08, LOOP_DESC, bits [31:16]; 256 entries: Ticks, 0 to 65,535. -/
def LOOP_DESC.DWELL : Fld := ⟨466, 0x350060, 16, 16, .tx, .const 0, 128, 256⟩
/-- spec/08, LOOP_DESC, bits [31:0]; 256 entries: Code of FS_SCHED, ≥ 0. -/
def LOOP_DESC.HYST : Fld := ⟨467, 0x350064, 0, 32, .tx, .const 0, 128, 256⟩
/-- spec/08, LOOP_DESC, bits [7:0]; 256 entries: 0 to 7. -/
def LOOP_DESC.BFP_MAX : Fld := ⟨468, 0x350068, 0, 8, .tx, .const 0, 128, 256⟩
/-- spec/08, LOOP_DESC, bits [31:16]; 256 entries: Ticks, 1 to 65,535. -/
def LOOP_DESC.BFP_DWELL : Fld := ⟨469, 0x350068, 16, 16, .tx, .const 0, 128, 256⟩
/-- spec/08, LOOP_DESC, bits [31:0]; 256 entries: Output word when lost (R243). -/
def LOOP_DESC.RETIRE_VALUE : Fld := ⟨470, 0x35006c, 0, 32, .ly, .const 0, 128, 256⟩
/-- spec/08, LOOP_REG, bits [31:0]; 512 entries: Table 08-9. -/
def LOOP_REG.LO : Fld := ⟨471, 0x360000, 0, 32, .tx, .const 0, 128, 512⟩
/-- spec/08, LOOP_REG, bits [31:0]; 512 entries: Table 08-9. -/
def LOOP_REG.KP : Fld := ⟨472, 0x360004, 0, 32, .tx, .const 0, 128, 512⟩
/-- spec/08, LOOP_REG, bits [31:0]; 512 entries: Table 08-9. -/
def LOOP_REG.KI : Fld := ⟨473, 0x360008, 0, 32, .tx, .const 0, 128, 512⟩
/-- spec/08, LOOP_REG, bits [31:0]; 512 entries: Table 08-9. -/
def LOOP_REG.KD : Fld := ⟨474, 0x36000c, 0, 32, .tx, .const 0, 128, 512⟩
/-- spec/08, LOOP_REG, bits [31:0]; 512 entries: Table 08-9. -/
def LOOP_REG.AD : Fld := ⟨475, 0x360010, 0, 32, .tx, .const 0, 128, 512⟩
/-- spec/08, LOOP_REG, bits [31:0]; 512 entries: Table 08-9. -/
def LOOP_REG.KT : Fld := ⟨476, 0x360014, 0, 32, .tx, .const 0, 128, 512⟩
/-- spec/08, LOOP_REG, bits [31:0]; 512 entries: Table 08-9. -/
def LOOP_REG.KF : Fld := ⟨477, 0x360018, 0, 32, .tx, .const 0, 128, 512⟩
/-- spec/08, LOOP_REG, bits [31:0]; 512 entries: Table 08-9. -/
def LOOP_REG.BQ1_B0 : Fld := ⟨478, 0x36001c, 0, 32, .tx, .const 0, 128, 512⟩
/-- spec/08, LOOP_REG, bits [31:0]; 512 entries: Table 08-9. -/
def LOOP_REG.BQ1_B1 : Fld := ⟨479, 0x360020, 0, 32, .tx, .const 0, 128, 512⟩
/-- spec/08, LOOP_REG, bits [31:0]; 512 entries: Table 08-9. -/
def LOOP_REG.BQ1_B2 : Fld := ⟨480, 0x360024, 0, 32, .tx, .const 0, 128, 512⟩
/-- spec/08, LOOP_REG, bits [31:0]; 512 entries: Table 08-9. -/
def LOOP_REG.BQ1_A1 : Fld := ⟨481, 0x360028, 0, 32, .tx, .const 0, 128, 512⟩
/-- spec/08, LOOP_REG, bits [31:0]; 512 entries: Table 08-9. -/
def LOOP_REG.BQ1_A2 : Fld := ⟨482, 0x36002c, 0, 32, .tx, .const 0, 128, 512⟩
/-- spec/08, LOOP_REG, bits [31:0]; 512 entries: Table 08-9. -/
def LOOP_REG.BQ2_B0 : Fld := ⟨483, 0x360030, 0, 32, .tx, .const 0, 128, 512⟩
/-- spec/08, LOOP_REG, bits [31:0]; 512 entries: Table 08-9. -/
def LOOP_REG.BQ2_B1 : Fld := ⟨484, 0x360034, 0, 32, .tx, .const 0, 128, 512⟩
/-- spec/08, LOOP_REG, bits [31:0]; 512 entries: Table 08-9. -/
def LOOP_REG.BQ2_B2 : Fld := ⟨485, 0x360038, 0, 32, .tx, .const 0, 128, 512⟩
/-- spec/08, LOOP_REG, bits [31:0]; 512 entries: Table 08-9. -/
def LOOP_REG.BQ2_A1 : Fld := ⟨486, 0x36003c, 0, 32, .tx, .const 0, 128, 512⟩
/-- spec/08, LOOP_REG, bits [31:0]; 512 entries: Table 08-9. -/
def LOOP_REG.BQ2_A2 : Fld := ⟨487, 0x360040, 0, 32, .tx, .const 0, 128, 512⟩
/-- spec/08, LOOP_REG, bits [31:0]; 512 entries: Table 08-9. -/
def LOOP_REG.RC_L : Fld := ⟨488, 0x360044, 0, 32, .tx, .const 0, 128, 512⟩
/-- spec/08, LOOP_REG, bits [31:0]; 512 entries: Table 08-9. -/
def LOOP_REG.RC_Q : Fld := ⟨489, 0x360048, 0, 32, .tx, .const 0, 128, 512⟩
/-- spec/08, LOOP_REG, bits [31:0]; 512 entries: Table 08-9. -/
def LOOP_REG.UMIN : Fld := ⟨490, 0x36004c, 0, 32, .tx, .const 0, 128, 512⟩
/-- spec/08, LOOP_REG, bits [31:0]; 512 entries: Table 08-9. -/
def LOOP_REG.UMAX : Fld := ⟨491, 0x360050, 0, 32, .tx, .const 0, 128, 512⟩
/-- spec/08, LOOP_REG, bits [31:0]; 512 entries: Table 08-9. -/
def LOOP_REG.RATE_UP : Fld := ⟨492, 0x360054, 0, 32, .tx, .const 0, 128, 512⟩
/-- spec/08, LOOP_REG, bits [31:0]; 512 entries: Table 08-9. -/
def LOOP_REG.RATE_DN : Fld := ⟨493, 0x360058, 0, 32, .tx, .const 0, 128, 512⟩
/-- spec/08, LOOP_REC, bits [31:0]; 256 entries: Output word. -/
def LOOP_REC.OUT : Fld := ⟨494, 0x370000, 0, 32, .ro, .const 0, 96, 256⟩
/-- spec/08, LOOP_REC, bits [31:0]; 256 entries: State word. -/
def LOOP_REC.INTEG : Fld := ⟨495, 0x370004, 0, 32, .ro, .const 0, 96, 256⟩
/-- spec/08, LOOP_REC, bits [31:0]; 256 entries: State words. -/
def LOOP_REC.BQ1_S1 : Fld := ⟨496, 0x370008, 0, 32, .ro, .const 0, 96, 256⟩
/-- spec/08, LOOP_REC, bits [31:0]; 256 entries: State words. -/
def LOOP_REC.BQ1_S2 : Fld := ⟨497, 0x37000c, 0, 32, .ro, .const 0, 96, 256⟩
/-- spec/08, LOOP_REC, bits [31:0]; 256 entries: State words. -/
def LOOP_REC.BQ2_S1 : Fld := ⟨498, 0x370010, 0, 32, .ro, .const 0, 96, 256⟩
/-- spec/08, LOOP_REC, bits [31:0]; 256 entries: State words. -/
def LOOP_REC.BQ2_S2 : Fld := ⟨499, 0x370014, 0, 32, .ro, .const 0, 96, 256⟩
/-- spec/08, LOOP_REC, bits [31:0]; 256 entries: State word. -/
def LOOP_REC.D_STATE : Fld := ⟨500, 0x370018, 0, 32, .ro, .const 0, 96, 256⟩
/-- spec/08, LOOP_REC, bits [31:0]; 256 entries: Signal code. -/
def LOOP_REC.D_XPREV : Fld := ⟨501, 0x37001c, 0, 32, .ro, .const 0, 96, 256⟩
/-- spec/08, LOOP_REC, bits [31:0]; 256 entries: Signal code. -/
def LOOP_REC.Y_PREV : Fld := ⟨502, 0x370020, 0, 32, .ro, .const 0, 96, 256⟩
/-- spec/08, LOOP_REC, bits [31:0]; 256 entries: Unsigned fraction of a period. -/
def LOOP_REC.RC_PHASE : Fld := ⟨503, 0x370024, 0, 32, .ro, .const 0, 96, 256⟩
/-- spec/08, LOOP_REC, bits [31:0]; 256 entries: Phase increment per tick. -/
def LOOP_REC.RC_INC : Fld := ⟨504, 0x370028, 0, 32, .ro, .const 0, 96, 256⟩
/-- spec/08, LOOP_REC, bits [31:0]; 256 entries: R234. -/
def LOOP_REC.RC_NEXT_READ : Fld := ⟨505, 0x37002c, 0, 32, .ro, .const 0, 96, 256⟩
/-- spec/08, LOOP_REC, bits [31:0]; 256 entries: R234. -/
def LOOP_REC.RC_NEXT_UPD : Fld := ⟨506, 0x370030, 0, 32, .ro, .const 0, 96, 256⟩
/-- spec/08, LOOP_REC, bits [31:0]; 256 entries: Signal code. -/
def LOOP_REC.MOD_Y : Fld := ⟨507, 0x370034, 0, 32, .ro, .const 0, 96, 256⟩
/-- spec/08, LOOP_REC, bits [31:0]; 256 entries: Signal code. -/
def LOOP_REC.MOD_RES : Fld := ⟨508, 0x370038, 0, 32, .ro, .const 0, 96, 256⟩
/-- spec/08, LOOP_REC, bits [15:0]; 256 entries: . -/
def LOOP_REC.MOD_DELAY0 : Fld := ⟨509, 0x37003c, 0, 16, .ro, .const 0, 96, 256⟩
/-- spec/08, LOOP_REC, bits [31:16]; 256 entries: . -/
def LOOP_REC.MOD_DELAY1 : Fld := ⟨510, 0x37003c, 16, 16, .ro, .const 0, 96, 256⟩
/-- spec/08, LOOP_REC, bits [15:0]; 256 entries: . -/
def LOOP_REC.MOD_DELAY2 : Fld := ⟨511, 0x370040, 0, 16, .ro, .const 0, 96, 256⟩
/-- spec/08, LOOP_REC, bits [31:16]; 256 entries: . -/
def LOOP_REC.MOD_DELAY3 : Fld := ⟨512, 0x370040, 16, 16, .ro, .const 0, 96, 256⟩
/-- spec/08, LOOP_REC, bits [15:0]; 256 entries: . -/
def LOOP_REC.MOD_DELAY4 : Fld := ⟨513, 0x370044, 0, 16, .ro, .const 0, 96, 256⟩
/-- spec/08, LOOP_REC, bits [31:16]; 256 entries: . -/
def LOOP_REC.MOD_DELAY5 : Fld := ⟨514, 0x370044, 16, 16, .ro, .const 0, 96, 256⟩
/-- spec/08, LOOP_REC, bits [15:0]; 256 entries: . -/
def LOOP_REC.MOD_DELAY6 : Fld := ⟨515, 0x370048, 0, 16, .ro, .const 0, 96, 256⟩
/-- spec/08, LOOP_REC, bits [31:16]; 256 entries: . -/
def LOOP_REC.MOD_DELAY7 : Fld := ⟨516, 0x370048, 16, 16, .ro, .const 0, 96, 256⟩
/-- spec/08, LOOP_REC, bits [15:0]; 256 entries: . -/
def LOOP_REC.MOD_DELAY8 : Fld := ⟨517, 0x37004c, 0, 16, .ro, .const 0, 96, 256⟩
/-- spec/08, LOOP_REC, bits [31:16]; 256 entries: . -/
def LOOP_REC.MOD_DELAY9 : Fld := ⟨518, 0x37004c, 16, 16, .ro, .const 0, 96, 256⟩
/-- spec/08, LOOP_REC, bits [15:0]; 256 entries: . -/
def LOOP_REC.MOD_DELAY10 : Fld := ⟨519, 0x370050, 0, 16, .ro, .const 0, 96, 256⟩
/-- spec/08, LOOP_REC, bits [31:16]; 256 entries: . -/
def LOOP_REC.MOD_DELAY11 : Fld := ⟨520, 0x370050, 16, 16, .ro, .const 0, 96, 256⟩
/-- spec/08, LOOP_REC, bits [7:0]; 256 entries: Current region. -/
def LOOP_REC.REGION : Fld := ⟨521, 0x370054, 0, 8, .ro, .const 0, 96, 256⟩
/-- spec/08, LOOP_REC, bits [15:8]; 256 entries: Candidate region. -/
def LOOP_REC.CAND : Fld := ⟨522, 0x370054, 8, 8, .ro, .const 0, 96, 256⟩
/-- spec/08, LOOP_REC, bits [31:16]; 256 entries: R225. -/
def LOOP_REC.DWELL_CNT : Fld := ⟨523, 0x370054, 16, 16, .ro, .const 0, 96, 256⟩
/-- spec/08, LOOP_REC, bits [7:0]; 256 entries: Block exponent. -/
def LOOP_REC.BX : Fld := ⟨524, 0x370058, 0, 8, .ro, .const 0, 96, 256⟩
/-- spec/08, LOOP_REC, bits [15:8]; 256 entries: [0] ENGAGED, [1] SWAP_HOLD, [2] SWAP_SIGN (1 negative), [3] RC_HOLD, [4] PLAUS_FAULT, [5] TRACKING, [6] LIMITED (this tick was limited, R221; read by R227), [7] reserved. -/
def LOOP_REC.STFLAGS : Fld := ⟨525, 0x370058, 8, 8, .ro, .const 0, 96, 256⟩
/-- spec/08, LOOP_REC, bits [31:16]; 256 entries: R236. -/
def LOOP_REC.PL_CNT : Fld := ⟨526, 0x370058, 16, 16, .ro, .const 0, 96, 256⟩
/-- spec/08, LOOP_REC, bits [15:0]; 256 entries: R218. -/
def LOOP_REC.BFP_CNT : Fld := ⟨527, 0x37005c, 0, 16, .ro, .const 0, 96, 256⟩
/-- spec/08, LOOP_ALLOC, bits [63:0]; 32 entries: R241. -/
def LOOP_ALLOC.AX_X : Fld := ⟨528, 0x344000, 0, 64, .ly, .const 0, 48, 32⟩
/-- spec/08, LOOP_ALLOC, bits [63:0]; 32 entries: R241. -/
def LOOP_ALLOC.AX_Y : Fld := ⟨529, 0x344008, 0, 64, .ly, .const 0, 48, 32⟩
/-- spec/08, LOOP_ALLOC, bits [63:0]; 32 entries: R241. -/
def LOOP_ALLOC.AX_N : Fld := ⟨530, 0x344010, 0, 64, .ly, .const 0, 48, 32⟩
/-- spec/08, LOOP_ALLOC, bits [63:0]; 32 entries: R241. -/
def LOOP_ALLOC.AY_X : Fld := ⟨531, 0x344018, 0, 64, .ly, .const 0, 48, 32⟩
/-- spec/08, LOOP_ALLOC, bits [63:0]; 32 entries: R241. -/
def LOOP_ALLOC.AY_Y : Fld := ⟨532, 0x344020, 0, 64, .ly, .const 0, 48, 32⟩
/-- spec/08, LOOP_ALLOC, bits [63:0]; 32 entries: R241. -/
def LOOP_ALLOC.AY_N : Fld := ⟨533, 0x344028, 0, 64, .ly, .const 0, 48, 32⟩
/-- spec/04, EST_Q, bits [63:0]; 24 entries: Table 04-5. -/
def EST_Q.V : Fld := ⟨534, 0x250000, 0, 64, .tx, .table [0, 0, 0, 0, 0, 0, 4616189618054758400, 4616189618054758400, 4675730371722084352, 0, 4585925428558828667, 0, 4585925428558828667, 0, 4532020583610935537, 0, 4576918229304087675, 4547007122018943789, 4517329193108106637, 4517329193108106637, 4517329193108106637, 0, 0, 0], 8, 24⟩
/-- spec/04, EST_X, bits [63:0]; 24 entries: state readout. -/
def EST_X.V : Fld := ⟨535, 0x270000, 0, 64, .ro, .const 0, 8, 24⟩
/-- spec/04, EST_P, bits [63:0]; 300 entries: P readout. -/
def EST_P.V : Fld := ⟨536, 0x270100, 0, 64, .ro, .const 0, 8, 300⟩
/-- spec/07, SOL_RES, bits [63:0]; 4096 entries: result readout. -/
def SOL_RES.V : Fld := ⟨537, 0x320000, 0, 64, .ro, .const 0, 8, 4096⟩

/-- Register map, lane part 0. -/
def regRowsLane0 : List RegRow := [
  ⟨0x100000, 0x4, 0, 1, [1, 2], [HG_STATUS.LANE_STATE, HG_STATUS.LINE_OWN, HG_STATUS.LINE_OTHER, HG_STATUS.ARMED, HG_STATUS.INHIBIT, HG_STATUS.PRIMARY, HG_STATUS.DRILL_ACTIVE, HG_STATUS.REVERT_PENDING, HG_STATUS.PAIR_DIFF, HG_STATUS.LAYOUT_DIFF, HG_STATUS.FW_INCOMPAT, HG_STATUS.COPIES_STALE, HG_STATUS.MISS_LIMIT, HG_STATUS.DRILL_FAIL, HG_STATUS.HOLDOFF_LEFT], []⟩,
  ⟨0x100004, 0x4, 0, 1, [1, 2], [HG_CTRL.RELEASE, HG_CTRL.ARM, HG_CTRL.DISARM], []⟩,
  ⟨0x100008, 0x4, 0, 1, [1, 2], [HG_CFG.PRIMARY_B, HG_CFG.SWAP_PIN_EN], []⟩,
  ⟨0x10000c, 0x4, 0, 1, [1, 2], [HG_POLICY.REVERT_HOLDOFF, HG_POLICY.DIGEST_MISS_LIMIT, HG_POLICY.READY_COUNT], []⟩,
  ⟨0x100010, 0x4, 0, 1, [1, 2], [HG_POLICY2.DRILL_DWELL, HG_POLICY2.LOCKOUT_COUNT, HG_POLICY2.LOCKOUT_WINDOW], []⟩,
  ⟨0x100014, 0x4, 0, 1, [1, 2], [HG_CMP.CLEAN_RUN, HG_CMP.MISS_RUN, HG_CMP.MISS_WINDOW], []⟩,
  ⟨0x100018, 0x4, 0, 1, [1, 2], [HG_TICK_MISMATCH.COUNT], []⟩,
  ⟨0x10001c, 0x4, 0, 1, [1, 2], [HG_CYCLE_MISMATCH.COUNT], []⟩,
  ⟨0x100020, 0x4, 0, 1, [1, 2], [HG_EVENT.SWAP_DONE, HG_EVENT.TAKEOVER, HG_EVENT.TAKEOVER_UNREADY, HG_EVENT.READY_GAINED, HG_EVENT.READY_LOST, HG_EVENT.SWAP_REFUSED, HG_EVENT.DRILL_PASS, HG_EVENT.DRILL_FAIL, HG_EVENT.LOCKOUT, HG_EVENT.WRITE_PATH, HG_EVENT.INHIBIT_HELD, HG_EVENT.BOTH_LOW], []⟩,
  ⟨0x100024, 0x4, 0, 1, [1, 2], [HG_LAST_SWAP.CAUSE, HG_LAST_SWAP.GAINED, HG_LAST_SWAP.SWAP_COUNT], []⟩,
  ⟨0x100028, 0x4, 0, 1, [1, 2], [HG_LOCKOUT.LOCKED, HG_LOCKOUT.CLEAR, HG_LOCKOUT.CLEAR_DRILL, HG_LOCKOUT.FAULT_SWAPS], []⟩,
  ⟨0x10002c, 0x4, 0, 1, [1, 2], [HG_PAIR_HASH.HASH], []⟩]

/-- Register map, lane part 1. -/
def regRowsLane1 : List RegRow := [
  ⟨0x100030, 0x4, 0, 1, [1, 2], [HG_REQ.SWAP, HG_REQ.DRILL, HG_REQ.DRILL_ABORT], []⟩,
  ⟨0x100100, 0x4, 0, 1, [5, 6], [HG_OWNER.OWNER, HG_OWNER.LINE_A, HG_OWNER.LINE_B, HG_OWNER.PEER_AGREE, HG_OWNER.GRANTS], []⟩,
  ⟨0x100104, 0x4, 0, 1, [5, 6], [HG_ARB_EVENT.GRANT, HG_ARB_EVENT.TO_NONE, HG_ARB_EVENT.BOTH_LOW, HG_ARB_EVENT.SPLIT], []⟩,
  ⟨0x100108, 0x4, 0, 1, [5, 6], [HG_STALE_WR.COUNT], []⟩,
  ⟨0x10010c, 0x4, 0, 1, [5, 6], [HG_DH_CFG.DH_TIMEOUT], []⟩,
  ⟨0x100110, 0x4, 0, 1, [5, 6], [HG_DH_STATUS.TRIPPED, HG_DH_STATUS.TRIP_EVT, HG_DH_STATUS.SINCE_REFRESH], []⟩,
  ⟨0x100114, 0x4, 0, 1, [5, 6], [HG_ARB_CFG.PRIMARY_B], []⟩,
  ⟨0x110000, 0x4, 0, 1, [1, 2], [LEAT_STATUS.UP, LEAT_STATUS.TICK_CURRENT, LEAT_STATUS.CYCLE_CURRENT, LEAT_STATUS.SENDING, LEAT_STATUS.REPLAY_USED], []⟩,
  ⟨0x110004, 0x4, 0, 1, [1, 2], [LEAT_CTRL.RETRAIN, LEAT_CTRL.LOOPBACK], []⟩,
  ⟨0x110008, 0x4, 0, 1, [1, 2], [LEAT_CRC_ERR.COUNT], []⟩,
  ⟨0x11000c, 0x4, 0, 1, [1, 2], [LEAT_RETX.COUNT], []⟩,
  ⟨0x110010, 0x4, 0, 1, [1, 2], [LEAT_MISS.TICK_MISS, LEAT_MISS.CYCLE_MISS], []⟩]

/-- Register map, lane part 2. -/
def regRowsLane2 : List RegRow := [
  ⟨0x110014, 0x4, 0, 1, [1, 2], [LEAT_LAST_COPY.TICK_WORDS, LEAT_LAST_COPY.CYCLE_KIB], []⟩,
  ⟨0x200000, 0x4, 0, 1, [1, 2], [CFL_STATUS.FRAME_MS, CFL_STATUS.SEAL_SHORT, CFL_STATUS.ATT_ASSUMED, CFL_STATUS.REPLAYING, CFL_STATUS.SOURCES], []⟩,
  ⟨0x200004, 0x4, 0, 1, [1, 2], [CFL_CFG.ADMIT], []⟩,
  ⟨0x200008, 0x4, 0, 1, [1, 2], [CFL_EXTRAP_MAX.EXTRAP_MAX], []⟩,
  ⟨0x20000c, 0x4, 0, 1, [1, 2], [CFL_ENABLE_LO.ENABLE], []⟩,
  ⟨0x200010, 0x4, 0, 1, [1, 2], [CFL_ENABLE_HI.ENABLE], []⟩,
  ⟨0x200014, 0x4, 0, 1, [1, 2], [CFL_ADRIFT_LO.ADRIFT], []⟩,
  ⟨0x200018, 0x4, 0, 1, [1, 2], [CFL_ADRIFT_HI.ADRIFT], []⟩,
  ⟨0x20001c, 0x4, 0, 1, [1, 2], [CFL_LATE_REPLAYED.COUNT], []⟩,
  ⟨0x200020, 0x4, 0, 1, [1, 2], [CFL_LATE_DROPPED.COUNT], []⟩,
  ⟨0x200024, 0x4, 0, 1, [1, 2], [CFL_UNUSABLE.COUNT], []⟩,
  ⟨0x200028, 0x4, 0, 1, [1, 2], [CFL_SEAL_SHORT.COUNT], []⟩]

/-- Register map, lane part 3. -/
def regRowsLane3 : List RegRow := [
  ⟨0x20002c, 0x4, 0, 1, [1, 2], [CFL_MEAS_OVF.COUNT], []⟩,
  ⟨0x200030, 0x4, 0, 1, [1, 2], [CFL_EVENT.ADRIFT_ENTER, CFL_EVENT.REPAIRED, CFL_EVENT.LATE_DROP, CFL_EVENT.SEAL_SHORT, CFL_EVENT.ATT_ASSUMED, CFL_EVENT.MEAS_OVF], []⟩,
  ⟨0x210000, 0x40, 64, 64, [1, 2], [CFL_SRC.KIND, CFL_SRC.DIE, CFL_SRC.PORT_TYPE, CFL_SRC.PORT_INDEX, CFL_SRC.STAMP, CFL_SRC.ALIGN, CFL_SRC.MOUNT, CFL_SRC.MAX_SCALARS, CFL_SRC.LATENCY, CFL_SRC.TICK_PS, CFL_SRC.MATCH, CFL_SRC.MATCH_MASK, CFL_SRC.PERIOD_MS, CFL_SRC.SILENT_MS, CFL_SRC.SPAN_SIGMA, CFL_SRC.UNIT_MAP0, CFL_SRC.UNIT_MAP1, CFL_SRC.UNIT_MAP2, CFL_SRC.UNIT_MAP3, CFL_SRC.UNIT_MAP4, CFL_SRC.UNIT_MAP5, CFL_SRC.UNIT_MAP6, CFL_SRC.UNIT_MAP7], []⟩,
  ⟨0x220000, 0x40, 64, 64, [1, 2], [CFL_MOUNT.Q_W, CFL_MOUNT.Q_X, CFL_MOUNT.Q_Y, CFL_MOUNT.Q_Z, CFL_MOUNT.LEVER_X, CFL_MOUNT.LEVER_Y, CFL_MOUNT.LEVER_Z, CFL_MOUNT.ROLE, CFL_MOUNT.ORDER], [(0x22003c, .ly)]⟩,
  ⟨0x230000, 0x20, 32, 64, [1, 2], [CFL_SST.STATE, CFL_SST.DISABLED, CFL_SST.PAIR_COUNT, CFL_SST.ADMITTED, CFL_SST.DISCARDED, CFL_SST.OFFSET, CFL_SST.DRIFT, CFL_SST.ERROR, CFL_SST.SPAN, CFL_SST.MAPPED_LO], []⟩,
  ⟨0x240000, 0x4, 0, 1, [1, 2], [EST_STATUS.PHASE, EST_STATUS.DEAD_RECKONING, EST_STATUS.HEADING_FIXED, EST_STATUS.POS_REACQUIRE, EST_STATUS.DATUM_FAR, EST_STATUS.WAVE_CLAMPED, EST_STATUS.REPLAYING, EST_STATUS.REPLAY_LEFT, EST_STATUS.DEPTH], []⟩,
  ⟨0x240004, 0x4, 0, 1, [1, 2], [EST_CTRL.REINIT, EST_CTRL.REDATUM], []⟩,
  ⟨0x240008, 0x4, 0, 1, [1, 2], [EST_TIMING.BUDGET, EST_TIMING.REPLAY_STEPS], []⟩,
  ⟨0x24000c, 0x4, 0, 1, [1, 2], [EST_GATE.GATE, EST_GATE.REJECT_EXCL, EST_GATE.RETURN_RUN], []⟩,
  ⟨0x240010, 0x4, 0, 1, [1, 2], [EST_POSLOST.POS_LOST_FRAMES], []⟩,
  ⟨0x240014, 0x4, 0, 1, [1, 2], [EST_WAVE.OMEGA_MIN, EST_WAVE.OMEGA_MAX, EST_WAVE.ZETA, EST_WAVE.WAVE_WIN], []⟩,
  ⟨0x240018, 0x4, 0, 1, [1, 2], [EST_BIAS_TC.T_B], []⟩]

/-- Register map, lane part 4. -/
def regRowsLane4 : List RegRow := [
  ⟨0x24001c, 0x4, 0, 1, [1, 2], [EST_CONV.CONV_POS, EST_CONV.CONV_HDG, EST_CONV.CONV_BIAS, EST_CONV.CONV_HOLD], []⟩,
  ⟨0x240020, 0x4, 0, 1, [1, 2], [EST_GNSS.FIX_RATIO, EST_GNSS.ELEV_MASK], []⟩,
  ⟨0x240024, 0x8, 0, 1, [1, 2], [EST_DATUM_LAT.DEG], []⟩,
  ⟨0x24002c, 0x8, 0, 1, [1, 2], [EST_DATUM_LON.DEG], []⟩,
  ⟨0x240034, 0x4, 0, 1, [1, 2], [EST_DATUM_ID.COUNT], []⟩,
  ⟨0x240038, 0x4, 0, 1, [1, 2], [EST_FUSED.V], []⟩,
  ⟨0x24003c, 0x4, 0, 1, [1, 2], [EST_REJECTED.V], []⟩,
  ⟨0x240040, 0x4, 0, 1, [1, 2], [EST_REPLAYS.V], []⟩,
  ⟨0x240044, 0x4, 0, 1, [1, 2], [EST_REPLAY_ABANDONED.V], []⟩,
  ⟨0x240048, 0x4, 0, 1, [1, 2], [EST_EVENT.CONV_GAINED, EST_EVENT.CONV_LOST, EST_EVENT.DR_ENTER, EST_EVENT.DR_EXIT, EST_EVENT.SRC_EXCLUDED, EST_EVENT.SRC_RETURNED, EST_EVENT.FIX_GAINED, EST_EVENT.FIX_LOST, EST_EVENT.REDATUM, EST_EVENT.REPLAY_ABANDON, EST_EVENT.POS_REACQUIRE], []⟩,
  ⟨0x24004c, 0x4, 0, 1, [1, 2], [EST_SNAP.FREEZE], []⟩,
  ⟨0x260000, 0x20, 32, 64, [1, 2], [EST_SRC.SIGMA_A, EST_SRC.SIGMA_B, EST_SRC.SIGMA_C, EST_SRC.W_BASE, EST_SRC.W_DYN, EST_SRC.STATE, EST_SRC.REJ64], [(0x260018, .ro), (0x26001c, .ro)]⟩]

/-- Register map, lane part 5. -/
def regRowsLane5 : List RegRow := [
  ⟨0x280000, 0x4, 0, 1, [1, 2], [SP_STATUS.MODE, SP_STATUS.RAMP_LIMITED, SP_STATUS.EST_DEGRADED, SP_STATUS.JOY_LOST, SP_STATUS.RAMP_OVERLIMIT, SP_STATUS.DWELLING, SP_STATUS.WP_INDEX, SP_STATUS.CMD_SLOT], []⟩,
  ⟨0x280004, 0x4, 0, 1, [1, 2], [SP_CFG.JOY_TIMEOUT, SP_CFG.TRACK_TURN_MAX, SP_CFG.WV_DEADBAND, SP_CFG.WV_TC], []⟩,
  ⟨0x280008, 0x4, 0, 1, [1, 2], [SP_CFG2.MOVE_MAX, SP_CFG2.TRACK_VMAX], []⟩,
  ⟨0x28000c, 0x4, 0, 1, [1, 2], [SP_EVENT.MODE_CHANGED, SP_EVENT.CMD_TAKEN, SP_EVENT.EST_DEGRADED, SP_EVENT.JOY_LOST, SP_EVENT.TRACK_DONE, SP_EVENT.TARGET_REACHED], []⟩,
  ⟨0x280010, 0x4, 0, 1, [1, 2], [SP_V_L.V], []⟩,
  ⟨0x280014, 0x4, 0, 1, [1, 2], [SP_A_L.V], []⟩,
  ⟨0x280018, 0x4, 0, 1, [1, 2], [SP_J_L.V], []⟩,
  ⟨0x28001c, 0x4, 0, 1, [1, 2], [SP_V_H.V], []⟩,
  ⟨0x280020, 0x4, 0, 1, [1, 2], [SP_A_H.V], []⟩,
  ⟨0x280024, 0x4, 0, 1, [1, 2], [SP_J_H.V], []⟩,
  ⟨0x280028, 0x4, 0, 1, [1, 2], [SP_JOY_FX.V], []⟩,
  ⟨0x28002c, 0x4, 0, 1, [1, 2], [SP_JOY_FY.V], []⟩]

/-- Register map, lane part 6. -/
def regRowsLane6 : List RegRow := [
  ⟨0x280030, 0x4, 0, 1, [1, 2], [SP_JOY_MZ.V], []⟩,
  ⟨0x280034, 0x4, 0, 1, [1, 2], [SP_PIVOT_X.V], []⟩,
  ⟨0x280038, 0x4, 0, 1, [1, 2], [SP_PIVOT_Y.V], []⟩,
  ⟨0x28003c, 0x4, 0, 1, [1, 2], [SP_WV_FMIN.V], []⟩,
  ⟨0x280040, 0x4, 0, 1, [1, 2], [SP_ACCEPTED.V], []⟩,
  ⟨0x280044, 0x4, 0, 1, [1, 2], [SP_REFUSED.V], []⟩,
  ⟨0x290000, 0x8, 0, 1, [1, 2], [SP_REF_N_REF.V], []⟩,
  ⟨0x290008, 0x8, 0, 1, [1, 2], [SP_REF_E_REF.V], []⟩,
  ⟨0x290010, 0x8, 0, 1, [1, 2], [SP_REF_PSI_REF.V], []⟩,
  ⟨0x290018, 0x8, 0, 1, [1, 2], [SP_REF_VN_REF.V], []⟩,
  ⟨0x290020, 0x8, 0, 1, [1, 2], [SP_REF_VE_REF.V], []⟩,
  ⟨0x290028, 0x8, 0, 1, [1, 2], [SP_REF_R_REF.V], []⟩]

/-- Register map, lane part 7. -/
def regRowsLane7 : List RegRow := [
  ⟨0x290030, 0x8, 0, 1, [1, 2], [SP_REF_N_TGT.V], []⟩,
  ⟨0x290038, 0x8, 0, 1, [1, 2], [SP_REF_E_TGT.V], []⟩,
  ⟨0x290040, 0x8, 0, 1, [1, 2], [SP_REF_PSI_TGT.V], []⟩,
  ⟨0x2a0000, 0x20, 32, 64, [1, 2], [SP_WP.N, SP_WP.E, SP_WP.SPEED, SP_WP.HDG, SP_WP.DWELL, SP_WP.FLAGS], [(0x2a001c, .ro)]⟩,
  ⟨0x2c0000, 0x4, 0, 1, [1, 2], [ASM_STATUS.RESULT, ASM_STATUS.POWER_SHORT, ASM_STATUS.SECTOR_SLACK, ASM_STATUS.REACH_WIDENED, ASM_STATUS.WIND_LOST, ASM_STATUS.FROM_FEEDBACK, ASM_STATUS.SECTIONS], []⟩,
  ⟨0x2c0004, 0x4, 0, 1, [1, 2], [ASM_SIZE.NVARS, ASM_SIZE.NROWS], []⟩,
  ⟨0x2c0008, 0x4, 0, 1, [1, 2], [ASM_HORIZON.STEPS, ASM_HORIZON.LOAD_STEPS, ASM_HORIZON.STEP_MS], []⟩,
  ⟨0x2c000c, 0x4, 0, 1, [1, 2], [ASM_PROG.WORDS, ASM_PROG.BOUND_US], []⟩,
  ⟨0x2c0010, 0x4, 0, 1, [1, 2], [ASM_FAIL.ARRAY, ASM_FAIL.INDEX], []⟩,
  ⟨0x2c0014, 0x4, 0, 1, [1, 2], [ASM_THR_ENABLE.ENABLE], []⟩,
  ⟨0x2c0018, 0x4, 0, 1, [1, 2], [ASM_EVENT.ASM_FAIL, ASM_EVENT.SHORT_SET, ASM_EVENT.SHORT_CLEAR, ASM_EVENT.SECTOR_SLACK, ASM_EVENT.REACH_WIDENED, ASM_EVENT.WIND_LOST, ASM_EVENT.AVAIL_CHANGED, ASM_EVENT.TIE_CHANGED], []⟩,
  ⟨0x2c001c, 0x4, 0, 1, [1, 2], [ASM_RUNS.V], []⟩]

/-- Register map, lane part 8. -/
def regRowsLane8 : List RegRow := [
  ⟨0x2c0020, 0x4, 0, 1, [1, 2], [ASM_FAILS.V], []⟩,
  ⟨0x2c0024, 0x4, 0, 1, [1, 2], [ASM_SHORT_CYCLES.V], []⟩,
  ⟨0x2c0040, 0x4, 0, 1, [1, 2], [ASM_Q_N.V], []⟩,
  ⟨0x2c0044, 0x4, 0, 1, [1, 2], [ASM_Q_E.V], []⟩,
  ⟨0x2c0048, 0x4, 0, 1, [1, 2], [ASM_Q_PSI.V], []⟩,
  ⟨0x2c004c, 0x4, 0, 1, [1, 2], [ASM_Q_U.V], []⟩,
  ⟨0x2c0050, 0x4, 0, 1, [1, 2], [ASM_Q_V.V], []⟩,
  ⟨0x2c0054, 0x4, 0, 1, [1, 2], [ASM_Q_R.V], []⟩,
  ⟨0x2c0058, 0x4, 0, 1, [1, 2], [ASM_QN_SCALE.V], []⟩,
  ⟨0x2c005c, 0x4, 0, 1, [1, 2], [ASM_QT_X.V], []⟩,
  ⟨0x2c0060, 0x4, 0, 1, [1, 2], [ASM_QT_Y.V], []⟩,
  ⟨0x2c0064, 0x4, 0, 1, [1, 2], [ASM_QT_N.V], []⟩]

/-- Register map, lane part 9. -/
def regRowsLane9 : List RegRow := [
  ⟨0x2c0068, 0x4, 0, 1, [1, 2], [ASM_RHO_LIN.V], []⟩,
  ⟨0x2c006c, 0x4, 0, 1, [1, 2], [ASM_RHO_QUAD.V], []⟩,
  ⟨0x2c0070, 0x4, 0, 1, [1, 2], [ASM_RHO_SEC.V], []⟩,
  ⟨0x2c0074, 0x4, 0, 1, [1, 2], [ASM_AVAIL_FRAC.V], []⟩,
  ⟨0x2c0078, 0x4, 0, 1, [1, 2], [ASM_LOAD_RATE.V], []⟩,
  ⟨0x2c007c, 0x4, 0, 1, [1, 2], [ASM_WIND_GAIN.V], []⟩,
  ⟨0x2c0080, 0x4, 0, 1, [1, 2], [ASM_WIND_HOLD.V], []⟩,
  ⟨0x2d0000, 0x20, 32, 32, [1, 2], [ASM_THR.W_THR, ASM_THR.W_RATE, ASM_THR.STATE, ASM_THR.SEC_LO, ASM_THR.SEC_HI, ASM_THR.P_EST, ASM_THR.FB_FX, ASM_THR.FB_FY], []⟩,
  ⟨0x2e0000, 0x20, 32, 8, [1, 2], [ASM_SEC.CAP, ASM_SEC.HOTEL, ASM_SEC.AVAIL, ASM_SEC.SLACK0, ASM_SEC.ONLINE, ASM_SEC.GROUP], [(0x2e0014, .ro), (0x2e0018, .ro), (0x2e001c, .ro)]⟩,
  ⟨0x300000, 0x4, 0, 1, [1, 2], [SOL_STATUS.RESULT, SOL_STATUS.ITERS, SOL_STATUS.WARM, SOL_STATUS.PIV_REPLACED, SOL_STATUS.REFINE_EXT, SOL_STATUS.RETRY, SOL_STATUS.CLIPPED, SOL_STATUS.FALLBACK, SOL_STATUS.SOLVER_LOST, SOL_STATUS.PIV_COUNT], []⟩,
  ⟨0x300004, 0x4, 0, 1, [1, 2], [SOL_CFG.DEADLINE_PCT, SOL_CFG.RELEASE_MS], []⟩,
  ⟨0x300008, 0x4, 0, 1, [1, 2], [SOL_START.START_US], []⟩]

/-- Register map, lane part 10. -/
def regRowsLane10 : List RegRow := [
  ⟨0x30000c, 0x4, 0, 1, [1, 2], [SOL_BUDGET.CYCLES], []⟩,
  ⟨0x300010, 0x4, 0, 1, [1, 2], [SOL_TIMING.ITER_US, SOL_TIMING.NOMINAL], []⟩,
  ⟨0x300014, 0x4, 0, 1, [1, 2], [SOL_SIZE.SUPERNODES, SOL_SIZE.SCHED_WORDS], []⟩,
  ⟨0x300018, 0x4, 0, 1, [1, 2], [SOL_NNZ.NNZ_L], []⟩,
  ⟨0x30001c, 0x4, 0, 1, [1, 2], [SOL_ITER.ITER_MAX, SOL_ITER.FALLBACK_N, SOL_ITER.RETURN_N], []⟩,
  ⟨0x300020, 0x4, 0, 1, [1, 2], [SOL_REFINE.REFINE_BASE], []⟩,
  ⟨0x300024, 0x4, 0, 1, [1, 2], [SOL_EPS_P.V], []⟩,
  ⟨0x300028, 0x4, 0, 1, [1, 2], [SOL_EPS_D.V], []⟩,
  ⟨0x30002c, 0x4, 0, 1, [1, 2], [SOL_EPS_GAP.V], []⟩,
  ⟨0x300030, 0x4, 0, 1, [1, 2], [SOL_DELTA_P.V], []⟩,
  ⟨0x300034, 0x4, 0, 1, [1, 2], [SOL_DELTA_D.V], []⟩,
  ⟨0x300038, 0x4, 0, 1, [1, 2], [SOL_PIV_MIN.V], []⟩]

/-- Register map, lane part 11. -/
def regRowsLane11 : List RegRow := [
  ⟨0x30003c, 0x4, 0, 1, [1, 2], [SOL_PIV_REPL.V], []⟩,
  ⟨0x300040, 0x4, 0, 1, [1, 2], [SOL_TAU.V], []⟩,
  ⟨0x300044, 0x4, 0, 1, [1, 2], [SOL_WS_PUSH.V], []⟩,
  ⟨0x300048, 0x4, 0, 1, [1, 2], [SOL_CONSEC.NOT_OPT_RUN, SOL_CONSEC.OPT_RUN], []⟩,
  ⟨0x30004c, 0x4, 0, 1, [1, 2], [SOL_MERIT.MERIT], []⟩,
  ⟨0x300050, 0x4, 0, 1, [1, 2], [SOL_EVENT.NOT_OPTIMAL, SOL_EVENT.FALLBACK_ENTER, SOL_EVENT.FALLBACK_EXIT, SOL_EVENT.NONFINITE, SOL_EVENT.DEADLINE, SOL_EVENT.STALE, SOL_EVENT.PIV_REPLACED, SOL_EVENT.REFINE_EXT, SOL_EVENT.ENGINE_RETIRED, SOL_EVENT.SOLVER_LOST, SOL_EVENT.TIME_DEADLINE], []⟩,
  ⟨0x300054, 0x4, 0, 1, [1, 2], [SOL_RUNS.V], []⟩,
  ⟨0x300058, 0x4, 0, 1, [1, 2], [SOL_OPTIMAL.V], []⟩,
  ⟨0x30005c, 0x4, 0, 1, [1, 2], [SOL_ITER_LIMIT.V], []⟩,
  ⟨0x300060, 0x4, 0, 1, [1, 2], [SOL_DEADLINE.V], []⟩,
  ⟨0x300064, 0x4, 0, 1, [1, 2], [SOL_STALE.V], []⟩,
  ⟨0x300068, 0x4, 0, 1, [1, 2], [SOL_NONFINITE.V], []⟩]

/-- Register map, lane part 12. -/
def regRowsLane12 : List RegRow := [
  ⟨0x30006c, 0x4, 0, 1, [1, 2], [SOL_PIV_REPL_CNT.V], []⟩,
  ⟨0x300070, 0x4, 0, 1, [1, 2], [SOL_REFINE_EXT.V], []⟩,
  ⟨0x300074, 0x4, 0, 1, [1, 2], [SOL_TRACE_CTRL.FREEZE], []⟩,
  ⟨0x310000, 0x4, 0, 1, [1, 2], [SOL_FURROW_MAP.PHYS0, SOL_FURROW_MAP.PHYS1, SOL_FURROW_MAP.PHYS2, SOL_FURROW_MAP.PHYS3, SOL_FURROW_MAP.PHYS4, SOL_FURROW_MAP.PHYS5, SOL_FURROW_MAP.PHYS6, SOL_FURROW_MAP.PHYS7], []⟩,
  ⟨0x310004, 0x4, 0, 1, [1, 2], [SOL_FURROW_STATE.RETIRED, SOL_FURROW_STATE.SPARE_USED, SOL_FURROW_STATE.SOLVER_LOST, SOL_FURROW_STATE.BIST_NEXT], []⟩,
  ⟨0x310100, 0x10, 16, 9, [1, 2], [SOL_ENG.PARITY, SOL_ENG.BIST_FAIL, SOL_ENG.BUSY, SOL_ENG.WINDOW], []⟩,
  ⟨0x330000, 0x20, 32, 41, [1, 2], [SOL_TRACE.R_P, SOL_TRACE.R_D, SOL_TRACE.MU, SOL_TRACE.MERIT, SOL_TRACE.ALPHA, SOL_TRACE.SIGMA, SOL_TRACE.PIVOTS, SOL_TRACE.FLAGS], [(0x33001c, .ro)]⟩,
  ⟨0x340000, 0x4, 0, 1, [1, 2], [LOOP_STATUS.DEFINED, LOOP_STATUS.SPARES_LEFT, LOOP_STATUS.FALLBACK, LOOP_STATUS.SLOT_LOST, LOOP_STATUS.PIPE_DEGRADED, LOOP_STATUS.BFP_ANY, LOOP_STATUS.PLAUS_ANY, LOOP_STATUS.RC_HOLD_ANY], []⟩,
  ⟨0x340004, 0x4, 0, 1, [1, 2], [LOOP_CFG.BOUND_US, LOOP_CFG.FALLBACK_RES], []⟩,
  ⟨0x340008, 0x4, 4, 8, [1, 2], [LOOP_PLAUS_ACK.ACK], []⟩,
  ⟨0x340028, 0x4, 0, 1, [1, 2], [LOOP_TRACE_CTRL.FREEZE], []⟩,
  ⟨0x34002c, 0x4, 0, 1, [1, 2], [LOOP_EVENT.REGION_SWAP, LOOP_EVENT.CLAMP_ON_SWAP, LOOP_EVENT.BFP_ENTER, LOOP_EVENT.BFP_EXIT, LOOP_EVENT.STATE_SAT, LOOP_EVENT.PLAUS_FAULT, LOOP_EVENT.PLAUS_CLEARED, LOOP_EVENT.RC_HOLD, LOOP_EVENT.SLOT_RETIRED, LOOP_EVENT.SLOT_LOST, LOOP_EVENT.PIPE_DEGRADED, LOOP_EVENT.RESTART, LOOP_EVENT.FB_STALE], []⟩]

/-- Register map, lane part 13. -/
def regRowsLane13 : List RegRow := [
  ⟨0x340030, 0x4, 0, 1, [1, 2], [LOOP_TICKS.V], []⟩,
  ⟨0x340034, 0x4, 0, 1, [1, 2], [LOOP_SWAPS.V], []⟩,
  ⟨0x340038, 0x4, 0, 1, [1, 2], [LOOP_CLAMP_SWAPS.V], []⟩,
  ⟨0x34003c, 0x4, 0, 1, [1, 2], [LOOP_BFP_RAISES.V], []⟩,
  ⟨0x340040, 0x4, 0, 1, [1, 2], [LOOP_STATE_SAT.V], []⟩,
  ⟨0x340044, 0x4, 0, 1, [1, 2], [LOOP_OUT_SAT.V], []⟩,
  ⟨0x340048, 0x4, 0, 1, [1, 2], [LOOP_PASS_MAX.V], []⟩,
  ⟨0x341000, 0x10, 16, 256, [1, 2], [LOOP_SLOT.PHYS, LOOP_SLOT.REGION, LOOP_SLOT.BX, LOOP_SLOT.FLAGS, LOOP_SLOT.SWAPS, LOOP_SLOT.OUT, LOOP_SLOT.U_PRE], []⟩,
  ⟨0x342000, 0x4, 4, 272, [1, 2], [LOOP_PHYS.LOGICAL, LOOP_PHYS.RETIRED, LOOP_PHYS.WINDOW, LOOP_PHYS.BIST_FAIL], []⟩,
  ⟨0x350000, 0x80, 128, 256, [1, 2], [LOOP_DESC.ROLE, LOOP_DESC.THRUSTER, LOOP_DESC.SP_KIND, LOOP_DESC.FB_KIND, LOOP_DESC.SP_INDEX, LOOP_DESC.FB_INDEX, LOOP_DESC.FF_KIND, LOOP_DESC.SCHED_KIND, LOOP_DESC.FF_INDEX, LOOP_DESC.SCHED_INDEX, LOOP_DESC.NREG, LOOP_DESC.OPTIONS, LOOP_DESC.FS, LOOP_DESC.OUT_FS, LOOP_DESC.FS_FF, LOOP_DESC.FS_SCHED, LOOP_DESC.OUT_A, LOOP_DESC.OUT_B, LOOP_DESC.REGION_BASE, LOOP_DESC.RC_LOG2N, LOOP_DESC.RC_SRC, LOOP_DESC.RC_SRC_INDEX, LOOP_DESC.RC_BASE, LOOP_DESC.RC_PERIOD_US, LOOP_DESC.RC_PER_MIN_US, LOOP_DESC.RC_PER_MAX_US, LOOP_DESC.RC_LEAD, LOOP_DESC.MODEL_ON, LOOP_DESC.DT_DIV, LOOP_DESC.DT_TAPS, LOOP_DESC.MOD_K, LOOP_DESC.MOD_ALPHA, LOOP_DESC.RES_BETA, LOOP_DESC.PL_THRESH, LOOP_DESC.PL_TIME, LOOP_DESC.DWELL, LOOP_DESC.HYST, LOOP_DESC.BFP_MAX, LOOP_DESC.BFP_DWELL, LOOP_DESC.RETIRE_VALUE], [(0x350070, .ly), (0x350074, .ly), (0x350078, .ly), (0x35007c, .ly)]⟩,
  ⟨0x360000, 0x80, 128, 512, [1, 2], [LOOP_REG.LO, LOOP_REG.KP, LOOP_REG.KI, LOOP_REG.KD, LOOP_REG.AD, LOOP_REG.KT, LOOP_REG.KF, LOOP_REG.BQ1_B0, LOOP_REG.BQ1_B1, LOOP_REG.BQ1_B2, LOOP_REG.BQ1_A1, LOOP_REG.BQ1_A2, LOOP_REG.BQ2_B0, LOOP_REG.BQ2_B1, LOOP_REG.BQ2_B2, LOOP_REG.BQ2_A1, LOOP_REG.BQ2_A2, LOOP_REG.RC_L, LOOP_REG.RC_Q, LOOP_REG.UMIN, LOOP_REG.UMAX, LOOP_REG.RATE_UP, LOOP_REG.RATE_DN], [(0x36005c, .tx), (0x360060, .tx), (0x360064, .tx), (0x360068, .tx), (0x36006c, .tx), (0x360070, .tx), (0x360074, .tx), (0x360078, .tx), (0x36007c, .tx)]⟩,
  ⟨0x370000, 0x60, 96, 256, [1, 2], [LOOP_REC.OUT, LOOP_REC.INTEG, LOOP_REC.BQ1_S1, LOOP_REC.BQ1_S2, LOOP_REC.BQ2_S1, LOOP_REC.BQ2_S2, LOOP_REC.D_STATE, LOOP_REC.D_XPREV, LOOP_REC.Y_PREV, LOOP_REC.RC_PHASE, LOOP_REC.RC_INC, LOOP_REC.RC_NEXT_READ, LOOP_REC.RC_NEXT_UPD, LOOP_REC.MOD_Y, LOOP_REC.MOD_RES, LOOP_REC.MOD_DELAY0, LOOP_REC.MOD_DELAY1, LOOP_REC.MOD_DELAY2, LOOP_REC.MOD_DELAY3, LOOP_REC.MOD_DELAY4, LOOP_REC.MOD_DELAY5, LOOP_REC.MOD_DELAY6, LOOP_REC.MOD_DELAY7, LOOP_REC.MOD_DELAY8, LOOP_REC.MOD_DELAY9, LOOP_REC.MOD_DELAY10, LOOP_REC.MOD_DELAY11, LOOP_REC.REGION, LOOP_REC.CAND, LOOP_REC.DWELL_CNT, LOOP_REC.BX, LOOP_REC.STFLAGS, LOOP_REC.PL_CNT, LOOP_REC.BFP_CNT], []⟩]

/-- Register map, lane part 14. -/
def regRowsLane14 : List RegRow := [
  ⟨0x344000, 0x30, 48, 32, [1, 2], [LOOP_ALLOC.AX_X, LOOP_ALLOC.AX_Y, LOOP_ALLOC.AX_N, LOOP_ALLOC.AY_X, LOOP_ALLOC.AY_Y, LOOP_ALLOC.AY_N], []⟩,
  ⟨0x250000, 0x8, 8, 24, [1, 2], [EST_Q.V], []⟩,
  ⟨0x270000, 0x8, 8, 24, [1, 2], [EST_X.V], []⟩,
  ⟨0x270100, 0x8, 8, 300, [1, 2], [EST_P.V], []⟩,
  ⟨0x320000, 0x8, 8, 4096, [1, 2], [SOL_RES.V], []⟩]

/-- The register map rows of this file. -/
def regRowsLane : List RegRow :=
  regRowsLane0 ++ regRowsLane1 ++ regRowsLane2 ++ regRowsLane3 ++ regRowsLane4 ++ regRowsLane5 ++ regRowsLane6 ++ regRowsLane7 ++ regRowsLane8 ++ regRowsLane9 ++ regRowsLane10 ++ regRowsLane11 ++ regRowsLane12 ++ regRowsLane13 ++ regRowsLane14

/-- Identities of the fields of this file: from the first, below the second. -/
def regLaneIds : Nat × Nat := (1, 538)

end Sys2Proof.Machine
end

