-- ==== Sys2Proof/Machine/RegsPort.lean ====
section
/-! DEFINITION. The register fields of the basebands and the port dies (spec chapters 09 to 12), one definition a field, with the
address, bits, access and reset of its field table, and the register map rows they make. -/

namespace Sys2Proof.Machine

/-- spec/09, GNS_STATUS, bits [2:0]: 0 OFF, 1 SEARCHING, 2 TRACKING, 3 ALL_LOST, 4 SLEEP, 5 WAKE, 6 CLOCK_DEGRADED. -/
def GNS_STATUS.STATE : Fld := ⟨538, 0x400000, 0, 3, .ro, .const 0, 0, 1⟩
/-- spec/09, GNS_STATUS, bits [4:3]: 0 OFF, 1 PRESENT, 2 OPEN, 3 SHORT (R247). -/
def GNS_STATUS.ANT_STATE : Fld := ⟨539, 0x400000, 3, 2, .ro, .const 0, 0, 1⟩
/-- spec/09, GNS_STATUS, bits [5:5]: R254. -/
def GNS_STATUS.CHAN_SHORT : Fld := ⟨540, 0x400000, 5, 1, .ro, .const 0, 0, 1⟩
/-- spec/09, GNS_STATUS, bits [6:6]: R276. -/
def GNS_STATUS.SEARCH_SUSPENDED : Fld := ⟨541, 0x400000, 6, 1, .ro, .const 0, 0, 1⟩
/-- spec/09, GNS_STATUS, bits [7:7]: Reflectometer running. -/
def GNS_STATUS.REFLECT_BUSY : Fld := ⟨542, 0x400000, 7, 1, .ro, .const 0, 0, 1⟩
/-- spec/09, GNS_STATUS, bits [15:8]: Channels tracking, 0 to 160. -/
def GNS_STATUS.TRACKING : Fld := ⟨543, 0x400000, 8, 8, .ro, .const 0, 0, 1⟩
/-- spec/09, GNS_STATUS, bits [23:16]: Free channels, 0 to 160. -/
def GNS_STATUS.FREE : Fld := ⟨544, 0x400000, 16, 8, .ro, .const 0xa0, 0, 1⟩
/-- spec/09, GNS_CTRL, bits [0:0]: 1: trigger a capture. -/
def GNS_CTRL.SNAP_TRIGGER : Fld := ⟨545, 0x400004, 0, 1, .wo, .const 0, 0, 1⟩
/-- spec/09, GNS_CTRL, bits [1:1]: 1: discard a held capture. -/
def GNS_CTRL.SNAP_RELEASE : Fld := ⟨546, 0x400004, 1, 1, .wo, .const 0, 0, 1⟩
/-- spec/09, GNS_CTRL, bits [2:2]: 1: start the reflectometer (R270). -/
def GNS_CTRL.REFLECT_START : Fld := ⟨547, 0x400004, 2, 1, .wo, .const 0, 0, 1⟩
/-- spec/09, GNS_CTRL, bits [3:3]: 1: retry the bias now (R248). -/
def GNS_CTRL.ANT_RETRY : Fld := ⟨548, 0x400004, 3, 1, .wo, .const 0, 0, 1⟩
/-- spec/09, GNS_CABLE_DELAY, bits [15:0]: Signed, 0.1 ns, −20,000 to +20,000 (R269). -/
def GNS_CABLE_DELAY.DELAY : Fld := ⟨549, 0x400008, 0, 16, .tx, .const 0, 0, 1⟩
/-- spec/09, GNS_ANT_CFG, bits [0:0]: Antenna bias on. -/
def GNS_ANT_CFG.BIAS_EN : Fld := ⟨550, 0x40000c, 0, 1, .tx, .const 1, 0, 1⟩
/-- spec/09, GNS_ANT_CFG, bits [15:8]: mA, 1 to 20. -/
def GNS_ANT_CFG.OPEN_MA : Fld := ⟨551, 0x40000c, 8, 8, .tx, .const 4, 0, 1⟩
/-- spec/09, GNS_ANT_CFG, bits [23:16]: mA, above OPEN_MA, up to 110. -/
def GNS_ANT_CFG.SHORT_MA : Fld := ⟨552, 0x40000c, 16, 8, .tx, .const 0x5a, 0, 1⟩
/-- spec/09, GNS_ANT_CFG, bits [31:24]: Seconds, 1 to 255. -/
def GNS_ANT_CFG.RETRY_S : Fld := ⟨553, 0x40000c, 24, 8, .tx, .const 0xa, 0, 1⟩
/-- spec/09, GNS_ANT_CURRENT, bits [15:0]: Bias current, 0.1 mA. -/
def GNS_ANT_CURRENT.CURRENT : Fld := ⟨554, 0x400010, 0, 16, .ro, .const 0, 0, 1⟩
/-- spec/09, GNS_AGC, bits [15:0]: Gain, 0.1 dB. -/
def GNS_AGC.AGC_L1 : Fld := ⟨555, 0x400014, 0, 16, .ro, .const 0, 0, 1⟩
/-- spec/09, GNS_AGC, bits [31:16]: Gain, 0.1 dB. -/
def GNS_AGC.AGC_L5 : Fld := ⟨556, 0x400014, 16, 16, .ro, .const 0, 0, 1⟩
/-- spec/09, GNS_TRACK_CFG, bits [7:0]: Hz, 5 to 25. -/
def GNS_TRACK_CFG.PLL_BW : Fld := ⟨557, 0x400018, 0, 8, .tx, .const 0xf, 0, 1⟩
/-- spec/09, GNS_TRACK_CFG, bits [15:8]: 0.01 Hz, 5 to 200. -/
def GNS_TRACK_CFG.DLL_BW : Fld := ⟨558, 0x400018, 8, 8, .tx, .const 0x32, 0, 1⟩
/-- spec/09, GNS_TRACK_CFG, bits [23:16]: Seconds, 1 to 60 (R252). -/
def GNS_TRACK_CFG.REACQ_S : Fld := ⟨559, 0x400018, 16, 8, .tx, .const 5, 0, 1⟩
/-- spec/09, GNS_CORR_CFG, bits [4:0]: D_N on L1, 1/64 chip, 3 to 16. -/
def GNS_CORR_CFG.DN_L1 : Fld := ⟨560, 0x40001c, 0, 5, .tx, .const 4, 0, 1⟩
/-- spec/09, GNS_CORR_CFG, bits [12:8]: D_N on L5, 1/64 chip, 6 to 16. -/
def GNS_CORR_CFG.DN_L5 : Fld := ⟨561, 0x40001c, 8, 5, .tx, .const 8, 0, 1⟩
/-- spec/09, GNS_CORR_CFG, bits [17:16]: R251; 3 refused. -/
def GNS_CORR_CFG.MP_L1 : Fld := ⟨562, 0x40001c, 16, 2, .tx, .const 2, 0, 1⟩
/-- spec/09, GNS_CORR_CFG, bits [19:18]: R251; 3 refused. -/
def GNS_CORR_CFG.MP_L5 : Fld := ⟨563, 0x40001c, 18, 2, .tx, .const 1, 0, 1⟩
/-- spec/09, GNS_CORR_CFG, bits [26:20]: 1/64 chip, 16 to 96. -/
def GNS_CORR_CFG.VE_OFF : Fld := ⟨564, 0x40001c, 20, 7, .tx, .const 0x40, 0, 1⟩
/-- spec/09, GNS_HARBOUR, bits [0:0]: Harbour watch enabled (R273). -/
def GNS_HARBOUR.HW_EN : Fld := ⟨565, 0x400020, 0, 1, .tx, .const 0, 0, 1⟩
/-- spec/09, GNS_HARBOUR, bits [11:1]: Minutes, 1 to 1,440. -/
def GNS_HARBOUR.HW_INTERVAL : Fld := ⟨566, 0x400020, 1, 11, .tx, .const 0x3c, 0, 1⟩
/-- spec/09, GNS_HARBOUR, bits [23:12]: Seconds, 30 to 600. -/
def GNS_HARBOUR.HW_WAKE_MAX : Fld := ⟨567, 0x400020, 12, 12, .tx, .const 0xb4, 0, 1⟩
/-- spec/09, GNS_SNAP_CFG, bits [6:0]: 2 to 64; at most 40 with FULL4. -/
def GNS_SNAP_CFG.LENGTH_MS : Fld := ⟨568, 0x400024, 0, 7, .tx, .const 0x10, 0, 1⟩
/-- spec/09, GNS_SNAP_CFG, bits [7:7]: 0 FULL4, 1 PACK2 (R275). -/
def GNS_SNAP_CFG.FORMAT : Fld := ⟨569, 0x400024, 7, 1, .tx, .const 0, 0, 1⟩
/-- spec/09, GNS_SNAP_CFG, bits [12:8]: Bits 8 to 11: weirs 0 to 3; bit 12: port-die weir route. -/
def GNS_SNAP_CFG.TRIG_MASK : Fld := ⟨570, 0x400024, 8, 5, .tx, .const 0x1f, 0, 1⟩
/-- spec/09, GNS_SNAP_CFG, bits [27:16]: Seconds, 10 to 3,600 (R277). -/
def GNS_SNAP_CFG.HOLD_MAX : Fld := ⟨571, 0x400024, 16, 12, .tx, .const 0x258, 0, 1⟩
/-- spec/09, GNS_SNAP_STATUS, bits [1:0]: 0 IDLE, 1 WAITING, 2 CAPTURING, 3 HELD. -/
def GNS_SNAP_STATUS.SNAP_STATE : Fld := ⟨572, 0x400028, 0, 2, .ro, .const 0, 0, 1⟩
/-- spec/09, GNS_SNAP_STATUS, bits [2:2]: Export in progress. -/
def GNS_SNAP_STATUS.EXPORTING : Fld := ⟨573, 0x400028, 2, 1, .ro, .const 0, 0, 1⟩
/-- spec/09, GNS_SNAP_STATUS, bits [14:8]: Length of the held capture. -/
def GNS_SNAP_STATUS.LENGTH_MS : Fld := ⟨574, 0x400028, 8, 7, .ro, .const 0, 0, 1⟩
/-- spec/09, GNS_SNAP_STATUS, bits [15:15]: Format of the held capture. -/
def GNS_SNAP_STATUS.FORMAT : Fld := ⟨575, 0x400028, 15, 1, .ro, .const 0, 0, 1⟩
/-- spec/09, GNS_SNAP_STATUS, bits [18:16]: 0 command, 1 to 4 weirs 0 to 3, 5 port-die weir. -/
def GNS_SNAP_STATUS.TRIGGER : Fld := ⟨576, 0x400028, 16, 3, .ro, .const 0, 0, 1⟩
/-- spec/09, GNS_SNAP_T0, bits [63:0]: Device time of the first sample, ns; pair under R11. -/
def GNS_SNAP_T0.T0 : Fld := ⟨577, 0x40002c, 0, 64, .ro, .const 0, 0, 1⟩
/-- spec/09, GNS_REFLECT_CFG, bits [9:0]: Velocity factor, 0.001, 500 to 1,000. -/
def GNS_REFLECT_CFG.VF : Fld := ⟨578, 0x400034, 0, 10, .tx, .const 0x352, 0, 1⟩
/-- spec/09, GNS_REFLECT_RESULT, bits [11:0]: Cable length, 0.1 m. -/
def GNS_REFLECT_RESULT.LENGTH : Fld := ⟨579, 0x400038, 0, 12, .ro, .const 0, 0, 1⟩
/-- spec/09, GNS_REFLECT_RESULT, bits [12:12]: The last run completed. -/
def GNS_REFLECT_RESULT.VALID : Fld := ⟨580, 0x400038, 12, 1, .ro, .const 0, 0, 1⟩
/-- spec/09, GNS_REFLECT_RESULT, bits [30:16]: Proposed delay, 0.1 ns, at most 20,000. -/
def GNS_REFLECT_RESULT.PROPOSED : Fld := ⟨581, 0x400038, 16, 15, .ro, .const 0, 0, 1⟩
/-- spec/09, GNS_REFLECT_RESULT, bits [31:31]: The proposal exceeded 2,000 ns and was clipped. -/
def GNS_REFLECT_RESULT.CLIPPED : Fld := ⟨582, 0x400038, 31, 1, .ro, .const 0, 0, 1⟩
/-- spec/09, GNS_WEIR, bits [1:0]; 4 entries: 0 AGC_L1, 1 AGC_L5, 2 C/N0 L1, 3 C/N0 L5. -/
def GNS_WEIR.SIGNAL : Fld := ⟨583, 0x400040, 0, 2, .tx, .const 0, 4, 4⟩
/-- spec/09, GNS_WEIR, bits [2:2]; 4 entries: 0 fires below, 1 fires above. -/
def GNS_WEIR.DIR : Fld := ⟨584, 0x400040, 2, 1, .tx, .const 0, 4, 4⟩
/-- spec/09, GNS_WEIR, bits [3:3]; 4 entries: Weir enabled. -/
def GNS_WEIR.EN : Fld := ⟨585, 0x400040, 3, 1, .tx, .const 0, 4, 4⟩
/-- spec/09, GNS_WEIR, bits [13:4]; 4 entries: 0.1 dB or 0.1 dB-Hz. -/
def GNS_WEIR.THRESH : Fld := ⟨586, 0x400040, 4, 10, .tx, .const 0, 4, 4⟩
/-- spec/09, GNS_WEIR, bits [19:14]; 4 entries: 0.1 dB or 0.1 dB-Hz. -/
def GNS_WEIR.HYST : Fld := ⟨587, 0x400040, 14, 6, .tx, .const 0, 4, 4⟩
/-- spec/09, GNS_WEIR, bits [27:20]; 4 entries: 10 ms, 0 to 255. -/
def GNS_WEIR.MIN_DUR : Fld := ⟨588, 0x400040, 20, 8, .tx, .const 0, 4, 4⟩
/-- spec/09, GNS_WEIR, bits [28:28]; 4 entries: Log each firing. -/
def GNS_WEIR.TO_LOG : Fld := ⟨589, 0x400040, 28, 1, .tx, .const 0, 4, 4⟩
/-- spec/09, GNS_WEIR, bits [29:29]; 4 entries: Trigger a capture (R275). -/
def GNS_WEIR.TO_SNAP : Fld := ⟨590, 0x400040, 29, 1, .tx, .const 0, 4, 4⟩
/-- spec/09, GNS_EVENT, bits [0:0]: R247. -/
def GNS_EVENT.ANT_OPEN : Fld := ⟨591, 0x400050, 0, 1, .w1c, .const 0, 0, 1⟩
/-- spec/09, GNS_EVENT, bits [1:1]: R247. -/
def GNS_EVENT.ANT_SHORT : Fld := ⟨592, 0x400050, 1, 1, .w1c, .const 0, 0, 1⟩
/-- spec/09, GNS_EVENT, bits [2:2]: R248. -/
def GNS_EVENT.ANT_OK : Fld := ⟨593, 0x400050, 2, 1, .w1c, .const 0, 0, 1⟩
/-- spec/09, GNS_EVENT, bits [3:3]: R272. -/
def GNS_EVENT.ALL_LOST : Fld := ⟨594, 0x400050, 3, 1, .w1c, .const 0, 0, 1⟩
/-- spec/09, GNS_EVENT, bits [4:4]: R272. -/
def GNS_EVENT.SIGNALS_BACK : Fld := ⟨595, 0x400050, 4, 1, .w1c, .const 0, 0, 1⟩
/-- spec/09, GNS_EVENT, bits [5:5]: A capture is held. -/
def GNS_EVENT.SNAP_READY : Fld := ⟨596, 0x400050, 5, 1, .w1c, .const 0, 0, 1⟩
/-- spec/09, GNS_EVENT, bits [6:6]: R277. -/
def GNS_EVENT.SNAP_MISSED : Fld := ⟨597, 0x400050, 6, 1, .w1c, .const 0, 0, 1⟩
/-- spec/09, GNS_EVENT, bits [7:7]: R277. -/
def GNS_EVENT.SNAP_DISCARDED : Fld := ⟨598, 0x400050, 7, 1, .w1c, .const 0, 0, 1⟩
/-- spec/09, GNS_EVENT, bits [8:8]: R270. -/
def GNS_EVENT.REFLECT_DONE : Fld := ⟨599, 0x400050, 8, 1, .w1c, .const 0, 0, 1⟩
/-- spec/09, GNS_EVENT, bits [9:9]: R276. -/
def GNS_EVENT.REFLECT_ABORTED : Fld := ⟨600, 0x400050, 9, 1, .w1c, .const 0, 0, 1⟩
/-- spec/09, GNS_EVENT, bits [10:10]: R254. -/
def GNS_EVENT.CHAN_RETIRED : Fld := ⟨601, 0x400050, 10, 1, .w1c, .const 0, 0, 1⟩
/-- spec/09, GNS_EVENT, bits [11:11]: R254. -/
def GNS_EVENT.CHAN_SHORT : Fld := ⟨602, 0x400050, 11, 1, .w1c, .const 0, 0, 1⟩
/-- spec/09, GNS_EVENT, bits [12:12]: A weir fired. -/
def GNS_EVENT.WEIR : Fld := ⟨603, 0x400050, 12, 1, .w1c, .const 0, 0, 1⟩
/-- spec/09, GNS_EVENT, bits [13:13]: R274. -/
def GNS_EVENT.HW_SLEEP : Fld := ⟨604, 0x400050, 13, 1, .w1c, .const 0, 0, 1⟩
/-- spec/09, GNS_EVENT, bits [14:14]: R274. -/
def GNS_EVENT.HW_WAKE : Fld := ⟨605, 0x400050, 14, 1, .w1c, .const 0, 0, 1⟩
/-- spec/09, GNS_EVENT, bits [15:15]: R249. -/
def GNS_EVENT.CLOCK_DEGRADED : Fld := ⟨606, 0x400050, 15, 1, .w1c, .const 0, 0, 1⟩
/-- spec/09, GNS_RECORDS, bits [31:0]: Raw records sent; wraps. -/
def GNS_RECORDS.V : Fld := ⟨607, 0x400054, 0, 32, .ro, .const 0, 0, 1⟩
/-- spec/09, GNS_SLIPS, bits [31:0]: Cycle slips, all channels; wraps. -/
def GNS_SLIPS.V : Fld := ⟨608, 0x400058, 0, 32, .ro, .const 0, 0, 1⟩
/-- spec/09, GNS_NAV_ERR, bits [31:0]: Pages failing checks, and refused plan entries; wraps. -/
def GNS_NAV_ERR.V : Fld := ⟨609, 0x40005c, 0, 32, .ro, .const 0, 0, 1⟩
/-- spec/09, GNS_ACQ_HITS, bits [31:0]: Verified hits (R255); wraps. -/
def GNS_ACQ_HITS.V : Fld := ⟨610, 0x400060, 0, 32, .ro, .const 0, 0, 1⟩
/-- spec/09, GNS_SNAP_MISSED, bits [31:0]: R277; wraps. -/
def GNS_SNAP_MISSED.V : Fld := ⟨611, 0x400064, 0, 32, .ro, .const 0, 0, 1⟩
/-- spec/09, GNS_CHAN, bits [7:0]; 160 entries: 0 none, 1 GPS, 2 Galileo, 3 BeiDou, 4 QZSS, 5 SBAS. -/
def GNS_CHAN.SYS : Fld := ⟨612, 0x410000, 0, 8, .ro, .const 0, 16, 160⟩
/-- spec/09, GNS_CHAN, bits [15:8]; 160 entries: Satellite number. -/
def GNS_CHAN.PRN : Fld := ⟨613, 0x410000, 8, 8, .ro, .const 0, 16, 160⟩
/-- spec/09, GNS_CHAN, bits [23:16]; 160 entries: [0] band (0 L1, 1 L5), [1] pilot, [3:2] MP mode, [7:4] reserved. -/
def GNS_CHAN.SIG : Fld := ⟨614, 0x410000, 16, 8, .ro, .const 0, 16, 160⟩
/-- spec/09, GNS_CHAN, bits [31:24]; 160 entries: 0 FREE, 1 PULL_IN, 2 TRACKING, 3 REACQ, 4 RETIRED. -/
def GNS_CHAN.STATE : Fld := ⟨615, 0x410000, 24, 8, .ro, .const 0, 16, 160⟩
/-- spec/09, GNS_CHAN, bits [15:0]; 160 entries: 0.01 dB-Hz. -/
def GNS_CHAN.CN0 : Fld := ⟨616, 0x410004, 0, 16, .ro, .const 0, 16, 160⟩
/-- spec/09, GNS_CHAN, bits [31:16]; 160 entries: Seconds; saturates. -/
def GNS_CHAN.LOCK_TIME : Fld := ⟨617, 0x410004, 16, 16, .ro, .const 0, 16, 160⟩
/-- spec/09, GNS_CHAN, bits [15:0]; 160 entries: Cycle slips; wraps. -/
def GNS_CHAN.SLIPS : Fld := ⟨618, 0x410008, 0, 16, .ro, .const 0, 16, 160⟩
/-- spec/09, GNS_CHAN, bits [23:16]; 160 entries: Faults within the steward's permanent-fault window. -/
def GNS_CHAN.WINDOW : Fld := ⟨619, 0x410008, 16, 8, .ro, .const 0, 16, 160⟩
/-- spec/09, GNS_CHAN, bits [31:24]; 160 entries: Built-in test failures; saturates. -/
def GNS_CHAN.BIST_FAIL : Fld := ⟨620, 0x410008, 24, 8, .ro, .const 0, 16, 160⟩
/-- spec/10, SIG_STATUS, bits [15:0]: Bit n: AIN n FILLING (R284). -/
def SIG_STATUS.FILLING : Fld := ⟨621, 0x500000, 0, 16, .ro, .const 0xffff, 0, 1⟩
/-- spec/10, SIG_STATUS, bits [16:16]: State of PORT_OK (R303). -/
def SIG_STATUS.PORT_OK : Fld := ⟨622, 0x500000, 16, 1, .ro, .const 0, 0, 1⟩
/-- spec/10, SIG_STATUS, bits [17:17]: The PORTS section is applied. -/
def SIG_STATUS.LAYOUT : Fld := ⟨623, 0x500000, 17, 1, .ro, .const 0, 0, 1⟩
/-- spec/10, SIG_SYNC, bits [15:0]: Bit n: synchronising reset of AIN n (R283). -/
def SIG_SYNC.SYNC : Fld := ⟨624, 0x500004, 0, 16, .wo, .const 0, 0, 1⟩
/-- spec/10, SIG_TEST, bits [4:0]: AOUT 0 to 15 or DIO 0 to 23. -/
def SIG_TEST.OUTPUT : Fld := ⟨625, 0x500008, 0, 5, .rw, .const 0, 0, 1⟩
/-- spec/10, SIG_TEST, bits [5:5]: 0 AOUT, 1 DIO. -/
def SIG_TEST.KIND : Fld := ⟨626, 0x500008, 5, 1, .rw, .const 0, 0, 1⟩
/-- spec/10, SIG_TEST, bits [6:6]: 1: drive VALUE (R305). -/
def SIG_TEST.EN : Fld := ⟨627, 0x500008, 6, 1, .rw, .const 0, 0, 1⟩
/-- spec/10, SIG_TEST, bits [31:16]: DAC code, or level in bit 16. -/
def SIG_TEST.VALUE : Fld := ⟨628, 0x500008, 16, 16, .rw, .const 0, 0, 1⟩
/-- spec/10, SIG_EVENT, bits [0:0]: A weir fired. -/
def SIG_EVENT.WEIR : Fld := ⟨629, 0x50000c, 0, 1, .w1c, .const 0, 0, 1⟩
/-- spec/10, SIG_EVENT, bits [1:1]: A channel left FILLING. -/
def SIG_EVENT.FILL_DONE : Fld := ⟨630, 0x50000c, 1, 1, .w1c, .const 0, 0, 1⟩
/-- spec/10, SIG_EVENT, bits [2:2]: R285. -/
def SIG_EVENT.OVERRANGE : Fld := ⟨631, 0x50000c, 2, 1, .w1c, .const 0, 0, 1⟩
/-- spec/10, SIG_EVENT, bits [3:3]: A UART discarded input (R291). -/
def SIG_EVENT.FRAME_ERR : Fld := ⟨632, 0x50000c, 3, 1, .w1c, .const 0, 0, 1⟩
/-- spec/10, SIG_EVENT, bits [4:4]: R298. -/
def SIG_EVENT.DAC_OPEN : Fld := ⟨633, 0x50000c, 4, 1, .w1c, .const 0, 0, 1⟩
/-- spec/10, SIG_EVENT, bits [5:5]: R298. -/
def SIG_EVENT.DAC_SHORT : Fld := ⟨634, 0x50000c, 5, 1, .w1c, .const 0, 0, 1⟩
/-- spec/10, SIG_EVENT, bits [6:6]: R305. -/
def SIG_EVENT.TEST_REFUSED : Fld := ⟨635, 0x50000c, 6, 1, .w1c, .const 0, 0, 1⟩
/-- spec/10, SIG_EVENT, bits [7:7]: PORT_OK went low. -/
def SIG_EVENT.PORT_OK_LOW : Fld := ⟨636, 0x50000c, 7, 1, .w1c, .const 0, 0, 1⟩
/-- spec/10, SIG_AIN, bits [7:0]; 16 entries: 1: channel in use. -/
def SIG_AIN.EN : Fld := ⟨637, 0x510000, 0, 8, .ly, .const 0, 32, 16⟩
/-- spec/10, SIG_AIN, bits [15:8]; 16 entries: 1 to 4. -/
def SIG_AIN.S : Fld := ⟨638, 0x510000, 8, 8, .tx, .const 0, 32, 16⟩
/-- spec/10, SIG_AIN, bits [31:16]; 16 entries: 1 to 4,096. -/
def SIG_AIN.L : Fld := ⟨639, 0x510000, 16, 16, .tx, .const 0, 32, 16⟩
/-- spec/10, SIG_AIN, bits [15:0]; 16 entries: 1 to L; R286. -/
def SIG_AIN.D : Fld := ⟨640, 0x510004, 0, 16, .tx, .const 0, 32, 16⟩
/-- spec/10, SIG_AIN, bits [31:16]; 16 entries: [0] FILLING, [1] OVERRANGE, [15:2] reserved. -/
def SIG_AIN.FLAGS : Fld := ⟨641, 0x510004, 16, 16, .ro, .const 0, 32, 16⟩
/-- spec/10, SIG_AIN, bits [31:0]; 16 entries: R282. -/
def SIG_AIN.GD_NS : Fld := ⟨642, 0x510008, 0, 32, .ro, .const 0, 32, 16⟩
/-- spec/10, SIG_AIN, bits [31:0]; 16 entries: Last output code. -/
def SIG_AIN.LAST : Fld := ⟨643, 0x51000c, 0, 32, .ro, .const 0, 32, 16⟩
/-- spec/10, SIG_AIN, bits [15:0]; 16 entries: Samples still to enter before FILLING clears. -/
def SIG_AIN.FILL_LEFT : Fld := ⟨644, 0x510010, 0, 16, .ro, .const 0, 32, 16⟩
/-- spec/10, SIG_AIN, bits [31:16]; 16 entries: OVERRANGE entries; wraps. -/
def SIG_AIN.OVR_COUNT : Fld := ⟨645, 0x510010, 16, 16, .ro, .const 0, 32, 16⟩
/-- spec/10, SIG_WEIR, bits [7:0]; 64 entries: AIN 0 to 15. -/
def SIG_WEIR.CHANNEL : Fld := ⟨646, 0x511000, 0, 8, .ly, .const 0, 16, 64⟩
/-- spec/10, SIG_WEIR, bits [15:8]; 64 entries: [0] EN, [1] DIR (0 below, 1 above), [2] TO_LANE, [3] TO_LOG, [4] TO_SNAP, [6:5] SNAP_DIE (1 GA, 2 GB, 3 both), [7] reserved. -/
def SIG_WEIR.CFG : Fld := ⟨647, 0x511000, 8, 8, .tx, .const 0, 16, 64⟩
/-- spec/10, SIG_WEIR, bits [31:16]; 64 entries: ms, 0 to 65,535. -/
def SIG_WEIR.MIN_DUR : Fld := ⟨648, 0x511000, 16, 16, .tx, .const 0, 16, 64⟩
/-- spec/10, SIG_WEIR, bits [31:0]; 64 entries: Output code. -/
def SIG_WEIR.THRESH : Fld := ⟨649, 0x511004, 0, 32, .tx, .const 0, 16, 64⟩
/-- spec/10, SIG_WEIR, bits [31:0]; 64 entries: Code, ≥ 0. -/
def SIG_WEIR.HYST : Fld := ⟨650, 0x511008, 0, 32, .tx, .const 0, 16, 64⟩
/-- spec/10, SIG_WEIR, bits [7:0]; 64 entries: 0 ARMED, 1 FIRED. -/
def SIG_WEIR.STATE : Fld := ⟨651, 0x51100c, 0, 8, .ro, .const 0, 16, 64⟩
/-- spec/10, SIG_WEIR, bits [31:8]; 64 entries: Firings; wraps. -/
def SIG_WEIR.FIRES : Fld := ⟨652, 0x51100c, 8, 24, .ro, .const 0, 16, 64⟩
/-- spec/10, SIG_UART, bits [31:0]; 8 entries: bit/s, 4,800 to 921,600. -/
def SIG_UART.BAUD : Fld := ⟨653, 0x520000, 0, 32, .ly, .const 0, 16, 8⟩
/-- spec/10, SIG_UART, bits [7:0]; 8 entries: 0 OFF, 1 SENTENCE, 2 RTCM, 3 TRANSMIT_ONLY. -/
def SIG_UART.MODE : Fld := ⟨654, 0x520004, 0, 8, .ly, .const 0, 16, 8⟩
/-- spec/10, SIG_UART, bits [15:8]; 8 entries: R291. -/
def SIG_UART.CHK_REQ : Fld := ⟨655, 0x520004, 8, 8, .tx, .const 0, 16, 8⟩
/-- spec/10, SIG_UART, bits [31:0]; 8 entries: Sentences or frames forwarded; wraps. -/
def SIG_UART.FRAMES : Fld := ⟨656, 0x520008, 0, 32, .ro, .const 0, 16, 8⟩
/-- spec/10, SIG_UART, bits [31:0]; 8 entries: Discards (R291, R264); wraps. -/
def SIG_UART.FRAME_ERR : Fld := ⟨657, 0x52000c, 0, 32, .ro, .const 0, 16, 8⟩
/-- spec/10, SIG_DIO, bits [7:0]; 24 entries: 0 INPUT, 1 PULSE, 2 OUTPUT, 3 OUTPUT open-drain, 4 PORT_OK. -/
def SIG_DIO.FUNC : Fld := ⟨658, 0x520100, 0, 8, .ly, .const 0, 8, 24⟩
/-- spec/10, SIG_DIO, bits [15:8]; 24 entries: [0] level at the last tick. -/
def SIG_DIO.LEVEL : Fld := ⟨659, 0x520100, 8, 8, .ro, .const 0, 8, 24⟩
/-- spec/10, SIG_DIO, bits [31:16]; 24 entries: R294, R295. -/
def SIG_DIO.DEBOUNCE_US : Fld := ⟨660, 0x520100, 16, 16, .tx, .const 0, 8, 24⟩
/-- spec/10, SIG_DIO, bits [31:0]; 24 entries: PULSE: last period. -/
def SIG_DIO.PERIOD_NS : Fld := ⟨661, 0x520104, 0, 32, .ro, .const 0, 8, 24⟩
/-- spec/10, SIG_OUT, bits [7:0]; 40 entries: 0 none, 1 slot, 2 TEST. -/
def SIG_OUT.USER : Fld := ⟨662, 0x530000, 0, 8, .ly, .const 0, 32, 40⟩
/-- spec/10, SIG_OUT, bits [15:8]; 40 entries: 0 HOLD, 1 SET, 2 RAMP (R300). -/
def SIG_OUT.DH_ACTION : Fld := ⟨663, 0x530000, 8, 8, .ly, .const 0, 32, 40⟩
/-- spec/10, SIG_OUT, bits [31:16]; 40 entries: DAC code at w = 0. -/
def SIG_OUT.ZERO : Fld := ⟨664, 0x530000, 16, 16, .ly, .const 0, 32, 40⟩
/-- spec/10, SIG_OUT, bits [31:0]; 40 entries: Signed code change at w = 2^31. -/
def SIG_OUT.SPAN : Fld := ⟨665, 0x530004, 0, 32, .ly, .const 0, 32, 40⟩
/-- spec/10, SIG_OUT, bits [15:0]; 40 entries: Code or level. -/
def SIG_OUT.DH_VALUE : Fld := ⟨666, 0x530008, 0, 16, .ly, .const 0, 32, 40⟩
/-- spec/10, SIG_OUT, bits [31:16]; 40 entries: Codes per ms, 1 to 65,535. -/
def SIG_OUT.DH_RATE : Fld := ⟨667, 0x530008, 16, 16, .ly, .const 0, 32, 40⟩
/-- spec/10, SIG_OUT, bits [15:0]; 40 entries: R302. -/
def SIG_OUT.INIT_VALUE : Fld := ⟨668, 0x53000c, 0, 16, .ly, .const 0, 32, 40⟩
/-- spec/10, SIG_OUT, bits [23:16]; 40 entries: 0 unknown, 1 PRESENT, 2 OPEN, 3 SHORT (R298). -/
def SIG_OUT.LOAD : Fld := ⟨669, 0x53000c, 16, 8, .ro, .const 0, 32, 40⟩
/-- spec/10, SIG_OUT, bits [31:0]; 40 entries: Latched output word or level. -/
def SIG_OUT.LATCHED : Fld := ⟨670, 0x530010, 0, 32, .ro, .const 0, 32, 40⟩
/-- spec/10, SIG_OUT, bits [15:0]; 40 entries: DAC code at the pin. -/
def SIG_OUT.CODE : Fld := ⟨671, 0x530014, 0, 16, .ro, .const 0, 32, 40⟩
/-- spec/10, SIG_FB, bits [7:0]; 128 entries: 0 none, 1 AIN, 2 INPUT, 3 PULSE, 4 UART field, 5 CAN signal. -/
def SIG_FB.SRC : Fld := ⟨672, 0x531000, 0, 8, .ly, .const 0, 16, 128⟩
/-- spec/10, SIG_FB, bits [15:8]; 128 entries: Channel, pin or UART. -/
def SIG_FB.INDEX : Fld := ⟨673, 0x531000, 8, 8, .ly, .const 0, 16, 128⟩
/-- spec/10, SIG_FB, bits [31:16]; 128 entries: Sentence formatter number and field position, or CAN signal index. -/
def SIG_FB.FIELD : Fld := ⟨674, 0x531000, 16, 16, .ly, .const 0, 16, 128⟩
/-- spec/10, SIG_FB, bits [31:0]; 128 entries: binary32, field to code. -/
def SIG_FB.SCALE : Fld := ⟨675, 0x531004, 0, 32, .ly, .const 0, 16, 128⟩
/-- spec/10, SIG_FB, bits [15:0]; 128 entries: Table 10-4. -/
def SIG_FB.STALE_MS : Fld := ⟨676, 0x531008, 0, 16, .tx, .const 0, 16, 128⟩
/-- spec/10, SIG_FB, bits [23:16]; 128 entries: 1: stale at the last tick. -/
def SIG_FB.STALE : Fld := ⟨677, 0x531008, 16, 8, .ro, .const 0, 16, 128⟩
/-- spec/10, SIG_FB, bits [31:0]; 128 entries: Code at the last tick. -/
def SIG_FB.VALUE : Fld := ⟨678, 0x53100c, 0, 32, .ro, .const 0, 16, 128⟩
/-- spec/11, CAN_DIE_STATUS, bits [0:0]: R329. -/
def CAN_DIE_STATUS.FD_SUSPENDED : Fld := ⟨679, 0x540000, 0, 1, .ro, .const 0, 0, 1⟩
/-- spec/11, CAN_DIE_STATUS, bits [1:1]: The spare serves a port. -/
def CAN_DIE_STATUS.SPARE_USED : Fld := ⟨680, 0x540000, 1, 1, .ro, .const 0, 0, 1⟩
/-- spec/11, CAN_DIE_STATUS, bits [3:2]: Port served by the spare. -/
def CAN_DIE_STATUS.SPARE_FOR : Fld := ⟨681, 0x540000, 2, 2, .ro, .const 0, 0, 1⟩
/-- spec/11, CAN_DIE_STATUS, bits [8:4]: Bit c: controller c retired. -/
def CAN_DIE_STATUS.RETIRED : Fld := ⟨682, 0x540000, 4, 5, .ro, .const 0, 0, 1⟩
/-- spec/11, CAN_PAIR_CNT, bits [31:0]: Counter at the last pairing latch (R326). A read latches the matching CAN_PAIR_TIME.. -/
def CAN_PAIR_CNT.COUNT : Fld := ⟨683, 0x540004, 0, 32, .ro, .const 0, 0, 1⟩
/-- spec/11, CAN_PAIR_TIME, bits [63:0]: Device time of that latch, ns; pair under R11. -/
def CAN_PAIR_TIME.TIME : Fld := ⟨684, 0x540008, 0, 64, .ro, .const 0, 0, 1⟩
/-- spec/11, CAN_EVENT, bits [0:0]: R320. -/
def CAN_EVENT.BUS_OFF : Fld := ⟨685, 0x540010, 0, 1, .w1c, .const 0, 0, 1⟩
/-- spec/11, CAN_EVENT, bits [1:1]: R320. -/
def CAN_EVENT.BUS_ON : Fld := ⟨686, 0x540010, 1, 1, .w1c, .const 0, 0, 1⟩
/-- spec/11, CAN_EVENT, bits [2:2]: A port became error-passive. -/
def CAN_EVENT.ERR_PASSIVE : Fld := ⟨687, 0x540010, 2, 1, .w1c, .const 0, 0, 1⟩
/-- spec/11, CAN_EVENT, bits [3:3]: R319. -/
def CAN_EVENT.LONELY : Fld := ⟨688, 0x540010, 3, 1, .w1c, .const 0, 0, 1⟩
/-- spec/11, CAN_EVENT, bits [4:4]: R323. -/
def CAN_EVENT.RX_OVF : Fld := ⟨689, 0x540010, 4, 1, .w1c, .const 0, 0, 1⟩
/-- spec/11, CAN_EVENT, bits [5:5]: R311. -/
def CAN_EVENT.TX_SKIP : Fld := ⟨690, 0x540010, 5, 1, .w1c, .const 0, 0, 1⟩
/-- spec/11, CAN_EVENT, bits [6:6]: R309. -/
def CAN_EVENT.TDC_SAT : Fld := ⟨691, 0x540010, 6, 1, .w1c, .const 0, 0, 1⟩
/-- spec/11, CAN_EVENT, bits [7:7]: R329. -/
def CAN_EVENT.FD_SUSPENDED : Fld := ⟨692, 0x540010, 7, 1, .w1c, .const 0, 0, 1⟩
/-- spec/11, CAN_EVENT, bits [8:8]: R330. -/
def CAN_EVENT.CTRL_RETIRED : Fld := ⟨693, 0x540010, 8, 1, .w1c, .const 0, 0, 1⟩
/-- spec/11, CAN_EVENT, bits [9:9]: R328. -/
def CAN_EVENT.FD_INTOLERANT : Fld := ⟨694, 0x540010, 9, 1, .w1c, .const 0, 0, 1⟩
/-- spec/11, CAN_CFG, bits [1:0]; 4 entries: 0 OFF, 1 NORMAL, 2 RESTRICTED (R321). -/
def CAN_CFG.MODE : Fld := ⟨695, 0x540100, 0, 2, .ly, .const 0, 256, 4⟩
/-- spec/11, CAN_CFG, bits [2:2]; 4 entries: FD frames allowed. -/
def CAN_CFG.FD_EN : Fld := ⟨696, 0x540100, 2, 1, .ly, .const 0, 256, 4⟩
/-- spec/11, CAN_CFG, bits [3:3]; 4 entries: R309. -/
def CAN_CFG.TDC_EN : Fld := ⟨697, 0x540100, 3, 1, .ly, .const 0, 256, 4⟩
/-- spec/11, CAN_CFG, bits [15:8]; 4 entries: R317. -/
def CAN_CFG.REQUEUE_LOSSES : Fld := ⟨698, 0x540100, 8, 8, .ly, .const 0, 256, 4⟩
/-- spec/11, CAN_NBT, bits [4:0]; 4 entries: BRP − 1. -/
def CAN_NBT.BRP : Fld := ⟨699, 0x540104, 0, 5, .ly, .const 0, 256, 4⟩
/-- spec/11, CAN_NBT, bits [12:5]; 4 entries: TSEG1 − 1, for TSEG1 2 to 256. -/
def CAN_NBT.TSEG1 : Fld := ⟨700, 0x540104, 5, 8, .ly, .const 0, 256, 4⟩
/-- spec/11, CAN_NBT, bits [19:13]; 4 entries: TSEG2 − 1, for TSEG2 2 to 128. -/
def CAN_NBT.TSEG2 : Fld := ⟨701, 0x540104, 13, 7, .ly, .const 0, 256, 4⟩
/-- spec/11, CAN_NBT, bits [26:20]; 4 entries: SJW − 1, up to TSEG2. -/
def CAN_NBT.SJW : Fld := ⟨702, 0x540104, 20, 7, .ly, .const 0, 256, 4⟩
/-- spec/11, CAN_NBT_IOSC, bits [4:0]; 4 entries: BRP − 1. -/
def CAN_NBT_IOSC.BRP : Fld := ⟨703, 0x540108, 0, 5, .ly, .const 0, 256, 4⟩
/-- spec/11, CAN_NBT_IOSC, bits [12:5]; 4 entries: TSEG1 − 1, for TSEG1 2 to 256. -/
def CAN_NBT_IOSC.TSEG1 : Fld := ⟨704, 0x540108, 5, 8, .ly, .const 0, 256, 4⟩
/-- spec/11, CAN_NBT_IOSC, bits [19:13]; 4 entries: TSEG2 − 1, for TSEG2 2 to 128. -/
def CAN_NBT_IOSC.TSEG2 : Fld := ⟨705, 0x540108, 13, 7, .ly, .const 0, 256, 4⟩
/-- spec/11, CAN_NBT_IOSC, bits [26:20]; 4 entries: SJW − 1, up to TSEG2. -/
def CAN_NBT_IOSC.SJW : Fld := ⟨706, 0x540108, 20, 7, .ly, .const 0, 256, 4⟩
/-- spec/11, CAN_DBT, bits [4:0]; 4 entries: BRP − 1. -/
def CAN_DBT.BRP : Fld := ⟨707, 0x54010c, 0, 5, .ly, .const 0, 256, 4⟩
/-- spec/11, CAN_DBT, bits [9:5]; 4 entries: TSEG1 − 1, for TSEG1 1 to 32. -/
def CAN_DBT.TSEG1 : Fld := ⟨708, 0x54010c, 5, 5, .ly, .const 0, 256, 4⟩
/-- spec/11, CAN_DBT, bits [13:10]; 4 entries: TSEG2 − 1, for TSEG2 1 to 16. -/
def CAN_DBT.TSEG2 : Fld := ⟨709, 0x54010c, 10, 4, .ly, .const 0, 256, 4⟩
/-- spec/11, CAN_DBT, bits [17:14]; 4 entries: SJW − 1. -/
def CAN_DBT.SJW : Fld := ⟨710, 0x54010c, 14, 4, .ly, .const 0, 256, 4⟩
/-- spec/11, CAN_DBT, bits [24:18]; 4 entries: CAN-clock periods. -/
def CAN_DBT.TDC_OFFSET : Fld := ⟨711, 0x54010c, 18, 7, .ly, .const 0, 256, 4⟩
/-- spec/11, CAN_STATUS, bits [1:0]; 4 entries: 0 ERROR_ACTIVE, 1 ERROR_PASSIVE, 2 BUS_OFF, 3 OFF. -/
def CAN_STATUS.STATE : Fld := ⟨712, 0x540110, 0, 2, .ro, .const 3, 256, 4⟩
/-- spec/11, CAN_STATUS, bits [2:2]; 4 entries: R319. -/
def CAN_STATUS.LONELY : Fld := ⟨713, 0x540110, 2, 1, .ro, .const 0, 256, 4⟩
/-- spec/11, CAN_STATUS, bits [3:3]; 4 entries: Bus integration in progress. -/
def CAN_STATUS.INTEGRATING : Fld := ⟨714, 0x540110, 3, 1, .ro, .const 0, 256, 4⟩
/-- spec/11, CAN_STATUS, bits [13:8]; 4 entries: FIFO entries, 0 to 32. -/
def CAN_STATUS.TX_DEPTH : Fld := ⟨715, 0x540110, 8, 6, .ro, .const 0, 256, 4⟩
/-- spec/11, CAN_STATUS, bits [23:16]; 4 entries: Transmit error count; 255 while bus-off. -/
def CAN_STATUS.TEC : Fld := ⟨716, 0x540110, 16, 8, .ro, .const 0, 256, 4⟩
/-- spec/11, CAN_STATUS, bits [31:24]; 4 entries: Receive error count. -/
def CAN_STATUS.REC : Fld := ⟨717, 0x540110, 24, 8, .ro, .const 0, 256, 4⟩
/-- spec/11, CAN_LOOP, bits [7:0]; 4 entries: TDCV of the last frame, 12.5 ns. -/
def CAN_LOOP.LAST : Fld := ⟨718, 0x540114, 0, 8, .ro, .const 0, 256, 4⟩
/-- spec/11, CAN_LOOP, bits [15:8]; 4 entries: Least since reset. -/
def CAN_LOOP.MIN : Fld := ⟨719, 0x540114, 8, 8, .ro, .const 0xff, 256, 4⟩
/-- spec/11, CAN_LOOP, bits [23:16]; 4 entries: Greatest since reset. -/
def CAN_LOOP.MAX : Fld := ⟨720, 0x540114, 16, 8, .ro, .const 0, 256, 4⟩
/-- spec/11, CAN_LOOP, bits [24:24]; 4 entries: Saturation seen since reset. -/
def CAN_LOOP.TDC_SAT : Fld := ⟨721, 0x540114, 24, 1, .ro, .const 0, 256, 4⟩
/-- spec/11, CAN_TX_CTRL, bits [7:0]; 4 entries: Tag for PUSH or CANCEL. -/
def CAN_TX_CTRL.TAG : Fld := ⟨722, 0x540118, 0, 8, .wo, .const 0, 256, 4⟩
/-- spec/11, CAN_TX_CTRL, bits [8:8]; 4 entries: 1: enqueue the staged frame (R314). -/
def CAN_TX_CTRL.PUSH : Fld := ⟨723, 0x540118, 8, 1, .wo, .const 0, 256, 4⟩
/-- spec/11, CAN_TX_CTRL, bits [9:9]; 4 entries: 1: cancel by TAG (R318). -/
def CAN_TX_CTRL.CANCEL : Fld := ⟨724, 0x540118, 9, 1, .wo, .const 0, 256, 4⟩
/-- spec/11, CAN_CNT, bits [31:0]; 4 entries: Frames SENT; wraps. -/
def CAN_CNT.TX_SENT : Fld := ⟨725, 0x540120, 0, 32, .ro, .const 0, 256, 4⟩
/-- spec/11, CAN_CNT, bits [31:0]; 4 entries: Frames accepted; wraps. -/
def CAN_CNT.RX_OK : Fld := ⟨726, 0x540124, 0, 32, .ro, .const 0, 256, 4⟩
/-- spec/11, CAN_CNT, bits [31:0]; 4 entries: Error frames seen; wraps. -/
def CAN_CNT.ERR_FRAMES : Fld := ⟨727, 0x540128, 0, 32, .ro, .const 0, 256, 4⟩
/-- spec/11, CAN_CNT, bits [31:0]; 4 entries: R311; wraps. -/
def CAN_CNT.TX_SKIP : Fld := ⟨728, 0x54012c, 0, 32, .ro, .const 0, 256, 4⟩
/-- spec/11, CAN_CNT, bits [31:0]; 4 entries: R323; wraps. -/
def CAN_CNT.RX_OVF : Fld := ⟨729, 0x540130, 0, 32, .ro, .const 0, 256, 4⟩
/-- spec/11, CAN_CNT, bits [31:0]; 4 entries: R318; wraps. -/
def CAN_CNT.CANCEL_MISS : Fld := ⟨730, 0x540134, 0, 32, .ro, .const 0, 256, 4⟩
/-- spec/11, CAN_CNT, bits [31:0]; 4 entries: Bus-off entries; wraps. -/
def CAN_CNT.BUS_OFFS : Fld := ⟨731, 0x540138, 0, 32, .ro, .const 0, 256, 4⟩
/-- spec/11, CAN_RAW, bits [28:0]; 4 entries: Identifier. -/
def CAN_RAW.ID : Fld := ⟨732, 0x540140, 0, 29, .wo, .const 0, 256, 4⟩
/-- spec/11, CAN_RAW, bits [29:29]; 4 entries: Extended identifier. -/
def CAN_RAW.IDE : Fld := ⟨733, 0x540140, 29, 1, .wo, .const 0, 256, 4⟩
/-- spec/11, CAN_RAW, bits [30:30]; 4 entries: FD frame. -/
def CAN_RAW.FDF : Fld := ⟨734, 0x540140, 30, 1, .wo, .const 0, 256, 4⟩
/-- spec/11, CAN_RAW, bits [31:31]; 4 entries: Bit-rate switch. -/
def CAN_RAW.BRS : Fld := ⟨735, 0x540140, 31, 1, .wo, .const 0, 256, 4⟩
/-- spec/11, CAN_RAW, bits [3:0]; 4 entries: Data length code. -/
def CAN_RAW.DLC : Fld := ⟨736, 0x540144, 0, 4, .wo, .const 0, 256, 4⟩
/-- spec/11, CAN_RAW, bits [4:4]; 4 entries: R329. -/
def CAN_RAW.DEMOTE : Fld := ⟨737, 0x540144, 4, 1, .wo, .const 0, 256, 4⟩
/-- spec/11, CAN_RAW, bits [31:0]; 4 entries: . -/
def CAN_RAW.DATA0 : Fld := ⟨738, 0x540148, 0, 32, .wo, .const 0, 256, 4⟩
/-- spec/11, CAN_RAW, bits [31:0]; 4 entries: . -/
def CAN_RAW.DATA1 : Fld := ⟨739, 0x54014c, 0, 32, .wo, .const 0, 256, 4⟩
/-- spec/11, CAN_RAW, bits [31:0]; 4 entries: . -/
def CAN_RAW.DATA2 : Fld := ⟨740, 0x540150, 0, 32, .wo, .const 0, 256, 4⟩
/-- spec/11, CAN_RAW, bits [31:0]; 4 entries: . -/
def CAN_RAW.DATA3 : Fld := ⟨741, 0x540154, 0, 32, .wo, .const 0, 256, 4⟩
/-- spec/11, CAN_RAW, bits [31:0]; 4 entries: . -/
def CAN_RAW.DATA4 : Fld := ⟨742, 0x540158, 0, 32, .wo, .const 0, 256, 4⟩
/-- spec/11, CAN_RAW, bits [31:0]; 4 entries: . -/
def CAN_RAW.DATA5 : Fld := ⟨743, 0x54015c, 0, 32, .wo, .const 0, 256, 4⟩
/-- spec/11, CAN_RAW, bits [31:0]; 4 entries: . -/
def CAN_RAW.DATA6 : Fld := ⟨744, 0x540160, 0, 32, .wo, .const 0, 256, 4⟩
/-- spec/11, CAN_RAW, bits [31:0]; 4 entries: . -/
def CAN_RAW.DATA7 : Fld := ⟨745, 0x540164, 0, 32, .wo, .const 0, 256, 4⟩
/-- spec/11, CAN_RAW, bits [31:0]; 4 entries: . -/
def CAN_RAW.DATA8 : Fld := ⟨746, 0x540168, 0, 32, .wo, .const 0, 256, 4⟩
/-- spec/11, CAN_RAW, bits [31:0]; 4 entries: . -/
def CAN_RAW.DATA9 : Fld := ⟨747, 0x54016c, 0, 32, .wo, .const 0, 256, 4⟩
/-- spec/11, CAN_RAW, bits [31:0]; 4 entries: . -/
def CAN_RAW.DATA10 : Fld := ⟨748, 0x540170, 0, 32, .wo, .const 0, 256, 4⟩
/-- spec/11, CAN_RAW, bits [31:0]; 4 entries: . -/
def CAN_RAW.DATA11 : Fld := ⟨749, 0x540174, 0, 32, .wo, .const 0, 256, 4⟩
/-- spec/11, CAN_RAW, bits [31:0]; 4 entries: . -/
def CAN_RAW.DATA12 : Fld := ⟨750, 0x540178, 0, 32, .wo, .const 0, 256, 4⟩
/-- spec/11, CAN_RAW, bits [31:0]; 4 entries: . -/
def CAN_RAW.DATA13 : Fld := ⟨751, 0x54017c, 0, 32, .wo, .const 0, 256, 4⟩
/-- spec/11, CAN_RAW, bits [31:0]; 4 entries: . -/
def CAN_RAW.DATA14 : Fld := ⟨752, 0x540180, 0, 32, .wo, .const 0, 256, 4⟩
/-- spec/11, CAN_RAW, bits [31:0]; 4 entries: . -/
def CAN_RAW.DATA15 : Fld := ⟨753, 0x540184, 0, 32, .wo, .const 0, 256, 4⟩
/-- spec/11, CAN_FILT, bits [31:0]; 512 entries: [28:0] identifier, [29] IDE. -/
def CAN_FILT.ID : Fld := ⟨754, 0x550000, 0, 32, .ly, .const 0, 16, 512⟩
/-- spec/11, CAN_FILT, bits [31:0]; 512 entries: Bits compared; bit 29 compares IDE. -/
def CAN_FILT.MASK : Fld := ⟨755, 0x550004, 0, 32, .ly, .const 0, 16, 512⟩
/-- spec/11, CAN_FILT, bits [7:0]; 512 entries: 0 disabled, 1 ACCEPT, 2 REJECT. -/
def CAN_FILT.ACTION : Fld := ⟨756, 0x550008, 0, 8, .ly, .const 0, 16, 512⟩
/-- spec/11, CAN_FILT, bits [31:0]; 512 entries: Frames decided by this filter; wraps. -/
def CAN_FILT.HITS : Fld := ⟨757, 0x55000c, 0, 32, .ro, .const 0, 16, 512⟩
/-- spec/11, CAN_TXM, bits [7:0]; 64 entries: 0 to 3; 0xFF unused. -/
def CAN_TXM.PORT : Fld := ⟨758, 0x560000, 0, 8, .ly, .const 0, 32, 64⟩
/-- spec/11, CAN_TXM, bits [15:8]; 64 entries: [0] IDE, [1] FDF, [2] BRS, [3] DEMOTE, [7:4] reserved. -/
def CAN_TXM.FLAGS : Fld := ⟨759, 0x560000, 8, 8, .ly, .const 0, 32, 64⟩
/-- spec/11, CAN_TXM, bits [23:16]; 64 entries: Data length code. -/
def CAN_TXM.DLC : Fld := ⟨760, 0x560000, 16, 8, .ly, .const 0, 32, 64⟩
/-- spec/11, CAN_TXM, bits [31:0]; 64 entries: Identifier. -/
def CAN_TXM.ID : Fld := ⟨761, 0x560004, 0, 32, .ly, .const 0, 32, 64⟩
/-- spec/11, CAN_TXM, bits [15:0]; 64 entries: 1 to 10,000. -/
def CAN_TXM.PERIOD_MS : Fld := ⟨762, 0x560008, 0, 16, .ly, .const 0, 32, 64⟩
/-- spec/11, CAN_TXM, bits [31:16]; 64 entries: Below PERIOD_MS. -/
def CAN_TXM.PHASE_MS : Fld := ⟨763, 0x560008, 16, 16, .ly, .const 0, 32, 64⟩
/-- spec/11, CAN_TXM, bits [31:0]; 64 entries: Instances SENT; wraps. -/
def CAN_TXM.SENT : Fld := ⟨764, 0x56000c, 0, 32, .ro, .const 0, 32, 64⟩
/-- spec/11, CAN_TXM, bits [31:0]; 64 entries: Counter at the last SENT start of frame. -/
def CAN_TXM.LAST_SOF : Fld := ⟨765, 0x560010, 0, 32, .ro, .const 0, 32, 64⟩
/-- spec/11, CAN_TXS, bits [7:0]; 128 entries: TX message 0 to 63. -/
def CAN_TXS.MSG : Fld := ⟨766, 0x561000, 0, 8, .ly, .const 0, 32, 128⟩
/-- spec/11, CAN_TXS, bits [15:8]; 128 entries: 1 to 32. -/
def CAN_TXS.LEN : Fld := ⟨767, 0x561000, 8, 8, .ly, .const 0, 32, 128⟩
/-- spec/11, CAN_TXS, bits [31:16]; 128 entries: Bit 0 to 511 (R312). -/
def CAN_TXS.START : Fld := ⟨768, 0x561000, 16, 16, .ly, .const 0, 32, 128⟩
/-- spec/11, CAN_TXS, bits [7:0]; 128 entries: [0] big-endian, [1] signed. -/
def CAN_TXS.FMT : Fld := ⟨769, 0x561004, 0, 8, .ly, .const 0, 32, 128⟩
/-- spec/11, CAN_TXS, bits [15:8]; 128 entries: 0 HOLD, 1 SET (R313). -/
def CAN_TXS.DH_ACTION : Fld := ⟨770, 0x561004, 8, 8, .ly, .const 0, 32, 128⟩
/-- spec/11, CAN_TXS, bits [31:0]; 128 entries: Signed raw value at w = 0. -/
def CAN_TXS.OFFSET : Fld := ⟨771, 0x561008, 0, 32, .ly, .const 0, 32, 128⟩
/-- spec/11, CAN_TXS, bits [31:0]; 128 entries: Signed raw change at w = 2^31. -/
def CAN_TXS.SPAN : Fld := ⟨772, 0x56100c, 0, 32, .ly, .const 0, 32, 128⟩
/-- spec/11, CAN_TXS, bits [31:0]; 128 entries: Raw value. -/
def CAN_TXS.DH_VALUE : Fld := ⟨773, 0x561010, 0, 32, .ly, .const 0, 32, 128⟩
/-- spec/11, CAN_TXS, bits [31:0]; 128 entries: Raw value last composed. -/
def CAN_TXS.RAW : Fld := ⟨774, 0x561014, 0, 32, .ro, .const 0, 32, 128⟩
/-- spec/11, CAN_TXS, bits [31:0]; 128 entries: Raw value sent under HOLD before the first write (R313). -/
def CAN_TXS.INIT_VALUE : Fld := ⟨775, 0x561018, 0, 32, .ly, .const 0, 32, 128⟩
/-- spec/11, CAN_RXS, bits [7:0]; 128 entries: 0 to 3. -/
def CAN_RXS.PORT : Fld := ⟨776, 0x570000, 0, 8, .ly, .const 0, 16, 128⟩
/-- spec/11, CAN_RXS, bits [15:8]; 128 entries: [0] big-endian, [1] signed. -/
def CAN_RXS.FMT : Fld := ⟨777, 0x570000, 8, 8, .ly, .const 0, 16, 128⟩
/-- spec/11, CAN_RXS, bits [23:16]; 128 entries: 1 to 32. -/
def CAN_RXS.LEN : Fld := ⟨778, 0x570000, 16, 8, .ly, .const 0, 16, 128⟩
/-- spec/11, CAN_RXS, bits [15:0]; 128 entries: Bit 0 to 511. -/
def CAN_RXS.START : Fld := ⟨779, 0x570004, 0, 16, .ly, .const 0, 16, 128⟩
/-- spec/11, CAN_RXS, bits [31:0]; 128 entries: [28:0] identifier, [29] IDE. -/
def CAN_RXS.ID : Fld := ⟨780, 0x570008, 0, 32, .ly, .const 0, 16, 128⟩
/-- spec/11, CAN_RXS, bits [31:0]; 128 entries: Last raw value. -/
def CAN_RXS.RAW : Fld := ⟨781, 0x57000c, 0, 32, .ro, .const 0, 16, 128⟩
/-- spec/11, CAN_CENSUS, bits [15:0]; 4 entries: Distinct identifiers, 0 to 1,023. -/
def CAN_CENSUS.IDS : Fld := ⟨782, 0x571000, 0, 16, .ro, .const 0, 32, 4⟩
/-- spec/11, CAN_CENSUS, bits [23:16]; 4 entries: [0] FD_INTOLERANT, [1] ESI_SEEN, [7:2] reserved. -/
def CAN_CENSUS.FLAGS : Fld := ⟨783, 0x571000, 16, 8, .ro, .const 0, 32, 4⟩
/-- spec/11, CAN_CENSUS, bits [31:0]; 4 entries: Classic frames. -/
def CAN_CENSUS.CLASSIC : Fld := ⟨784, 0x571004, 0, 32, .ro, .const 0, 32, 4⟩
/-- spec/11, CAN_CENSUS, bits [31:0]; 4 entries: FD frames. -/
def CAN_CENSUS.FD : Fld := ⟨785, 0x571008, 0, 32, .ro, .const 0, 32, 4⟩
/-- spec/11, CAN_CENSUS, bits [31:0]; 4 entries: FD frames with BRS. -/
def CAN_CENSUS.BRS : Fld := ⟨786, 0x57100c, 0, 32, .ro, .const 0, 32, 4⟩
/-- spec/11, CAN_CENSUS, bits [31:0]; 4 entries: Error frames. -/
def CAN_CENSUS.ERR : Fld := ⟨787, 0x571010, 0, 32, .ro, .const 0, 32, 4⟩
/-- spec/12, ETH_SW_STATUS, bits [2:0]: Bit k: port k of this die up. -/
def ETH_SW_STATUS.LINK : Fld := ⟨788, 0x580000, 0, 3, .ro, .const 0, 0, 1⟩
/-- spec/12, ETH_SW_STATUS, bits [3:3]: Trunk to the other half up. -/
def ETH_SW_STATUS.TRUNK_UP : Fld := ⟨789, 0x580000, 3, 1, .ro, .const 0, 0, 1⟩
/-- spec/12, ETH_SW_STATUS, bits [14:8]: VLAN entries defined, 0 to 64. -/
def ETH_SW_STATUS.VLANS : Fld := ⟨790, 0x580000, 8, 7, .ro, .const 0, 0, 1⟩
/-- spec/12, ETH_SW_STATUS, bits [26:16]: Learned addresses, 0 to 1,024. -/
def ETH_SW_STATUS.MAC_ENTRIES : Fld := ⟨791, 0x580000, 16, 11, .ro, .const 0, 0, 1⟩
/-- spec/12, ETH_SW_CFG, bits [9:0]: Seconds, 10 to 1,000. -/
def ETH_SW_CFG.AGE_S : Fld := ⟨792, 0x580004, 0, 10, .ly, .const 0x12c, 0, 1⟩
/-- spec/12, ETH_EVENT, bits [0:0]: A port came up. -/
def ETH_EVENT.LINK_UP : Fld := ⟨793, 0x580008, 0, 1, .w1c, .const 0, 0, 1⟩
/-- spec/12, ETH_EVENT, bits [1:1]: A port went down. -/
def ETH_EVENT.LINK_DOWN : Fld := ⟨794, 0x580008, 1, 1, .w1c, .const 0, 0, 1⟩
/-- spec/12, ETH_EVENT, bits [2:2]: R336. -/
def ETH_EVENT.STORM : Fld := ⟨795, 0x580008, 2, 1, .w1c, .const 0, 0, 1⟩
/-- spec/12, ETH_EVENT, bits [3:3]: R335. -/
def ETH_EVENT.QUEUE_DROP : Fld := ⟨796, 0x580008, 3, 1, .w1c, .const 0, 0, 1⟩
/-- spec/12, ETH_EVENT, bits [4:4]: R333. -/
def ETH_EVENT.MAC_FULL : Fld := ⟨797, 0x580008, 4, 1, .w1c, .const 0, 0, 1⟩
/-- spec/12, ETH_EVENT, bits [5:5]: A listener counted ERR. -/
def ETH_EVENT.LISTEN_ERR : Fld := ⟨798, 0x580008, 5, 1, .w1c, .const 0, 0, 1⟩
/-- spec/12, ETH_EVENT, bits [6:6]: R351. -/
def ETH_EVENT.PARTNER_CHANGED : Fld := ⟨799, 0x580008, 6, 1, .w1c, .const 0, 0, 1⟩
/-- spec/12, ETH_PORT_CFG, bits [1:0]; 3 entries: 0 OFF, 1 SGMII, 2 1000BASE-X. -/
def ETH_PORT_CFG.MODE : Fld := ⟨800, 0x590000, 0, 2, .ly, .const 0, 256, 3⟩
/-- spec/12, ETH_PORT_CFG, bits [2:2]; 3 entries: Auto-negotiation enabled. -/
def ETH_PORT_CFG.AN_EN : Fld := ⟨801, 0x590000, 2, 1, .ly, .const 0, 256, 3⟩
/-- spec/12, ETH_PORT_CFG, bits [15:4]; 3 entries: VID for untagged and priority-tagged frames. -/
def ETH_PORT_CFG.PVID : Fld := ⟨802, 0x590000, 4, 12, .ly, .const 1, 256, 3⟩
/-- spec/12, ETH_PORT_CFG, bits [18:16]; 3 entries: Priority for untagged frames. -/
def ETH_PORT_CFG.DEF_PCP : Fld := ⟨803, 0x590000, 16, 3, .ly, .const 0, 256, 3⟩
/-- spec/12, ETH_PORT_STORM, bits [15:0]; 3 entries: Broadcast frames per ms; 0 no limit. -/
def ETH_PORT_STORM.BC_LIMIT : Fld := ⟨804, 0x590004, 0, 16, .tx, .const 0, 256, 3⟩
/-- spec/12, ETH_PORT_STORM, bits [31:16]; 3 entries: Unknown-multicast frames per ms; 0 no limit. -/
def ETH_PORT_STORM.MC_LIMIT : Fld := ⟨805, 0x590004, 16, 16, .tx, .const 0, 256, 3⟩
/-- spec/12, ETH_PORT_STATUS, bits [0:0]; 3 entries: Link up. -/
def ETH_PORT_STATUS.LINK : Fld := ⟨806, 0x590008, 0, 1, .ro, .const 0, 256, 3⟩
/-- spec/12, ETH_PORT_STATUS, bits [2:1]; 3 entries: 0 10, 1 100, 2 1,000 Mbit/s. -/
def ETH_PORT_STATUS.SPEED : Fld := ⟨807, 0x590008, 1, 2, .ro, .const 0, 256, 3⟩
/-- spec/12, ETH_PORT_STATUS, bits [3:3]; 3 entries: Auto-negotiation complete. -/
def ETH_PORT_STATUS.PARTNER_AN : Fld := ⟨808, 0x590008, 3, 1, .ro, .const 0, 256, 3⟩
/-- spec/12, ETH_PORT_STATUS, bits [4:4]; 3 entries: Partner advertises PAUSE. -/
def ETH_PORT_STATUS.PARTNER_PAUSE : Fld := ⟨809, 0x590008, 4, 1, .ro, .const 0, 256, 3⟩
/-- spec/12, ETH_PORT_PTP_SEEN, bits [7:0]; 3 entries: Domain of the partner's last PTP message. -/
def ETH_PORT_PTP_SEEN.DOMAIN : Fld := ⟨810, 0x59000c, 0, 8, .ro, .const 0, 256, 3⟩
/-- spec/12, ETH_PORT_PTP_SEEN, bits [8:8]; 3 entries: Partner's last Sync was two-step. -/
def ETH_PORT_PTP_SEEN.TWO_STEP : Fld := ⟨811, 0x59000c, 8, 1, .ro, .const 0, 256, 3⟩
/-- spec/12, ETH_PORT_PTP_SEEN, bits [9:9]; 3 entries: Sync seen in the last 10 s. -/
def ETH_PORT_PTP_SEEN.SYNC : Fld := ⟨812, 0x59000c, 9, 1, .ro, .const 0, 256, 3⟩
/-- spec/12, ETH_PORT_PTP_SEEN, bits [10:10]; 3 entries: Announce seen. -/
def ETH_PORT_PTP_SEEN.ANNOUNCE : Fld := ⟨813, 0x59000c, 10, 1, .ro, .const 0, 256, 3⟩
/-- spec/12, ETH_PORT_PTP_SEEN, bits [11:11]; 3 entries: Delay_Req seen. -/
def ETH_PORT_PTP_SEEN.DELAY_REQ : Fld := ⟨814, 0x59000c, 11, 1, .ro, .const 0, 256, 3⟩
/-- spec/12, ETH_PORT_PTP_SEEN, bits [12:12]; 3 entries: Pdelay_Req seen. -/
def ETH_PORT_PTP_SEEN.PDELAY_REQ : Fld := ⟨815, 0x59000c, 12, 1, .ro, .const 0, 256, 3⟩
/-- spec/12, ETH_PORT_PTP_SEEN, bits [19:16]; 3 entries: versionPTP seen. -/
def ETH_PORT_PTP_SEEN.VERSION : Fld := ⟨816, 0x59000c, 16, 4, .ro, .const 0, 256, 3⟩
/-- spec/12, ETH_CNT, bits [31:0]; 3 entries: Frames received; wraps. -/
def ETH_CNT.RX_FRAMES : Fld := ⟨817, 0x590010, 0, 32, .ro, .const 0, 256, 3⟩
/-- spec/12, ETH_CNT, bits [31:0]; 3 entries: Frames sent; wraps. -/
def ETH_CNT.TX_FRAMES : Fld := ⟨818, 0x590014, 0, 32, .ro, .const 0, 256, 3⟩
/-- spec/12, ETH_CNT, bits [31:0]; 3 entries: FCS and symbol errors; wraps. -/
def ETH_CNT.RX_ERR : Fld := ⟨819, 0x590018, 0, 32, .ro, .const 0, 256, 3⟩
/-- spec/12, ETH_CNT, bits [31:0]; 3 entries: R331; wraps. -/
def ETH_CNT.OVERSIZE : Fld := ⟨820, 0x59001c, 0, 32, .ro, .const 0, 256, 3⟩
/-- spec/12, ETH_CNT, bits [31:0]; 3 entries: R332; wraps. -/
def ETH_CNT.PAUSE_RX : Fld := ⟨821, 0x590020, 0, 32, .ro, .const 0, 256, 3⟩
/-- spec/12, ETH_CNT, bits [31:0]; 3 entries: R336; wraps. -/
def ETH_CNT.STORM_DROP : Fld := ⟨822, 0x590024, 0, 32, .ro, .const 0, 256, 3⟩
/-- spec/12, ETH_CNT, bits [31:0]; 3 entries: Byte q: drops in queue q; each saturates. -/
def ETH_CNT.QDROP : Fld := ⟨823, 0x590028, 0, 32, .ro, .const 0, 256, 3⟩
/-- spec/12, ETH_VLAN, bits [15:0]; 64 entries: 1 to 4,094; 0 entry unused. -/
def ETH_VLAN.VID : Fld := ⟨824, 0x5a0000, 0, 16, .ly, .const 0, 8, 64⟩
/-- spec/12, ETH_VLAN, bits [23:16]; 64 entries: Bits 0 to 5: ETH0 to ETH5; bit 6: internal port. -/
def ETH_VLAN.MEMBER : Fld := ⟨825, 0x5a0000, 16, 8, .ly, .const 0, 8, 64⟩
/-- spec/12, ETH_VLAN, bits [31:24]; 64 entries: Bits 0 to 5: sent untagged. -/
def ETH_VLAN.UNTAG : Fld := ⟨826, 0x5a0000, 24, 8, .ly, .const 0, 8, 64⟩
/-- spec/12, ETH_IF, bits [15:0]; 4 entries: VLAN of the interface; 0 unused. -/
def ETH_IF.VID : Fld := ⟨827, 0x5a1000, 0, 16, .ly, .const 0, 32, 4⟩
/-- spec/12, ETH_IF, bits [23:16]; 4 entries: [0] IPv4, [1] IPv6. -/
def ETH_IF.FLAGS : Fld := ⟨828, 0x5a1000, 16, 8, .ly, .const 0, 32, 4⟩
/-- spec/12, ETH_IF, bits [31:24]; 4 entries: IPv4 prefix length. -/
def ETH_IF.PREFIX : Fld := ⟨829, 0x5a1000, 24, 8, .ly, .const 0, 32, 4⟩
/-- spec/12, ETH_IF, bits [31:0]; 4 entries: Address. -/
def ETH_IF.IPV4 : Fld := ⟨830, 0x5a1004, 0, 32, .ly, .const 0, 32, 4⟩
/-- spec/12, ETH_IF, bits [31:0]; 4 entries: . -/
def ETH_IF.IPV6_0 : Fld := ⟨831, 0x5a1008, 0, 32, .ly, .const 0, 32, 4⟩
/-- spec/12, ETH_IF, bits [31:0]; 4 entries: . -/
def ETH_IF.IPV6_1 : Fld := ⟨832, 0x5a100c, 0, 32, .ly, .const 0, 32, 4⟩
/-- spec/12, ETH_IF, bits [31:0]; 4 entries: . -/
def ETH_IF.IPV6_2 : Fld := ⟨833, 0x5a1010, 0, 32, .ly, .const 0, 32, 4⟩
/-- spec/12, ETH_IF, bits [31:0]; 4 entries: . -/
def ETH_IF.IPV6_3 : Fld := ⟨834, 0x5a1014, 0, 32, .ly, .const 0, 32, 4⟩
/-- spec/12, ETH_LIS, bits [7:0]; 32 entries: 0 none, 1 IEC 61162-450, 2 UDP sensor stream. -/
def ETH_LIS.KIND : Fld := ⟨835, 0x5b0000, 0, 8, .ly, .const 0, 32, 32⟩
/-- spec/12, ETH_LIS, bits [15:8]; 32 entries: Bits 0 to 5: ETH0 to ETH5. -/
def ETH_LIS.PORTS : Fld := ⟨836, 0x5b0000, 8, 8, .ly, .const 0, 32, 32⟩
/-- spec/12, ETH_LIS, bits [31:16]; 32 entries: VLAN. -/
def ETH_LIS.VID : Fld := ⟨837, 0x5b0000, 16, 16, .ly, .const 0, 32, 32⟩
/-- spec/12, ETH_LIS, bits [31:0]; 32 entries: IPv4 destination: group or interface address. -/
def ETH_LIS.DEST : Fld := ⟨838, 0x5b0004, 0, 32, .ly, .const 0, 32, 32⟩
/-- spec/12, ETH_LIS, bits [15:0]; 32 entries: Destination port. -/
def ETH_LIS.UDP_PORT : Fld := ⟨839, 0x5b0008, 0, 16, .ly, .const 0, 32, 32⟩
/-- spec/12, ETH_LIS, bits [31:0]; 32 entries: IPv4 source; 0 any. -/
def ETH_LIS.SRC_IP : Fld := ⟨840, 0x5b000c, 0, 32, .ly, .const 0, 32, 32⟩
/-- spec/12, ETH_LIS, bits [31:0]; 32 entries: Datagrams accepted; wraps. -/
def ETH_LIS.ACCEPTED : Fld := ⟨841, 0x5b0010, 0, 32, .ro, .const 0, 32, 32⟩
/-- spec/12, ETH_LIS, bits [31:0]; 32 entries: R339, R340; wraps. -/
def ETH_LIS.ERR : Fld := ⟨842, 0x5b0014, 0, 32, .ro, .const 0, 32, 32⟩
/-- spec/12, ETH_LIS, bits [31:0]; 32 entries: Duplicates discarded; wraps. -/
def ETH_LIS.DUP : Fld := ⟨843, 0x5b0018, 0, 32, .ro, .const 0, 32, 32⟩
/-- spec/12, PTP_CFG, bits [1:0]: 0 OFF, 1 E2E, 2 P2P (R343). -/
def PTP_CFG.TC_MODE : Fld := ⟨844, 0x5c0000, 0, 2, .ly, .const 0, 0, 1⟩
/-- spec/12, PTP_CFG, bits [3:2]: 0 OFF, 1 SLAVE_ONLY, 2 BMCA (R348). -/
def PTP_CFG.OC_MODE : Fld := ⟨845, 0x5c0000, 2, 2, .ly, .const 0, 0, 1⟩
/-- spec/12, PTP_CFG, bits [6:4]: ETH0 to ETH5. -/
def PTP_CFG.OC_PORT : Fld := ⟨846, 0x5c0000, 4, 3, .ly, .const 0, 0, 1⟩
/-- spec/12, PTP_CFG, bits [15:8]: domainNumber. -/
def PTP_CFG.DOMAIN : Fld := ⟨847, 0x5c0000, 8, 8, .ly, .const 0, 0, 1⟩
/-- spec/12, PTP_CFG, bits [17:16]: 0 UDP/IPv4, 1 UDP/IPv6, 2 Ethernet. -/
def PTP_CFG.TRANSPORT : Fld := ⟨848, 0x5c0000, 16, 2, .ly, .const 0, 0, 1⟩
/-- spec/12, PTP_CFG, bits [19:18]: Interface 0 to 3. -/
def PTP_CFG.OC_IF : Fld := ⟨849, 0x5c0000, 18, 2, .ly, .const 0, 0, 1⟩
/-- spec/12, PTP_OC_PRIO, bits [7:0]: . -/
def PTP_OC_PRIO.PRIORITY1 : Fld := ⟨850, 0x5c0004, 0, 8, .tx, .const 0x80, 0, 1⟩
/-- spec/12, PTP_OC_PRIO, bits [15:8]: . -/
def PTP_OC_PRIO.PRIORITY2 : Fld := ⟨851, 0x5c0004, 8, 8, .tx, .const 0x80, 0, 1⟩
/-- spec/12, PTP_OC_PRIO, bits [19:16]: announceReceiptTimeout, 2 to 10. -/
def PTP_OC_PRIO.ANN_TIMEOUT : Fld := ⟨852, 0x5c0004, 16, 4, .tx, .const 3, 0, 1⟩
/-- spec/12, PTP_OC_INTERVALS, bits [3:0]: Signed, −3 to 1. -/
def PTP_OC_INTERVALS.LOG_SYNC : Fld := ⟨853, 0x5c0008, 0, 4, .tx, .const 0, 0, 1⟩
/-- spec/12, PTP_OC_INTERVALS, bits [7:4]: 0 to 3. -/
def PTP_OC_INTERVALS.LOG_ANNOUNCE : Fld := ⟨854, 0x5c0008, 4, 4, .tx, .const 1, 0, 1⟩
/-- spec/12, PTP_OC_INTERVALS, bits [11:8]: Signed, −3 to 3. -/
def PTP_OC_INTERVALS.LOG_DELAY_REQ : Fld := ⟨855, 0x5c0008, 8, 4, .tx, .const 0, 0, 1⟩
/-- spec/12, PTP_OC_INTERVALS, bits [15:12]: Signed, −3 to 3 (R344). -/
def PTP_OC_INTERVALS.LOG_PDELAY : Fld := ⟨856, 0x5c0008, 12, 4, .tx, .const 0, 0, 1⟩
/-- spec/12, PTP_OC_STATUS, bits [3:0]: IEEE 1588-2019 portState enumeration; 3 DISABLED. -/
def PTP_OC_STATUS.PORT_STATE : Fld := ⟨857, 0x5c000c, 0, 4, .ro, .const 3, 0, 1⟩
/-- spec/12, PTP_OC_STATUS, bits [11:4]: Announced clockClass (R348). -/
def PTP_OC_STATUS.CLOCK_CLASS : Fld := ⟨858, 0x5c000c, 4, 8, .ro, .const 0xf8, 0, 1⟩
/-- spec/12, PTP_OC_STATUS, bits [12:12]: Servo steering device time. -/
def PTP_OC_STATUS.SERVO_LOCKED : Fld := ⟨859, 0x5c000c, 12, 1, .ro, .const 0, 0, 1⟩
/-- spec/12, PTP_OC_STATUS, bits [13:13]: R347. -/
def PTP_OC_STATUS.TC_DEGRADED : Fld := ⟨860, 0x5c000c, 13, 1, .ro, .const 0, 0, 1⟩
/-- spec/12, PTP_OFFSET, bits [63:0]: offsetFromMaster and meanPathDelay, signed, 2^−16 ns; grandmasterIdentity. Pairs under R11. -/
def PTP_OFFSET.VALUE : Fld := ⟨861, 0x5c0010, 0, 64, .ro, .const 0, 0, 1⟩
/-- spec/12, PTP_MEAN_DELAY, bits [63:0]: offsetFromMaster and meanPathDelay, signed, 2^−16 ns; grandmasterIdentity. Pairs under R11. -/
def PTP_MEAN_DELAY.VALUE : Fld := ⟨862, 0x5c0018, 0, 64, .ro, .const 0, 0, 1⟩
/-- spec/12, PTP_GM_ID, bits [63:0]: offsetFromMaster and meanPathDelay, signed, 2^−16 ns; grandmasterIdentity. Pairs under R11. -/
def PTP_GM_ID.VALUE : Fld := ⟨863, 0x5c0028, 0, 64, .ro, .const 0, 0, 1⟩
/-- spec/12, PTP_EVENT, bits [0:0]: portState changed. -/
def PTP_EVENT.STATE_CHANGED : Fld := ⟨864, 0x5c0020, 0, 1, .w1c, .const 0, 0, 1⟩
/-- spec/12, PTP_EVENT, bits [1:1]: Grandmaster changed. -/
def PTP_EVENT.GM_CHANGED : Fld := ⟨865, 0x5c0020, 1, 1, .w1c, .const 0, 0, 1⟩
/-- spec/12, PTP_EVENT, bits [2:2]: R349. -/
def PTP_EVENT.TXQ_OVF : Fld := ⟨866, 0x5c0020, 2, 1, .w1c, .const 0, 0, 1⟩
/-- spec/12, PTP_EVENT, bits [3:3]: Announce receipt timeout. -/
def PTP_EVENT.ANNOUNCE_TIMEOUT : Fld := ⟨867, 0x5c0020, 3, 1, .w1c, .const 0, 0, 1⟩
/-- spec/12, PTP_EVENT, bits [4:4]: R344. -/
def PTP_EVENT.PDELAY_FAIL : Fld := ⟨868, 0x5c0020, 4, 1, .w1c, .const 0, 0, 1⟩
/-- spec/12, PTP_EVENT, bits [5:5]: R347. -/
def PTP_EVENT.TC_DEGRADED : Fld := ⟨869, 0x5c0020, 5, 1, .w1c, .const 0, 0, 1⟩
/-- spec/12, PTP_EVENT, bits [6:6]: R345. -/
def PTP_EVENT.PDELAY_DROPPED : Fld := ⟨870, 0x5c0020, 6, 1, .w1c, .const 0, 0, 1⟩
/-- spec/12, PTP_TXQ_OVF, bits [31:0]: Timestamps dropped (R349); wraps. -/
def PTP_TXQ_OVF.COUNT : Fld := ⟨871, 0x5c0024, 0, 32, .ro, .const 0, 0, 1⟩
/-- spec/12, PTP_PORT, bits [31:0]; 3 entries: Signed ps, ±1,000,000 (R341). -/
def PTP_PORT.ING_ASYM : Fld := ⟨872, 0x5d0000, 0, 32, .tx, .const 0, 256, 3⟩
/-- spec/12, PTP_PORT, bits [31:0]; 3 entries: Signed ps, ±1,000,000. -/
def PTP_PORT.EGR_ASYM : Fld := ⟨873, 0x5d0004, 0, 32, .tx, .const 0, 256, 3⟩
/-- spec/12, PTP_PORT, bits [31:0]; 3 entries: meanLinkDelay in ps; saturates. -/
def PTP_PORT.LINK_DELAY : Fld := ⟨874, 0x5d0008, 0, 32, .ro, .const 0, 256, 3⟩
/-- spec/12, PTP_PORT, bits [31:0]; 3 entries: Frames corrected (R343); wraps. -/
def PTP_PORT.TC_CORRECTED : Fld := ⟨875, 0x5d000c, 0, 32, .ro, .const 0, 256, 3⟩
/-- spec/12, PTP_PORT, bits [31:0]; 3 entries: R345; wraps. -/
def PTP_PORT.PDELAY_DROP : Fld := ⟨876, 0x5d0010, 0, 32, .ro, .const 0, 256, 3⟩
/-- spec/12, PTP_PORT, bits [4:0]; 3 entries: Queue entries, 0 to 16. -/
def PTP_PORT.TXQ_DEPTH : Fld := ⟨877, 0x5d0014, 0, 5, .ro, .const 0, 256, 3⟩
/-- spec/12, PTP_TXQ, bits [15:0]; 3 entries: sequenceId of the oldest entry. -/
def PTP_TXQ.SEQ_ID : Fld := ⟨878, 0x5e0000, 0, 16, .ro, .const 0, 256, 3⟩
/-- spec/12, PTP_TXQ, bits [19:16]; 3 entries: messageType. -/
def PTP_TXQ.MSG_TYPE : Fld := ⟨879, 0x5e0000, 16, 4, .ro, .const 0, 256, 3⟩
/-- spec/12, PTP_TXQ, bits [22:20]; 3 entries: ETH0 to ETH5. -/
def PTP_TXQ.PORT : Fld := ⟨880, 0x5e0000, 20, 3, .ro, .const 0, 256, 3⟩
/-- spec/12, PTP_TXQ, bits [23:23]; 3 entries: An entry is present. -/
def PTP_TXQ.VALID : Fld := ⟨881, 0x5e0000, 23, 1, .ro, .const 0, 256, 3⟩
/-- spec/12, PTP_TXQ, bits [63:0]; 3 entries: Compensated egress timestamp in ns, latched by the key read. -/
def PTP_TXQ.TS : Fld := ⟨882, 0x5e0004, 0, 64, .ro, .const 0, 256, 3⟩

/-- Register map, port part 0. -/
def regRowsPort0 : List RegRow := [
  ⟨0x400000, 0x4, 0, 1, [3, 4], [GNS_STATUS.STATE, GNS_STATUS.ANT_STATE, GNS_STATUS.CHAN_SHORT, GNS_STATUS.SEARCH_SUSPENDED, GNS_STATUS.REFLECT_BUSY, GNS_STATUS.TRACKING, GNS_STATUS.FREE], []⟩,
  ⟨0x400004, 0x4, 0, 1, [3, 4], [GNS_CTRL.SNAP_TRIGGER, GNS_CTRL.SNAP_RELEASE, GNS_CTRL.REFLECT_START, GNS_CTRL.ANT_RETRY], []⟩,
  ⟨0x400008, 0x4, 0, 1, [3, 4], [GNS_CABLE_DELAY.DELAY], []⟩,
  ⟨0x40000c, 0x4, 0, 1, [3, 4], [GNS_ANT_CFG.BIAS_EN, GNS_ANT_CFG.OPEN_MA, GNS_ANT_CFG.SHORT_MA, GNS_ANT_CFG.RETRY_S], []⟩,
  ⟨0x400010, 0x4, 0, 1, [3, 4], [GNS_ANT_CURRENT.CURRENT], []⟩,
  ⟨0x400014, 0x4, 0, 1, [3, 4], [GNS_AGC.AGC_L1, GNS_AGC.AGC_L5], []⟩,
  ⟨0x400018, 0x4, 0, 1, [3, 4], [GNS_TRACK_CFG.PLL_BW, GNS_TRACK_CFG.DLL_BW, GNS_TRACK_CFG.REACQ_S], []⟩,
  ⟨0x40001c, 0x4, 0, 1, [3, 4], [GNS_CORR_CFG.DN_L1, GNS_CORR_CFG.DN_L5, GNS_CORR_CFG.MP_L1, GNS_CORR_CFG.MP_L5, GNS_CORR_CFG.VE_OFF], []⟩,
  ⟨0x400020, 0x4, 0, 1, [3, 4], [GNS_HARBOUR.HW_EN, GNS_HARBOUR.HW_INTERVAL, GNS_HARBOUR.HW_WAKE_MAX], []⟩,
  ⟨0x400024, 0x4, 0, 1, [3, 4], [GNS_SNAP_CFG.LENGTH_MS, GNS_SNAP_CFG.FORMAT, GNS_SNAP_CFG.TRIG_MASK, GNS_SNAP_CFG.HOLD_MAX], []⟩,
  ⟨0x400028, 0x4, 0, 1, [3, 4], [GNS_SNAP_STATUS.SNAP_STATE, GNS_SNAP_STATUS.EXPORTING, GNS_SNAP_STATUS.LENGTH_MS, GNS_SNAP_STATUS.FORMAT, GNS_SNAP_STATUS.TRIGGER], []⟩,
  ⟨0x40002c, 0x8, 0, 1, [3, 4], [GNS_SNAP_T0.T0], []⟩]

/-- Register map, port part 1. -/
def regRowsPort1 : List RegRow := [
  ⟨0x400034, 0x4, 0, 1, [3, 4], [GNS_REFLECT_CFG.VF], []⟩,
  ⟨0x400038, 0x4, 0, 1, [3, 4], [GNS_REFLECT_RESULT.LENGTH, GNS_REFLECT_RESULT.VALID, GNS_REFLECT_RESULT.PROPOSED, GNS_REFLECT_RESULT.CLIPPED], []⟩,
  ⟨0x400040, 0x4, 4, 4, [3, 4], [GNS_WEIR.SIGNAL, GNS_WEIR.DIR, GNS_WEIR.EN, GNS_WEIR.THRESH, GNS_WEIR.HYST, GNS_WEIR.MIN_DUR, GNS_WEIR.TO_LOG, GNS_WEIR.TO_SNAP], []⟩,
  ⟨0x400050, 0x4, 0, 1, [3, 4], [GNS_EVENT.ANT_OPEN, GNS_EVENT.ANT_SHORT, GNS_EVENT.ANT_OK, GNS_EVENT.ALL_LOST, GNS_EVENT.SIGNALS_BACK, GNS_EVENT.SNAP_READY, GNS_EVENT.SNAP_MISSED, GNS_EVENT.SNAP_DISCARDED, GNS_EVENT.REFLECT_DONE, GNS_EVENT.REFLECT_ABORTED, GNS_EVENT.CHAN_RETIRED, GNS_EVENT.CHAN_SHORT, GNS_EVENT.WEIR, GNS_EVENT.HW_SLEEP, GNS_EVENT.HW_WAKE, GNS_EVENT.CLOCK_DEGRADED], []⟩,
  ⟨0x400054, 0x4, 0, 1, [3, 4], [GNS_RECORDS.V], []⟩,
  ⟨0x400058, 0x4, 0, 1, [3, 4], [GNS_SLIPS.V], []⟩,
  ⟨0x40005c, 0x4, 0, 1, [3, 4], [GNS_NAV_ERR.V], []⟩,
  ⟨0x400060, 0x4, 0, 1, [3, 4], [GNS_ACQ_HITS.V], []⟩,
  ⟨0x400064, 0x4, 0, 1, [3, 4], [GNS_SNAP_MISSED.V], []⟩,
  ⟨0x410000, 0x10, 16, 160, [3, 4], [GNS_CHAN.SYS, GNS_CHAN.PRN, GNS_CHAN.SIG, GNS_CHAN.STATE, GNS_CHAN.CN0, GNS_CHAN.LOCK_TIME, GNS_CHAN.SLIPS, GNS_CHAN.WINDOW, GNS_CHAN.BIST_FAIL], [(0x41000c, .ro)]⟩,
  ⟨0x500000, 0x4, 0, 1, [5, 6], [SIG_STATUS.FILLING, SIG_STATUS.PORT_OK, SIG_STATUS.LAYOUT], []⟩,
  ⟨0x500004, 0x4, 0, 1, [5, 6], [SIG_SYNC.SYNC], []⟩]

/-- Register map, port part 2. -/
def regRowsPort2 : List RegRow := [
  ⟨0x500008, 0x4, 0, 1, [5, 6], [SIG_TEST.OUTPUT, SIG_TEST.KIND, SIG_TEST.EN, SIG_TEST.VALUE], []⟩,
  ⟨0x50000c, 0x4, 0, 1, [5, 6], [SIG_EVENT.WEIR, SIG_EVENT.FILL_DONE, SIG_EVENT.OVERRANGE, SIG_EVENT.FRAME_ERR, SIG_EVENT.DAC_OPEN, SIG_EVENT.DAC_SHORT, SIG_EVENT.TEST_REFUSED, SIG_EVENT.PORT_OK_LOW], []⟩,
  ⟨0x510000, 0x20, 32, 16, [5, 6], [SIG_AIN.EN, SIG_AIN.S, SIG_AIN.L, SIG_AIN.D, SIG_AIN.FLAGS, SIG_AIN.GD_NS, SIG_AIN.LAST, SIG_AIN.FILL_LEFT, SIG_AIN.OVR_COUNT], [(0x510014, .ro), (0x510018, .ro), (0x51001c, .ro)]⟩,
  ⟨0x511000, 0x10, 16, 64, [5, 6], [SIG_WEIR.CHANNEL, SIG_WEIR.CFG, SIG_WEIR.MIN_DUR, SIG_WEIR.THRESH, SIG_WEIR.HYST, SIG_WEIR.STATE, SIG_WEIR.FIRES], []⟩,
  ⟨0x520000, 0x10, 16, 8, [5, 6], [SIG_UART.BAUD, SIG_UART.MODE, SIG_UART.CHK_REQ, SIG_UART.FRAMES, SIG_UART.FRAME_ERR], []⟩,
  ⟨0x520100, 0x8, 8, 24, [5, 6], [SIG_DIO.FUNC, SIG_DIO.LEVEL, SIG_DIO.DEBOUNCE_US, SIG_DIO.PERIOD_NS], []⟩,
  ⟨0x530000, 0x20, 32, 40, [5, 6], [SIG_OUT.USER, SIG_OUT.DH_ACTION, SIG_OUT.ZERO, SIG_OUT.SPAN, SIG_OUT.DH_VALUE, SIG_OUT.DH_RATE, SIG_OUT.INIT_VALUE, SIG_OUT.LOAD, SIG_OUT.LATCHED, SIG_OUT.CODE], [(0x530018, .ro), (0x53001c, .ro)]⟩,
  ⟨0x531000, 0x10, 16, 128, [5, 6], [SIG_FB.SRC, SIG_FB.INDEX, SIG_FB.FIELD, SIG_FB.SCALE, SIG_FB.STALE_MS, SIG_FB.STALE, SIG_FB.VALUE], []⟩,
  ⟨0x540000, 0x4, 0, 1, [5, 6], [CAN_DIE_STATUS.FD_SUSPENDED, CAN_DIE_STATUS.SPARE_USED, CAN_DIE_STATUS.SPARE_FOR, CAN_DIE_STATUS.RETIRED], []⟩,
  ⟨0x540004, 0x4, 0, 1, [5, 6], [CAN_PAIR_CNT.COUNT], []⟩,
  ⟨0x540008, 0x8, 0, 1, [5, 6], [CAN_PAIR_TIME.TIME], []⟩,
  ⟨0x540010, 0x4, 0, 1, [5, 6], [CAN_EVENT.BUS_OFF, CAN_EVENT.BUS_ON, CAN_EVENT.ERR_PASSIVE, CAN_EVENT.LONELY, CAN_EVENT.RX_OVF, CAN_EVENT.TX_SKIP, CAN_EVENT.TDC_SAT, CAN_EVENT.FD_SUSPENDED, CAN_EVENT.CTRL_RETIRED, CAN_EVENT.FD_INTOLERANT], []⟩]

/-- Register map, port part 3. -/
def regRowsPort3 : List RegRow := [
  ⟨0x540100, 0x4, 256, 4, [5, 6], [CAN_CFG.MODE, CAN_CFG.FD_EN, CAN_CFG.TDC_EN, CAN_CFG.REQUEUE_LOSSES], []⟩,
  ⟨0x540104, 0x4, 256, 4, [5, 6], [CAN_NBT.BRP, CAN_NBT.TSEG1, CAN_NBT.TSEG2, CAN_NBT.SJW], []⟩,
  ⟨0x540108, 0x4, 256, 4, [5, 6], [CAN_NBT_IOSC.BRP, CAN_NBT_IOSC.TSEG1, CAN_NBT_IOSC.TSEG2, CAN_NBT_IOSC.SJW], []⟩,
  ⟨0x54010c, 0x4, 256, 4, [5, 6], [CAN_DBT.BRP, CAN_DBT.TSEG1, CAN_DBT.TSEG2, CAN_DBT.SJW, CAN_DBT.TDC_OFFSET], []⟩,
  ⟨0x540110, 0x4, 256, 4, [5, 6], [CAN_STATUS.STATE, CAN_STATUS.LONELY, CAN_STATUS.INTEGRATING, CAN_STATUS.TX_DEPTH, CAN_STATUS.TEC, CAN_STATUS.REC], []⟩,
  ⟨0x540114, 0x4, 256, 4, [5, 6], [CAN_LOOP.LAST, CAN_LOOP.MIN, CAN_LOOP.MAX, CAN_LOOP.TDC_SAT], []⟩,
  ⟨0x540118, 0x4, 256, 4, [5, 6], [CAN_TX_CTRL.TAG, CAN_TX_CTRL.PUSH, CAN_TX_CTRL.CANCEL], []⟩,
  ⟨0x540100, 0x3c, 256, 4, [5, 6], [CAN_CNT.TX_SENT, CAN_CNT.RX_OK, CAN_CNT.ERR_FRAMES, CAN_CNT.TX_SKIP, CAN_CNT.RX_OVF, CAN_CNT.CANCEL_MISS, CAN_CNT.BUS_OFFS], []⟩,
  ⟨0x540100, 0x88, 256, 4, [5, 6], [CAN_RAW.ID, CAN_RAW.IDE, CAN_RAW.FDF, CAN_RAW.BRS, CAN_RAW.DLC, CAN_RAW.DEMOTE, CAN_RAW.DATA0, CAN_RAW.DATA1, CAN_RAW.DATA2, CAN_RAW.DATA3, CAN_RAW.DATA4, CAN_RAW.DATA5, CAN_RAW.DATA6, CAN_RAW.DATA7, CAN_RAW.DATA8, CAN_RAW.DATA9, CAN_RAW.DATA10, CAN_RAW.DATA11, CAN_RAW.DATA12, CAN_RAW.DATA13, CAN_RAW.DATA14, CAN_RAW.DATA15], []⟩,
  ⟨0x550000, 0x10, 16, 512, [5, 6], [CAN_FILT.ID, CAN_FILT.MASK, CAN_FILT.ACTION, CAN_FILT.HITS], []⟩,
  ⟨0x560000, 0x20, 32, 64, [5, 6], [CAN_TXM.PORT, CAN_TXM.FLAGS, CAN_TXM.DLC, CAN_TXM.ID, CAN_TXM.PERIOD_MS, CAN_TXM.PHASE_MS, CAN_TXM.SENT, CAN_TXM.LAST_SOF], [(0x560014, .ro), (0x560018, .ro), (0x56001c, .ro)]⟩,
  ⟨0x561000, 0x20, 32, 128, [5, 6], [CAN_TXS.MSG, CAN_TXS.LEN, CAN_TXS.START, CAN_TXS.FMT, CAN_TXS.DH_ACTION, CAN_TXS.OFFSET, CAN_TXS.SPAN, CAN_TXS.DH_VALUE, CAN_TXS.RAW, CAN_TXS.INIT_VALUE], [(0x56101c, .ro)]⟩]

/-- Register map, port part 4. -/
def regRowsPort4 : List RegRow := [
  ⟨0x570000, 0x10, 16, 128, [5, 6], [CAN_RXS.PORT, CAN_RXS.FMT, CAN_RXS.LEN, CAN_RXS.START, CAN_RXS.ID, CAN_RXS.RAW], []⟩,
  ⟨0x571000, 0x20, 32, 4, [5, 6], [CAN_CENSUS.IDS, CAN_CENSUS.FLAGS, CAN_CENSUS.CLASSIC, CAN_CENSUS.FD, CAN_CENSUS.BRS, CAN_CENSUS.ERR], [(0x571014, .ro), (0x571018, .ro), (0x57101c, .ro)]⟩,
  ⟨0x580000, 0x4, 0, 1, [5, 6], [ETH_SW_STATUS.LINK, ETH_SW_STATUS.TRUNK_UP, ETH_SW_STATUS.VLANS, ETH_SW_STATUS.MAC_ENTRIES], []⟩,
  ⟨0x580004, 0x4, 0, 1, [5, 6], [ETH_SW_CFG.AGE_S], []⟩,
  ⟨0x580008, 0x4, 0, 1, [5, 6], [ETH_EVENT.LINK_UP, ETH_EVENT.LINK_DOWN, ETH_EVENT.STORM, ETH_EVENT.QUEUE_DROP, ETH_EVENT.MAC_FULL, ETH_EVENT.LISTEN_ERR, ETH_EVENT.PARTNER_CHANGED], []⟩,
  ⟨0x590000, 0x4, 256, 3, [5, 6], [ETH_PORT_CFG.MODE, ETH_PORT_CFG.AN_EN, ETH_PORT_CFG.PVID, ETH_PORT_CFG.DEF_PCP], []⟩,
  ⟨0x590004, 0x4, 256, 3, [5, 6], [ETH_PORT_STORM.BC_LIMIT, ETH_PORT_STORM.MC_LIMIT], []⟩,
  ⟨0x590008, 0x4, 256, 3, [5, 6], [ETH_PORT_STATUS.LINK, ETH_PORT_STATUS.SPEED, ETH_PORT_STATUS.PARTNER_AN, ETH_PORT_STATUS.PARTNER_PAUSE], []⟩,
  ⟨0x59000c, 0x4, 256, 3, [5, 6], [ETH_PORT_PTP_SEEN.DOMAIN, ETH_PORT_PTP_SEEN.TWO_STEP, ETH_PORT_PTP_SEEN.SYNC, ETH_PORT_PTP_SEEN.ANNOUNCE, ETH_PORT_PTP_SEEN.DELAY_REQ, ETH_PORT_PTP_SEEN.PDELAY_REQ, ETH_PORT_PTP_SEEN.VERSION], []⟩,
  ⟨0x590000, 0x2c, 256, 3, [5, 6], [ETH_CNT.RX_FRAMES, ETH_CNT.TX_FRAMES, ETH_CNT.RX_ERR, ETH_CNT.OVERSIZE, ETH_CNT.PAUSE_RX, ETH_CNT.STORM_DROP, ETH_CNT.QDROP], []⟩,
  ⟨0x5a0000, 0x8, 8, 64, [5, 6], [ETH_VLAN.VID, ETH_VLAN.MEMBER, ETH_VLAN.UNTAG], [(0x5a0004, .ly)]⟩,
  ⟨0x5a1000, 0x20, 32, 4, [5, 6], [ETH_IF.VID, ETH_IF.FLAGS, ETH_IF.PREFIX, ETH_IF.IPV4, ETH_IF.IPV6_0, ETH_IF.IPV6_1, ETH_IF.IPV6_2, ETH_IF.IPV6_3], [(0x5a1018, .ly), (0x5a101c, .ly)]⟩]

/-- Register map, port part 5. -/
def regRowsPort5 : List RegRow := [
  ⟨0x5b0000, 0x20, 32, 32, [5, 6], [ETH_LIS.KIND, ETH_LIS.PORTS, ETH_LIS.VID, ETH_LIS.DEST, ETH_LIS.UDP_PORT, ETH_LIS.SRC_IP, ETH_LIS.ACCEPTED, ETH_LIS.ERR, ETH_LIS.DUP], [(0x5b001c, .ro)]⟩,
  ⟨0x5c0000, 0x4, 0, 1, [5, 6], [PTP_CFG.TC_MODE, PTP_CFG.OC_MODE, PTP_CFG.OC_PORT, PTP_CFG.DOMAIN, PTP_CFG.TRANSPORT, PTP_CFG.OC_IF], []⟩,
  ⟨0x5c0004, 0x4, 0, 1, [5, 6], [PTP_OC_PRIO.PRIORITY1, PTP_OC_PRIO.PRIORITY2, PTP_OC_PRIO.ANN_TIMEOUT], []⟩,
  ⟨0x5c0008, 0x4, 0, 1, [5, 6], [PTP_OC_INTERVALS.LOG_SYNC, PTP_OC_INTERVALS.LOG_ANNOUNCE, PTP_OC_INTERVALS.LOG_DELAY_REQ, PTP_OC_INTERVALS.LOG_PDELAY], []⟩,
  ⟨0x5c000c, 0x4, 0, 1, [5, 6], [PTP_OC_STATUS.PORT_STATE, PTP_OC_STATUS.CLOCK_CLASS, PTP_OC_STATUS.SERVO_LOCKED, PTP_OC_STATUS.TC_DEGRADED], []⟩,
  ⟨0x5c0010, 0x8, 0, 1, [5, 6], [PTP_OFFSET.VALUE], []⟩,
  ⟨0x5c0018, 0x8, 0, 1, [5, 6], [PTP_MEAN_DELAY.VALUE], []⟩,
  ⟨0x5c0028, 0x8, 0, 1, [5, 6], [PTP_GM_ID.VALUE], []⟩,
  ⟨0x5c0020, 0x4, 0, 1, [5, 6], [PTP_EVENT.STATE_CHANGED, PTP_EVENT.GM_CHANGED, PTP_EVENT.TXQ_OVF, PTP_EVENT.ANNOUNCE_TIMEOUT, PTP_EVENT.PDELAY_FAIL, PTP_EVENT.TC_DEGRADED, PTP_EVENT.PDELAY_DROPPED], []⟩,
  ⟨0x5c0024, 0x4, 0, 1, [5, 6], [PTP_TXQ_OVF.COUNT], []⟩,
  ⟨0x5d0000, 0x18, 256, 3, [5, 6], [PTP_PORT.ING_ASYM, PTP_PORT.EGR_ASYM, PTP_PORT.LINK_DELAY, PTP_PORT.TC_CORRECTED, PTP_PORT.PDELAY_DROP, PTP_PORT.TXQ_DEPTH], []⟩,
  ⟨0x5e0000, 0xc, 256, 3, [5, 6], [PTP_TXQ.SEQ_ID, PTP_TXQ.MSG_TYPE, PTP_TXQ.PORT, PTP_TXQ.VALID, PTP_TXQ.TS], []⟩]

/-- The register map rows of this file. -/
def regRowsPort : List RegRow :=
  regRowsPort0 ++ regRowsPort1 ++ regRowsPort2 ++ regRowsPort3 ++ regRowsPort4 ++ regRowsPort5

/-- Identities of the fields of this file: from the first, below the second. -/
def regPortIds : Nat × Nat := (538, 883)

end Sys2Proof.Machine
end

