-- ==== Sys2Proof/Machine/RegsSys.lean ====
section
/-! DEFINITION. The register fields of device time, the clocks and the steward (spec chapters 13 to 18), one definition a field, with the
address, bits, access and reset of its field table, and the register map rows they make. -/

namespace Sys2Proof.Machine

/-- spec/13, TIM_STATUS, bits [2:0]: Table 13-1, as the last spine word carried. -/
def TIM_STATUS.STATE : Fld := ⟨883, 0x30000, 0, 3, .ro, .const 0, 0, 1⟩
/-- spec/13, TIM_STATUS, bits [3:3]: R366. -/
def TIM_STATUS.STEP_PENDING : Fld := ⟨884, 0x30000, 3, 1, .ro, .const 0, 0, 1⟩
/-- spec/13, TIM_STATUS, bits [4:4]: R357. -/
def TIM_STATUS.SPINE_LOCKED : Fld := ⟨885, 0x30000, 4, 1, .ro, .const 0, 0, 1⟩
/-- spec/13, TIM_STATUS, bits [5:5]: This die drives the spine. -/
def TIM_STATUS.SPINE_MASTER : Fld := ⟨886, 0x30000, 5, 1, .ro, .const 0, 0, 1⟩
/-- spec/13, TIM_STATUS, bits [6:6]: R358. -/
def TIM_STATUS.SPINE_LOST : Fld := ⟨887, 0x30000, 6, 1, .ro, .const 0, 0, 1⟩
/-- spec/13, TIM_STATUS, bits [7:7]: R360. -/
def TIM_STATUS.DIE_DEGRADED : Fld := ⟨888, 0x30000, 7, 1, .ro, .const 0, 0, 1⟩
/-- spec/13, TIM_STATUS, bits [8:8]: A slew is in force. -/
def TIM_STATUS.SLEWING : Fld := ⟨889, 0x30000, 8, 1, .ro, .const 0, 0, 1⟩
/-- spec/13, TIM_STATUS, bits [11:9]: Die ID of the spine master. -/
def TIM_STATUS.MASTER_DIE : Fld := ⟨890, 0x30000, 9, 3, .ro, .const 5, 0, 1⟩
/-- spec/13, TIM_STATUS, bits [23:16]: Steps applied since RESET_N; wraps. -/
def TIM_STATUS.STEP_EPOCH : Fld := ⟨891, 0x30000, 16, 8, .ro, .const 0, 0, 1⟩
/-- spec/13, TIM_NOW, bits [63:0]: Device time in ns; a pair under R11. -/
def TIM_NOW.NOW : Fld := ⟨892, 0x30004, 0, 64, .ro, .const 0, 0, 1⟩
/-- spec/13, TIM_NOW_FRAC, bits [31:0]: Tally fraction, latched by the read of TIM_NOW_LO. -/
def TIM_NOW_FRAC.FRAC : Fld := ⟨893, 0x3000c, 0, 32, .ro, .const 0, 0, 1⟩
/-- spec/13, TIM_CAL_NS, bits [29:0]: Calendar nanoseconds; a read latches both seconds words. -/
def TIM_CAL_NS.NS : Fld := ⟨894, 0x30010, 0, 30, .ro, .const 0, 0, 1⟩
/-- spec/13, TIM_CAL_SEC, bits [47:0]: Calendar seconds, latched; bits [47:32] in TIM_CAL_SEC_HI[15:0]. -/
def TIM_CAL_SEC.SEC : Fld := ⟨895, 0x30014, 0, 48, .ro, .const 0, 0, 1⟩
/-- spec/13, TIM_INCR, bits [63:0]: Increment in 32.32 ns, trim included; written by steward firmware in the master (R363). -/
def TIM_INCR.INCR : Fld := ⟨896, 0x3001c, 0, 64, .ro, .const 0x3d89d89d9, 0, 1⟩
/-- spec/13, TIM_SLEW, bits [31:0]: Signed ns of the slew still to be added (R364). -/
def TIM_SLEW.REMAIN : Fld := ⟨897, 0x30024, 0, 32, .ro, .const 0, 0, 1⟩
/-- spec/13, TIM_SPINE, bits [15:0]: e at the last mark, signed, 1/16 ns (R356). -/
def TIM_SPINE.ERR : Fld := ⟨898, 0x30028, 0, 16, .ro, .const 0, 0, 1⟩
/-- spec/13, TIM_SPINE, bits [23:16]: Largest |e| since lock, ns; saturates. -/
def TIM_SPINE.MAX_ERR : Fld := ⟨899, 0x30028, 16, 8, .ro, .const 0, 0, 1⟩
/-- spec/13, TIM_SPINE, bits [31:24]: SPINE_ALIGN occurrences; saturates. -/
def TIM_SPINE.ALIGNS : Fld := ⟨900, 0x30028, 24, 8, .ro, .const 0, 0, 1⟩
/-- spec/13, TIM_EVENT, bits [0:0]: R366. -/
def TIM_EVENT.STEP_REFUSED : Fld := ⟨901, 0x3002c, 0, 1, .w1c, .const 0, 0, 1⟩
/-- spec/13, TIM_EVENT, bits [1:1]: R368. -/
def TIM_EVENT.STEP_APPLIED : Fld := ⟨902, 0x3002c, 1, 1, .w1c, .const 0, 0, 1⟩
/-- spec/13, TIM_EVENT, bits [2:2]: R361. -/
def TIM_EVENT.HOLDOVER_ENTER : Fld := ⟨903, 0x3002c, 2, 1, .w1c, .const 0, 0, 1⟩
/-- spec/13, TIM_EVENT, bits [3:3]: LOCKED entered. -/
def TIM_EVENT.LOCKED : Fld := ⟨904, 0x3002c, 3, 1, .w1c, .const 0, 0, 1⟩
/-- spec/13, TIM_EVENT, bits [4:4]: HOLDOVER_DEGRADED or DIE_DEGRADED set. -/
def TIM_EVENT.DEGRADED : Fld := ⟨905, 0x3002c, 4, 1, .w1c, .const 0, 0, 1⟩
/-- spec/13, TIM_EVENT, bits [5:5]: R359. -/
def TIM_EVENT.MASTER_CHANGED : Fld := ⟨906, 0x3002c, 5, 1, .w1c, .const 0, 0, 1⟩
/-- spec/13, TIM_EVENT, bits [6:6]: R358. -/
def TIM_EVENT.SPINE_LOST : Fld := ⟨907, 0x3002c, 6, 1, .w1c, .const 0, 0, 1⟩
/-- spec/13, TIM_EVENT, bits [7:7]: R363. -/
def TIM_EVENT.INCR_CLAMPED : Fld := ⟨908, 0x3002c, 7, 1, .w1c, .const 0, 0, 1⟩
/-- spec/13, TIM_EVENT, bits [8:8]: R373. -/
def TIM_EVENT.PULSE_MISSED : Fld := ⟨909, 0x3002c, 8, 1, .w1c, .const 0, 0, 1⟩
/-- spec/13, TIM_EVENT, bits [9:9]: R371. -/
def TIM_EVENT.UTC_CHANGED : Fld := ⟨910, 0x3002c, 9, 1, .w1c, .const 0, 0, 1⟩
/-- spec/13, TIM_CFG, bits [1:0]: 0 NONE, 1 GNSS, 2 PTP. -/
def TIM_CFG.REFERENCE : Fld := ⟨911, 0x30030, 0, 2, .ly, .const 0, 0, 1⟩
/-- spec/13, TIM_LIMITS, bits [15:0]: ns, 100 to 65,535 (R366). -/
def TIM_LIMITS.STEP_LIMIT : Fld := ⟨912, 0x30040, 0, 16, .tx, .const 0x3e8, 0, 1⟩
/-- spec/13, TIM_LIMITS, bits [31:16]: ns/s, 10 to 10,000 (R364). -/
def TIM_LIMITS.SLEW_RATE : Fld := ⟨913, 0x30040, 16, 16, .tx, .const 0x64, 0, 1⟩
/-- spec/13, TIM_STEP_CTRL, bits [0:0]: 1: apply the step (R367); SERVICE session; reads 0. -/
def TIM_STEP_CTRL.STEP_ACCEPT : Fld := ⟨914, 0x30044, 0, 1, .tx, .const 0, 0, 1⟩
/-- spec/13, TIM_STEP_PENDING, bits [63:0]: Refused step, signed ns; 0 when none; a pair under R11. -/
def TIM_STEP_PENDING.PENDING : Fld := ⟨915, 0x30048, 0, 64, .ro, .const 0, 0, 1⟩
/-- spec/13, TIM_STEP_VALUE, bits [63:0]: Step for reference NONE, signed ns; a pair under R11. -/
def TIM_STEP_VALUE.VALUE : Fld := ⟨916, 0x30050, 0, 64, .tx, .const 0, 0, 1⟩
/-- spec/13, TIM_UTC, bits [15:0]: TAI − UTC in s, signed (R370). -/
def TIM_UTC.UTC_OFFSET : Fld := ⟨917, 0x30058, 0, 16, .tx, .const 0x25, 0, 1⟩
/-- spec/13, TIM_UTC, bits [16:16]: The current UTC day ends with 23:59:60. -/
def TIM_UTC.LEAP61 : Fld := ⟨918, 0x30058, 16, 1, .tx, .const 0, 0, 1⟩
/-- spec/13, TIM_UTC, bits [17:17]: The current UTC day ends at 23:59:58. -/
def TIM_UTC.LEAP59 : Fld := ⟨919, 0x30058, 17, 1, .tx, .const 0, 0, 1⟩
/-- spec/13, TIM_UTC, bits [18:18]: 1: offset confirmed by the reference or by a host. -/
def TIM_UTC.VALID : Fld := ⟨920, 0x30058, 18, 1, .tx, .const 0, 0, 1⟩
/-- spec/13, TIM_REF_OFFSET, bits [63:0]: theta of the last update, signed ns; a pair under R11. -/
def TIM_REF_OFFSET.THETA : Fld := ⟨921, 0x3005c, 0, 64, .ro, .const 0, 0, 1⟩
/-- spec/13, TIM_REF_FREQ, bits [31:0]: binary32, f_meas of the last update, ppb. -/
def TIM_REF_FREQ.F_MEAS : Fld := ⟨922, 0x30064, 0, 32, .ro, .const 0, 0, 1⟩
/-- spec/13, TIM_SERVO_CFG, bits [7:0]: Units of 1/256, 1 to 255. -/
def TIM_SERVO_CFG.FREQ_GAIN : Fld := ⟨923, 0x30068, 0, 8, .tx, .const 0x20, 0, 1⟩
/-- spec/13, TIM_SERVO_CFG, bits [15:8]: Seconds, 10 to 255. -/
def TIM_SERVO_CFG.LOCK_HOLD : Fld := ⟨924, 0x30068, 8, 8, .tx, .const 0x3c, 0, 1⟩
/-- spec/13, TIM_SERVO_CFG, bits [31:16]: ns, 10 to 10,000. -/
def TIM_SERVO_CFG.LOCK_THRESH : Fld := ⟨925, 0x30068, 16, 16, .tx, .const 0x64, 0, 1⟩
/-- spec/13, TIM_SERVO_CFG2, bits [15:0]: ms, 100 to 60,000 (R361). -/
def TIM_SERVO_CFG2.REF_TIMEOUT : Fld := ⟨926, 0x3006c, 0, 16, .tx, .const 0x7d0, 0, 1⟩
/-- spec/13, TIM_SERVO_CFG2, bits [31:16]: ppb, 100 to 60,000 (R363). -/
def TIM_SERVO_CFG2.ADJ_MAX : Fld := ⟨927, 0x3006c, 16, 16, .tx, .const 0x1388, 0, 1⟩
/-- spec/13, TIM_TP, bits [1:0]; 4 entries: 0 OFF, 1 ONE_SHOT, 2 PERIODIC, 3 LOCK_OUT. -/
def TIM_TP.MODE : Fld := ⟨928, 0x30100, 0, 2, .ly, .const 0, 32, 4⟩
/-- spec/13, TIM_TP, bits [2:2]; 4 entries: 0 active high, 1 active low. -/
def TIM_TP.POLARITY : Fld := ⟨929, 0x30100, 2, 1, .ly, .const 0, 32, 4⟩
/-- spec/13, TIM_TP, bits [63:0]; 4 entries: Device time of the first edge, ns; a pair under R11. -/
def TIM_TP.START : Fld := ⟨930, 0x30104, 0, 64, .tx, .const 0, 32, 4⟩
/-- spec/13, TIM_TP, bits [31:0]; 4 entries: ns, 100 to 4,294,967,295 (R372). -/
def TIM_TP.PERIOD : Fld := ⟨931, 0x3010c, 0, 32, .tx, .const 0, 32, 4⟩
/-- spec/13, TIM_TP, bits [31:0]; 4 entries: ns, 10 to PERIOD − 10. -/
def TIM_TP.WIDTH : Fld := ⟨932, 0x30110, 0, 32, .tx, .const 0, 32, 4⟩
/-- spec/13, TIM_TP, bits [31:0]; 4 entries: Signed ps, ±100,000. -/
def TIM_TP.PIN_DLY : Fld := ⟨933, 0x30114, 0, 32, .tx, .const 0, 32, 4⟩
/-- spec/13, TIM_TP, bits [0:0]; 4 entries: Edges being generated. -/
def TIM_TP.RUNNING : Fld := ⟨934, 0x30118, 0, 1, .ro, .const 0, 32, 4⟩
/-- spec/13, TIM_TP, bits [1:1]; 4 entries: ONE_SHOT pulse emitted. -/
def TIM_TP.FIRED : Fld := ⟨935, 0x30118, 1, 1, .ro, .const 0, 32, 4⟩
/-- spec/13, TIM_TP, bits [2:2]; 4 entries: R373. -/
def TIM_TP.MISSED : Fld := ⟨936, 0x30118, 2, 1, .ro, .const 0, 32, 4⟩
/-- spec/13, TIM_TP, bits [31:16]; 4 entries: Pulses emitted; wraps. -/
def TIM_TP.EDGES : Fld := ⟨937, 0x30118, 16, 16, .ro, .const 0, 32, 4⟩
/-- spec/14, CLK_STATUS, bits [1:0]: 0 HOME, 1 OTHER, 2 FALLBACK. Reset: qual. -/
def CLK_STATUS.SOURCE : Fld := ⟨938, 0x20000, 0, 2, .ro, .const 0, 0, 1⟩
/-- spec/14, CLK_STATUS, bits [2:2]: 0: home root REFCLK_A; 1: REFCLK_B (Table 14-1). Reset: die. -/
def CLK_STATUS.HOME_B : Fld := ⟨939, 0x20000, 2, 1, .ro, .const 0, 0, 1⟩
/-- spec/14, CLK_STATUS, bits [3:3]: IOSC qualified. Reset: qual. -/
def CLK_STATUS.QUAL_IOSC : Fld := ⟨940, 0x20000, 3, 1, .ro, .const 0, 0, 1⟩
/-- spec/14, CLK_STATUS, bits [4:4]: REFCLK_A qualified. Reset: qual. -/
def CLK_STATUS.QUAL_A : Fld := ⟨941, 0x20000, 4, 1, .ro, .const 0, 0, 1⟩
/-- spec/14, CLK_STATUS, bits [5:5]: REFCLK_B qualified. Reset: qual. -/
def CLK_STATUS.QUAL_B : Fld := ⟨942, 0x20000, 5, 1, .ro, .const 0, 0, 1⟩
/-- spec/14, CLK_STATUS, bits [6:6]: Left reset on the other root (Table 14-4). Reset: qual. -/
def CLK_STATUS.ON_OTHER : Fld := ⟨943, 0x20000, 6, 1, .ro, .const 0, 0, 1⟩
/-- spec/14, CLK_STATUS, bits [7:7]: R386. -/
def CLK_STATUS.OTHER_LOST : Fld := ⟨944, 0x20000, 7, 1, .ro, .const 0, 0, 1⟩
/-- spec/14, CLK_STATUS, bits [8:8]: R382. -/
def CLK_STATUS.ROOT_DISAGREE : Fld := ⟨945, 0x20000, 8, 1, .ro, .const 0, 0, 1⟩
/-- spec/14, CLK_STATUS, bits [9:9]: Step 3 failed. Reset: qual. -/
def CLK_STATUS.ROOT_MISMATCH : Fld := ⟨946, 0x20000, 9, 1, .ro, .const 0, 0, 1⟩
/-- spec/14, CLK_STATUS, bits [10:10]: A move is in progress (R388, R389). -/
def CLK_STATUS.MOVE_BUSY : Fld := ⟨947, 0x20000, 10, 1, .ro, .const 0, 0, 1⟩
/-- spec/14, CLK_STATUS, bits [11:11]: Root PLL locked. Reset: qual. -/
def CLK_STATUS.PLL_LOCK : Fld := ⟨948, 0x20000, 11, 1, .ro, .const 0, 0, 1⟩
/-- spec/14, CLK_CTRL, bits [0:0]: 1: move to the other root (R388). -/
def CLK_CTRL.MOVE_OTHER : Fld := ⟨949, 0x20004, 0, 1, .wo, .const 0, 0, 1⟩
/-- spec/14, CLK_CTRL, bits [1:1]: 1: move to the home root (R389). -/
def CLK_CTRL.MOVE_HOME : Fld := ⟨950, 0x20004, 1, 1, .wo, .const 0, 0, 1⟩
/-- spec/14, CLK_CTRL, bits [2:2]: 1: acknowledge this die's CLKFAIL. -/
def CLK_CTRL.NME_ACK : Fld := ⟨951, 0x20004, 2, 1, .wo, .const 0, 0, 1⟩
/-- spec/14, CLK_CFG, bits [6:0]: Units of 10 ppm, 5 to 100 (R382). -/
def CLK_CFG.MON_TOL : Fld := ⟨952, 0x20008, 0, 7, .ly, .const 0x14, 0, 1⟩
/-- spec/14, CLK_CFG, bits [7:7]: R388. -/
def CLK_CFG.AUTO_MOVE : Fld := ⟨953, 0x20008, 7, 1, .ly, .const 1, 0, 1⟩
/-- spec/14, CLK_MON, bits [15:0]: Count − 208,000 of the last window, signed, 4.81 ppm (R382). -/
def CLK_MON.DEV : Fld := ⟨954, 0x2000c, 0, 16, .ro, .const 0, 0, 1⟩
/-- spec/14, CLK_MON, bits [31:16]: Largest |DEV| since reset; saturates. -/
def CLK_MON.DEV_MAX : Fld := ⟨955, 0x2000c, 16, 16, .ro, .const 0, 0, 1⟩
/-- spec/14, CLK_IOSC, bits [15:0]: IOSC against the serving root, signed ppm. -/
def CLK_IOSC.IOSC_PPM : Fld := ⟨956, 0x20010, 0, 16, .ro, .const 0, 0, 1⟩
/-- spec/14, CLK_IOSC, bits [31:16]: Watch against IOSC, signed, units of 10 ppm. -/
def CLK_IOSC.WATCH_PPM : Fld := ⟨957, 0x20010, 16, 16, .ro, .const 0, 0, 1⟩
/-- spec/14, CLK_EVENT, bits [0:0]: R384. -/
def CLK_EVENT.CLKFAIL : Fld := ⟨958, 0x20014, 0, 1, .w1c, .const 0, 0, 1⟩
/-- spec/14, CLK_EVENT, bits [1:1]: R383. -/
def CLK_EVENT.FAST_TRIP : Fld := ⟨959, 0x20014, 1, 1, .w1c, .const 0, 0, 1⟩
/-- spec/14, CLK_EVENT, bits [2:2]: R382. -/
def CLK_EVENT.FREQ_TRIP : Fld := ⟨960, 0x20014, 2, 1, .w1c, .const 0, 0, 1⟩
/-- spec/14, CLK_EVENT, bits [3:3]: R386. -/
def CLK_EVENT.OTHER_LOST : Fld := ⟨961, 0x20014, 3, 1, .w1c, .const 0, 0, 1⟩
/-- spec/14, CLK_EVENT, bits [4:4]: R382. -/
def CLK_EVENT.ROOT_DISAGREE : Fld := ⟨962, 0x20014, 4, 1, .w1c, .const 0, 0, 1⟩
/-- spec/14, CLK_EVENT, bits [5:5]: R388, R389. -/
def CLK_EVENT.MOVED : Fld := ⟨963, 0x20014, 5, 1, .w1c, .const 0, 0, 1⟩
/-- spec/14, CLK_EVENT, bits [6:6]: R389. -/
def CLK_EVENT.REQUALIFIED : Fld := ⟨964, 0x20014, 6, 1, .w1c, .const 0, 0, 1⟩
/-- spec/14, CLK_EVENT, bits [7:7]: A move was refused. -/
def CLK_EVENT.MOVE_REFUSED : Fld := ⟨965, 0x20014, 7, 1, .w1c, .const 0, 0, 1⟩
/-- spec/14, CLK_FAILS, bits [15:0]: Home-root failures since reset; saturates. -/
def CLK_FAILS.HOME : Fld := ⟨966, 0x20018, 0, 16, .ro, .const 0, 0, 1⟩
/-- spec/14, CLK_FAILS, bits [31:16]: Other-root failures seen; saturates. -/
def CLK_FAILS.OTHER : Fld := ⟨967, 0x20018, 16, 16, .ro, .const 0, 0, 1⟩
/-- spec/14, CLK_GATE_CFG, bits [0:0]: 1: keep every gate open (R391). -/
def CLK_GATE_CFG.DISABLE : Fld := ⟨968, 0x2001c, 0, 1, .rw, .const 0, 0, 1⟩
/-- spec/14, CLK_GATE_REPLAY, bits [31:0]: Accesses held and replayed (R390); wraps. -/
def CLK_GATE_REPLAY.COUNT : Fld := ⟨969, 0x20020, 0, 32, .ro, .const 0, 0, 1⟩
/-- spec/15, HST_STATUS, bits [7:0]: Bit s: slot s has an open session. -/
def HST_STATUS.OPEN : Fld := ⟨970, 0x40000, 0, 8, .ro, .const 0, 0, 1⟩
/-- spec/15, HST_STATUS, bits [8:8]: R411. -/
def HST_STATUS.MGMT_BUSY : Fld := ⟨971, 0x40000, 8, 1, .ro, .const 0, 0, 1⟩
/-- spec/15, HST_STATUS, bits [11:9]: Table 15-8 OP. -/
def HST_STATUS.BUSY_OP : Fld := ⟨972, 0x40000, 9, 3, .ro, .const 0, 0, 1⟩
/-- spec/15, HST_STATUS, bits [23:16]: Percent. -/
def HST_STATUS.PROGRESS : Fld := ⟨973, 0x40000, 16, 8, .ro, .const 0, 0, 1⟩
/-- spec/15, HST_STATUS, bits [29:24]: Requests queued, 0 to 32. -/
def HST_STATUS.QUEUE : Fld := ⟨974, 0x40000, 24, 6, .ro, .const 0, 0, 1⟩
/-- spec/15, HST_CFG, bits [15:0]: NHP port. -/
def HST_CFG.UDP_PORT : Fld := ⟨975, 0x40004, 0, 16, .ly, .const 0xb428, 0, 1⟩
/-- spec/15, HST_CFG, bits [23:16]: Seconds, 5 to 255 (R401). -/
def HST_CFG.IDLE_S : Fld := ⟨976, 0x40004, 16, 8, .tx, .const 0x1e, 0, 1⟩
/-- spec/15, HST_SLOT, bits [15:0]; 8 entries: R398. -/
def HST_SLOT.KEY_ID : Fld := ⟨977, 0x40010, 0, 16, .ro, .const 0, 4, 8⟩
/-- spec/15, HST_SLOT, bits [17:16]; 8 entries: 0 VIEW, 1 OPERATE, 2 ENGINEER, 3 SERVICE. -/
def HST_SLOT.ROLE : Fld := ⟨978, 0x40010, 16, 2, .ro, .const 0, 4, 8⟩
/-- spec/15, HST_SLOT, bits [18:18]; 8 entries: The slot holds a key. -/
def HST_SLOT.KEYED : Fld := ⟨979, 0x40010, 18, 1, .ro, .const 0, 4, 8⟩
/-- spec/15, HST_SLOT, bits [19:19]; 8 entries: A session is open. -/
def HST_SLOT.OPEN : Fld := ⟨980, 0x40010, 19, 1, .ro, .const 0, 4, 8⟩
/-- spec/15, HST_EVENT, bits [0:0]: R399. -/
def HST_EVENT.SESSION_OPEN : Fld := ⟨981, 0x40030, 0, 1, .w1c, .const 0, 0, 1⟩
/-- spec/15, HST_EVENT, bits [1:1]: R401. -/
def HST_EVENT.SESSION_CLOSE : Fld := ⟨982, 0x40030, 1, 1, .w1c, .const 0, 0, 1⟩
/-- spec/15, HST_EVENT, bits [2:2]: R400. -/
def HST_EVENT.SESSION_REPLACED : Fld := ⟨983, 0x40030, 2, 1, .w1c, .const 0, 0, 1⟩
/-- spec/15, HST_EVENT, bits [3:3]: R394. -/
def HST_EVENT.AUTH_FAIL : Fld := ⟨984, 0x40030, 3, 1, .w1c, .const 0, 0, 1⟩
/-- spec/15, HST_EVENT, bits [4:4]: R395. -/
def HST_EVENT.REPLAY : Fld := ⟨985, 0x40030, 4, 1, .w1c, .const 0, 0, 1⟩
/-- spec/15, HST_EVENT, bits [5:5]: R402. -/
def HST_EVENT.ROLE_DENIED : Fld := ⟨986, 0x40030, 5, 1, .w1c, .const 0, 0, 1⟩
/-- spec/15, HST_EVENT, bits [6:6]: R406. -/
def HST_EVENT.FLUME_FULL : Fld := ⟨987, 0x40030, 6, 1, .w1c, .const 0, 0, 1⟩
/-- spec/15, HST_EVENT, bits [7:7]: R398. -/
def HST_EVENT.KEY_CHANGED : Fld := ⟨988, 0x40030, 7, 1, .w1c, .const 0, 0, 1⟩
/-- spec/15, HST_EVENT, bits [8:8]: R411. -/
def HST_EVENT.BUSY_START : Fld := ⟨989, 0x40030, 8, 1, .w1c, .const 0, 0, 1⟩
/-- spec/15, HST_EVENT, bits [9:9]: R411. -/
def HST_EVENT.BUSY_END : Fld := ⟨990, 0x40030, 9, 1, .w1c, .const 0, 0, 1⟩
/-- spec/15, HST_EVENT, bits [10:10]: R425. -/
def HST_EVENT.AUDIT_HOLD : Fld := ⟨991, 0x40030, 10, 1, .w1c, .const 0, 0, 1⟩
/-- spec/15, HST_EVENT, bits [11:11]: R409. -/
def HST_EVENT.TEL_DROP : Fld := ⟨992, 0x40030, 11, 1, .w1c, .const 0, 0, 1⟩
/-- spec/15, HST_AUTH_FAIL, bits [31:0]: R394; wraps. -/
def HST_AUTH_FAIL.V : Fld := ⟨993, 0x40034, 0, 32, .ro, .const 0, 0, 1⟩
/-- spec/15, HST_REPLAY, bits [31:0]: R395; wraps. -/
def HST_REPLAY.V : Fld := ⟨994, 0x40038, 0, 32, .ro, .const 0, 0, 1⟩
/-- spec/15, HST_BUSY_REPLIES, bits [31:0]: BUSY answers; wraps. -/
def HST_BUSY_REPLIES.V : Fld := ⟨995, 0x4003c, 0, 32, .ro, .const 0, 0, 1⟩
/-- spec/15, HST_FLUME_FULL, bits [31:0]: R406, R425; wraps. -/
def HST_FLUME_FULL.V : Fld := ⟨996, 0x40040, 0, 32, .ro, .const 0, 0, 1⟩
/-- spec/15, HST_DUP, bits [31:0]: R397; wraps. -/
def HST_DUP.V : Fld := ⟨997, 0x40044, 0, 32, .ro, .const 0, 0, 1⟩
/-- spec/15, HST_SESS, bits [31:0]; 8 entries: R399. -/
def HST_SESS.SESSION_ID : Fld := ⟨998, 0x40100, 0, 32, .ro, .const 0, 32, 8⟩
/-- spec/15, HST_SESS, bits [7:0]; 8 entries: Die of the last accepted message. -/
def HST_SESS.PEER_DIE : Fld := ⟨999, 0x40104, 0, 8, .ro, .const 0, 32, 8⟩
/-- spec/15, HST_SESS, bits [15:8]; 8 entries: [0] peer on IPv6, [7:1] reserved. -/
def HST_SESS.FLAGS : Fld := ⟨1000, 0x40104, 8, 8, .ro, .const 0, 32, 8⟩
/-- spec/15, HST_SESS, bits [31:16]; 8 entries: UDP source port of the peer. -/
def HST_SESS.PEER_PORT : Fld := ⟨1001, 0x40104, 16, 16, .ro, .const 0, 32, 8⟩
/-- spec/15, HST_SESS, bits [63:0]; 8 entries: Highest accepted COUNTER; pair under R11. -/
def HST_SESS.HOST_CTR : Fld := ⟨1002, 0x40108, 0, 64, .ro, .const 0, 32, 8⟩
/-- spec/15, HST_SESS, bits [31:0]; 8 entries: Messages accepted; wraps. -/
def HST_SESS.RX_OK : Fld := ⟨1003, 0x40110, 0, 32, .ro, .const 0, 32, 8⟩
/-- spec/15, HST_SESS, bits [31:0]; 8 entries: Entries refused; wraps. -/
def HST_SESS.FLUME_FULL : Fld := ⟨1004, 0x40114, 0, 32, .ro, .const 0, 32, 8⟩
/-- spec/15, HST_SESS, bits [31:0]; 8 entries: R409; wraps. -/
def HST_SESS.TEL_DROP : Fld := ⟨1005, 0x40118, 0, 32, .ro, .const 0, 32, 8⟩
/-- spec/15, HST_SESS, bits [15:0]; 8 entries: Seconds until R401 closes the session. -/
def HST_SESS.IDLE_LEFT : Fld := ⟨1006, 0x4011c, 0, 16, .ro, .const 0, 32, 8⟩
/-- spec/15, TXN_STATUS, bits [1:0]: 0 NONE, 1 OPEN, 2 COMMITTING. -/
def TXN_STATUS.STATE : Fld := ⟨1007, 0x50000, 0, 2, .ro, .const 0, 0, 1⟩
/-- spec/15, TXN_STATUS, bits [4:2]: Owner slot. -/
def TXN_STATUS.SLOT : Fld := ⟨1008, 0x50000, 2, 3, .ro, .const 0, 0, 1⟩
/-- spec/15, TXN_STATUS, bits [15:5]: Distinct addresses staged, 0 to 1,024. -/
def TXN_STATUS.STAGED : Fld := ⟨1009, 0x50000, 5, 11, .ro, .const 0, 0, 1⟩
/-- spec/15, TXN_STATUS, bits [23:16]: Seconds until R416. -/
def TXN_STATUS.IDLE_LEFT : Fld := ⟨1010, 0x50000, 16, 8, .ro, .const 0, 0, 1⟩
/-- spec/15, TXN_CFG, bits [7:0]: Seconds, 10 to 255 (R416). -/
def TXN_CFG.TXN_IDLE : Fld := ⟨1011, 0x50004, 0, 8, .tx, .const 0x3c, 0, 1⟩
/-- spec/15, TXN_ID, bits [31:0]: ID of the open or last transaction; wraps. -/
def TXN_ID.ID : Fld := ⟨1012, 0x50008, 0, 32, .ro, .const 0, 0, 1⟩
/-- spec/15, TXN_LAST_APPLY, bits [63:0]: Device time of the last apply boundary; pair under R11. -/
def TXN_LAST_APPLY.TIME : Fld := ⟨1013, 0x5000c, 0, 64, .ro, .const 0, 0, 1⟩
/-- spec/15, TXN_FAIL, bits [31:0]: First failing address (R417). -/
def TXN_FAIL.ADDRESS : Fld := ⟨1014, 0x50014, 0, 32, .ro, .const 0, 0, 1⟩
/-- spec/15, TXN_FAIL_REASON, bits [7:0]: 0 none, 1 range, 2 reserved bits, 3 cross-field, 4 mode, 5 role, 6 budget, 7 state condition. -/
def TXN_FAIL_REASON.REASON : Fld := ⟨1015, 0x50018, 0, 8, .ro, .const 0, 0, 1⟩
/-- spec/15, TXN_FAIL_REASON, bits [15:8]: Boundary moves of the last commit, 0 to 4 (R419). -/
def TXN_FAIL_REASON.POSTPONED : Fld := ⟨1016, 0x50018, 8, 8, .ro, .const 0, 0, 1⟩
/-- spec/15, TXN_EVENT, bits [0:0]: R419. -/
def TXN_EVENT.COMMITTED : Fld := ⟨1017, 0x5001c, 0, 1, .w1c, .const 0, 0, 1⟩
/-- spec/15, TXN_EVENT, bits [1:1]: R417. -/
def TXN_EVENT.REJECTED : Fld := ⟨1018, 0x5001c, 1, 1, .w1c, .const 0, 0, 1⟩
/-- spec/15, TXN_EVENT, bits [2:2]: R415. -/
def TXN_EVENT.ABORTED : Fld := ⟨1019, 0x5001c, 2, 1, .w1c, .const 0, 0, 1⟩
/-- spec/15, TXN_EVENT, bits [3:3]: R416. -/
def TXN_EVENT.EXPIRED : Fld := ⟨1020, 0x5001c, 3, 1, .w1c, .const 0, 0, 1⟩
/-- spec/15, TXN_EVENT, bits [4:4]: TXN_BREAK. -/
def TXN_EVENT.BROKEN : Fld := ⟨1021, 0x5001c, 4, 1, .w1c, .const 0, 0, 1⟩
/-- spec/15, TXN_EVENT, bits [5:5]: TXN_HELD answered. -/
def TXN_EVENT.HELD : Fld := ⟨1022, 0x5001c, 5, 1, .w1c, .const 0, 0, 1⟩
/-- spec/15, TXN_EVENT, bits [6:6]: R419. -/
def TXN_EVENT.APPLY_FAIL : Fld := ⟨1023, 0x5001c, 6, 1, .w1c, .const 0, 0, 1⟩
/-- spec/15, TXN_EVENT, bits [7:7]: R419. -/
def TXN_EVENT.POSTPONED : Fld := ⟨1024, 0x5001c, 7, 1, .w1c, .const 0, 0, 1⟩
/-- spec/15, TXN_COMMITS, bits [31:0]: Transactions applied; wraps. -/
def TXN_COMMITS.V : Fld := ⟨1025, 0x50020, 0, 32, .ro, .const 0, 0, 1⟩
/-- spec/15, TXN_REJECTS, bits [31:0]: TXN_INVALID, TXN_APPLY_FAIL, STORE_DOWN; wraps. -/
def TXN_REJECTS.V : Fld := ⟨1026, 0x50024, 0, 32, .ro, .const 0, 0, 1⟩
/-- spec/15, TXN_EXPIRES, bits [31:0]: R416; wraps. -/
def TXN_EXPIRES.V : Fld := ⟨1027, 0x50028, 0, 32, .ro, .const 0, 0, 1⟩
/-- spec/16, LYT_STATUS, bits [0:0]: A current image is in force. -/
def LYT_STATUS.CURRENT_VALID : Fld := ⟨1028, 0x80000, 0, 1, .ro, .const 0, 0, 1⟩
/-- spec/16, LYT_STATUS, bits [1:1]: R427. -/
def LYT_STATUS.STAGED_VERIFIED : Fld := ⟨1029, 0x80000, 1, 1, .ro, .const 0, 0, 1⟩
/-- spec/16, LYT_STATUS, bits [4:2]: 0 IDLE, 1 MIGRATE, 2 RESTART, 3 CONVERGING, 4 READY, 5 FOLLOW. -/
def LYT_STATUS.PHASE : Fld := ⟨1030, 0x80000, 2, 3, .ro, .const 0, 0, 1⟩
/-- spec/16, LYT_STATUS, bits [5:5]: 1: lane B is the lane restarted first. -/
def LYT_STATUS.TARGET_B : Fld := ⟨1031, 0x80000, 5, 1, .ro, .const 0, 0, 1⟩
/-- spec/16, LYT_STATUS, bits [6:6]: Journal commit marker set (R435). -/
def LYT_STATUS.MARKER : Fld := ⟨1032, 0x80000, 6, 1, .ro, .const 0, 0, 1⟩
/-- spec/16, LYT_STATUS, bits [31:16]: Seconds of LYT_SETTLE remaining. -/
def LYT_STATUS.SETTLE_LEFT : Fld := ⟨1033, 0x80000, 16, 16, .ro, .const 0, 0, 1⟩
/-- spec/16, LYT_CFG, bits [9:0]: Seconds, 10 to 1,000 (R430). -/
def LYT_CFG.LYT_SETTLE : Fld := ⟨1034, 0x80004, 0, 10, .tx, .const 0x3c, 0, 1⟩
/-- spec/16, LYT_CFG, bits [27:16]: Seconds, 60 to 3,600 (R433). -/
def LYT_CFG.LYT_CONV_MAX : Fld := ⟨1035, 0x80004, 16, 12, .tx, .const 0x258, 0, 1⟩
/-- spec/16, LYT_HASH, bits [31:0]; 8 entries: Word k of the current or staged layout hash, bytes 4k to 4k + 3. -/
def LYT_HASH.HASH : Fld := ⟨1036, 0x80010, 0, 32, .ro, .const 0, 4, 8⟩
/-- spec/16, LYT_STAGED, bits [31:0]; 8 entries: Word k of the current or staged layout hash, bytes 4k to 4k + 3. -/
def LYT_STAGED.HASH : Fld := ⟨1037, 0x80030, 0, 32, .ro, .const 0, 4, 8⟩
/-- spec/16, LYT_SCHEMA, bits [31:0]: SCHEMA of the current image. -/
def LYT_SCHEMA.SCHEMA : Fld := ⟨1038, 0x80050, 0, 32, .ro, .const 0, 0, 1⟩
/-- spec/16, LYT_GENERATION, bits [31:0]: Generation of the settings copy in use (R436). -/
def LYT_GENERATION.GEN : Fld := ⟨1039, 0x80054, 0, 32, .ro, .const 0, 0, 1⟩
/-- spec/16, LYT_FAIL, bits [3:0]: Failing step of R427, 1 to 6; 0 none. -/
def LYT_FAIL.STEP : Fld := ⟨1040, 0x80058, 0, 4, .ro, .const 0, 0, 1⟩
/-- spec/16, LYT_FAIL, bits [7:4]: Section ID concerned. -/
def LYT_FAIL.SECTION : Fld := ⟨1041, 0x80058, 4, 4, .ro, .const 0, 0, 1⟩
/-- spec/16, LYT_FAIL, bits [31:8]: Byte offset in the image. -/
def LYT_FAIL.OFFSET : Fld := ⟨1042, 0x80058, 8, 24, .ro, .const 0, 0, 1⟩
/-- spec/16, LYT_EVENT, bits [0:0]: R427 passed. -/
def LYT_EVENT.VERIFIED : Fld := ⟨1043, 0x8005c, 0, 1, .w1c, .const 0, 0, 1⟩
/-- spec/16, LYT_EVENT, bits [1:1]: R427 failed. -/
def LYT_EVENT.INVALID : Fld := ⟨1044, 0x8005c, 1, 1, .w1c, .const 0, 0, 1⟩
/-- spec/16, LYT_EVENT, bits [2:2]: LYT_READY reached. -/
def LYT_EVENT.READY : Fld := ⟨1045, 0x8005c, 2, 1, .w1c, .const 0, 0, 1⟩
/-- spec/16, LYT_EVENT, bits [3:3]: Swap of cause code 12. -/
def LYT_EVENT.HANDOVER : Fld := ⟨1046, 0x8005c, 3, 1, .w1c, .const 0, 0, 1⟩
/-- spec/16, LYT_EVENT, bits [4:4]: R430 step 5 ended. -/
def LYT_EVENT.DONE : Fld := ⟨1047, 0x8005c, 4, 1, .w1c, .const 0, 0, 1⟩
/-- spec/16, LYT_EVENT, bits [5:5]: R433. -/
def LYT_EVENT.FAILED : Fld := ⟨1048, 0x8005c, 5, 1, .w1c, .const 0, 0, 1⟩
/-- spec/16, LYT_EVENT, bits [6:6]: Copy finished at power-up (R435). -/
def LYT_EVENT.MARKER_RESUMED : Fld := ⟨1049, 0x8005c, 6, 1, .w1c, .const 0, 0, 1⟩
/-- spec/16, LYT_APPLIED, bits [31:0]: Images made current; wraps. -/
def LYT_APPLIED.V : Fld := ⟨1050, 0x80060, 0, 32, .ro, .const 0, 0, 1⟩
/-- spec/16, LYT_FAILS, bits [31:0]: R427 and R433 failures; wraps. -/
def LYT_FAILS.V : Fld := ⟨1051, 0x80064, 0, 32, .ro, .const 0, 0, 1⟩
/-- spec/17, STW_STATUS, bits [0:0]: Running in ROM service mode. -/
def STW_STATUS.ROM_SERVICE : Fld := ⟨1052, 0x0, 0, 1, .ro, .const 0, 0, 1⟩
/-- spec/17, STW_STATUS, bits [1:1]: Cistern reachable. -/
def STW_STATUS.LOG_PATH : Fld := ⟨1053, 0x0, 1, 1, .ro, .const 0, 0, 1⟩
/-- spec/17, STW_STATUS, bits [15:8]: Bit d: die d has an unacknowledged NME. -/
def STW_STATUS.NME_PENDING : Fld := ⟨1054, 0x0, 8, 8, .ro, .const 0, 0, 1⟩
/-- spec/17, STW_STATUS, bits [23:16]: Entries in the retirement list; saturates. -/
def STW_STATUS.RETIRED : Fld := ⟨1055, 0x0, 16, 8, .ro, .const 0, 0, 1⟩
/-- spec/17, STW_FAULT_CFG, bits [3:0]: 2 to 15 (R444). -/
def STW_FAULT_CFG.PERM_COUNT : Fld := ⟨1056, 0x4, 0, 4, .tx, .const 3, 0, 1⟩
/-- spec/17, STW_FAULT_CFG, bits [15:4]: Minutes, 1 to 1,440. -/
def STW_FAULT_CFG.PERM_WINDOW : Fld := ⟨1057, 0x4, 4, 12, .tx, .const 0xa, 0, 1⟩
/-- spec/17, STW_FAULT_CFG, bits [23:16]: °C, 60 to 110 (R443). -/
def STW_FAULT_CFG.TEMP_WARN : Fld := ⟨1058, 0x4, 16, 8, .tx, .const 0x64, 0, 1⟩
/-- spec/17, STW_FAULT_CFG, bits [31:24]: °C, above TEMP_WARN, up to 120. -/
def STW_FAULT_CFG.TEMP_CRIT : Fld := ⟨1059, 0x4, 24, 8, .tx, .const 0x6e, 0, 1⟩
/-- spec/17, STW_EVENT, bits [0:0]: R443. -/
def STW_EVENT.TEMP_WARN : Fld := ⟨1060, 0x8, 0, 1, .w1c, .const 0, 0, 1⟩
/-- spec/17, STW_EVENT, bits [1:1]: R443. -/
def STW_EVENT.TEMP_CRIT : Fld := ⟨1061, 0x8, 1, 1, .w1c, .const 0, 0, 1⟩
/-- spec/17, STW_EVENT, bits [2:2]: Table 17-1. -/
def STW_EVENT.CUR_WARN : Fld := ⟨1062, 0x8, 2, 1, .w1c, .const 0, 0, 1⟩
/-- spec/17, STW_EVENT, bits [3:3]: A resource was retired. -/
def STW_EVENT.RETIRED : Fld := ⟨1063, 0x8, 3, 1, .w1c, .const 0, 0, 1⟩
/-- spec/17, STW_EVENT, bits [4:4]: An NME event arrived. -/
def STW_EVENT.NME : Fld := ⟨1064, 0x8, 4, 1, .w1c, .const 0, 0, 1⟩
/-- spec/17, STW_EVENT, bits [5:5]: Table 17-2. -/
def STW_EVENT.SURR_CHANGED : Fld := ⟨1065, 0x8, 5, 1, .w1c, .const 0, 0, 1⟩
/-- spec/17, STW_EVENT, bits [6:6]: R440. -/
def STW_EVENT.RESTARTED : Fld := ⟨1066, 0x8, 6, 1, .w1c, .const 0, 0, 1⟩
/-- spec/17, STW_CUR_WARN, bits [15:0]: 10 mA, each helm rail (20 A). -/
def STW_CUR_WARN.HELM : Fld := ⟨1067, 0xc, 0, 16, .tx, .const 0x7d0, 0, 1⟩
/-- spec/17, STW_CUR_WARN, bits [31:16]: 10 mA, VDD_SOC (16 A). -/
def STW_CUR_WARN.SOC : Fld := ⟨1068, 0xc, 16, 16, .tx, .const 0x640, 0, 1⟩
/-- spec/17, STW_LINK, bits [7:0]; 9 entries: [0] plane A link up, [1] plane B link up, [2] retired A, [3] retired B. -/
def STW_LINK.STATE : Fld := ⟨1069, 0x100, 0, 8, .ro, .const 0, 16, 9⟩
/-- spec/17, STW_LINK, bits [31:0]; 9 entries: Packet CRC errors, plane A; wraps. -/
def STW_LINK.CRC_A : Fld := ⟨1070, 0x104, 0, 32, .ro, .const 0, 16, 9⟩
/-- spec/17, STW_LINK, bits [31:0]; 9 entries: Packet CRC errors, plane B; wraps. -/
def STW_LINK.CRC_B : Fld := ⟨1071, 0x108, 0, 32, .ro, .const 0, 16, 9⟩
/-- spec/17, STW_LINK, bits [31:0]; 9 entries: Retransmissions, both planes; wraps. -/
def STW_LINK.RETX : Fld := ⟨1072, 0x10c, 0, 32, .ro, .const 0, 16, 9⟩
/-- spec/17, STW_TEMP, bits [15:0]; 15 entries: Signed, 0.1 °C. -/
def STW_TEMP.TEMP : Fld := ⟨1073, 0x200, 0, 16, .ro, .const 0, 4, 15⟩
/-- spec/17, STW_TEMP, bits [18:16]; 15 entries: Die ID. Reset: per sensor. -/
def STW_TEMP.DIE : Fld := ⟨1074, 0x200, 16, 3, .ro, .table [0, 0, 1, 1, 1, 2, 2, 2, 3, 4, 7, 5, 5, 6, 6], 4, 15⟩
/-- spec/17, STW_TEMP, bits [31:24]; 15 entries: Highest since reset, signed °C. -/
def STW_TEMP.MAX : Fld := ⟨1075, 0x200, 24, 8, .ro, .const 0, 4, 15⟩
/-- spec/17, STW_RET, bits [2:0]; 64 entries: Die ID. -/
def STW_RET.DIE : Fld := ⟨1076, 0x400, 0, 3, .ro, .const 0, 8, 64⟩
/-- spec/17, STW_RET, bits [7:3]; 64 entries: Row of Table 17-3, 0 to 7. -/
def STW_RET.KIND : Fld := ⟨1077, 0x400, 3, 5, .ro, .const 0, 8, 64⟩
/-- spec/17, STW_RET, bits [23:8]; 64 entries: Resource index. -/
def STW_RET.INDEX : Fld := ⟨1078, 0x400, 8, 16, .ro, .const 0, 8, 64⟩
/-- spec/17, STW_RET, bits [24:24]; 64 entries: A spare took over. -/
def STW_RET.SPARED : Fld := ⟨1079, 0x400, 24, 1, .ro, .const 0, 8, 64⟩
/-- spec/17, STW_RET, bits [25:25]; 64 entries: Retired by self-test. -/
def STW_RET.SELFTEST : Fld := ⟨1080, 0x400, 25, 1, .ro, .const 0, 8, 64⟩
/-- spec/17, STW_RET, bits [31:0]; 64 entries: Device time of the retirement, in seconds, low 32 bits. -/
def STW_RET.WHEN : Fld := ⟨1081, 0x404, 0, 32, .ro, .const 0, 8, 64⟩
/-- spec/17, PWR_CFG, bits [3:0]: Percent, 1 to 4 (R442). -/
def PWR_CFG.RAIL_WARN : Fld := ⟨1082, 0x10000, 0, 4, .tx, .const 3, 0, 1⟩
/-- spec/17, PWR_EVENT, bits [0:0]: R442. -/
def PWR_EVENT.RAIL_WARN : Fld := ⟨1083, 0x10004, 0, 1, .w1c, .const 0, 0, 1⟩
/-- spec/17, PWR_EVENT, bits [1:1]: R442. -/
def PWR_EVENT.RAIL_FAULT : Fld := ⟨1084, 0x10004, 1, 1, .w1c, .const 0, 0, 1⟩
/-- spec/17, PWR_RAIL, bits [15:0]; 12 entries: Last 1 ms mean, mV. -/
def PWR_RAIL.MV : Fld := ⟨1085, 0x10100, 0, 16, .ro, .const 0, 8, 12⟩
/-- spec/17, PWR_RAIL, bits [16:16]; 12 entries: R442. -/
def PWR_RAIL.WARN : Fld := ⟨1086, 0x10100, 16, 1, .ro, .const 0, 8, 12⟩
/-- spec/17, PWR_RAIL, bits [17:17]; 12 entries: R442. -/
def PWR_RAIL.FAULT : Fld := ⟨1087, 0x10100, 17, 1, .ro, .const 0, 8, 12⟩
/-- spec/17, PWR_RAIL, bits [15:0]; 12 entries: 10 mA; 0 on rails without sense. -/
def PWR_RAIL.CURRENT : Fld := ⟨1088, 0x10104, 0, 16, .ro, .const 0, 8, 12⟩
/-- spec/17, PWR_RAIL, bits [31:16]; 12 entries: Highest since reset, 10 mA. -/
def PWR_RAIL.CUR_MAX : Fld := ⟨1089, 0x10104, 16, 16, .ro, .const 0, 8, 12⟩
/-- spec/17, LOG_STATUS, bits [8:0]: Intake entries in use, 0 to 256. -/
def LOG_STATUS.INTAKE : Fld := ⟨1090, 0x60000, 0, 9, .ro, .const 0, 0, 1⟩
/-- spec/17, LOG_STATUS, bits [15:9]: Reserved entries in use, 0 to 64. -/
def LOG_STATUS.AUDIT : Fld := ⟨1091, 0x60000, 9, 7, .ro, .const 0, 0, 1⟩
/-- spec/17, LOG_STATUS, bits [22:16]: Spill-table keys in use, 0 to 64. -/
def LOG_STATUS.SPILL_KEYS : Fld := ⟨1092, 0x60000, 16, 7, .ro, .const 0, 0, 1⟩
/-- spec/17, LOG_NEXT, bits [31:0]: Number of the next record to be written (R451). Reset: stored. -/
def LOG_NEXT.NEXT : Fld := ⟨1093, 0x60004, 0, 32, .ro, .const 0, 0, 1⟩
/-- spec/17, LOG_MARK, bits [31:0]: Last number set by LOG_MARK. Reset: stored. -/
def LOG_MARK.MARK : Fld := ⟨1094, 0x60008, 0, 32, .ro, .const 0, 0, 1⟩
/-- spec/17, LOG_EVENT, bits [0:0]: R452. -/
def LOG_EVENT.NEAR_WRAP : Fld := ⟨1095, 0x6000c, 0, 1, .w1c, .const 0, 0, 1⟩
/-- spec/17, LOG_EVENT, bits [1:1]: A record after the mark was overwritten. -/
def LOG_EVENT.LOST : Fld := ⟨1096, 0x6000c, 1, 1, .w1c, .const 0, 0, 1⟩
/-- spec/17, LOG_EVENT, bits [2:2]: A spill record was written (R449). -/
def LOG_EVENT.SPILLED : Fld := ⟨1097, 0x6000c, 2, 1, .w1c, .const 0, 0, 1⟩
/-- spec/17, LOG_EVENT, bits [3:3]: A record was written with LATE. -/
def LOG_EVENT.LATE : Fld := ⟨1098, 0x6000c, 3, 1, .w1c, .const 0, 0, 1⟩
/-- spec/17, LOG_WRITTEN, bits [31:0]: Records written since reset; wraps. -/
def LOG_WRITTEN.V : Fld := ⟨1099, 0x60010, 0, 32, .ro, .const 0, 0, 1⟩
/-- spec/17, LOG_SPILLS, bits [31:0]: Spill records written; wraps. -/
def LOG_SPILLS.V : Fld := ⟨1100, 0x60014, 0, 32, .ro, .const 0, 0, 1⟩
/-- spec/17, LOG_LOST, bits [31:0]: R452; wraps. -/
def LOG_LOST.V : Fld := ⟨1101, 0x60018, 0, 32, .ro, .const 0, 0, 1⟩
/-- spec/17, LOG_CRC_ERR, bits [31:0]: Records failing CHECK on read; wraps. -/
def LOG_CRC_ERR.V : Fld := ⟨1102, 0x6001c, 0, 32, .ro, .const 0, 0, 1⟩
/-- spec/18, UPD_STATUS, bits [1:0]: 0 lane A, 1 lane B, 2 steward, 3 none. Reset: stored. -/
def UPD_STATUS.TARGET : Fld := ⟨1103, 0x70000, 0, 2, .ro, .const 0, 0, 1⟩
/-- spec/18, UPD_STATUS, bits [2:2]: R469. Reset: stored. -/
def UPD_STATUS.IN_PROGRESS : Fld := ⟨1104, 0x70000, 2, 1, .ro, .const 0, 0, 1⟩
/-- spec/18, UPD_STATUS, bits [3:3]: R463. -/
def UPD_STATUS.NO_REDUNDANCY : Fld := ⟨1105, 0x70000, 3, 1, .ro, .const 0, 0, 1⟩
/-- spec/18, UPD_STATUS, bits [4:4]: R459 passed. Reset: stored. -/
def UPD_STATUS.VERIFIED : Fld := ⟨1106, 0x70000, 4, 1, .ro, .const 0, 0, 1⟩
/-- spec/18, UPD_STATUS, bits [5:5]: R462. -/
def UPD_STATUS.UPD_READY : Fld := ⟨1107, 0x70000, 5, 1, .ro, .const 0, 0, 1⟩
/-- spec/18, UPD_STATUS, bits [17:8]: Blocks received, 0 to 896. Reset: stored. -/
def UPD_STATUS.BLOCKS : Fld := ⟨1108, 0x70000, 8, 10, .ro, .const 0, 0, 1⟩
/-- spec/18, UPD_SLOT_A, bits [2:0]: Table 18-3. Reset: stored. -/
def UPD_SLOT_A.STATE : Fld := ⟨1109, 0x70004, 0, 3, .ro, .const 0, 0, 1⟩
/-- spec/18, UPD_SLOT_A, bits [3:3]: R466. Reset: stored. -/
def UPD_SLOT_A.RESTORED : Fld := ⟨1110, 0x70004, 3, 1, .ro, .const 0, 0, 1⟩
/-- spec/18, UPD_SLOT_A, bits [4:4]: R453. Reset: stored. -/
def UPD_SLOT_A.BAD : Fld := ⟨1111, 0x70004, 4, 1, .ro, .const 0, 0, 1⟩
/-- spec/18, UPD_SLOT_A, bits [15:8]: Of the image held. Reset: stored. -/
def UPD_SLOT_A.SECURITY_VERSION : Fld := ⟨1112, 0x70004, 8, 8, .ro, .const 0, 0, 1⟩
/-- spec/18, UPD_SLOT_B, bits [2:0]: Table 18-3. Reset: stored. -/
def UPD_SLOT_B.STATE : Fld := ⟨1113, 0x70008, 0, 3, .ro, .const 0, 0, 1⟩
/-- spec/18, UPD_SLOT_B, bits [3:3]: R466. Reset: stored. -/
def UPD_SLOT_B.RESTORED : Fld := ⟨1114, 0x70008, 3, 1, .ro, .const 0, 0, 1⟩
/-- spec/18, UPD_SLOT_B, bits [4:4]: R453. Reset: stored. -/
def UPD_SLOT_B.BAD : Fld := ⟨1115, 0x70008, 4, 1, .ro, .const 0, 0, 1⟩
/-- spec/18, UPD_SLOT_B, bits [15:8]: Of the image held. Reset: stored. -/
def UPD_SLOT_B.SECURITY_VERSION : Fld := ⟨1116, 0x70008, 8, 8, .ro, .const 0, 0, 1⟩
/-- spec/18, UPD_SLOT_SW, bits [2:0]: Table 18-3. Reset: stored. -/
def UPD_SLOT_SW.STATE : Fld := ⟨1117, 0x7000c, 0, 3, .ro, .const 0, 0, 1⟩
/-- spec/18, UPD_SLOT_SW, bits [3:3]: R466. Reset: stored. -/
def UPD_SLOT_SW.RESTORED : Fld := ⟨1118, 0x7000c, 3, 1, .ro, .const 0, 0, 1⟩
/-- spec/18, UPD_SLOT_SW, bits [4:4]: R453. Reset: stored. -/
def UPD_SLOT_SW.BAD : Fld := ⟨1119, 0x7000c, 4, 1, .ro, .const 0, 0, 1⟩
/-- spec/18, UPD_SLOT_SW, bits [15:8]: Of the image held. Reset: stored. -/
def UPD_SLOT_SW.SECURITY_VERSION : Fld := ⟨1120, 0x7000c, 8, 8, .ro, .const 0, 0, 1⟩
/-- spec/18, UPD_VERSION_A, bits [31:0]: VERSION of the image held. Reset: stored. -/
def UPD_VERSION_A.VERSION : Fld := ⟨1121, 0x70010, 0, 32, .ro, .const 0, 0, 1⟩
/-- spec/18, UPD_VERSION_B, bits [31:0]: VERSION of the image held. Reset: stored. -/
def UPD_VERSION_B.VERSION : Fld := ⟨1122, 0x70014, 0, 32, .ro, .const 0, 0, 1⟩
/-- spec/18, UPD_VERSION_SW, bits [31:0]: VERSION of the image held. Reset: stored. -/
def UPD_VERSION_SW.VERSION : Fld := ⟨1123, 0x70018, 0, 32, .ro, .const 0, 0, 1⟩
/-- spec/18, UPD_FLOOR, bits [7:0]: Lane floor, 0 to 128 (R467). Reset: stored. -/
def UPD_FLOOR.LANE : Fld := ⟨1124, 0x7001c, 0, 8, .ro, .const 0, 0, 1⟩
/-- spec/18, UPD_FLOOR, bits [15:8]: Steward floor, 0 to 128. Reset: stored. -/
def UPD_FLOOR.STEWARD : Fld := ⟨1125, 0x7001c, 8, 8, .ro, .const 0, 0, 1⟩
/-- spec/18, UPD_CFG, bits [7:0]: Minutes, 5 to 240 (R460). -/
def UPD_CFG.CONFIRM_MIN : Fld := ⟨1126, 0x70020, 0, 8, .tx, .const 0x1e, 0, 1⟩
/-- spec/18, UPD_CFG, bits [17:8]: Seconds, 10 to 1,000 (Table 18-6). -/
def UPD_CFG.UPD_SETTLE : Fld := ⟨1127, 0x70020, 8, 10, .tx, .const 0x3c, 0, 1⟩
/-- spec/18, UPD_TRIAL_LEFT, bits [15:0]: Seconds left in the confirm window; 0 outside TRIAL. -/
def UPD_TRIAL_LEFT.SECONDS : Fld := ⟨1128, 0x70024, 0, 16, .ro, .const 0, 0, 1⟩
/-- spec/18, UPD_FAIL, bits [7:0]: 0 none, 1 header, 2 block CRC, 3 key or signature, 4 below floor, 5 class, 6 schema, 7 settings incompatible, 8 confirm missed, 9 restart in trial, 10 aborted, 11 switch-over (R458), 12 boot check (R453). -/
def UPD_FAIL.REASON : Fld := ⟨1129, 0x70028, 0, 8, .ro, .const 0, 0, 1⟩
/-- spec/18, UPD_FAIL, bits [15:8]: Slot STATE at the failure. -/
def UPD_FAIL.STAGE : Fld := ⟨1130, 0x70028, 8, 8, .ro, .const 0, 0, 1⟩
/-- spec/18, UPD_FAIL, bits [31:16]: Block concerned. -/
def UPD_FAIL.BLOCK : Fld := ⟨1131, 0x70028, 16, 16, .ro, .const 0, 0, 1⟩
/-- spec/18, UPD_EVENT, bits [0:0]: R456. -/
def UPD_EVENT.BEGUN : Fld := ⟨1132, 0x7002c, 0, 1, .w1c, .const 0, 0, 1⟩
/-- spec/18, UPD_EVENT, bits [1:1]: R459. -/
def UPD_EVENT.VERIFIED : Fld := ⟨1133, 0x7002c, 1, 1, .w1c, .const 0, 0, 1⟩
/-- spec/18, UPD_EVENT, bits [2:2]: R460. -/
def UPD_EVENT.ACTIVATED : Fld := ⟨1134, 0x7002c, 2, 1, .w1c, .const 0, 0, 1⟩
/-- spec/18, UPD_EVENT, bits [3:3]: The target became ready (R462). -/
def UPD_EVENT.READY : Fld := ⟨1135, 0x7002c, 3, 1, .w1c, .const 0, 0, 1⟩
/-- spec/18, UPD_EVENT, bits [4:4]: R464. -/
def UPD_EVENT.CONFIRMED : Fld := ⟨1136, 0x7002c, 4, 1, .w1c, .const 0, 0, 1⟩
/-- spec/18, UPD_EVENT, bits [5:5]: R467. -/
def UPD_EVENT.FLOOR_RAISED : Fld := ⟨1137, 0x7002c, 5, 1, .w1c, .const 0, 0, 1⟩
/-- spec/18, UPD_EVENT, bits [6:6]: R466. -/
def UPD_EVENT.RESTORE_START : Fld := ⟨1138, 0x7002c, 6, 1, .w1c, .const 0, 0, 1⟩
/-- spec/18, UPD_EVENT, bits [7:7]: R466. -/
def UPD_EVENT.RESTORED : Fld := ⟨1139, 0x7002c, 7, 1, .w1c, .const 0, 0, 1⟩
/-- spec/18, UPD_EVENT, bits [8:8]: The update ended as failed. -/
def UPD_EVENT.FAILED : Fld := ⟨1140, 0x7002c, 8, 1, .w1c, .const 0, 0, 1⟩
/-- spec/18, UPD_EVENT, bits [9:9]: R461. -/
def UPD_EVENT.SETTINGS_INCOMPATIBLE : Fld := ⟨1141, 0x7002c, 9, 1, .w1c, .const 0, 0, 1⟩
/-- spec/18, UPD_EVENT, bits [10:10]: R472. -/
def UPD_EVENT.UNCONFIRMED : Fld := ⟨1142, 0x7002c, 10, 1, .w1c, .const 0, 0, 1⟩
/-- spec/18, UPD_EVENT, bits [11:11]: R470 acted at power-up. -/
def UPD_EVENT.RESUMED : Fld := ⟨1143, 0x7002c, 11, 1, .w1c, .const 0, 0, 1⟩
/-- spec/18, UPD_DONE, bits [31:0]: Slots confirmed; wraps. -/
def UPD_DONE.V : Fld := ⟨1144, 0x70030, 0, 32, .ro, .const 0, 0, 1⟩
/-- spec/18, UPD_FAILS, bits [31:0]: Updates ended as failed or aborted; wraps. -/
def UPD_FAILS.V : Fld := ⟨1145, 0x70034, 0, 32, .ro, .const 0, 0, 1⟩
/-- spec/18, UPD_RESTORES, bits [31:0]: Restorations completed; wraps. -/
def UPD_RESTORES.V : Fld := ⟨1146, 0x70038, 0, 32, .ro, .const 0, 0, 1⟩
/-- spec/18, UPD_CRC_ERR, bits [31:0]: Blocks refused (R457); wraps. -/
def UPD_CRC_ERR.V : Fld := ⟨1147, 0x7003c, 0, 32, .ro, .const 0, 0, 1⟩

/-- Register map, sys part 0. -/
def regRowsSys0 : List RegRow := [
  ⟨0x30000, 0x4, 0, 1, [0, 1, 2, 3, 4, 5, 6, 7], [TIM_STATUS.STATE, TIM_STATUS.STEP_PENDING, TIM_STATUS.SPINE_LOCKED, TIM_STATUS.SPINE_MASTER, TIM_STATUS.SPINE_LOST, TIM_STATUS.DIE_DEGRADED, TIM_STATUS.SLEWING, TIM_STATUS.MASTER_DIE, TIM_STATUS.STEP_EPOCH], []⟩,
  ⟨0x30004, 0x8, 0, 1, [0, 1, 2, 3, 4, 5, 6, 7], [TIM_NOW.NOW], []⟩,
  ⟨0x3000c, 0x4, 0, 1, [0, 1, 2, 3, 4, 5, 6, 7], [TIM_NOW_FRAC.FRAC], []⟩,
  ⟨0x30010, 0x4, 0, 1, [0, 1, 2, 3, 4, 5, 6, 7], [TIM_CAL_NS.NS], []⟩,
  ⟨0x30014, 0x8, 0, 1, [0, 1, 2, 3, 4, 5, 6, 7], [TIM_CAL_SEC.SEC], []⟩,
  ⟨0x3001c, 0x8, 0, 1, [0, 1, 2, 3, 4, 5, 6, 7], [TIM_INCR.INCR], []⟩,
  ⟨0x30024, 0x4, 0, 1, [0, 1, 2, 3, 4, 5, 6, 7], [TIM_SLEW.REMAIN], []⟩,
  ⟨0x30028, 0x4, 0, 1, [0, 1, 2, 3, 4, 5, 6, 7], [TIM_SPINE.ERR, TIM_SPINE.MAX_ERR, TIM_SPINE.ALIGNS], []⟩,
  ⟨0x3002c, 0x4, 0, 1, [0, 1, 2, 3, 4, 5, 6, 7], [TIM_EVENT.STEP_REFUSED, TIM_EVENT.STEP_APPLIED, TIM_EVENT.HOLDOVER_ENTER, TIM_EVENT.LOCKED, TIM_EVENT.DEGRADED, TIM_EVENT.MASTER_CHANGED, TIM_EVENT.SPINE_LOST, TIM_EVENT.INCR_CLAMPED, TIM_EVENT.PULSE_MISSED, TIM_EVENT.UTC_CHANGED], []⟩,
  ⟨0x30030, 0x4, 0, 1, [0, 1, 2, 3, 4, 5, 6, 7], [TIM_CFG.REFERENCE], []⟩,
  ⟨0x30040, 0x4, 0, 1, [0], [TIM_LIMITS.STEP_LIMIT, TIM_LIMITS.SLEW_RATE], []⟩,
  ⟨0x30044, 0x4, 0, 1, [0], [TIM_STEP_CTRL.STEP_ACCEPT], []⟩]

/-- Register map, sys part 1. -/
def regRowsSys1 : List RegRow := [
  ⟨0x30048, 0x8, 0, 1, [0], [TIM_STEP_PENDING.PENDING], []⟩,
  ⟨0x30050, 0x8, 0, 1, [0], [TIM_STEP_VALUE.VALUE], []⟩,
  ⟨0x30058, 0x4, 0, 1, [0], [TIM_UTC.UTC_OFFSET, TIM_UTC.LEAP61, TIM_UTC.LEAP59, TIM_UTC.VALID], []⟩,
  ⟨0x3005c, 0x8, 0, 1, [0], [TIM_REF_OFFSET.THETA], []⟩,
  ⟨0x30064, 0x4, 0, 1, [0], [TIM_REF_FREQ.F_MEAS], []⟩,
  ⟨0x30068, 0x4, 0, 1, [0], [TIM_SERVO_CFG.FREQ_GAIN, TIM_SERVO_CFG.LOCK_HOLD, TIM_SERVO_CFG.LOCK_THRESH], []⟩,
  ⟨0x3006c, 0x4, 0, 1, [0], [TIM_SERVO_CFG2.REF_TIMEOUT, TIM_SERVO_CFG2.ADJ_MAX], []⟩,
  ⟨0x30100, 0x20, 32, 4, [5, 6], [TIM_TP.MODE, TIM_TP.POLARITY, TIM_TP.START, TIM_TP.PERIOD, TIM_TP.WIDTH, TIM_TP.PIN_DLY, TIM_TP.RUNNING, TIM_TP.FIRED, TIM_TP.MISSED, TIM_TP.EDGES], [(0x3011c, .ro)]⟩,
  ⟨0x20000, 0x4, 0, 1, [0, 1, 2, 3, 4, 5, 6, 7], [CLK_STATUS.SOURCE, CLK_STATUS.HOME_B, CLK_STATUS.QUAL_IOSC, CLK_STATUS.QUAL_A, CLK_STATUS.QUAL_B, CLK_STATUS.ON_OTHER, CLK_STATUS.OTHER_LOST, CLK_STATUS.ROOT_DISAGREE, CLK_STATUS.ROOT_MISMATCH, CLK_STATUS.MOVE_BUSY, CLK_STATUS.PLL_LOCK], []⟩,
  ⟨0x20004, 0x4, 0, 1, [0, 1, 2, 3, 4, 5, 6, 7], [CLK_CTRL.MOVE_OTHER, CLK_CTRL.MOVE_HOME, CLK_CTRL.NME_ACK], []⟩,
  ⟨0x20008, 0x4, 0, 1, [0, 1, 2, 3, 4, 5, 6, 7], [CLK_CFG.MON_TOL, CLK_CFG.AUTO_MOVE], []⟩,
  ⟨0x2000c, 0x4, 0, 1, [0, 1, 2, 3, 4, 5, 6, 7], [CLK_MON.DEV, CLK_MON.DEV_MAX], []⟩]

/-- Register map, sys part 2. -/
def regRowsSys2 : List RegRow := [
  ⟨0x20010, 0x4, 0, 1, [0, 1, 2, 3, 4, 5, 6, 7], [CLK_IOSC.IOSC_PPM, CLK_IOSC.WATCH_PPM], []⟩,
  ⟨0x20014, 0x4, 0, 1, [0, 1, 2, 3, 4, 5, 6, 7], [CLK_EVENT.CLKFAIL, CLK_EVENT.FAST_TRIP, CLK_EVENT.FREQ_TRIP, CLK_EVENT.OTHER_LOST, CLK_EVENT.ROOT_DISAGREE, CLK_EVENT.MOVED, CLK_EVENT.REQUALIFIED, CLK_EVENT.MOVE_REFUSED], []⟩,
  ⟨0x20018, 0x4, 0, 1, [0, 1, 2, 3, 4, 5, 6, 7], [CLK_FAILS.HOME, CLK_FAILS.OTHER], []⟩,
  ⟨0x2001c, 0x4, 0, 1, [0, 1, 2, 3, 4, 5, 6, 7], [CLK_GATE_CFG.DISABLE], []⟩,
  ⟨0x20020, 0x4, 0, 1, [0, 1, 2, 3, 4, 5, 6, 7], [CLK_GATE_REPLAY.COUNT], []⟩,
  ⟨0x40000, 0x4, 0, 1, [0], [HST_STATUS.OPEN, HST_STATUS.MGMT_BUSY, HST_STATUS.BUSY_OP, HST_STATUS.PROGRESS, HST_STATUS.QUEUE], []⟩,
  ⟨0x40004, 0x4, 0, 1, [0], [HST_CFG.UDP_PORT, HST_CFG.IDLE_S], []⟩,
  ⟨0x40010, 0x4, 4, 8, [0], [HST_SLOT.KEY_ID, HST_SLOT.ROLE, HST_SLOT.KEYED, HST_SLOT.OPEN], []⟩,
  ⟨0x40030, 0x4, 0, 1, [0], [HST_EVENT.SESSION_OPEN, HST_EVENT.SESSION_CLOSE, HST_EVENT.SESSION_REPLACED, HST_EVENT.AUTH_FAIL, HST_EVENT.REPLAY, HST_EVENT.ROLE_DENIED, HST_EVENT.FLUME_FULL, HST_EVENT.KEY_CHANGED, HST_EVENT.BUSY_START, HST_EVENT.BUSY_END, HST_EVENT.AUDIT_HOLD, HST_EVENT.TEL_DROP], []⟩,
  ⟨0x40034, 0x4, 0, 1, [0], [HST_AUTH_FAIL.V], []⟩,
  ⟨0x40038, 0x4, 0, 1, [0], [HST_REPLAY.V], []⟩,
  ⟨0x4003c, 0x4, 0, 1, [0], [HST_BUSY_REPLIES.V], []⟩]

/-- Register map, sys part 3. -/
def regRowsSys3 : List RegRow := [
  ⟨0x40040, 0x4, 0, 1, [0], [HST_FLUME_FULL.V], []⟩,
  ⟨0x40044, 0x4, 0, 1, [0], [HST_DUP.V], []⟩,
  ⟨0x40100, 0x20, 32, 8, [0], [HST_SESS.SESSION_ID, HST_SESS.PEER_DIE, HST_SESS.FLAGS, HST_SESS.PEER_PORT, HST_SESS.HOST_CTR, HST_SESS.RX_OK, HST_SESS.FLUME_FULL, HST_SESS.TEL_DROP, HST_SESS.IDLE_LEFT], []⟩,
  ⟨0x50000, 0x4, 0, 1, [0], [TXN_STATUS.STATE, TXN_STATUS.SLOT, TXN_STATUS.STAGED, TXN_STATUS.IDLE_LEFT], []⟩,
  ⟨0x50004, 0x4, 0, 1, [0], [TXN_CFG.TXN_IDLE], []⟩,
  ⟨0x50008, 0x4, 0, 1, [0], [TXN_ID.ID], []⟩,
  ⟨0x5000c, 0x8, 0, 1, [0], [TXN_LAST_APPLY.TIME], []⟩,
  ⟨0x50014, 0x4, 0, 1, [0], [TXN_FAIL.ADDRESS], []⟩,
  ⟨0x50018, 0x4, 0, 1, [0], [TXN_FAIL_REASON.REASON, TXN_FAIL_REASON.POSTPONED], []⟩,
  ⟨0x5001c, 0x4, 0, 1, [0], [TXN_EVENT.COMMITTED, TXN_EVENT.REJECTED, TXN_EVENT.ABORTED, TXN_EVENT.EXPIRED, TXN_EVENT.BROKEN, TXN_EVENT.HELD, TXN_EVENT.APPLY_FAIL, TXN_EVENT.POSTPONED], []⟩,
  ⟨0x50020, 0x4, 0, 1, [0], [TXN_COMMITS.V], []⟩,
  ⟨0x50024, 0x4, 0, 1, [0], [TXN_REJECTS.V], []⟩]

/-- Register map, sys part 4. -/
def regRowsSys4 : List RegRow := [
  ⟨0x50028, 0x4, 0, 1, [0], [TXN_EXPIRES.V], []⟩,
  ⟨0x80000, 0x4, 0, 1, [0], [LYT_STATUS.CURRENT_VALID, LYT_STATUS.STAGED_VERIFIED, LYT_STATUS.PHASE, LYT_STATUS.TARGET_B, LYT_STATUS.MARKER, LYT_STATUS.SETTLE_LEFT], []⟩,
  ⟨0x80004, 0x4, 0, 1, [0], [LYT_CFG.LYT_SETTLE, LYT_CFG.LYT_CONV_MAX], []⟩,
  ⟨0x80010, 0x4, 4, 8, [0], [LYT_HASH.HASH], []⟩,
  ⟨0x80030, 0x4, 4, 8, [0], [LYT_STAGED.HASH], []⟩,
  ⟨0x80050, 0x4, 0, 1, [0], [LYT_SCHEMA.SCHEMA], []⟩,
  ⟨0x80054, 0x4, 0, 1, [0], [LYT_GENERATION.GEN], []⟩,
  ⟨0x80058, 0x4, 0, 1, [0], [LYT_FAIL.STEP, LYT_FAIL.SECTION, LYT_FAIL.OFFSET], []⟩,
  ⟨0x8005c, 0x4, 0, 1, [0], [LYT_EVENT.VERIFIED, LYT_EVENT.INVALID, LYT_EVENT.READY, LYT_EVENT.HANDOVER, LYT_EVENT.DONE, LYT_EVENT.FAILED, LYT_EVENT.MARKER_RESUMED], []⟩,
  ⟨0x80060, 0x4, 0, 1, [0], [LYT_APPLIED.V], []⟩,
  ⟨0x80064, 0x4, 0, 1, [0], [LYT_FAILS.V], []⟩,
  ⟨0x0, 0x4, 0, 1, [0], [STW_STATUS.ROM_SERVICE, STW_STATUS.LOG_PATH, STW_STATUS.NME_PENDING, STW_STATUS.RETIRED], []⟩]

/-- Register map, sys part 5. -/
def regRowsSys5 : List RegRow := [
  ⟨0x4, 0x4, 0, 1, [0], [STW_FAULT_CFG.PERM_COUNT, STW_FAULT_CFG.PERM_WINDOW, STW_FAULT_CFG.TEMP_WARN, STW_FAULT_CFG.TEMP_CRIT], []⟩,
  ⟨0x8, 0x4, 0, 1, [0], [STW_EVENT.TEMP_WARN, STW_EVENT.TEMP_CRIT, STW_EVENT.CUR_WARN, STW_EVENT.RETIRED, STW_EVENT.NME, STW_EVENT.SURR_CHANGED, STW_EVENT.RESTARTED], []⟩,
  ⟨0xc, 0x4, 0, 1, [0], [STW_CUR_WARN.HELM, STW_CUR_WARN.SOC], []⟩,
  ⟨0x100, 0x10, 16, 9, [0], [STW_LINK.STATE, STW_LINK.CRC_A, STW_LINK.CRC_B, STW_LINK.RETX], []⟩,
  ⟨0x200, 0x4, 4, 15, [0], [STW_TEMP.TEMP, STW_TEMP.DIE, STW_TEMP.MAX], []⟩,
  ⟨0x400, 0x8, 8, 64, [0], [STW_RET.DIE, STW_RET.KIND, STW_RET.INDEX, STW_RET.SPARED, STW_RET.SELFTEST, STW_RET.WHEN], []⟩,
  ⟨0x10000, 0x4, 0, 1, [0], [PWR_CFG.RAIL_WARN], []⟩,
  ⟨0x10004, 0x4, 0, 1, [0], [PWR_EVENT.RAIL_WARN, PWR_EVENT.RAIL_FAULT], []⟩,
  ⟨0x10100, 0x8, 8, 12, [0], [PWR_RAIL.MV, PWR_RAIL.WARN, PWR_RAIL.FAULT, PWR_RAIL.CURRENT, PWR_RAIL.CUR_MAX], []⟩,
  ⟨0x60000, 0x4, 0, 1, [0], [LOG_STATUS.INTAKE, LOG_STATUS.AUDIT, LOG_STATUS.SPILL_KEYS], []⟩,
  ⟨0x60004, 0x4, 0, 1, [0], [LOG_NEXT.NEXT], []⟩,
  ⟨0x60008, 0x4, 0, 1, [0], [LOG_MARK.MARK], []⟩]

/-- Register map, sys part 6. -/
def regRowsSys6 : List RegRow := [
  ⟨0x6000c, 0x4, 0, 1, [0], [LOG_EVENT.NEAR_WRAP, LOG_EVENT.LOST, LOG_EVENT.SPILLED, LOG_EVENT.LATE], []⟩,
  ⟨0x60010, 0x4, 0, 1, [0], [LOG_WRITTEN.V], []⟩,
  ⟨0x60014, 0x4, 0, 1, [0], [LOG_SPILLS.V], []⟩,
  ⟨0x60018, 0x4, 0, 1, [0], [LOG_LOST.V], []⟩,
  ⟨0x6001c, 0x4, 0, 1, [0], [LOG_CRC_ERR.V], []⟩,
  ⟨0x70000, 0x4, 0, 1, [0], [UPD_STATUS.TARGET, UPD_STATUS.IN_PROGRESS, UPD_STATUS.NO_REDUNDANCY, UPD_STATUS.VERIFIED, UPD_STATUS.UPD_READY, UPD_STATUS.BLOCKS], []⟩,
  ⟨0x70004, 0x4, 0, 1, [0], [UPD_SLOT_A.STATE, UPD_SLOT_A.RESTORED, UPD_SLOT_A.BAD, UPD_SLOT_A.SECURITY_VERSION], []⟩,
  ⟨0x70008, 0x4, 0, 1, [0], [UPD_SLOT_B.STATE, UPD_SLOT_B.RESTORED, UPD_SLOT_B.BAD, UPD_SLOT_B.SECURITY_VERSION], []⟩,
  ⟨0x7000c, 0x4, 0, 1, [0], [UPD_SLOT_SW.STATE, UPD_SLOT_SW.RESTORED, UPD_SLOT_SW.BAD, UPD_SLOT_SW.SECURITY_VERSION], []⟩,
  ⟨0x70010, 0x4, 0, 1, [0], [UPD_VERSION_A.VERSION], []⟩,
  ⟨0x70014, 0x4, 0, 1, [0], [UPD_VERSION_B.VERSION], []⟩,
  ⟨0x70018, 0x4, 0, 1, [0], [UPD_VERSION_SW.VERSION], []⟩]

/-- Register map, sys part 7. -/
def regRowsSys7 : List RegRow := [
  ⟨0x7001c, 0x4, 0, 1, [0], [UPD_FLOOR.LANE, UPD_FLOOR.STEWARD], []⟩,
  ⟨0x70020, 0x4, 0, 1, [0], [UPD_CFG.CONFIRM_MIN, UPD_CFG.UPD_SETTLE], []⟩,
  ⟨0x70024, 0x4, 0, 1, [0], [UPD_TRIAL_LEFT.SECONDS], []⟩,
  ⟨0x70028, 0x4, 0, 1, [0], [UPD_FAIL.REASON, UPD_FAIL.STAGE, UPD_FAIL.BLOCK], []⟩,
  ⟨0x7002c, 0x4, 0, 1, [0], [UPD_EVENT.BEGUN, UPD_EVENT.VERIFIED, UPD_EVENT.ACTIVATED, UPD_EVENT.READY, UPD_EVENT.CONFIRMED, UPD_EVENT.FLOOR_RAISED, UPD_EVENT.RESTORE_START, UPD_EVENT.RESTORED, UPD_EVENT.FAILED, UPD_EVENT.SETTINGS_INCOMPATIBLE, UPD_EVENT.UNCONFIRMED, UPD_EVENT.RESUMED], []⟩,
  ⟨0x70030, 0x4, 0, 1, [0], [UPD_DONE.V], []⟩,
  ⟨0x70034, 0x4, 0, 1, [0], [UPD_FAILS.V], []⟩,
  ⟨0x70038, 0x4, 0, 1, [0], [UPD_RESTORES.V], []⟩,
  ⟨0x7003c, 0x4, 0, 1, [0], [UPD_CRC_ERR.V], []⟩]

/-- The register map rows of this file. -/
def regRowsSys : List RegRow :=
  regRowsSys0 ++ regRowsSys1 ++ regRowsSys2 ++ regRowsSys3 ++ regRowsSys4 ++ regRowsSys5 ++ regRowsSys6 ++ regRowsSys7

/-- Identities of the fields of this file: from the first, below the second. -/
def regSysIds : Nat × Nat := (883, 1148)

end Sys2Proof.Machine
end

