-- ==== Sys2Proof/Machine/State.lean ====
section
/-! DEFINITION. The state of the part as plain data: the registers, the queues, buffers and records that hold lists, the ledger,
and the queue of the commands that wait. -/

namespace Sys2Proof.Machine

/-- Why the machine stops with a fault. No command of the table ends in one: the spec gives each an effect. -/
inductive Fault
  /-- Raised by no meaning: the part has no fault that stops it. Safe. -/
  | none
  deriving DecidableEq, Repr

/-- Why the machine refuses a command. -/
inductive Refusal
  /-- Raised by an arm of exec whose command has no meaning yet, with the command's mnemonic. Safe. -/
  | notModelled (mnemonic : String)
  deriving DecidableEq, Repr

/-- What the 32 payload bytes of a log record carry (spec/17, Table 17-7a). -/
inductive Payload
  /-- The event defines no payload that the spec gives: the bytes are free values. -/
  | unstated
  /-- The words the event's rule names, in order. -/
  | words (l : List Nat)
  /-- A change audit (spec/15, Table 15-9). -/
  | audit (address old new txn origin slot keyId counter : Nat)
  /-- A spill record (spec/17, Table 17-8). -/
  | spill (code die count first last : Nat)
  deriving DecidableEq, Repr

/-- A log record (spec/17, Table 17-7a) but for its CHECK, which is computed from the rest when it is written. -/
structure LogRec where
  stamp : Nat
  seq : Nat
  die : Nat
  epoch : Nat
  code : Nat
  origin : Nat
  slot : Nat
  keyId : Nat
  late : Bool
  isLocal : Bool
  payload : Payload
  deriving DecidableEq, Repr

/-- One key of a spill table: the event code, the die, how many, the stamps of the first and the last. -/
structure SpillKey where
  code : Nat
  die : Nat
  count : Nat
  first : Nat
  last : Nat
  deriving DecidableEq, Repr

/-- One value for each of a pair. -/
structure Two (α : Type) where
  a : α
  b : α
  deriving DecidableEq, Repr

/-- One value for each die. -/
structure PerDie (α : Type) where
  sw : α
  ha : α
  hb : α
  ga : α
  gb : α
  pa : α
  pb : α
  ld : α
  deriving DecidableEq, Repr

/-- The log side of one die: records on their way to intake, the local ring and its spill table (R14), the audit hold (R510). -/
structure DieLog where
  out : List LogRec
  ring : List LogRec
  spill : List SpillKey
  classSpill : List SpillKey
  hold : List LogRec
  deriving DecidableEq, Repr

/-- Log intake (R449): each record with the operating time at which it arrived, and the spill table. -/
structure Intake where
  recs : List (Nat × LogRec)
  spill : List SpillKey
  classSpill : List SpillKey
  deriving DecidableEq, Repr

/-- One copy of the settings store (spec/16, R436): its header fields and its records, pairs of an address and a word in rising
order of the address. State 0 PENDING, 1 VALID, 2 VOID (R420). -/
structure SettingsCopy where
  schema : Nat
  layoutHash : Nat
  generation : Nat
  state : Nat
  recs : List (Nat × Nat)
  deriving DecidableEq, Repr

/-- A resource judged permanent and waiting for its retirement at a vessel-cycle boundary (spec/17, R444, R445). -/
structure Retire where
  die : Nat
  kind : Nat
  index : Nat
  selftest : Bool
  deriving DecidableEq, Repr

/-- A row of the source matching a receiving die does (spec/03, R83): what it takes of an entry of the source table. -/
structure SrcMatch where
  src : Nat
  stampMode : Nat
  latency : Nat
  tickPs : Nat
  die : Nat
  portType : Nat
  portIndex : Nat
  mask : Nat
  key : Nat
  deriving DecidableEq, Repr

/-- A sample on its way to a lane or in it (spec/03, R84): source, sequence number, arrival stamp, source stamp, components, and
whether its sender marked it DEGRADED (Table 12-1) or its analog channel OVERRANGE (R285). -/
structure Sample where
  src : Nat
  seq : Nat
  arrival : Nat
  stamp : Int
  comps : List Nat
  degraded : Bool
  deriving DecidableEq, Repr

/-- A sample a receiving die has stamped and not yet sealed (spec/03, R91). -/
structure Stamped where
  die : Nat
  src : Nat
  seq : Nat
  arrival : Nat
  deriving DecidableEq, Repr

/-- A sample a closed frame has admitted (spec/03, R94, R98): its source stamp, the mapped time stored with it, its components in the
units of Table 03-1, the instant of the frame that uses it first, and which life of the source's clock model mapped it (R96). -/
structure Admitted where
  src : Nat
  seq : Nat
  arrival : Nat
  stamp : Int
  mapped : Int
  comps : List Nat
  frame : Int
  life : Nat
  deriving DecidableEq, Repr

/-- A seal (spec/03, R91): the die, the frame's cutoff, and for each source its index, the number the seal before gave and the number
of the last sample stamped by this cutoff. -/
structure Seal where
  die : Nat
  cutoff : Nat
  last : List (Nat × Nat × Nat)
  deriving DecidableEq, Repr

/-- A contribution (spec/03, Table 03-4): its values, the unit vector and the lever arm in north-east-down, the span in ns and
the mapped time of the newest sample used. -/
structure Contrib where
  src : Nat
  kind : Nat
  span : Nat
  newest : Int
  vals : List Nat
  dir : List Nat
  lever : List Nat
  deriving DecidableEq, Repr

/-- A counted fault occurrence (spec/17, R444): the resource and the operating time in ms. -/
structure Occ where
  die : Nat
  kind : Nat
  index : Nat
  at' : Nat
  deriving DecidableEq, Repr

/-- What of a source's settings is in force in a frame (spec/04, R125, R130): enabled, excluded, the three sigmas and w = W_BASE
times W_DYN as binary64. -/
structure SrcWeight where
  src : Nat
  enabled : Bool
  excluded : Bool
  sigma : List Nat
  weight : Nat
  deriving DecidableEq, Repr

/-- The settings in force in a frame (spec/04, R130): GATE, T_B, ζ and the densities Q as binary64, ELEV_MASK in degrees and
EXTRAP_MAX in ns. -/
structure FrameSet where
  gate : Nat
  biasTc : Nat
  zeta : Nat
  q : List Nat
  mask : Nat
  extrapMax : Nat
  deriving DecidableEq, Repr

/-- What the confluence and the estimator keep of a closed frame for a replay (spec/03, R108, R110; spec/04, R130): its instant and
length, contributions, weights, settings, attitude, force, the fixed baseline's heading, ω₀, whether the phase was CONVERGED, the
relative sources whose anchors were dropped before it (R123), whether the variances were inflated after it (R128), and what was added to
elements of the nominal state after it (R269). -/
structure ClosedFrame where
  t : Int
  dt : Nat
  contribs : List Contrib
  weights : List SrcWeight
  set : FrameSet
  roll : Nat
  pitch : Nat
  heading : Nat
  tau : List Nat
  fixed : Option Nat
  omega : Nat
  conv : Bool
  dropped : List Nat
  inflated : Bool
  shifts : List (Nat × Nat)
  deriving DecidableEq, Repr

/-- The estimator's track (spec/04, R113, R130): nominal state, covariance by rows of its lower triangle, wave peak, anchors. -/
structure EstCore where
  x : List Nat
  cov : List Nat
  omega : Nat
  anchors : List (Nat × Nat × Nat)
  deriving DecidableEq, Repr

/-- A snapshot of the ring (spec/04, R130): the track after the frame at `t`. -/
structure Snapshot where
  t : Int
  core : EstCore
  deriving DecidableEq, Repr

/-- A replay in progress (spec/04, R130 to R133): its own ring and track, the least instant of the frames still to re-run, the frame
whose close started it, the greatest depth of the samples it carries, whether it has re-run the most recently closed frame, the frames
re-formed for it, and the samples it carries by source and number. -/
structure Replay where
  core : EstCore
  ring : List Snapshot
  next : Int
  start : Int
  depth : Nat
  finished : Bool
  frames : List ClosedFrame
  carried : List (Nat × Nat)
  deriving DecidableEq, Repr

/-- The outcome of one tested scalar (spec/04, R126, R127): the source, its y²/S, whether it was rejected. -/
structure ScalarTest where
  t : Int
  src : Nat
  ratio : Nat
  rejected : Bool
  deriving DecidableEq, Repr

/-- A navigation record (spec/09, R261): its stamp, die and channel, system, PRN, signal, page type and decoded bits. -/
structure NavRec where
  stamp : Nat
  die : Nat
  channel : Nat
  sys : Nat
  prn : Nat
  signal : Nat
  page : Nat
  bits : Nat
  deriving DecidableEq, Repr

/-- A correction frame (spec/09, R264, R265): its arrival stamp, message number and bytes. -/
structure CorrRec where
  stamp : Nat
  message : Nat
  bytes : List Nat
  deriving DecidableEq, Repr

/-- A segment of constant jerk (spec/05): the jerk and its duration in s. -/
structure Seg where
  jerk : Nat
  dur : Nat
  deriving DecidableEq, Repr

/-- The plan of a ramp axis (spec/05, R151): its origin in device time, the state there, its segments and its target. -/
structure Plan where
  origin : Int
  pos : Nat
  vel : Nat
  acc : Nat
  segs : List Seg
  target : Nat
  deriving DecidableEq, Repr

/-- The ramp generator (spec/05): the axes L, C and H, and the line that L and C are measured on, its origin and its direction.
`base` is the value of L at the line's origin (the distance along a track). -/
structure Ramp where
  l : Plan
  c : Plan
  h : Plan
  n0 : Nat
  e0 : Nat
  dn : Nat
  de : Nat
  base : Nat
  deriving DecidableEq, Repr

/-- A stored waypoint (spec/05, Table 05-6): north and east in binary64, speed and heading in binary32. -/
structure Waypoint where
  n : Nat
  e : Nat
  speed : Nat
  hdg : Nat
  dwell : Nat
  passed : Bool
  deriving DecidableEq, Repr

/-- A flume entry (spec/15, Table 15-6): the code, the message, and whether a boundary has admitted it: its space returns later
(R406). -/
structure FlumeEntry where
  code : Nat
  cmd : Cmd
  used : Bool
  deriving DecidableEq, Repr

/-- The state record of a loop slot (spec/08, Table 08-10), as signed codes, and what of its last tick the status shows. `tripped`:
its output's port die reported TRIPPED in the last tick; `monReset`: its monitor is reset at the next tick (R238); `pendSwap`: the
next tick is a swap tick in the same region (R228); `lost`: the physical slot is retired and no spare was free (R243). -/
structure SlotRec where
  out : Int
  uPre : Int
  integ : Int
  b1s1 : Int
  b1s2 : Int
  b2s1 : Int
  b2s2 : Int
  dState : Int
  dPrev : Int
  yPrev : Int
  rcPhase : Nat
  rcInc : Nat
  rcRead : Int
  rcUpd : Int
  modY : Int
  modRes : Int
  delay : List Int
  region : Nat
  cand : Nat
  dwell : Nat
  bx : Nat
  engaged : Bool
  swapHold : Bool
  swapNeg : Bool
  rcHold : Bool
  plaus : Bool
  tracking : Bool
  limited : Bool
  stale : Bool
  outSat : Bool
  stateSat : Bool
  plCnt : Nat
  bfpCnt : Nat
  tripped : Bool
  monReset : Bool
  pendSwap : Bool
  lost : Bool
  deriving DecidableEq, Repr

/-- A slot that has computed nothing. -/
def SlotRec.zero : SlotRec :=
  ⟨0, 0, 0, 0, 0, 0, 0, 0, 0, 0, 0, 0, 0, 0, 0, 0, List.replicate 12 0, 0, 0, 0, 0, false, false, false, false, false, false, false,
    false, false, false, 0, 0, false, false, false, false⟩

/-- A telemetry entry's content (spec/15, R407, R408). -/
inductive TelBody
  /-- The answer to a command: its counter and the result of R146, 0 ACCEPTED to 5 MALFORMED. -/
  | answer (counter result : Nat)
  /-- A frame record, 256 bytes. -/
  | frame (bytes : List Nat)
  /-- A CYCLE entry, 24 bytes. -/
  | cycle (bytes : List Nat)
  deriving DecidableEq, Repr

/-- An entry of a telemetry flume: its session slot, the writing lane and the session's sequence number. -/
structure TelEntry where
  slot : Nat
  lane : Nat
  seq : Nat
  body : TelBody
  deriving DecidableEq, Repr

/-- An iterate of the solver (spec/07, R184): z, the multipliers y of the rows, and for each row the slack and the dual of its lower
and of its upper bound. -/
structure Iterate where
  z : List Nat
  y : List Nat
  sl : List Nat
  su : List Nat
  ll : List Nat
  lu : List Nat
  deriving DecidableEq, Repr

/-- An entry of the iteration trace (spec/07, Table 07-9), binary64: r_p, r_d, the gap, the merit, the step, the centring; pivots
replaced; FLAGS. -/
structure TraceRow where
  rp : Nat
  rd : Nat
  mu : Nat
  merit : Nat
  alpha : Nat
  sigma : Nat
  pivots : Nat
  flags : Nat
  deriving DecidableEq, Repr

/-- A place in a run of the solver (R190, R195): the iteration, its first attempt or its retry, and the furrow operations done in that
attempt; none: the end of its phase U. -/
structure SolPlace where
  iter : Nat
  retry : Bool
  ops : Option Nat
  deriving DecidableEq, Repr

/-- A run of the solver (spec/07, R191 to R197): how it started, where parity errors hit an engine, where the deadline cut it, and what
it returns. -/
structure SolRun where
  start : Iterate
  warm : Bool
  stale : Bool
  hits : List SolPlace
  cut : Option SolPlace
  status : Nat
  iters : Nat
  pivots : Nat
  extended : Nat
  retry : Bool
  clipped : Bool
  merit : Nat
  iterate : Option Iterate
  result : List Nat
  trace : List TraceRow
  deriving DecidableEq, Repr

/-- What the assembly stage and the solver of a lane hold (spec/06, spec/07): the value slots of P, q, A, l and u and the scratch,
by number; the commands in force and those that the last assembly took as f of step -1, two components a thruster; the result
vector; the iterate a warm start begins from; the run of the present cycle. -/
structure SolverSt where
  p : List (Nat × Nat)
  q : List (Nat × Nat)
  a : List (Nat × Nat)
  l : List (Nat × Nat)
  u : List (Nat × Nat)
  scratch : List (Nat × Nat)
  cmd : List Nat
  prev : List Nat
  result : List Nat
  warm : Option Iterate
  run : Option SolRun
  deriving DecidableEq, Repr

/-- A solver that has assembled and solved nothing. -/
def SolverSt.empty : SolverSt := ⟨[], [], [], [], [], [], [], [], [], none, none⟩

/-- The lists a lane holds; `seen` are the slots and counters of the commands it has admitted (R397), `crossings` the frames at which a
wave state crossed zero upwards, one entry a crossing (R118). -/
structure Lane where
  ramp : Ramp
  waypoints : List Waypoint
  thrMan : List (Nat × Nat × Nat)
  thrAngleHeld : List (Nat × Nat)
  joy : List Nat
  env : List Nat
  flume : List FlumeEntry
  seen : List (Nat × Nat)
  vals : List Nat
  slots : List SlotRec
  bins : List (Nat × Int)
  navIn : List NavRec
  nav : List NavRec
  corrIn : List CorrRec
  corr : List CorrRec
  inbox : List Sample
  hist : List Admitted
  seals : List Seal
  blocks : List (Nat × Int × Int)
  frames : List ClosedFrame
  est : EstCore
  ring : List Snapshot
  replay : Option Replay
  tests : List ScalarTest
  crossings : List Int
  record : List Nat
  records : List (List Nat)
  tau : List Nat
  tauTicks : Nat
  wind : List Nat
  sol : SolverSt
  deriving DecidableEq, Repr

/-- The estimator before initialisation. -/
def EstCore.zero : EstCore := ⟨List.replicate 24 0, List.replicate 300 0, 0, []⟩

/-- An axis at rest at 0. -/
def Plan.rest : Plan := ⟨0, 0, 0, 0, [], 0⟩

/-- Every axis at rest, on a line that points north. -/
def Ramp.rest : Ramp := ⟨Plan.rest, Plan.rest, Plan.rest, 0, 0, 0x3FF0000000000000, 0, 0⟩

/-- A lane that holds nothing. -/
def Lane.empty : Lane := ⟨Ramp.rest, [], [], [], [0, 0, 0], [0, 0], [], [], List.replicate 80 0, List.replicate 256 SlotRec.zero, [], [], [], [], [], [], [], [], [], [], EstCore.zero, [], none, [], [], [], [], [0, 0, 0], 0, [0, 0, 0], SolverSt.empty⟩

/-- A thruster of the TOPOLOGY section (spec/06): kind 0 TUNNEL, 1 AZIMUTH, 2 RUDDER_PROP; its mounting; the feedback, power and
rudder-lift tables; the loop slots it uses, the feedback slot and the angle slot; its drive-ready input, section, forbidden sector
and the thruster that must be available for it; rated thrust, the limits of its thrust (T_port or T_astern, T_stbd or T_ahead), the
lift ratio, the corners of its polygon, its rates; the rows of A that bound its step-0 rate, and the region row that holds a main
propeller's step-0 F_x. -/
structure Thruster where
  kind : Nat
  x : Nat
  y : Nat
  fbTable : List (Nat × Nat)
  liftTable : List (Nat × Nat)
  power : List (Nat × Nat)
  slots : List Nat
  fbSlot : Nat
  angSlot : Nat
  ready : Nat
  sect : Nat
  sector : Option (Nat × Nat)
  sectorWhile : Option Nat
  rated : Nat
  least : Nat
  most : Nat
  lift : Nat
  poly : Nat
  rate : Nat
  azRate : Nat
  rateRows : List Nat
  regionRow : Nat
  deriving DecidableEq, Repr

/-- A generator set (spec/06): section, rated power, the SCALAR source of its power, its breaker input. -/
structure GenSet where
  sect : Nat
  rated : Nat
  source : Nat
  breaker : Option Nat
  deriving DecidableEq, Repr

/-- A bus-tie: its input and the two sections it joins. -/
structure Tie where
  input : Nat
  one : Nat
  two : Nat
  deriving DecidableEq, Repr

/-- A supernode of the pivot order (spec/07, R203): the positions of its columns, and those of its front's rows below them. -/
structure Supernode where
  cols : List Nat
  rows : List Nat
  deriving DecidableEq, Repr, Inhabited

/-- What a layout image fixes beside the LY fields (spec/16, Table 16-3): the LY words as (die, address, word), the vessel of
TOPOLOGY, the wind tables, the assembly program and its constants, the row and column of each value slot of P and A, the pivot order
(a variable by its number, a row by its number above the variables), and for each row the row of the next step whose multipliers it
takes over at a warm start, and the vessel ranges for settings (address, bit, kind 0 unsigned, 1 signed, 2 binary32, the bounds), and the
default words of the region pool's entries by address, the nominal values of VDDIO_PA, VDDIO_PB and VDDIO_SYS in mV, the furrow
schedule's words (Tables 07-4, 07-5) and its supernodes, and that the assembly program is the layout compiler's for this vessel: it computes what R160 to R174 say.
The sections' inner encoding is not in the spec:
`Config.decodeLayout` gives this. -/
structure Layout where
  hash : Nat
  schema : Nat
  lyWords : List (Nat × Nat × Nat)
  frameMs : Nat
  cycleMs : Nat
  mass : List Nat
  damping : List Nat
  thrusters : List Thruster
  sets : List GenSet
  ties : List Tie
  windAreas : List Nat
  windX : List Nat
  windY : List Nat
  windN : List Nat
  program : List Nat
  constants : List Nat
  patternP : List (Nat × Nat)
  patternA : List (Nat × Nat)
  order : List Nat
  rowNext : List Nat
  limits : List (Nat × Nat × Nat × Nat × Nat)
  regions : List (Nat × Nat)
  banks : List Nat
  furrows : List Nat
  supernodes : List Supernode
  compiled : Bool
  deriving DecidableEq, Repr, Inhabited

/-- No layout: the frame and the cycle have their reset lengths. -/
def Layout.none : Layout := ⟨0, 0, [], 10, 50, [], [], [], [], [], [], [], [], [], [], [], [], [], [], [], [], [], [], [], [], true⟩

/-- An analog channel's chain (spec/10, R280 to R285): its samples since the last synchronising reset, newest first, as far as the
stages reach; how many have entered; samples left before OVERRANGE clears; a reset that waits for the next sample; samples to
discard after a restart of the first stage. -/
structure AinSt where
  hist : List Int
  count : Nat
  overLeft : Nat
  sync : Bool
  skip : Nat
  deriving DecidableEq, Repr

/-- A channel before its first sample. -/
def AinSt.zero : AinSt := ⟨[], 0, 0, true, 0⟩

/-- An entry of a CAN transmit FIFO (spec/11, R310, R315): its writer (0 lane A, 1 lane B, 2 the scheduler), its tag or message index,
the frame, DEMOTE, consecutive losses of arbitration, attempts, and a cancellation latched during an attempt. -/
structure CanEntry where
  writer : Nat
  tag : Nat
  frame : CanFrame
  demote : Bool
  losses : Nat
  attempts : Nat
  cancel : Bool
  deriving DecidableEq, Repr

/-- A completion record (spec/11, R315, Table 11-3): port, tag or message index, writer, status, CANCEL_LATE, attempts, start of
frame. -/
structure CanDone where
  port : Nat
  tag : Nat
  writer : Nat
  status : Nat
  late : Bool
  attempts : Nat
  sof : Int
  deriving DecidableEq, Repr

/-- The lists of a port die: its analog chains, the pulse edges that have not entered a tick (pin, stamp), the four CAN transmit
FIFOs, the completion records sent since the last tick, the identifiers seen in the census window of each CAN port, and the last
pairing latches (count, device time), newest first (R87), and the sentences that lanes have written since the last tick for its UARTs'
transmitters (R293), and the four CAN receive FIFOs, counts at the start of frame with frames (R322). -/
structure Port where
  ain : List AinSt
  edges : List (Nat × Nat)
  fifo : List (List CanEntry)
  done : List CanDone
  seen : List (List Nat)
  latches : List (Nat × Nat)
  uart : List (Nat × Nat)
  rx : List (List (Nat × CanFrame))
  deriving DecidableEq, Repr

/-- A port die that holds nothing. -/
def Port.empty : Port := ⟨List.replicate 16 AinSt.zero, [], [[], [], [], []], [], [[], [], [], []], [], [], [[], [], [], []]⟩

/-- A held snapshot capture (spec/09, R275): the header's items and the sample bytes. -/
structure Capture where
  t0 : Nat
  format : Nat
  length : Nat
  trigger : Nat
  agcL1 : Nat
  agcL5 : Nat
  cable : Nat
  crc : Nat
  samples : List Nat
  deriving DecidableEq, Repr

/-- The lists of a baseband: the channel plan it follows (none before it has one), how far each signal's search has gone (system,
PRN, band, cells), the signals the present round has searched, the cell's signal that waits for its verification dwell, the last raw
record, and the capture buffer. -/
structure Bb where
  plan : Option (List PlanEntry)
  cells : List (Nat × Nat × Nat × Nat)
  searched : List (Nat × Nat × Nat)
  verify : Option (Nat × Nat × Nat)
  record : List Nat
  capture : Option Capture
  deriving DecidableEq, Repr

/-- A baseband that holds nothing. -/
def Bb.empty : Bb := ⟨none, [], [], none, [], none⟩

/-- An NHP message the device has sent (spec/15, Table 15-2): the sending die, the key its tag is made with, and the IP address and UDP port
it goes to. -/
structure Msg where
  die : Nat
  slot : Nat
  session : Nat
  counter : Nat
  opcode : Nat
  status : Nat
  req : Nat
  payload : List Nat
  key : Nat
  dest : Nat × Nat
  deriving DecidableEq, Repr

/-- A management request in the steward's queue (spec/15, R410): the die of ingress, the slot, the COUNTER, the opcode. -/
structure Request where
  die : Nat
  slot : Nat
  counter : Nat
  opcode : Nat
  payload : List Nat
  deriving DecidableEq, Repr

/-- The first part of a request in two messages (spec/15, R396), with the device time in ns at which it arrived. -/
structure Part where
  req : Request
  at' : Nat
  deriving DecidableEq, Repr

/-- A half of a 64-bit pair that waits (spec/00, R11, R24): the session slot (8 firmware), the address of the other half as it was
named, the die, the word. -/
structure Half where
  slot : Nat
  addr : Nat
  die : Nat
  word : Nat
  deriving DecidableEq, Repr

/-- The host side of the part: the messages sent since the last tick, which the network has then taken; the replies a second copy
of a request is answered with; first parts; the steward's queue; the requests served whose reply is still to come; latched high
words and staged low words of 64-bit pairs. -/
structure Nhp where
  sent : List Msg
  answered : List Msg
  parts : List Part
  queue : List Request
  later : List Request
  latched : List Half
  staged : List Half
  deriving DecidableEq, Repr

/-- A transfer out of the device (spec/15, R412): its session slot, the kind of long operation (0 none), the baseband's side for a
capture, the bytes, how many have been sent and acknowledged, the device times in ns of the last acknowledgement or resend and of the
last progress. -/
structure Xfer where
  slot : Nat
  op : Nat
  cap : Option Nat
  bytes : List Nat
  sent : Nat
  acked : Nat
  ackAt : Nat
  progAt : Nat
  deriving DecidableEq, Repr

/-- The transaction (spec/15, R413 to R420): its staged words in rising order of the address, the commit that waits for its reply,
whether the steward has ordered the apply. -/
structure Txn where
  staged : List (Nat × Nat)
  req : Option Request
  ordered : Bool
  deriving DecidableEq, Repr

/-- No transaction. -/
def Txn.none : Txn := ⟨[], Option.none, false⟩

/-- What a restructured lane has received of the active lane (spec/16, R430, R431): its mode, command slot, held outputs, datum in
degrees, the target point and heading, the stored path and its place on it, the values of MANUAL and the joystick; `lane` is the lane. -/
structure Taken where
  lane : Nat
  mode : Nat
  slot : Nat
  held : Nat
  lat : Nat
  lon : Nat
  target : List Nat
  heading : Nat
  waypoints : List Waypoint
  wpIndex : Nat
  thrMan : List (Nat × Nat × Nat)
  thrAngleHeld : List (Nat × Nat)
  joy : List Nat
  deriving DecidableEq, Repr

/-- A copy of the loader journal (spec/18, R455): GEN, the CRC-32C, and the bytes from byte 8 to the end of the receive bitmap. The bytes
after them are 0. -/
structure JCopy where
  gen : Nat
  crc : Nat
  body : List Nat
  deriving DecidableEq, Repr

/-- A part of an image block that waits for the others (spec/18, R457): block, part, the block's CRC, bytes, arrival in ns. -/
structure UpdPart where
  block : Nat
  part : Nat
  crc : Nat
  bytes : List Nat
  at' : Nat
  deriving DecidableEq, Repr

/-- A learned address (spec/12, R333): VLAN, address, port (6 the trunk), device time of its last use in ns. -/
structure MacEntry where
  vid : Nat
  mac : Nat
  port : Nat
  at' : Nat
  deriving DecidableEq, Repr

/-- What a frame in an egress queue is: forwarded; the ordinary clock's event message, which leaves a timestamp; the port's own
Pdelay_Req or Pdelay_Resp; any other frame of the device. -/
inductive FrameOf
  | forwarded | ocEvent (kind seq : Nat) | pdelayReq | pdelayResp | device
  deriving DecidableEq, Repr

/-- A frame in an egress queue (spec/12, R335): local port and queue, its bytes without VLAN tag and FCS, the tag it leaves with,
its ingress port (0 to 5, 6 the device itself) and compensated ingress in ps. -/
structure TxFrame where
  port : Nat
  queue : Nat
  bytes : List Nat
  tag : Option Nat
  ingress : Nat
  at' : Int
  what : FrameOf
  deriving DecidableEq, Repr

/-- A Pdelay exchange of a port (spec/12, R344): its sequenceId, whether it waits for its answer, the egress of the request, a two-step
response's ingress less its t2, and after it the last delays in ps, newest first, and the failures in a row. -/
structure Pdelay where
  seq : Nat
  waiting : Bool
  t1 : Option Int
  resp : Option Int
  delays : List Int
  fails : Nat
  deriving DecidableEq, Repr

/-- The switch half of a port die: learned addresses, egress queues, the last frame each port sent, what the listeners accepted last
(for a 450 source its name and line count, for a stream source its SEQ), the Pdelay exchanges, the transmit timestamps by port
(port, sequenceId, messageType, ns). -/
structure Eth where
  mac : List MacEntry
  queues : List TxFrame
  last : List (List Nat)
  lines : List (List Nat × Nat)
  streams : List (Nat × Nat)
  pdelay : List Pdelay
  txq : List (Nat × Nat × Nat × Int)
  deriving DecidableEq, Repr

/-- A port that has made no exchange. -/
def Pdelay.none : Pdelay := ⟨0, false, Option.none, Option.none, [], 0⟩

/-- A switch half that has seen nothing. -/
def Eth.empty : Eth := ⟨[], [], [[], [], []], [], [], [Pdelay.none, Pdelay.none, Pdelay.none], []⟩

/-- A foreign master (IEEE 1588-2019): its newest Announce and the device times in ns at which the last ones arrived, newest first. -/
structure Foreign where
  ann : Announce
  times : List Nat
  deriving DecidableEq, Repr

/-- The ordinary clock (spec/12, R348 to R350): foreign masters; the parent port and the device time of its last Announce; the
sequence numbers of its Sync, Announce and Delay_Req messages; a two-step Sync that waits for its Follow_Up (sequenceId, ingress,
correction); the last Sync's master time and ingress in 2^-16 ns; the Delay_Req that waits (sequenceId, egress) and the mean delay; the
last 16 offsets from the master with their ingress times, newest first (R363). -/
structure Oc where
  foreign : List Foreign
  parent : Option (Nat × Nat)
  annAt : Nat
  seqs : List Nat
  sync : Option (Nat × Int × Int)
  lastSync : Option (Int × Int)
  delay : Option (Nat × Option Int)
  mean : Option Int
  offsets : List (Int × Int)
  deriving DecidableEq, Repr

/-- An ordinary clock that has heard nothing. -/
def Oc.empty : Oc := ⟨[], none, 0, [0, 0, 0], none, none, none, none, []⟩

/-- What the standby's staging holds of the leat's copies (spec/02, R49): words that flits have brought (copy 1 per tick, 2 per cycle;
offset; word), and the whole copies that wait for their edge: the slots' records, and the register cells and lists of a cycle. -/
structure Stage where
  words : List (Nat × Nat × Nat)
  tick : Option (List SlotRec)
  cycle : Option (Cells × Lane)
  deriving DecidableEq, Repr

/-- Nothing is staged. -/
def Stage.empty : Stage := ⟨[], none, none⟩

/-- Everything but the ledger's contents and the queue of waiting commands. -/
structure Pkg where
  regs : Cells
  log : PerDie DieLog
  intake : Intake
  faultTimes : Two (List Nat)
  lanes : Two Lane
  layouts : Two Layout
  matching : List SrcMatch
  sealsOut : List Seal
  stamped : List Stamped
  settings : Two SettingsCopy
  retiring : List Retire
  faults : List Occ
  tel : List TelEntry
  ports : Two Port
  bbs : Two Bb
  nhp : Nhp
  eth : Two Eth
  oc : Oc
  xfers : List Xfer
  txn : Txn
  taken : Option Taken
  parts : List UpdPart
  banks : List Nat
  staged : Two Stage
  journal : Two JCopy
  deriving DecidableEq, Repr

/-- The contents of the ledger die's MRAM, in canonical form. -/
structure Ledger where
  mram : List Host.Cell
  deriving DecidableEq, Repr

/-- The state of the part, and the commands that wait for it, first in first out. -/
structure State where
  pending : List Instr
  ledger : Ledger
  pk : Pkg
  deriving DecidableEq, Repr

/-- The register cells right after reset: every field stands at its reset value, but for what each die's place wires into it (the
home root of HB, GB, PB and LD, R376) and for UPD_STATUS.TARGET, which names no target
while no update has run (spec/18). -/
def State.resetCells : Cells :=
  [(1, CLK_STATUS.HOME_B, 2), (1, CLK_STATUS.HOME_B, 4), (1, CLK_STATUS.HOME_B, 6), (1, CLK_STATUS.HOME_B, 7),
    (3, UPD_STATUS.TARGET, 0)].foldl (fun c x => storeSet c x.2.2 x.2.1 0 x.1) []

/-- The package right after reset (spec/19, R477): the power is good, RESET_N has risen, every die qualifies its clocks; no lane has
run, no layout is known, the settings copies hold nothing. -/
def Pkg.reset : Pkg where
  regs := State.resetCells
  log := ⟨⟨[], [], [], [], []⟩, ⟨[], [], [], [], []⟩, ⟨[], [], [], [], []⟩, ⟨[], [], [], [], []⟩, ⟨[], [], [], [], []⟩,
    ⟨[], [], [], [], []⟩, ⟨[], [], [], [], []⟩, ⟨[], [], [], [], []⟩⟩
  intake := ⟨[], [], []⟩
  faultTimes := ⟨[], []⟩
  lanes := ⟨Lane.empty, Lane.empty⟩
  layouts := ⟨Layout.none, Layout.none⟩
  matching := []
  sealsOut := []
  stamped := []
  settings := ⟨⟨0, 0, 0, 2, []⟩, ⟨0, 0, 0, 2, []⟩⟩
  retiring := []
  faults := []
  tel := []
  ports := ⟨Port.empty, Port.empty⟩
  bbs := ⟨Bb.empty, Bb.empty⟩
  nhp := ⟨[], [], [], [], [], [], []⟩
  eth := ⟨Eth.empty, Eth.empty⟩
  oc := Oc.empty
  xfers := []
  txn := Txn.none
  taken := Option.none
  parts := []
  banks := []
  staged := ⟨Stage.empty, Stage.empty⟩
  journal := ⟨⟨0, 0, []⟩, ⟨0, 0, []⟩⟩

/-- The part right after reset: nothing stands in the ledger's memory and no command waits. -/
def State.reset : State := ⟨[], ⟨[]⟩, Pkg.reset⟩

end Sys2Proof.Machine
end

