-- ==== Sys2Proof/Machine/Ops.lean ====
section
/-! DEFINITION. The named operations of the part: reading and writing register fields, dies and sides, the culvert's
reachability, device time, and raising events, which writes log records. -/

namespace Sys2Proof

/-- The die ID (spec/01, R13 and Table 01-1). -/
def Die.num : Die → Nat
  | .sw => 0 | .ha => 1 | .hb => 2 | .ga => 3 | .gb => 4 | .pa => 5 | .pb => 6 | .ld => 7

/-- The die with an ID. -/
def dieOf : Nat → Option Die
  | 0 => some .sw | 1 => some .ha | 2 => some .hb | 3 => some .ga
  | 4 => some .gb | 5 => some .pa | 6 => some .pb | 7 => some .ld | _ => none

/-- Every die, in the order of the IDs. -/
def allDies : List Die := [.sw, .ha, .hb, .ga, .gb, .pa, .pb, .ld]

/-- 0 for A, 1 for B. -/
def Side.num : Side → Nat
  | .a => 0 | .b => 1

/-- The other of the pair. -/
def Side.other : Side → Side
  | .a => .b | .b => .a

/-- The helm die of a lane. -/
def Side.helm : Side → Die
  | .a => .ha | .b => .hb

/-- The baseband of a side. -/
def Side.bb : Side → Die
  | .a => .ga | .b => .gb

/-- The port die of a side. -/
def Side.port : Side → Die
  | .a => .pa | .b => .pb

/-- A for 0, B for anything else. -/
def sideOf (n : Nat) : Side := if n = 0 then .a else .b

/-- Both sides, A first. -/
def bothSides : List Side := [.a, .b]

/-- The home plane of a die (spec/01, Table 01-1): true for plane B. -/
def Die.homeB : Die → Bool
  | .hb | .gb | .pb | .ld => true
  | .sw | .ha | .ga | .pa => false

namespace Machine

/-- Read one of a pair. -/
def Two.get {α : Type} (t : Two α) : Side → α
  | .a => t.a
  | .b => t.b

/-- Replace one of a pair. -/
def Two.set {α : Type} (t : Two α) : Side → α → Two α
  | .a, x => { t with a := x }
  | .b, x => { t with b := x }

/-- Read the value of a die. -/
def PerDie.get {α : Type} (t : PerDie α) : Die → α
  | .sw => t.sw | .ha => t.ha | .hb => t.hb | .ga => t.ga | .gb => t.gb | .pa => t.pa | .pb => t.pb | .ld => t.ld

/-- Replace the value of a die. -/
def PerDie.set {α : Type} (t : PerDie α) : Die → α → PerDie α
  | .sw, x => { t with sw := x } | .ha, x => { t with ha := x } | .hb, x => { t with hb := x }
  | .ga, x => { t with ga := x } | .gb, x => { t with gb := x } | .pa, x => { t with pa := x }
  | .pb, x => { t with pb := x } | .ld, x => { t with ld := x }

/-- Read entry `i` of a field on a die. -/
def rdI (p : Pkg) (d : Die) (F : Fld) (i : Nat) : Nat := storeGet p.regs d.num F i

/-- Read a field on a die. -/
def rd (p : Pkg) (d : Die) (F : Fld) : Nat := rdI p d F 0

/-- Write entry `i` of a field on a die, cut to the field's width. -/
def wrI (d : Die) (F : Fld) (i v : Nat) (p : Pkg) : Pkg := { p with regs := storeSet p.regs d.num F i v }

/-- Write a field on a die. -/
def wr (d : Die) (F : Fld) (v : Nat) (p : Pkg) : Pkg := wrI d F 0 v p

/-- A field as a truth value. -/
def flagI (p : Pkg) (d : Die) (F : Fld) (i : Nat) : Bool := rdI p d F i != 0

/-- A field as a truth value. -/
def flag (p : Pkg) (d : Die) (F : Fld) : Bool := flagI p d F 0

/-- A field as a signed number. -/
def rdSI (p : Pkg) (d : Die) (F : Fld) (i : Nat) : Int := toSigned F.w (rdI p d F i)

/-- A field as a signed number. -/
def rdS (p : Pkg) (d : Die) (F : Fld) : Int := rdSI p d F 0

/-- Write a field as a signed number. -/
def wrSI (d : Die) (F : Fld) (i : Nat) (v : Int) (p : Pkg) : Pkg := wrI d F i (ofSigned F.w v) p

/-- Add one to a counter that wraps. -/
def incI (d : Die) (F : Fld) (i : Nat) (p : Pkg) : Pkg := wrI d F i (rdI p d F i + 1) p

/-- Add one to a counter that wraps. -/
def inc (d : Die) (F : Fld) (p : Pkg) : Pkg := incI d F 0 p

/-- Add to a counter that saturates at the greatest value of its width. -/
def addSatI (d : Die) (F : Fld) (i n : Nat) (p : Pkg) : Pkg := wrI d F i (min (rdI p d F i + n) (2 ^ F.w - 1)) p

/-- Add one to a counter that saturates. -/
def incSat (d : Die) (F : Fld) (p : Pkg) : Pkg := addSatI d F 0 1 p

/-- Do something to the package only when a condition holds. -/
def onlyIf (c : Bool) (f : Pkg → Pkg) (p : Pkg) : Pkg := if c then f p else p

/-- Do something for every element of a list, in order. -/
def forAll {α : Type} (l : List α) (f : α → Pkg → Pkg) (p : Pkg) : Pkg := l.foldl (fun q x => f x q) p

/-- Change the log side of a die. -/
def onLog (d : Die) (f : DieLog → DieLog) (p : Pkg) : Pkg := { p with log := p.log.set d (f (p.log.get d)) }

/-- A die runs (it is out of reset with qualified clocks). -/
def running (p : Pkg) (d : Die) : Bool := rd p d I_DIE.RUN == 2

/-- A die is out of reset with its clocks: it runs, or it is the steward in its boot ROM. -/
def clocked (p : Pkg) (d : Die) : Bool := decide (2 ≤ rd p d I_DIE.RUN)

/-- Device time of a die: the integer part of its tally (spec/13, R353). -/
def now (p : Pkg) (d : Die) : Nat := rd p d TIM_NOW.NOW

/-- A measurement that repeats at a period of `ns` is due (its field holds the next due time; a step of device time cannot put that further
away than one period). -/
def periodDue (p : Pkg) (d : Die) (F : Fld) (i ns : Nat) : Bool :=
  decide (rdI p d F i ≤ now p d) || decide (now p d + ns < rdI p d F i)

/-- The next measurement is due a period from now. -/
def periodNext (d : Die) (F : Fld) (i ns : Nat) (p : Pkg) : Pkg := wrI d F i (now p d + ns) p

/-- Set a die's tally and its calendar (R353, R354). -/
def setNow (d : Die) (t : Nat) (p : Pkg) : Pkg :=
  p |> wr d TIM_NOW.NOW t |> wr d TIM_CAL_SEC.SEC (t / 1000000000) |> wr d TIM_CAL_NS.NS (t % 1000000000)

/-- The link of entry `l` (a die, or 8 for the bridge) to a culvert plane is up (spec/01, R17). -/
def linkUp (p : Pkg) (l : Nat) (b : Bool) : Bool := !(flagI p .sw I_PKG.CULVERT_DOWN (2 * l + b2n b))

/-- The switch of a culvert plane works: it stands in PA or PB. -/
def planeUp (p : Pkg) (b : Bool) : Bool := running p (if b then .pb else .pa)

/-- A packet from die `s` reaches die `t` by some route of R15 and R17: over one plane, or over the bridge. -/
def reaches (p : Pkg) (s t : Die) : Bool :=
  let up (d : Die) (b : Bool) := linkUp p d.num b && planeUp p b
  (s == t) ||
    (running p t &&
      ((up s false && up t false) || (up s true && up t true) ||
        (linkUp p 8 false && ((up s false && up t true) || (up s true && up t false)))))

/-- The steward can be given a die's records: it runs, the port dies have not marked it SILENT, and a route exists (R14). -/
def logPath (p : Pkg) (d : Die) : Bool :=
  running p .sw && !(flag p .pa I_DIE.STEWARD_SILENT) && !(flag p .pb I_DIE.STEWARD_SILENT) && reaches p d .sw

/-- Event classes (spec/17, Table 17-4). -/
def clsInfo : Nat := 0
/-- Event class AUDIT. -/
def clsAudit : Nat := 1
/-- Event class WARNING. -/
def clsWarning : Nat := 2
/-- Event class TRANSIENT. -/
def clsTransient : Nat := 3
/-- Event class PERMANENT. -/
def clsPermanent : Nat := 4
/-- Event class AUTHORITY. -/
def clsAuthority : Nat := 5
/-- Event class NME. -/
def clsNme : Nat := 6
/-- Event class SPILL. -/
def clsSpill : Nat := 7

/-- The block code of an event (spec/17, Table 17-5) from the address of the register it belongs to. -/
def blockCode (off : Nat) : Nat :=
  let b := off / 65536
  if b < 0x10 then b
  else if b = 0x10 then 0x10 else if b = 0x11 then 0x11
  else if b < 0x24 then 0x12 else if b < 0x28 then 0x13 else if b < 0x2C then 0x14
  else if b < 0x30 then 0x15 else if b < 0x34 then 0x16 else if b < 0x38 then 0x17
  else if b < 0x44 then 0x20 else if b < 0x54 then 0x28 else if b < 0x58 then 0x29
  else if b < 0x5C then 0x2A else 0x2B

/-- An event code: class, block and detail (spec/17, R447). -/
def eventCode (cls blk detail : Nat) : Nat := cls * 4096 + blk * 64 + detail

/-- The class of an event code. -/
def codeClass (c : Nat) : Nat := c / 4096 % 16

/-- Count an event in a spill list under its code and die, when the list has room for the key (R449); otherwise `none`. -/
def spillAdd (cap : Nat) (code die stamp : Nat) : List SpillKey → Option (List SpillKey)
  | [] => if cap = 0 then none else some [⟨code, die, 1, stamp, stamp⟩]
  | k :: r =>
    if k.code = code ∧ k.die = die then some ({ k with count := k.count + 1, last := stamp } :: r)
    else match spillAdd (cap - 1) code die stamp r with
      | some r' => some (k :: r')
      | none => none

/-- Count an event by its class alone (block 0x3F, detail 34), R449. -/
def spillClass (cls die stamp : Nat) : List SpillKey → List SpillKey
  | [] => [⟨eventCode cls 0x3F 34, die, 1, stamp, stamp⟩]
  | k :: r =>
    if k.code = eventCode cls 0x3F 34 ∧ k.die = die then { k with count := k.count + 1, last := stamp } :: r
    else k :: spillClass cls die stamp r

/-- Count a record that a die's local ring cannot hold (R14). -/
def DieLog.spillOne (l : DieLog) (r : LogRec) : DieLog :=
  match spillAdd 64 r.code r.die r.stamp l.spill with
  | some s => { l with spill := s }
  | none => { l with classSpill := spillClass (codeClass r.code) r.die r.stamp l.classSpill }

/-- Place a record that is no audit record: toward intake, or while the path is lost in the local ring, or counted (R14). -/
def DieLog.place (l : DieLog) (path : Bool) (r : LogRec) : DieLog :=
  if path then { l with out := l.out ++ [r] }
  else if l.ring.length < 64 then { l with ring := l.ring ++ [{ r with isLocal := true }] }
  else l.spillOne r

/-- The record a die would write now: its stamp, step epoch and sequence number (R375, R448). -/
def mkRec (p : Pkg) (d : Die) (code origin slot keyId : Nat) (pl : Payload) : LogRec :=
  { stamp := now p d, seq := rd p d I_DIE.SEQ, die := d.num, epoch := rd p d TIM_STATUS.STEP_EPOCH, code := code
    origin := origin, slot := slot, keyId := keyId, late := false, isLocal := false, payload := pl }

/-- Code of the event CLKFAIL (Table 17-5: block of the clocks, bit 0). -/
def clkFailCode : Nat := eventCode clsNme (blockCode CLK_EVENT.CLKFAIL.off) 0

/-- STW_STATUS.NME_PENDING shows the dies with an unacknowledged NME (R439). -/
def nmeShow (p : Pkg) : Pkg :=
  wr .sw STW_STATUS.NME_PENDING
    (allDies.foldl (fun a d => a + 2 ^ d.num * b2n (flag p d I_DIE.NME || flag p d I_DIE.CLKFAIL)) 0) p

/-- The steward pulls NME_OUT_N low while an NME is unacknowledged, the port dies while it is SILENT (R438, R439). -/
def nmeOutLow (p : Pkg) : Bool :=
  (running p .sw && rd p .sw STW_STATUS.NME_PENDING != 0) || (running p .pa && flag p .pa I_DIE.STEWARD_SILENT) ||
    (running p .pb && flag p .pb I_DIE.STEWARD_SILENT)

/-- An event of class NME stands unacknowledged at its die, and reaches a steward that runs (R439). -/
def nmeArrives (d : Die) (code : Nat) (p : Pkg) : Pkg :=
  let p := if code = clkFailCode then wr d I_DIE.CLKFAIL 1 p else wr d I_DIE.NME 1 p
  if running p .sw && reaches p d .sw then p |> nmeShow |> wr .sw STW_EVENT.NME 1 else p

/-- Write a record of a class other than AUDIT at die `d` (R375, R14). -/
def logRec (d : Die) (code origin slot keyId : Nat) (pl : Payload) (p : Pkg) : Pkg :=
  let r := mkRec p d code origin slot keyId pl
  let path := logPath p d
  p |> onLog d (fun l => l.place path r) |> inc d I_DIE.SEQ |> onlyIf (codeClass code == clsNme) (nmeArrives d code)

/-- Write a record of the die's own hardware or firmware, with no session. -/
def logAt (d : Die) (code : Nat) (pl : Payload) (p : Pkg) : Pkg := logRec d code 0 0xFF 0 pl p

/-- Set an event bit and log the event in a class, with a payload (R447: the detail is the bit's index). -/
def raiseWith (d : Die) (cls : Nat) (F : Fld) (pl : Payload) (p : Pkg) : Pkg :=
  p |> wr d F 1 |> logAt d (eventCode cls (blockCode F.off) F.lo) pl

/-- Set an event bit and log the event with an origin, slot and key ID. -/
def raiseFrom (d : Die) (cls : Nat) (F : Fld) (origin slot keyId : Nat) (pl : Payload) (p : Pkg) : Pkg :=
  p |> wr d F 1 |> logRec d (eventCode cls (blockCode F.off) F.lo) origin slot keyId pl

/-- Set an event bit and log the event in a class. -/
def raise (d : Die) (cls : Nat) (F : Fld) (p : Pkg) : Pkg := raiseWith d cls F .unstated p

/-- Log an event to which Tables 17-4 to 17-6 give no bit and no detail: its detail is the free value `k`. -/
def logOpen (d : Die) (cls blk k : Nat) (pl : Payload) (p : Pkg) : Pkg :=
  logAt d (eventCode cls blk (Config.openDetail k % 64)) pl p

/-- What a die measures of its surroundings has changed its state: the steward that hears of it logs it (spec/17, Table 17-2). -/
def surrChanged (d : Die) (p : Pkg) : Pkg :=
  if running p .sw && reaches p d .sw then raiseWith .sw clsInfo STW_EVENT.SURR_CHANGED (.words [d.num]) p else p

/-- Note a change of a measurement of the surroundings, a field before and after. -/
def surrFrom (old : Pkg) (d : Die) (F : Fld) (i : Nat) (p : Pkg) : Pkg := if rdI old d F i = rdI p d F i then p else surrChanged d p

/-- Write an audit record into the die's audit hold (R510); a full hold counts it and raises AUDIT_SPILL. -/
def auditRec (d : Die) (origin slot keyId blk : Nat) (pl : Payload) (p : Pkg) : Pkg :=
  let r := mkRec p d (eventCode clsAudit blk 33) origin slot keyId pl
  let p := p |> inc d I_DIE.SEQ
  if (p.log.get d).hold.length < 64 then onLog d (fun l => { l with hold := l.hold ++ [r] }) p
  else
    p |> onLog d (fun l => { l with classSpill := spillClass clsAudit d.num r.stamp l.classSpill })
      |> logAt d (eventCode clsNme 0x06 43) .unstated

/-- Log an ACCESS_FAULT of an address (R6, R17, R21). -/
def accessFault (d : Die) (slot keyId off : Nat) (p : Pkg) : Pkg :=
  logRec d (eventCode clsWarning (blockCode off) 32) 2 slot keyId .unstated p

/-- The lane an arbiter or both name as ACTIVE: the lane whose state reads 4 (spec/02, R33). -/
def activeLane (p : Pkg) : Option Side :=
  if rd p .ha HG_STATUS.LANE_STATE = 4 then some .a
  else if rd p .hb HG_STATUS.LANE_STATE = 4 then some .b else none

/-- The lane is ACTIVE. -/
def isActive (p : Pkg) (x : Side) : Bool := rd p x.helm HG_STATUS.LANE_STATE == 4

/-- Mark a PENDING settings copy VOID (R420). -/
def SettingsCopy.voided (c : SettingsCopy) : SettingsCopy := if c.state = 0 then { c with state := 2 } else c

/-- Mark every PENDING settings copy VOID (R420). -/
def voidPending (s : Two SettingsCopy) : Two SettingsCopy := ⟨s.a.voided, s.b.voided⟩

/-- Change a lane's lists. -/
def onLane (x : Side) (f : Lane → Lane) (p : Pkg) : Pkg := { p with lanes := p.lanes.set x (f (p.lanes.get x)) }

/-- A lane's lists after it has taken the partner's per-cycle copy (R48): what the copy does not hold stays its own. -/
def Lane.taking (own other : Lane) : Lane :=
  { own with
    est := other.est, ring := other.ring, replay := other.replay, tests := other.tests, crossings := other.crossings, nav := other.nav, corr := other.corr
    ramp := other.ramp, waypoints := other.waypoints, thrMan := other.thrMan, thrAngleHeld := other.thrAngleHeld, joy := other.joy, env := other.env
    vals := other.vals, wind := other.wind, sol := other.sol }

/-- Remove the cells of a die whose field identities lie in a range: those fields read their reset values again. -/
def clearIds (d : Die) (r : Nat × Nat) (p : Pkg) : Pkg :=
  { p with regs := p.regs.filter (fun c =>
      !(decide (c.1 / 65536 % 8 = d.num) && decide (r.1 ≤ c.1 / 524288) && decide (c.1 / 524288 < r.2))) }

/-- The cells of a die whose field identities a test picks. -/
def cellsOf' (pick : Nat → Bool) (d : Die) (p : Pkg) : Cells := p.regs.filter (fun c => c.1 / 65536 % 8 == d.num && pick (c.1 / 524288))

/-- A die's cells of the picked fields give way to others: after it the die reads what the cells' die read. -/
def putCells (pick : Nat → Bool) (d : Die) (l : Cells) (p : Pkg) : Pkg :=
  let kept := p.regs.filter (fun c => !(c.1 / 65536 % 8 == d.num && pick (c.1 / 524288)))
  { p with regs := l.foldl (fun r c => cellsPut r (c.1 / 524288 * 524288 + d.num * 65536 + c.1 % 65536) c.2) kept }

/-- Run an effect on the package and answer the next state. -/
def State.onPk (s : State) (f : Pkg → Pkg) : State := { s with pk := f s.pk }

/-- The outcome of a command whose effect stays inside the package. -/
def nextPk (s : State) (f : Pkg → Pkg) : Host.Outcome State Fault Refusal := .next (s.onPk f)

/-- The outcome of a command whose effect may reach the ledger. -/
def nextLp (s : State) (f : Ledger × Pkg → Ledger × Pkg) : Host.Outcome State Fault Refusal :=
  let r := f (s.ledger, s.pk)
  .next { s with ledger := r.1, pk := r.2 }

end Machine
end Sys2Proof
end

