-- ==== Sys2Proof/Machine/Journal.lean ====
section
/-! DEFINITION. Chapter 18: the loader journal in its two copies (R455, Tables 18-2 and 18-3). -/

namespace Sys2Proof.Machine

/-- The STATE of a slot: 0 lane A, 1 lane B, 2 the steward. -/
def slotFld (t : Nat) : Fld := if t = 0 then UPD_SLOT_A.STATE else if t = 1 then UPD_SLOT_B.STATE else UPD_SLOT_SW.STATE

/-- The RESTORED flag of a slot. -/
def restoredFld (t : Nat) : Fld := if t = 0 then UPD_SLOT_A.RESTORED else if t = 1 then UPD_SLOT_B.RESTORED else UPD_SLOT_SW.RESTORED

/-- The BAD flag of a slot. -/
def badFld (t : Nat) : Fld := if t = 0 then UPD_SLOT_A.BAD else if t = 1 then UPD_SLOT_B.BAD else UPD_SLOT_SW.BAD

/-- SECURITY_VERSION of a slot. -/
def secFld (t : Nat) : Fld :=
  if t = 0 then UPD_SLOT_A.SECURITY_VERSION else if t = 1 then UPD_SLOT_B.SECURITY_VERSION else UPD_SLOT_SW.SECURITY_VERSION

/-- VERSION of a slot. -/
def verFld (t : Nat) : Fld := if t = 0 then UPD_VERSION_A.VERSION else if t = 1 then UPD_VERSION_B.VERSION else UPD_VERSION_SW.VERSION

/-- A slot's entry (Table 18-3). VERIFIED and BLOCKS stand in the entry of the update's target. -/
def slotEntry (p : Pkg) (t : Nat) : List Nat :=
  let target := rd p .sw UPD_STATUS.TARGET == t
  [rd p .sw (slotFld t), b2n (target && flag p .sw UPD_STATUS.VERIFIED) + 2 * rd p .sw (restoredFld t) + 4 * rd p .sw (badFld t)] ++
    leBytes 2 (if target then rd p .sw UPD_STATUS.BLOCKS else 0) ++ leBytes 4 (rdI p .sw I_UPD.LEN t) ++ leBytes 4 (rd p .sw (verFld t)) ++
    leBytes 2 (rd p .sw (secFld t)) ++ leBytes 2 (rdI p .sw I_UPD.DET t) ++ leBytes 32 (rdI p .sw I_UPD.HASH t) ++
    leBytes 8 (rdI p .sw I_UPD.TRIAL_AT t) ++ List.replicate 8 0

/-- Bytes 8 to 319 of the journal: the update's target, the three slot entries, the receive bitmap. -/
def journalBody (p : Pkg) : List Nat :=
  [rd p .sw UPD_STATUS.TARGET] ++ List.replicate 7 0 ++ slotEntry p 0 ++ slotEntry p 1 ++ slotEntry p 2 ++ leBytes 112 (rd p .sw I_UPD.BITMAP)

/-- The CRC-32C of a copy, over bytes 8 to 4,095. -/
def journalCrc (body : List Nat) : Nat := crc32c (padTo 4088 body)

/-- A copy is valid. -/
def JCopy.valid (c : JCopy) : Bool := c.crc == journalCrc c.body

/-- The valid copy with the highest GEN, which the loaders use. -/
def journalNow (j : Two JCopy) : Option Side :=
  if j.b.valid && (!j.a.valid || decide (j.a.gen < j.b.gen)) then some .b else if j.a.valid then some .a else none

/-- A change of the journal writes the other copy, with GEN increased by 1; content that is the same is no change. -/
def journalPut (j : Two JCopy) (body : List Nat) : Two JCopy :=
  match journalNow j with
  | some x => if (j.get x).body = body then j else j.set x.other ⟨trunc 32 ((j.get x).gen + 1), journalCrc body, body⟩
  | none => j.set .a ⟨1, journalCrc body, body⟩

/-- The journal takes what the update state now holds (R455). -/
def journalWrite (p : Pkg) : Pkg := { p with journal := journalPut p.journal (journalBody p) }

end Sys2Proof.Machine
end

