-- ==== Sys2Proof/Machine/Headgate.lean ====
section
/-! DEFINITION. Chapter 02: the headgate and its arbiters, releases and resets of a lane, planned swaps, drills, readiness of the
standby, reversion, the lockout. -/

namespace Sys2Proof.Machine

/-- A claim line reads low. -/
def lineLow (p : Pkg) (x : Side) : Bool := flagI p .sw I_PKG.LINE_LOW x.num

/-- A lane's inhibit pin is low. -/
def inhibited (p : Pkg) (x : Side) : Bool := flagI p .sw I_PKG.INHIBIT_LOW x.num

/-- The lane that HG_CFG names primary in this lane's own helm (R39). -/
def isPrimary (p : Pkg) (x : Side) : Bool := rd p x.helm HG_CFG.PRIMARY_B == x.num

/-- The lane state of Table 02-1; a lane whose helm does not run is DOWN. -/
def laneState (p : Pkg) (x : Side) : Nat := if running p x.helm then rd p x.helm HG_STATUS.LANE_STATE else 0

/-- Vessel cycle in milliseconds, as the lane's layout sets it (R28). -/
def cycleMs (p : Pkg) (x : Side) : Nat := rd p x.helm I_TIME.CYCLE_MS

/-- The tick edge at `t` is a vessel-cycle boundary of the lane: a multiple of the cycle and of the frame, and after a time step at least
one frame away from it (R28 to R30). -/
def boundaryAt (p : Pkg) (x : Side) (t : Nat) : Bool :=
  let ms := t / 1000000
  ms % max 1 (cycleMs p x) == 0 && ms % max 1 (rd p x.helm CFL_STATUS.FRAME_MS) == 0 && decide (rd p x.helm I_TIME.BOUND_HOLD ≤ t)

/-- The lane's present tick is the last of its vessel cycle. -/
def lastTick (p : Pkg) (x : Side) : Bool := boundaryAt p x (rd p x.helm I_LANE.TICK_EDGE + 1000000)

/-- State of a lane's firmware slot (Table 18-3). -/
def slotState (p : Pkg) : Side → Nat
  | .a => rd p .sw UPD_SLOT_A.STATE
  | .b => rd p .sw UPD_SLOT_B.STATE

/-- A slot state that is neither IDLE nor CONFIRMED. -/
def busySlot (v : Nat) : Bool := !(v == 0 || v == 5)

/-- A field update is in progress (R469). -/
def updInProgress (p : Pkg) : Bool :=
  busySlot (slotState p .a) || busySlot (slotState p .b) || busySlot (rd p .sw UPD_SLOT_SW.STATE)

/-- The reversion holdoff stands at zero (R73). -/
def holdoffZero (x : Side) (p : Pkg) : Pkg := p |> wr x.helm I_LANE.HOLDOFF_MS 0 |> wr x.helm HG_STATUS.HOLDOFF_LEFT 0

/-- A drill, a structural change or an update begins: the holdoff restarts in both lanes (R73). -/
def holdoffsZero (p : Pkg) : Pkg := p |> holdoffZero .a |> holdoffZero .b

/-- UPD_STATUS.IN_PROGRESS follows the slots; without an update there is no target. -/
def updShow (p : Pkg) : Pkg :=
  p |> wr .sw UPD_STATUS.IN_PROGRESS (b2n (updInProgress p)) |> onlyIf (!(updInProgress p)) (wr .sw UPD_STATUS.TARGET 3)
    |> onlyIf (updInProgress p) holdoffsZero |> journalWrite

/-- Put a lane's firmware slot into a state. -/
def setSlotState (v : Nat) (p : Pkg) : Side → Pkg
  | .a => wr .sw UPD_SLOT_A.STATE v p |> updShow
  | .b => wr .sw UPD_SLOT_B.STATE v p |> updShow

/-- A structural change is in progress (R430). -/
def lytInProgress (p : Pkg) : Bool := rd p .sw LYT_STATUS.PHASE != 0

/-- A drill is in progress (R76). -/
def drillInProgress (p : Pkg) : Bool := rd p .sw I_PKG.DRILL_PHASE != 0

/-- A planned swap is pending on the active lane (R67). -/
def swapPending (p : Pkg) : Bool :=
  rd p .ha I_LANE.SWAP_CAUSE != 0 || rd p .hb I_LANE.SWAP_CAUSE != 0

/-- The drilled lane of the drill in progress. -/
def drilledLane (p : Pkg) : Side := sideOf (rd p .sw I_PKG.DRILLED_B)

/-- The structural change's target lane has been restarted and is not yet LYT_READY: no lane takes over (R432). -/
def lytUnready (p : Pkg) : Bool :=
  rd p .sw LYT_STATUS.PHASE == 2 || rd p .sw LYT_STATUS.PHASE == 3

/-- A field update of this lane has begun and the lane is not ready: ACTIVATING, or TRIAL without readiness while the interval of R463
lasts (R462); at the power-up election a lane in TRIAL may claim (R471, R481). -/
def trialUnready (p : Pkg) (x : Side) : Bool :=
  slotState p x == 3 || (slotState p x == 4 && flag p .sw UPD_STATUS.NO_REDUNDANCY && !(laneState p x == 3) && !(flag p x.helm I_LANE.UPD_RDY))

/-- A lane that may not claim whatever else holds: LOCKED_OUT, DOWN or STARTING, its inhibit pin low (R62), or barred by a
structural change or an update (R432, R462). -/
def claimBarred (p : Pkg) (x : Side) : Bool :=
  !(running p x.helm) || laneState p x == 0 || laneState p x == 1 || laneState p x == 5 || inhibited p x ||
    flag p x.helm HG_LOCKOUT.LOCKED || lytUnready p || trialUnready p x

/-- Both arbiters are in NONE. -/
def ownersNone (p : Pkg) : Bool := [Die.pa, .pb].all (fun d => !(running p d) || rd p d HG_OWNER.OWNER == 0)

/-- The lane is eligible to claim. -/
def mayElect (p : Pkg) (x : Side) : Bool :=
  ownersNone p && flag p x.helm I_LANE.LAYOUT_APPLIED && decide (16 ≤ rd p x.helm I_LANE.TICKS_RUN) && !(claimBarred p x) && !(flag p x.helm HG_STATUS.DRILL_FAIL)

/-- A lane that waits for its turn to elect and is no longer eligible begins again (R480). -/
def electionKept (x : Side) (p : Pkg) : Pkg := onlyIf (!(mayElect p x)) (wr x.helm I_LANE.ELIGIBLE 0) p

/-- Conditions of R61 for a NOT_READY standby, with the exceptions of R432 and R462. -/
def takeoverArm (p : Pkg) (x : Side) : Bool :=
  let d := x.helm
  if flag p d I_LANE.LYT_RDY || flag p d I_LANE.UPD_RDY then !(flag p d HG_STATUS.DRILL_FAIL)
  else laneState p x == 2 && !(flag p d HG_STATUS.LAYOUT_DIFF) && !(flag p d HG_STATUS.FW_INCOMPAT) &&
    decide (16 ≤ rd p d I_LANE.TICKS_RUN) && decide (1000 ≤ rd p d I_LANE.LIMIT_AGE) && !(flag p d HG_STATUS.DRILL_FAIL)

/-- The claim driver may be armed under R60 or R61. -/
def mayArm (p : Pkg) (x : Side) : Bool :=
  !(claimBarred p x) && !(flag p x.helm I_LANE.WAIT_OTHER_LOW) && (laneState p x == 3 || takeoverArm p x)

/-- What conditions 1 to 4 and 6 of R54 ask of the lane itself. -/
def readyFit (p : Pkg) (x : Side) : Bool :=
  let d := x.helm
  flag p d LEAT_STATUS.UP && flag p d LEAT_STATUS.TICK_CURRENT && flag p d LEAT_STATUS.CYCLE_CURRENT &&
    !(flag p d HG_STATUS.LAYOUT_DIFF) && !(flag p d HG_STATUS.FW_INCOMPAT) && !(flag p d HG_STATUS.PAIR_DIFF) &&
    !(flag p d HG_LOCKOUT.LOCKED) && !(flag p d HG_STATUS.DRILL_FAIL)

/-- Conditions 1 to 4 and 6 of R54. -/
def readyHeld (p : Pkg) (x : Side) : Bool := isActive p x.other && readyFit p x

/-- All conditions of R54. -/
def readyGained (p : Pkg) (x : Side) : Bool :=
  readyHeld p x && decide (rd p x.helm HG_POLICY.READY_COUNT ≤ rd p x.helm HG_CMP.CLEAN_RUN)

/-- Take the claim driver out of arms and let the line go: what every release does in the same instant (R35). -/
def letGo (x : Side) (p : Pkg) : Pkg :=
  p |> wr x.helm HG_STATUS.ARMED 0 |> wrI .sw I_PKG.LINE_PULL x.num 0 |> wr x.helm I_LANE.WAIT_OTHER_LOW 1

/-- ARM (R60 to R62). -/
def arm (x : Side) (p : Pkg) : Pkg := if mayArm p x then wr x.helm HG_STATUS.ARMED 1 p else p

/-- DISARM (R35): a driver that is not armed does not pull. -/
def disarm (x : Side) (p : Pkg) : Pkg :=
  if flagI p .sw I_PKG.LINE_PULL x.num then letGo x p else wr x.helm HG_STATUS.ARMED 0 p

/-- A STANDBY_READY lane keeps its claim driver armed (R60); a NOT_READY one beside an ACTIVE lane is armed only while R61 holds. -/
def keepArmed (x : Side) (p : Pkg) : Pkg :=
  if laneState p x = 3 then arm x p
  else if laneState p x = 2 && isActive p x.other && flag p x.helm HG_STATUS.ARMED && !(takeoverArm p x) then disarm x p
  else p

/-- End the drill with a verdict code: 1 pass, 2 fail, 3 aborted, 4 stranded. -/
def endDrill (verdict : Nat) (p : Pkg) : Pkg :=
  p |> wr .sw I_PKG.DRILL_PHASE 0 |> wr .sw I_PKG.DRILL_VERDICT verdict
    |> wr .ha HG_STATUS.DRILL_ACTIVE 0 |> wr .hb HG_STATUS.DRILL_ACTIVE 0

/-- Raise the drill's failure and mark the drilled lane DRILL_FAIL (R77, R80). -/
def failDrill (p : Pkg) : Pkg :=
  let x := drilledLane p
  p |> raise x.helm clsAuthority HG_EVENT.DRILL_FAIL |> wr x.helm HG_STATUS.DRILL_FAIL 1 |> wr .sw I_PKG.DRILL_VERDICT 2

/-- The line of the drill's original lane has been released for the swap out. -/
def drillOut (p : Pkg) : Bool := rd p .sw I_PKG.DRILL_PHASE == 1 && rd p (drilledLane p).other.helm I_LANE.RELEASE_CAUSE == 9

/-- The original lane left STANDBY_READY during the drill: control stays, or goes where it was released to, and the drill ends
DRILL_STRANDED (R79). -/
def strandDrill (lost : Side) (p : Pkg) : Pkg :=
  if (rd p .sw I_PKG.DRILL_PHASE == 2 || rd p .sw I_PKG.DRILL_PHASE == 3 || drillOut p) && decide (lost = (drilledLane p).other) then
    let x := drilledLane p
    p |> wr x.helm I_LANE.SWAP_CAUSE 0 |> logOpen x.helm clsAuthority 0x10 0 .unstated |> endDrill 4
  else p

/-- A lane in the standby role drops out of STANDBY_READY (R55): a new clean run is needed, and only R61 keeps it armed. -/
def dropReady (x : Side) (p : Pkg) : Pkg :=
  let d := x.helm
  if laneState p x = 3 then
    let q := p |> wr d HG_STATUS.LANE_STATE 2 |> wr d HG_CMP.CLEAN_RUN 0 |> wr d I_LANE.HOLDOFF_MS 0
      |> wr d HG_STATUS.HOLDOFF_LEFT 0 |> raise d clsWarning HG_EVENT.READY_LOST
    q |> onlyIf (flag q d HG_STATUS.ARMED && !(takeoverArm q x)) (disarm x) |> strandDrill x
  else p

/-- Drop readiness when a condition of R54 that must hold has gone (R55). -/
def checkReady (x : Side) (p : Pkg) : Pkg := if readyHeld p x then p else dropReady x p

/-- The update of a slot ends as failed (R458, R464, R459): the reason and stage stand in UPD_FAIL, the event is raised. -/
def failUpdate (x : Side) (reason : Nat) (p : Pkg) : Pkg :=
  p |> wr .sw UPD_FAIL.REASON reason |> wr .sw UPD_FAIL.STAGE (slotState p x) |> wr .sw UPD_FAIL.BLOCK 0 |> inc .sw UPD_FAILS.V
    |> raise .sw clsWarning UPD_EVENT.FAILED |> wr .sw UPD_STATUS.NO_REDUNDANCY 0 |> wr .sw UPD_STATUS.UPD_READY 0
    |> wr .sw UPD_STATUS.VERIFIED 0 |> wr .sw UPD_TRIAL_LEFT.SECONDS 0
    |> (fun q => setSlotState 6 q x) |> wr x.helm I_LANE.UPD_RDY 0

/-- Clear the lane's own state to reset values and hold it DOWN; the lockout and the drill mark are kept (R71, R80). A restoration that
streams between the lanes ends, and starts again from block 0 (R466). -/
def clearLane (x : Side) (p : Pkg) : Pkg :=
  let d := x.helm
  p |> clearIds d regLaneIds |> clearIds d cycleIds |> clearIds d laneIds
    |> (fun q => { q with lanes := q.lanes.set x Lane.empty, staged := q.staged.set x Stage.empty })
    |> onlyIf (decide (2 ≤ laneState p x)) (wrI .sw I_PKG.LOCKOUT_MIN x.num (rd p d HG_POLICY2.LOCKOUT_WINDOW))
    |> wr d HG_STATUS.LANE_STATE 0 |> wr d HG_STATUS.DRILL_FAIL (rd p d HG_STATUS.DRILL_FAIL)
    |> wr d HG_LOCKOUT.LOCKED (rd p d HG_LOCKOUT.LOCKED) |> wr d HG_LOCKOUT.FAULT_SWAPS (rd p d HG_LOCKOUT.FAULT_SWAPS)
    |> wr d HG_STATUS.INHIBIT (b2n (inhibited p x)) |> wr d HG_STATUS.LINE_OWN (b2n (lineLow p x))
    |> wr d HG_STATUS.LINE_OTHER (b2n (lineLow p x.other)) |> wrI .sw I_PKG.LINE_PULL x.num 0 |> wr .sw I_UPD.ON 0

/-- The structural change ends as failed (R433): its settings copy is discarded, the target lane restarts on the current image. -/
def failStructural (p : Pkg) : Pkg :=
  let y := sideOf (rd p .sw LYT_STATUS.TARGET_B)
  p |> raise .sw clsWarning LYT_EVENT.FAILED |> inc .sw LYT_FAILS.V |> wr .sw LYT_STATUS.PHASE 0
    |> wr .sw LYT_STATUS.SETTLE_LEFT 0 |> (fun q => { q with settings := voidPending q.settings }) |> clearLane y

/-- A lane resets (R70): its state clears, and an update or a structural change of which it is the target ends as failed. -/
def resetLane (x : Side) (p : Pkg) : Pkg :=
  let p := if slotState p x = 1 ∨ slotState p x = 2 ∨ slotState p x = 4 then failUpdate x 9 p else p
  let ph := rd p .sw LYT_STATUS.PHASE
  let p := if (ph = 2 ∨ ph = 3 ∨ ph = 4) ∧ sideOf (rd p .sw LYT_STATUS.TARGET_B) = x then failStructural p else p
  clearLane x p

/-- LOCKOUT_WINDOW as it stands for a lane: its own setting, or while it is reset or has no settings yet the value that the steward has
kept of it. -/
def lockoutMin (p : Pkg) (x : Side) : Nat :=
  if 2 ≤ laneState p x then rd p x.helm HG_POLICY2.LOCKOUT_WINDOW else rdI p .sw I_PKG.LOCKOUT_MIN x.num

/-- Unplanned releases inside LOCKOUT_WINDOW minutes of operating time (R71). -/
def recentFaults (p : Pkg) (x : Side) : List Nat :=
  (p.faultTimes.get x).filter (fun t => decide (rd p .sw I_PKG.OPERATING_MS < t + lockoutMin p x * 60000))

/-- Count an unplanned switch-over against the lane that caused it, and lock it out at LOCKOUT_COUNT (R71). -/
def countFault (x : Side) (p : Pkg) : Pkg :=
  let d := x.helm
  let l := recentFaults p x ++ [rd p .sw I_PKG.OPERATING_MS]
  let q := { p with faultTimes := p.faultTimes.set x l } |> wr d HG_LOCKOUT.FAULT_SWAPS (min l.length 15)
  if rd p d HG_POLICY2.LOCKOUT_COUNT ≤ l.length then
    q |> wr d HG_LOCKOUT.LOCKED 1 |> raise d clsAuthority HG_EVENT.LOCKOUT
  else q

/-- The record of a cause of Table 02-5: LOCKSTEP and SRAM_UE have their own details, the others are logged as SWITCH_OVER with
the cause code (Table 17-6). -/
def logCause (x : Side) (cause : Nat) (p : Pkg) : Pkg :=
  if cause = 2 then logAt x.helm (eventCode clsNme 0x10 40) .unstated p
  else if cause = 5 then logAt x.helm (eventCode clsNme 0x31 41) .unstated p
  else logAt x.helm (eventCode clsAuthority 0x10 38) (.words [cause]) p

/-- The lane meets a fault of Table 02-5 (R63, R70): an ACTIVE lane releases its line, is counted and resets once authority has
left it; one whose line has been released already is not counted again (R71). A lane in the standby role logs the cause and resets, but
for a clock failure. A fault of the original lane ends a drill as aborted (DESIGN CHOICE, the log's entry on drills); one of the drilled
lane while the swap out is pending leaves the drill to the test at the release point (DESIGN CHOICE, the same entry). -/
def laneFault (x : Side) (cause : Nat) (p : Pkg) : Pkg :=
  let d := x.helm
  if isActive p x then
    let gone := rd p d I_LANE.RELEASE_CAUSE != 0
    let q := p |> logCause x cause |> letGo x |> wr d I_LANE.RESET_DUE 1
      |> wr d I_LANE.SWAP_CAUSE 0 |> wr d HG_STATUS.REVERT_PENDING 0 |> wr x.other.helm HG_STATUS.REVERT_PENDING 0
      |> onlyIf (!gone) (fun q => q |> wr d I_LANE.RELEASE_CAUSE cause |> countFault x)
    if rd q .sw I_PKG.DRILL_PHASE = 0 then q
    else if drilledLane q = x ∧ rd q .sw I_PKG.DRILL_PHASE ≠ 1 then q |> failDrill |> endDrill 2
    else endDrill 3 q
  else if laneState p x = 0 ∨ laneState p x = 1 ∨ cause = 4 ∨ cause = 1 then p
  else
    let q := p |> logCause x cause
    q |> strandDrill x |> resetLane x

/-- Start of a planned swap on the active lane, at an operating time (R65). -/
def acceptSwap (x : Side) (cause : Nat) (p : Pkg) : Pkg :=
  p |> wr x.helm I_LANE.SWAP_CAUSE cause |> wr x.helm I_LANE.SWAP_ACCEPTED (rd p .sw I_PKG.OPERATING_MS)

/-- The partner is fit for a planned swap of this cause: STANDBY_READY and armed, with LYT_READY and UPD_READY in its place for
causes 12 and 13 (R66, R430, Table 18-6). -/
def partnerFit (p : Pkg) (x : Side) (cause : Nat) : Bool :=
  let y := x.other.helm
  flag p y HG_STATUS.ARMED &&
    (if cause = 12 then flag p y I_LANE.LYT_RDY
     else rd p y HG_STATUS.LANE_STATE == 3 || (cause == 13 && flag p y I_LANE.UPD_RDY))

/-- What a request for a planned swap comes to on the active lane. -/
inductive SwapAnswer
  | accepted | held | pending | notReady
  deriving DecidableEq, Repr

/-- Test a request from outside a drill (R66, R67, R76). -/
def swapAnswer (p : Pkg) (x : Side) (cause : Nat) : SwapAnswer :=
  if drillInProgress p && !(cause == 9 || cause == 10) then .held
  else if swapPending p then .pending
  else if partnerFit p x cause then .accepted else .notReady

/-- Carry out a request on the active lane: accept it, or refuse and log it (R66). -/
def requestSwap (x : Side) (cause : Nat) (p : Pkg) : Pkg :=
  match swapAnswer p x cause with
  | .accepted => acceptSwap x cause p
  | _ => raise x.helm clsWarning HG_EVENT.SWAP_REFUSED p

/-- An arbiter's next state from the two lines (R37): 0 NONE, 1 A, 2 B. -/
def arbiterNext (own : Nat) (lowA lowB primaryB : Bool) : Nat :=
  if lowA && !lowB then 1
  else if lowB && !lowA then 2
  else if lowA && lowB then (if own = 0 then (if primaryB then 2 else 1) else own)
  else 0

/-- One port die's arbiter samples both lines (R37). -/
def arbiterStep (y : Side) (p : Pkg) : Pkg :=
  let d := y.port
  if running p d && !(flag p d I_PORT.ARB_HELD) then
    let la := lineLow p .a
    let lb := lineLow p .b
    let own := rd p d HG_OWNER.OWNER
    let nxt := arbiterNext own la lb (flag p d HG_ARB_CFG.PRIMARY_B)
    p |> wr d HG_OWNER.LINE_A (b2n la) |> wr d HG_OWNER.LINE_B (b2n lb) |> wr d HG_OWNER.OWNER nxt
      |> onlyIf (la && lb) (raise d clsInfo HG_ARB_EVENT.BOTH_LOW)
      |> onlyIf (nxt != own && nxt == 0) (raise d clsInfo HG_ARB_EVENT.TO_NONE)
      |> onlyIf (nxt != own && nxt != 0)
          (fun q => q |> incSat d HG_OWNER.GRANTS |> raise d clsAuthority HG_ARB_EVENT.GRANT)
  else p

/-- A lane takes the standby role: no copy has been missed and none is held (R50). -/
def copiesFresh (x : Side) (p : Pkg) : Pkg :=
  let d := x.helm
  { p with staged := p.staged.set x Stage.empty } |> wr d I_LANE.TICK_MISS_RUN 0 |> wr d I_LANE.CYCLE_COPY_MISS_RUN 0
    |> wr d LEAT_STATUS.TICK_CURRENT 1 |> wr d LEAT_STATUS.CYCLE_CURRENT 1 |> wr d HG_STATUS.COPIES_STALE 0

/-- The active lane loses authority at an arbiter's transition away from it (R33, R56, R70, R80). In a planned swap the lane keeps its own
clean-comparison run, as it stood when it became ACTIVE (DESIGN CHOICE, the log's entry on the run carried over). -/
def loseActive (x : Side) (p : Pkg) : Pkg :=
  let d := x.helm
  let cause := rd p d I_LANE.RELEASE_CAUSE
  let p := p |> wr .sw I_PKG.SWO_FROM (x.num + 1) |> wr .sw I_PKG.SWO_CAUSE cause |> wr d HG_LAST_SWAP.CAUSE cause
    |> wr d HG_LAST_SWAP.GAINED 0 |> incSat d HG_LAST_SWAP.SWAP_COUNT |> wr d LEAT_STATUS.SENDING 0 |> wr d I_LANE.SWAP_CAUSE 0 |> copiesFresh x
  if flag p d I_LANE.RESET_DUE then
    p |> wr d HG_STATUS.LANE_STATE 2 |> resetLane x |> wr d HG_LAST_SWAP.CAUSE cause
  else if 7 ≤ cause ∧ flag p d I_LANE.PARTNER_READY ∧ readyFit p x then p |> wr d HG_STATUS.LANE_STATE 3
  else p |> wr d HG_STATUS.LANE_STATE 2 |> wr d HG_CMP.CLEAN_RUN 0 |> strandDrill x

/-- The bookkeeping of a drill at a grant edge (R77, R78): the dwell begins, or a drill aborted meanwhile asks for the swap back. -/
def drillGrant (cause : Nat) (p : Pkg) : Pkg :=
  let ph := rd p .sw I_PKG.DRILL_PHASE
  let v := rd p .sw I_PKG.DRILL_VERDICT
  if cause = 9 ∧ ph = 1 then
    if v = 3 then p |> wr .sw I_PKG.DRILL_PHASE 3 |> acceptSwap (drilledLane p) 10
    else p |> wr .sw I_PKG.DRILL_PHASE 2 |> wr .sw I_PKG.DRILL_START (rd p .sw I_PKG.OPERATING_MS)
  else if cause = 10 ∧ ph = 3 then
    (if v = 1 then raise (drilledLane p).helm clsAuthority HG_EVENT.DRILL_PASS p else p) |> endDrill v
  else p

/-- A lane becomes ACTIVE at the grant edge that names it (R33, R37, R68, R431). -/
def gainActive (y : Side) (p : Pkg) : Pkg :=
  let d := y.helm
  let cause := rd p .sw I_PKG.SWO_CAUSE
  let swo := rd p .sw I_PKG.SWO_FROM != 0
  let unready := laneState p y == 2
  let p := { p with staged := p.staged.set y Stage.empty } |> wr d HG_STATUS.LANE_STATE 4 |> wr d LEAT_STATUS.SENDING 1 |> wr y.other.helm LEAT_STATUS.SENDING 0
    |> wr d I_LANE.RELEASE_CAUSE 0 |> wr d I_LANE.WRITE_PATH_LEFT 3 |> wr .sw I_PKG.SWO_FROM 0 |> wr .sw I_PKG.SWO_CAUSE 0
    |> wr d HG_STATUS.REVERT_PENDING 0 |> wr d HG_STATUS.HOLDOFF_LEFT 0 |> wr d I_LANE.HOLDOFF_MS 0
  if !swo then p
  else
    let p := p |> wr d HG_LAST_SWAP.CAUSE cause |> wr d HG_LAST_SWAP.GAINED 1 |> incSat d HG_LAST_SWAP.SWAP_COUNT
      |> logAt d (eventCode clsAuthority 0x10 38) (.words [cause])
    if 7 ≤ cause then
      let p := p |> raise d clsAuthority HG_EVENT.SWAP_DONE |> drillGrant cause
      if cause = 12 then
        p |> raise .sw clsInfo LYT_EVENT.HANDOVER |> wr .sw LYT_STATUS.PHASE 5 |> wr d I_LANE.LYT_RDY 0
          |> wr d I_LANE.RESTART_ALL 1
      else p |> wr d I_LANE.UPD_RDY 0
    else
      let p := p |> raise d clsAuthority HG_EVENT.TAKEOVER
        |> onlyIf unready (raise d clsAuthority HG_EVENT.TAKEOVER_UNREADY)
      if slotState p y = 1 ∨ slotState p y = 2 then failUpdate y 11 p else p

/-- What follows for the lanes when the arbiters' states have moved. -/
def authorityStep (p : Pkg) : Pkg :=
  let oa := rd p .pa HG_OWNER.OWNER
  let ob := rd p .pb HG_OWNER.OWNER
  let named (y : Side) : Bool := oa == y.num + 1 || ob == y.num + 1
  let lost (q : Pkg) : Pkg :=
    match activeLane q with
    | some x => if named x then q else loseActive x q
    | none => q
  let q := lost p
  match activeLane q with
  | some _ => q
  | none => if named .a then gainActive .a q else if named .b then gainActive .b q else q

/-- Each helm sees the level of the two lines; the lane that is not primary gives way to a claim that meets its own (R38). -/
def helmSees (x : Side) (p : Pkg) : Pkg :=
  let d := x.helm
  let own := lineLow p x
  let oth := lineLow p x.other
  let p := p |> wr d HG_STATUS.LINE_OWN (b2n own) |> wr d HG_STATUS.LINE_OTHER (b2n oth)
    |> onlyIf oth (fun q => q |> wr d I_LANE.WAIT_OTHER_LOW 0 |> keepArmed x)
  if own && oth && !(isPrimary p x) && flagI p .sw I_PKG.LINE_PULL x.num then
    p |> letGo x |> raise d clsInfo HG_EVENT.BOTH_LOW
  else p

/-- HEADGATE_LINE_CHANGE, the part in the package (R37, R38, R42, R44): the line takes its level, both helms and both arbiters
sample, authority follows. No sluice output changes. -/
def headgateLineChange (x : Side) (low : Bool) (p : Pkg) : Pkg :=
  p |> wrI .sw I_PKG.LINE_LOW x.num (b2n low) |> helmSees .a |> helmSees .b |> arbiterStep .a |> arbiterStep .b |> authorityStep

/-- CLAIM_ASSERT (R35, R62, R64). -/
def claimAssert (x : Side) (p : Pkg) : Pkg :=
  if flag p x.helm HG_STATUS.ARMED && !(claimBarred p x) && !(lineLow p x.other) then wrI .sw I_PKG.LINE_PULL x.num 1 p else p

/-- RELEASE (R63 cause code 1); ignored unless ACTIVE. -/
def release (x : Side) (p : Pkg) : Pkg := if isActive p x then laneFault x 1 p else p

/-- Audit payload of a pin change (R423). -/
def pinAudit (pin : Nat) (oldHigh newHigh : Bool) : Payload :=
  .audit (0xC1000000 + pin) (b2n oldHigh) (b2n newHigh) 0 2 pin 0 0

/-- LANE_INHIBIT_CHANGE (R41, R423). -/
def laneInhibitChange (x : Side) (low : Bool) (p : Pkg) : Pkg :=
  let old := inhibited p x
  if old = low then p
  else
    let d := x.helm
    let q := wrI .sw I_PKG.INHIBIT_LOW x.num (b2n low) p
    if running p d then
      q |> wr d HG_STATUS.INHIBIT (b2n low)
        |> onlyIf (low && isActive p x) (raise d clsInfo HG_EVENT.INHIBIT_HELD)
        |> onlyIf (low && !(isActive p x) && flagI p .sw I_PKG.LINE_PULL x.num) (letGo x)
        |> onlyIf low (holdoffZero x) |> onlyIf (!low) (keepArmed x)
        |> auditRec d 3 (1 + x.num) 0 0x10 (pinAudit (1 + x.num) (!old) (!low))
    else q

/-- SWAP_REQ_PIN (R66, R67, R76, R423): the debounced level of SWAP_REQ_N changes; a low level is one request. -/
def swapReqPin (low : Bool) (p : Pkg) : Pkg :=
  let old := flag p .sw I_PKG.SWAP_REQ_LOW
  if old = low then p
  else
    let q := wr .sw I_PKG.SWAP_REQ_LOW (b2n low) p
    let d := match activeLane p with | some x => x.helm | none => .ha
    let q := auditRec d 3 0 0 0x10 (pinAudit 0 (!old) (!low)) q
    match activeLane p with
    | some x => if low && flag p x.helm HG_CFG.SWAP_PIN_EN then requestSwap x 8 q else q
    | none => q

/-- The present tick is one at which a planned swap may release: it began at least 1 ms after the request was accepted and is
not the last tick of a vessel cycle (R65). A request is accepted inside a tick, less than 1 ms before the next one begins. -/
def swapTick (p : Pkg) (x : Side) : Bool :=
  decide (rd p x.helm I_LANE.SWAP_ACCEPTED + 2 ≤ rd p .sw I_PKG.OPERATING_MS) && !(lastTick p x)

/-- SWAP_RELEASE (R65, R66, R67, R56, R79): at the release point the active lane tests its partner again and releases or cancels. The swap
stays pending until the arbiters move. A drill whose swap out is cancelled here ends as aborted (DESIGN CHOICE, the log's entry on drills). -/
def swapRelease (x : Side) (p : Pkg) : Pkg :=
  let d := x.helm
  let cause := rd p d I_LANE.SWAP_CAUSE
  if cause = 0 ∨ rd p d I_LANE.RELEASE_CAUSE ≠ 0 ∨ !(isActive p x) ∨ !(swapTick p x) then p
  else if partnerFit p x cause then
    p |> letGo x |> wr d I_LANE.RELEASE_CAUSE cause |> wr d I_LANE.RESET_DUE (b2n (cause == 12))
      |> wr d I_LANE.PARTNER_READY (b2n (laneState p x.other == 3))
  else
      let q := p |> wr d I_LANE.SWAP_CAUSE 0 |> wr x.other.helm HG_STATUS.REVERT_PENDING 0 |> raise d clsWarning HG_EVENT.SWAP_REFUSED
      if cause = 9 then endDrill 3 q
      else if cause = 10 then strandDrill x.other q
      else q

/-- REVERSION (R72, R73): the primary lane in the standby role has held STANDBY_READY for REVERT_HOLDOFF and asks for the swap, which the
active lane accepts or refuses (R66). -/
def reversion (x : Side) (p : Pkg) : Pkg :=
  if isPrimary p x && laneState p x == 3 && isActive p x.other &&
      decide (rd p x.helm HG_POLICY.REVERT_HOLDOFF * 1000 ≤ rd p x.helm I_LANE.HOLDOFF_MS) && !(inhibited p x) &&
      !(drillInProgress p) && !(lytInProgress p) && !(updInProgress p) && !(flag p x.helm HG_STATUS.REVERT_PENDING) then
    p |> requestSwap x.other 11 |> onlyIf (swapAnswer p x.other 11 == .accepted) (wr x.helm HG_STATUS.REVERT_PENDING 1)
  else p

/-- A drill may start on the active lane (R76); a standby that is STANDBY_READY but not armed is answered DRILL_REFUSED too (DESIGN CHOICE,
the log's entry on drills). -/
def drillMayStart (p : Pkg) (x : Side) : Bool :=
  !(drillInProgress p) && !(lytInProgress p) && !(updInProgress p) && !(swapPending p) && partnerFit p x 9

/-- Begin the drill: the swap out, cause code 9. -/
def drillStart (x : Side) (p : Pkg) : Pkg :=
  p |> acceptSwap x 9 |> wr .sw I_PKG.DRILL_PHASE 1 |> wr .sw I_PKG.DRILLED_B x.other.num |> wr .sw I_PKG.DRILL_VERDICT 0
    |> wr .ha HG_STATUS.DRILL_ACTIVE 1 |> wr .hb HG_STATUS.DRILL_ACTIVE 1 |> holdoffsZero

/-- DRILL_ABORT in the lanes (R78): while the swap out is pending it is cancelled; once the line has been released, or control has moved,
control returns without a verdict; while the swap back is pending the drill loses its pass. A drill that has failed keeps its verdict
(DESIGN CHOICE, the log's entry on drills). -/
def drillAbortLane (p : Pkg) : Pkg :=
  let x := drilledLane p
  let log (d : Die) (q : Pkg) : Pkg := logOpen d clsInfo 0x10 1 .unstated q
  let v := rd p .sw I_PKG.DRILL_VERDICT
  match rd p .sw I_PKG.DRILL_PHASE with
  | 1 =>
    if drillOut p then (if v = 3 then p else p |> wr .sw I_PKG.DRILL_VERDICT 3 |> log x.other.helm)
    else p |> wr x.other.helm I_LANE.SWAP_CAUSE 0 |> log x.other.helm |> endDrill 3
  | 2 => p |> wr .sw I_PKG.DRILL_PHASE 3 |> wr .sw I_PKG.DRILL_VERDICT 3 |> acceptSwap x 10 |> log x.helm
  | 3 => if v = 1 then p |> wr .sw I_PKG.DRILL_VERDICT 3 |> log x.helm else p
  | _ => p

/-- DRILL_DWELL_END (R77): the dwell has passed with every comparison holding. -/
def drillDwellEnd (p : Pkg) : Pkg :=
  let x := drilledLane p
  if rd p .sw I_PKG.DRILL_PHASE = 2 ∧
      rd p .sw I_PKG.DRILL_START + rd p x.helm HG_POLICY2.DRILL_DWELL * 1000 ≤ rd p .sw I_PKG.OPERATING_MS then
    p |> wr .sw I_PKG.DRILL_PHASE 3 |> wr .sw I_PKG.DRILL_VERDICT 1 |> acceptSwap x 10
  else p

/-- A comparison of the dwell failed (R77 step 4): at the first, the drill fails, the verdict is recorded and the return swap is
scheduled; each failure is logged with the port die, the output, the kind of failure, the value written and the read-back. -/
def drillMiss (y : Side) (out kind written back : Nat) (p : Pkg) : Pkg :=
  let x := drilledLane p
  let ph := rd p .sw I_PKG.DRILL_PHASE
  if ph = 2 ∨ (ph = 3 ∧ rd p .sw I_PKG.DRILL_VERDICT = 2) then
    let q := if ph = 2 then p |> failDrill |> wr .sw I_PKG.DRILL_PHASE 3 |> acceptSwap x 10 else p
    logOpen x.helm clsWarning 0x10 2 (.words [y.port.num, out, kind, written, back]) q
  else p

/-- FAULT_HISTORY_AGE (R71): releases that have left the window no longer count. -/
def faultHistoryAge (x : Side) (p : Pkg) : Pkg :=
  let l := recentFaults p x
  { p with faultTimes := p.faultTimes.set x l } |> wr x.helm HG_LOCKOUT.FAULT_SWAPS (min l.length 15)

/-- A port die that runs holds the session key of an open session (R399). -/
def dieHolds (p : Pkg) (y : Side) (slot : Nat) : Bool := running p y.port && flagI p y.port I_HST.OPEN slot

/-- A session of a slot is open: the dispatchers' keys outlast the steward (R440). -/
def sessionOpen (p : Pkg) (slot : Nat) : Bool := decide (slot < 8) && (dieHolds p .a slot || dieHolds p .b slot)

/-- The role of an open session. -/
def sessionRole (p : Pkg) (slot : Nat) : Nat := if dieHolds p .a slot then rdI p .pa I_HST.ROLE slot else rdI p .pb I_HST.ROLE slot

/-- A session of a slot is open and holds at least a role (R402). -/
def sessionHolds (p : Pkg) (slot least : Nat) : Bool := sessionOpen p slot && decide (least ≤ sessionRole p slot)

/-- CLEAR (R71): an ENGINEER session ends the lockout and clears the fault history. -/
def clearLockout (slot : Nat) (x : Side) (p : Pkg) : Pkg :=
  if sessionHolds p slot 2 then
    { p with faultTimes := p.faultTimes.set x [] } |> wr x.helm HG_LOCKOUT.LOCKED 0 |> wr x.helm HG_LOCKOUT.FAULT_SWAPS 0
      |> onlyIf (laneState p x == 5) (wr x.helm HG_STATUS.LANE_STATE 2)
  else p

/-- CLEAR_DRILL (R80): an ENGINEER session clears the DRILL_FAIL mark. -/
def clearDrill (slot : Nat) (x : Side) (p : Pkg) : Pkg :=
  if sessionHolds p slot 2 then wr x.helm HG_STATUS.DRILL_FAIL 0 p else p

/-- STANDBY_READY (R54, R60, R430 step 5, R462): a lane in the standby role with every condition met. -/
def standbyReady (x : Side) (p : Pkg) : Pkg :=
  let d := x.helm
  if laneState p x = 2 ∧ readyGained p x then
    let q := p |> wr d HG_STATUS.LANE_STATE 3 |> wr d HG_STATUS.MISS_LIMIT 0 |> wr d I_LANE.HOLDOFF_MS 0
      |> raise d clsInfo HG_EVENT.READY_GAINED
    let q := arm x q
    let q := if rd q .sw LYT_STATUS.PHASE = 5 ∧ sideOf (rd q .sw LYT_STATUS.TARGET_B) = x.other then
        q |> wr .sw LYT_STATUS.PHASE 0 |> raise .sw clsInfo LYT_EVENT.DONE
      else q
    if slotState q x = 4 then
      q |> wr .sw UPD_STATUS.NO_REDUNDANCY 0 |> wr .sw UPD_STATUS.UPD_READY 1 |> raise .sw clsInfo UPD_EVENT.READY
    else q
  else p

/-- READY_LOST (R55, R79). -/
def readyLost (x : Side) (p : Pkg) : Pkg :=
  if laneState p x = 3 ∧ (!(readyHeld p x) ∨ flag p x.helm HG_STATUS.MISS_LIMIT ∨ 2 ≤ rd p x.helm I_LANE.CYCLE_MISS_RUN) then
    dropReady x p
  else p

/-- HANDSHAKE (R54, R58): the lane compares the partner's layout hash, determinism class and paired-field hash with its own. -/
def handshake (x : Side) (p : Pkg) : Pkg :=
  let d := x.helm
  let e := x.other.helm
  if flag p d LEAT_STATUS.UP && running p e && !(laneState p x.other == 0) then
    p |> wr d I_LANE.PARTNER_STATE (laneState p x.other)
      |> wr d HG_STATUS.LAYOUT_DIFF (b2n (rd p d I_LANE.LAYOUT_HASH != rd p e I_LANE.LAYOUT_HASH))
      |> wr d HG_STATUS.FW_INCOMPAT (b2n (rd p d I_LANE.DET_CLASS != rd p e I_LANE.DET_CLASS))
      |> wr d HG_STATUS.PAIR_DIFF (b2n (rd p d HG_PAIR_HASH.HASH != rd p e HG_PAIR_HASH.HASH))
      |> checkReady x |> keepArmed x
  else p

/-- How many of the low `n` bits of a word are 1. -/
def popcount (v : Nat) : Nat → Nat
  | 0 => 0
  | n + 1 => popcount v n + (if v.testBit n then 1 else 0)

/-- The comparison of a tick digest (R53, R54, R55): clean or mismatching, over the last 1,000 compared ticks. -/
def tickCompared (x : Side) (clean : Bool) (da db : Nat) (p : Pkg) : Pkg :=
  let d := x.helm
  let hist := trunc 1000 (rd p d I_LANE.CMP_HISTORY * 2 + b2n (!clean))
  let win := popcount hist 1000
  let p := p |> wr d I_LANE.CMP_HISTORY hist |> wr d HG_CMP.MISS_WINDOW (min win 255)
  if clean then p |> incSat d HG_CMP.CLEAN_RUN |> wr d HG_CMP.MISS_RUN 0
  else
    let q := p |> incSat d HG_CMP.MISS_RUN |> wr d HG_CMP.CLEAN_RUN 0 |> inc d HG_TICK_MISMATCH.COUNT
      |> logAt d (eventCode clsWarning 0x10 37) (.words [da, db])
    if rd q d HG_POLICY.DIGEST_MISS_LIMIT ≤ rd q d HG_CMP.MISS_RUN ∨ 16 ≤ win then
      q |> wr d HG_STATUS.MISS_LIMIT 1 |> wr d I_LANE.LIMIT_AGE 0 |> dropReady x |> keepArmed x
    else q

/-- An engine that one lane has retired waits for its mirror in the other: cycle-digest mismatches are excused (R59). -/
def mirrorDue (p : Pkg) : Bool := bothSides.any (fun x => rdI p .sw I_PKG.MIRROR x.num != 0)

/-- The comparison of a cycle digest (R53, R54 condition 5, R55, R59). -/
def cycleCompared (x : Side) (clean : Bool) (da db : Nat) (p : Pkg) : Pkg :=
  let d := x.helm
  if clean then wr d I_LANE.CYCLE_MISS_RUN 0 p
  else
    let q := p |> inc d HG_CYCLE_MISMATCH.COUNT |> logAt d (eventCode clsWarning 0x10 37) (.words [da, db])
    if mirrorDue p then q
    else
      let q := q |> incSat d I_LANE.CYCLE_MISS_RUN |> wr d HG_CMP.CLEAN_RUN 0
      if 2 ≤ rd q d I_LANE.CYCLE_MISS_RUN then q |> wr d HG_STATUS.MISS_LIMIT 1 |> wr d I_LANE.LIMIT_AGE 0 |> dropReady x |> keepArmed x
      else q

/-- DIGEST_RECEIVE (R53): the standby compares the active lane's digest with its own for the same tick or cycle. A lane whose
class differs under an update, or that is restructured, compares nothing (R430, Table 18-6). -/
def digestReceive (x : Side) (cycle : Bool) (p : Pkg) : Pkg :=
  let d := x.helm
  let e := x.other.helm
  if (laneState p x = 2 ∨ laneState p x = 3 ∨ laneState p x = 5) ∧ isActive p x.other ∧ ¬ flag p d HG_STATUS.FW_INCOMPAT ∧
      ¬ flag p d HG_STATUS.LAYOUT_DIFF then
    if cycle then
      if flag p d I_LANE.CYCLE_DIGEST_VALID && flag p e I_LANE.CYCLE_DIGEST_VALID then
        let da := rd p e I_LANE.CYCLE_DIGEST
        let db := rd p d I_LANE.CYCLE_DIGEST
        p |> wr d I_LANE.CYCLE_DIGEST_VALID 0 |> cycleCompared x (da == db) da db
      else p
    else if flag p d I_LANE.TICK_DIGEST_VALID && flag p e I_LANE.TICK_DIGEST_VALID && flag p d I_LANE.TICK_COPY_APPLIED then
      let da := rd p e I_LANE.TICK_DIGEST
      let db := rd p d I_LANE.TICK_DIGEST
      p |> wr d I_LANE.TICK_DIGEST_VALID 0 |> tickCompared x (da == db) da db
    else p
  else p

/-- LOCKSTEP_MISMATCH (R63 cause code 2, R70). -/
def lockstepMismatch (x : Side) (p : Pkg) : Pkg := laneFault x 2 p

/-- TICK_DONE_TIMEOUT (R63 cause code 3): a tick passes without its strobe; the second in a row is the fault. -/
def tickDoneTimeout (x : Side) (p : Pkg) : Pkg :=
  let d := x.helm
  if flag p d I_LANE.TICK_DONE then p
  else
    let q := p |> incSat d I_LANE.MISSED_TICKS |> wr d I_LANE.TICKS_RUN 0 |> keepArmed x
    if 2 ≤ rd q d I_LANE.MISSED_TICKS then laneFault x 3 q else q

/-! The commands of the table: one meaning each. -/

/-- CLAIM_ASSERT (R35). -/
def execClaimAssert (x : Side) (s : State) : Host.Outcome State Fault Refusal := nextPk s (claimAssert x)

/-- LANE_INHIBIT_CHANGE (R41). -/
def execLaneInhibitChange (x : Side) (low : Bool) (s : State) : Host.Outcome State Fault Refusal := nextPk s (laneInhibitChange x low)

/-- DIGEST_RECEIVE (R53). -/
def execDigestReceive (x : Side) (cycle : Bool) (s : State) : Host.Outcome State Fault Refusal := nextPk s (digestReceive x cycle)

/-- STANDBY_READY (R54). -/
def execStandbyReady (x : Side) (s : State) : Host.Outcome State Fault Refusal := nextPk s (standbyReady x)

/-- READY_LOST (R55). -/
def execReadyLost (x : Side) (s : State) : Host.Outcome State Fault Refusal := nextPk s (readyLost x)

/-- HANDSHAKE (R58). -/
def execHandshake (x : Side) (s : State) : Host.Outcome State Fault Refusal := nextPk s (handshake x)

/-- RELEASE (R63). -/
def execRelease (x : Side) (s : State) : Host.Outcome State Fault Refusal := nextPk s (release x)

/-- ARM (R61). -/
def execArm (x : Side) (s : State) : Host.Outcome State Fault Refusal := nextPk s (arm x)

/-- DISARM (R35). -/
def execDisarm (x : Side) (s : State) : Host.Outcome State Fault Refusal := nextPk s (disarm x)

/-- LOCKSTEP_MISMATCH (R63). -/
def execLockstepMismatch (x : Side) (s : State) : Host.Outcome State Fault Refusal := nextPk s (lockstepMismatch x)

/-- TICK_DONE_TIMEOUT (R63). -/
def execTickDoneTimeout (x : Side) (s : State) : Host.Outcome State Fault Refusal := nextPk s (tickDoneTimeout x)

/-- FAULT_HISTORY_AGE (R71). -/
def execFaultHistoryAge (x : Side) (s : State) : Host.Outcome State Fault Refusal := nextPk s (faultHistoryAge x)

/-- CLEAR (R71). -/
def execClearLockout (slot : Nat) (x : Side) (s : State) : Host.Outcome State Fault Refusal := nextPk s (clearLockout slot x)

/-- CLEAR_DRILL (R80). -/
def execClearDrill (slot : Nat) (x : Side) (s : State) : Host.Outcome State Fault Refusal := nextPk s (clearDrill slot x)

/-- SWAP_REQ_PIN (R66). -/
def execSwapReqPin (low : Bool) (s : State) : Host.Outcome State Fault Refusal := nextPk s (swapReqPin low)

/-- SWAP_RELEASE (R65). -/
def execSwapRelease (x : Side) (s : State) : Host.Outcome State Fault Refusal := nextPk s (swapRelease x)

/-- REVERSION (R72). -/
def execReversion (x : Side) (s : State) : Host.Outcome State Fault Refusal := nextPk s (reversion x)

/-- DRILL_DWELL_END (R77). -/
def execDrillDwellEnd (s : State) : Host.Outcome State Fault Refusal := nextPk s drillDwellEnd

end Sys2Proof.Machine
end

