-- ==== Sys2Proof/Machine/Float.lean ====
section
/-! DEFINITION. IEEE 754 binary64 and binary32 on bit patterns, by exact integer arithmetic and one rounding, to nearest with
ties to even. The chapters state their arithmetic in binary64 (spec/03 R94, R109; spec/04; spec/06 R180; spec/08). -/

namespace Sys2Proof.Machine

/-- A binary format: precision `p` and exponent width `e`. -/
structure Fmt where
  p : Nat
  e : Nat
  deriving DecidableEq, Repr

/-- binary64. -/
def b64 : Fmt := ⟨53, 11⟩

/-- binary32. -/
def b32 : Fmt := ⟨24, 8⟩

/-- The exponent of the unit in the last place of the smallest numbers of the format. -/
def Fmt.emin (f : Fmt) : Int := 3 - ((2 ^ (f.e - 1) : Nat) : Int) - (f.p : Int)

/-- The greatest biased exponent: infinities and NaNs. -/
def Fmt.top (f : Fmt) : Nat := 2 ^ f.e - 1

/-- The sign bit's weight. -/
def Fmt.signBit (f : Fmt) : Nat := 2 ^ (f.p - 1 + f.e)

/-- An infinity. -/
def Fmt.inf (f : Fmt) (s : Bool) : Nat := b2n s * f.signBit + f.top * 2 ^ (f.p - 1)

/-- The quiet NaN that operations answer. -/
def Fmt.nan (f : Fmt) : Nat := f.top * 2 ^ (f.p - 1) + 2 ^ (f.p - 2)

/-- A number taken apart: a NaN, an infinity, or `± m × 2^q`. -/
inductive Num
  | nan
  | inf (s : Bool)
  | fin (s : Bool) (m : Nat) (q : Int)
  deriving DecidableEq, Repr

/-- Take a bit pattern apart. -/
def Fmt.split (f : Fmt) (x : Nat) : Num :=
  let s := decide (x / f.signBit % 2 = 1)
  let be := x / 2 ^ (f.p - 1) % 2 ^ f.e
  let fr := x % 2 ^ (f.p - 1)
  if be = f.top then (if fr = 0 then .inf s else .nan)
  else if be = 0 then .fin s fr f.emin
  else .fin s (fr + 2 ^ (f.p - 1)) (f.emin + (be : Int) - 1)

/-- Round `± (m × 2^q)`, with `sticky` when a little more than `m` is meant, to the format: nearest, ties to even. -/
def Fmt.round (f : Fmt) (s : Bool) (m : Nat) (q : Int) (sticky : Bool) : Nat :=
  if m = 0 then b2n s * f.signBit
  else
    let len : Int := (Nat.log2 m : Int) + 1
    let t := max (q + len - (f.p : Int)) f.emin
    let mant :=
      if t ≤ q then m * 2 ^ (q - t).toNat
      else
        let sh := (t - q).toNat
        let d := m / 2 ^ sh
        let r := m % 2 ^ sh
        let half := 2 ^ (sh - 1)
        if r < half then d
        else if half < r || sticky then d + 1
        else if d % 2 = 0 then d else d + 1
    let body := if mant < 2 ^ (f.p - 1) then mant else (t - f.emin + 1).toNat * 2 ^ (f.p - 1) + (mant - 2 ^ (f.p - 1))
    if f.top * 2 ^ (f.p - 1) ≤ body then f.inf s else b2n s * f.signBit + body

/-- The sign and magnitude of an integer sum of two signed multiples of `2^q`, rounded; an exact zero takes the sign given. -/
def Fmt.ofInt2 (f : Fmt) (v : Int) (q : Int) (zeroSign : Bool) : Nat :=
  if v = 0 then b2n zeroSign * f.signBit else f.round (decide (v < 0)) v.natAbs q false

/-- A signed mantissa. -/
def sgnMant (s : Bool) (m : Nat) : Int := if s then -(m : Int) else (m : Int)

/-- Addition. -/
def Fmt.add (f : Fmt) (x y : Nat) : Nat :=
  match f.split x, f.split y with
  | .nan, _ => f.nan
  | _, .nan => f.nan
  | .inf s, .inf t => if s = t then f.inf s else f.nan
  | .inf s, .fin _ _ _ => f.inf s
  | .fin _ _ _, .inf t => f.inf t
  | .fin s m q, .fin t n r =>
    let l := min q r
    let v := sgnMant s m * ((2 ^ (q - l).toNat : Nat) : Int) + sgnMant t n * ((2 ^ (r - l).toNat : Nat) : Int)
    f.ofInt2 v l (s && t)

/-- Negation: the sign bit flips. -/
def Fmt.neg (f : Fmt) (x : Nat) : Nat := if x / f.signBit % 2 = 1 then x - f.signBit else x + f.signBit

/-- Magnitude: the sign bit is 0. -/
def Fmt.abs (f : Fmt) (x : Nat) : Nat := x % f.signBit

/-- Subtraction. -/
def Fmt.sub (f : Fmt) (x y : Nat) : Nat := f.add x (f.neg y)

/-- Multiplication. -/
def Fmt.mul (f : Fmt) (x y : Nat) : Nat :=
  match f.split x, f.split y with
  | .nan, _ => f.nan
  | _, .nan => f.nan
  | .inf s, .inf t => f.inf (s != t)
  | .inf s, .fin t n _ => if n = 0 then f.nan else f.inf (s != t)
  | .fin s m _, .inf t => if m = 0 then f.nan else f.inf (s != t)
  | .fin s m q, .fin t n r => f.round (s != t) (m * n) (q + r) false

/-- Fused multiply-add `x × y + z` with one rounding. -/
def Fmt.fma (f : Fmt) (x y z : Nat) : Nat :=
  match f.split x, f.split y, f.split z with
  | .fin s m q, .fin t n r, .fin u k w =>
    let e := q + r
    let l := min e w
    let v := sgnMant (s != t) (m * n) * ((2 ^ (e - l).toNat : Nat) : Int) + sgnMant u k * ((2 ^ (w - l).toNat : Nat) : Int)
    f.ofInt2 v l ((s != t) && u)
  | .fin _ _ _, .fin _ _ _, c => (match c with | .inf u => f.inf u | _ => f.nan)
  | _, _, _ => f.add (f.mul x y) z

/-- Division. -/
def Fmt.div (f : Fmt) (x y : Nat) : Nat :=
  match f.split x, f.split y with
  | .nan, _ => f.nan
  | _, .nan => f.nan
  | .inf _, .inf _ => f.nan
  | .inf s, .fin t _ _ => f.inf (s != t)
  | .fin s _ _, .inf t => b2n (s != t) * f.signBit
  | .fin s m q, .fin t n r =>
    if n = 0 then (if m = 0 then f.nan else f.inf (s != t))
    else
      let sh := 2 * f.p + 4
      let a := m * 2 ^ sh
      f.round (s != t) (a / n) (q - r - (sh : Int)) (a % n != 0)

/-- Integer square root of a number below `2 ^ (2 n)`, a bit a step. -/
def isqrtStep (x : Nat) : Nat → Nat → Nat
  | 0, r => r
  | n + 1, r => let c := r + 2 ^ n; isqrtStep x n (if c * c ≤ x then c else r)

/-- Integer square root. -/
def isqrt (x : Nat) : Nat := isqrtStep x (Nat.log2 x / 2 + 1) 0

/-- Square root. -/
def Fmt.sqrt (f : Fmt) (x : Nat) : Nat :=
  match f.split x with
  | .nan => f.nan
  | .inf s => if s then f.nan else f.inf false
  | .fin s m q =>
    if m = 0 then x
    else if s then f.nan
    else
      let sh : Nat := 2 * f.p + 4 + (if q % 2 = 0 then 0 else 1)
      let a := m * 2 ^ sh
      let r := isqrt a
      f.round false r ((q - (sh : Int)) / 2) (r * r != a)

/-- A NaN. -/
def Fmt.isNan (f : Fmt) (x : Nat) : Bool := match f.split x with | .nan => true | _ => false

/-- Neither an infinity nor a NaN. -/
def Fmt.finite (f : Fmt) (x : Nat) : Bool := match f.split x with | .fin _ _ _ => true | _ => false

/-- The order key of a number that is no NaN: the pattern's magnitude, with its sign. -/
def Fmt.key (f : Fmt) (x : Nat) : Int := sgnMant (decide (x / f.signBit % 2 = 1)) (x % f.signBit)

/-- Less than; false with a NaN. -/
def Fmt.lt (f : Fmt) (x y : Nat) : Bool := !(f.isNan x) && !(f.isNan y) && decide (f.key x < f.key y)

/-- Less than or equal; false with a NaN. -/
def Fmt.le (f : Fmt) (x y : Nat) : Bool := !(f.isNan x) && !(f.isNan y) && decide (f.key x ≤ f.key y)

/-- The smaller of two; the second where they compare equal or one is a NaN. -/
def Fmt.min (f : Fmt) (x y : Nat) : Nat := if f.lt x y then x else y

/-- The greater of two; the second where they compare equal or one is a NaN. -/
def Fmt.max (f : Fmt) (x y : Nat) : Nat := if f.lt y x then x else y

/-- Hold to a closed range. -/
def Fmt.clamp (f : Fmt) (x lo hi : Nat) : Nat := if f.lt x lo then lo else if f.lt hi x then hi else x

/-- The nearest number to an integer. -/
def Fmt.ofInt (f : Fmt) (v : Int) : Nat := f.ofInt2 v 0 false

/-- The nearest number to a quotient of integers. -/
def Fmt.ofRat (f : Fmt) (a : Int) (b : Nat) : Nat :=
  if a = 0 then 0
  else
    let sh := 2 * f.p + 4 + Nat.log2 b
    let n := a.natAbs * 2 ^ sh
    f.round (decide (a < 0)) (n / b) (-(sh : Int)) (n % b != 0)

/-- A number rounded to the nearest integer, ties to even; 0 for what is not finite. -/
def Fmt.toInt (f : Fmt) (x : Nat) : Int :=
  match f.split x with
  | .fin s m q =>
    if 0 ≤ q then sgnMant s (m * 2 ^ q.toNat) else divRne (sgnMant s m) (2 ^ (-q).toNat)
  | _ => 0

/-- A number rounded down to an integer; 0 for what is not finite. -/
def Fmt.floor (f : Fmt) (x : Nat) : Int :=
  match f.split x with
  | .fin s m q =>
    if 0 ≤ q then sgnMant s (m * 2 ^ q.toNat) else sgnMant s m / ((2 ^ (-q).toNat : Nat) : Int)
  | _ => 0

/-- A number rounded to an integer in the format, ties to even; what is not finite stays. -/
def Fmt.rint (f : Fmt) (x : Nat) : Nat :=
  match f.split x with
  | .fin s _ q => if 0 ≤ q then x else f.ofInt2 (f.toInt x) 0 s
  | .inf _ => x
  | .nan => f.nan

/-- From one format to another, rounded. -/
def Fmt.convert (f g : Fmt) (x : Nat) : Nat :=
  match f.split x with
  | .nan => g.nan
  | .inf s => g.inf s
  | .fin s m q => g.round s m q false

/-- binary32 to binary64: exact. -/
def f32to64 (x : Nat) : Nat := b32.convert b64 x

/-- binary64 to binary32. -/
def f64to32 (x : Nat) : Nat := b64.convert b32 x

/-- Addition in binary64. -/
def fadd (x y : Nat) : Nat := b64.add x y
/-- Subtraction in binary64. -/
def fsub (x y : Nat) : Nat := b64.sub x y
/-- Multiplication in binary64. -/
def fmul (x y : Nat) : Nat := b64.mul x y
/-- Division in binary64. -/
def fdiv (x y : Nat) : Nat := b64.div x y
/-- Negation in binary64. -/
def fneg (x : Nat) : Nat := b64.neg x
/-- Magnitude in binary64. -/
def fabs (x : Nat) : Nat := b64.abs x
/-- Square root in binary64. -/
def fsqrt (x : Nat) : Nat := b64.sqrt x
/-- Less than in binary64. -/
def flt (x y : Nat) : Bool := b64.lt x y
/-- Less than or equal in binary64. -/
def fle (x y : Nat) : Bool := b64.le x y
/-- An integer in binary64. -/
def fint (v : Int) : Nat := b64.ofInt v
/-- A quotient of integers in binary64. -/
def frat (a : Int) (b : Nat) : Nat := b64.ofRat a b
/-- 1.0. -/
def fone : Nat := 0x3FF0000000000000
/-- 2.0. -/
def ftwo : Nat := 0x4000000000000000
/-- 0.5. -/
def fhalf : Nat := 0x3FE0000000000000
/-- The binary64 number nearest to pi. -/
def fpi : Nat := 0x400921FB54442D18
/-- Sum of a list, in order, from 0. -/
def fsum (l : List Nat) : Nat := l.foldl fadd 0

end Sys2Proof.Machine
end

