-- ==== Sys2Proof/Machine/Matrix.lean ====
section
/-! DEFINITION. Vectors and matrices of binary64 patterns, angles, quaternions. Sums run in ascending index from 0. -/

namespace Sys2Proof.Machine

/-- An element of a vector; 0 outside it. -/
def vget (l : List Nat) (i : Nat) : Nat := l.getD i 0

/-- Sum of products, in ascending order. -/
def vdot (a b : List Nat) : Nat := (List.zipWith fmul a b).foldl fadd 0

/-- Sum of two vectors. -/
def vadd (a b : List Nat) : List Nat := List.zipWith fadd a b

/-- Difference of two vectors. -/
def vsub (a b : List Nat) : List Nat := List.zipWith fsub a b

/-- A vector times a number. -/
def vscale (k : Nat) (a : List Nat) : List Nat := a.map (fmul k)

/-- A matrix times a vector. -/
def mvec (m : List (List Nat)) (v : List Nat) : List Nat := m.map (fun r => vdot r v)

/-- The transpose of a matrix with `n` columns. -/
def mtrans (n : Nat) (m : List (List Nat)) : List (List Nat) := (List.range n).map (fun j => m.map (fun r => vget r j))

/-- Product of matrices; `n` columns of the second. -/
def mmul (n : Nat) (a b : List (List Nat)) : List (List Nat) :=
  let t := mtrans n b
  a.map (fun r => t.map (fun c => vdot r c))

/-- Sum of matrices. -/
def madd (a b : List (List Nat)) : List (List Nat) := List.zipWith vadd a b

/-- A matrix times a number. -/
def mscale (k : Nat) (a : List (List Nat)) : List (List Nat) := a.map (vscale k)

/-- The matrix with an entry function. -/
def mgen (r c : Nat) (f : Nat → Nat → Nat) : List (List Nat) := (List.range r).map (fun i => (List.range c).map (f i))

/-- An element of a matrix. -/
def mget (m : List (List Nat)) (i j : Nat) : Nat := vget (m.getD i []) j

/-- The identity. -/
def mone (n : Nat) : List (List Nat) := mgen n n (fun i j => if i = j then fone else 0)

/-- Determinant of a 3 by 3 matrix. -/
def det3 (m : List (List Nat)) : Nat :=
  let c (i j k l : Nat) := fsub (fmul (mget m 1 i) (mget m 2 j)) (fmul (mget m 1 k) (mget m 2 l))
  fadd (fsub (fmul (mget m 0 0) (c 1 2 2 1)) (fmul (mget m 0 1) (c 0 2 2 0))) (fmul (mget m 0 2) (c 0 1 1 0))

/-- Inverse of a 3 by 3 matrix by its adjugate. -/
def inv3 (m : List (List Nat)) : List (List Nat) :=
  let d := det3 m
  let cof (i j : Nat) : Nat :=
    let a := (i + 1) % 3
    let b := (i + 2) % 3
    let u := (j + 1) % 3
    let v := (j + 2) % 3
    fsub (fmul (mget m a u) (mget m b v)) (fmul (mget m a v) (mget m b u))
  mgen 3 3 (fun i j => fdiv (cof j i) d)

/-- Nine numbers as a 3 by 3 matrix. -/
def mat3 (l : List Nat) : List (List Nat) := mgen 3 3 (fun i j => vget l (3 * i + j))

/-- 180 in binary64. -/
def f180 : Nat := fint 180

/-- 360 in binary64. -/
def f360 : Nat := fint 360

/-- Degrees to radians. -/
def toRad (x : Nat) : Nat := fdiv (fmul x fpi) f180

/-- Radians to degrees. -/
def toDeg (x : Nat) : Nat := fdiv (fmul x f180) fpi

/-- An angle wrapped to [0, `full`); a rounding up to the full turn is 0. -/
def wrapTo (full x : Nat) : Nat :=
  let w := fsub x (fmul full (fint (b64.floor (fdiv x full))))
  if fle full w then 0 else w

/-- Degrees wrapped to [0, 360) (R103). -/
def wrap360 (x : Nat) : Nat := wrapTo f360 x

/-- Degrees wrapped to (-180, 180] (R103). -/
def wrap180 (x : Nat) : Nat :=
  let w := wrap360 x
  if flt f180 w then fsub w f360 else w

/-- Radians wrapped to [0, 2 pi). -/
def wrapTwoPi (x : Nat) : Nat := wrapTo (fmul ftwo fpi) x

/-- Radians wrapped to (-pi, pi]. -/
def wrapPi (x : Nat) : Nat :=
  let w := wrapTwoPi x
  if flt fpi w then fsub w (fmul ftwo fpi) else w

/-- Product of two quaternions (w, x, y, z). -/
def qmul (p q : List Nat) : List Nat :=
  let a i := vget p i
  let b i := vget q i
  let m i j := fmul (a i) (b j)
  [ fsub (fsub (fsub (m 0 0) (m 1 1)) (m 2 2)) (m 3 3)
  , fsub (fadd (fadd (m 0 1) (m 1 0)) (m 2 3)) (m 3 2)
  , fadd (fadd (fsub (m 0 2) (m 1 3)) (m 2 0)) (m 3 1)
  , fadd (fsub (fadd (m 0 3) (m 1 2)) (m 2 1)) (m 3 0) ]

/-- Cross product, each component in the order of its textbook expansion (R109). -/
def vcross (a b : List Nat) : List Nat :=
  let c i j := fsub (fmul (vget a i) (vget b j)) (fmul (vget a j) (vget b i))
  [c 1 2, c 2 0, c 0 1]

/-- A quaternion rotation unit (R109): t = 2 (u × v), v' = v + w t + u × t. -/
def qrot (q v : List Nat) : List Nat :=
  let u := [vget q 1, vget q 2, vget q 3]
  let t := vscale ftwo (vcross u v)
  vadd (vadd v (vscale (vget q 0) t)) (vcross u t)

/-- Attitude q_nb = q_z(heading) q_y(pitch) q_x(roll), angles in degrees. -/
def attitudeQ (roll pitch heading : Nat) : List Nat :=
  let h x := fmul (toRad x) fhalf
  let s x := Config.fsin (h x)
  let c x := Config.fcos (h x)
  qmul (qmul [c heading, 0, 0, s heading] [c pitch, 0, s pitch, 0]) [c roll, s roll, 0, 0]

/-- Yaw of a quaternion in degrees (Table 03-4). -/
def quatYaw (q : List Nat) : Nat :=
  let w := vget q 0
  let x := vget q 1
  let y := vget q 2
  let z := vget q 3
  toDeg (Config.fatan2 (fmul ftwo (fadd (fmul w z) (fmul x y)))
    (fsub fone (fmul ftwo (fadd (fmul y y) (fmul z z)))))

/-- Piecewise-linear lookup inside a table of points in rising order of the argument; beyond its last point the value is open. -/
def tableIn : List (Nat × Nat) → Nat → Nat → Nat
  | [], o, _ => o
  | [(x0, y0)], o, x => if fle x x0 then y0 else o
  | (x0, y0) :: (x1, y1) :: r, o, x =>
    if fle x x0 then y0
    else if fle x x1 then fadd y0 (fmul (fsub y1 y0) (fdiv (fsub x x0) (fsub x1 x0)))
    else tableIn ((x1, y1) :: r) o x

/-- Piecewise-linear lookup: beyond its ends the spec states no value, which is a free one. -/
def tableAt (t : List (Nat × Nat)) (x : Nat) : Nat :=
  let o := Config.tableBeyond t x
  match t with
  | [] => o
  | (x0, _) :: _ => if flt x x0 then o else tableIn t o x

end Sys2Proof.Machine
end

