-- ==== Sys2Proof/Machine/Estimator.lean ====
section
/-! DEFINITION. Chapter 04: the estimator's process model, its measurement scalars, the update, and what it reports. -/

namespace Sys2Proof.Machine

/-- A settings field in binary32, widened. -/
def f32 (p : Pkg) (d : Die) (F : Fld) (i : Nat) : Nat := f32to64 (rdI p d F i)

/-- A field in tenths, hundredths and the like. -/
def fq (p : Pkg) (d : Die) (F : Fld) (den : Nat) : Nat := frat (rd p d F) den

/-- The settings in force now, as a frame keeps them (R130). -/
def frameSet (p : Pkg) (x : Side) : FrameSet :=
  let d := x.helm
  ⟨fq p d EST_GATE.GATE 10, fint (rd p d EST_BIAS_TC.T_B), fq p d EST_WAVE.ZETA 100, (List.range 24).map (rdI p d EST_Q.V),
    rd p d EST_GNSS.ELEV_MASK, rd p d CFL_EXTRAP_MAX.EXTRAP_MAX * 1000000⟩

/-- What the estimator's process model takes from the layout and the settings (R116). -/
structure EstModel where
  minv : List (List Nat)
  damp : List (List Nat)
  biasTc : Nat
  zeta : Nat
  q : List Nat

/-- The model of a vessel under a frame's settings. -/
def estModel (l : Layout) (f : FrameSet) : EstModel :=
  { minv := inv3 (mat3 l.mass), damp := mat3 l.damping, biasTc := f.biasTc, zeta := f.zeta, q := f.q }

/-- Bias force in the vessel frame (Rᵀ(ψ) b). -/
def biasBody (s : List Nat) : List Nat :=
  let c := Config.fcos (vget s 2)
  let n := Config.fsin (vget s 2)
  [fadd (fmul c (vget s 6)) (fmul n (vget s 7)), fsub (fmul c (vget s 7)) (fmul n (vget s 6)), vget s 8]

/-- The derivative of the nominal state under a vessel force (process model of chapter 04). -/
def estDeriv (m : EstModel) (omega : Nat) (tau s : List Nat) : List Nat :=
  let g := vget s
  let c := Config.fcos (g 2)
  let n := Config.fsin (g 2)
  let nu := [g 3, g 4, g 5]
  let acc := mvec m.minv (vadd (vsub (biasBody s) (mvec m.damp nu)) tau)
  let wave (i : Nat) : List Nat :=
    [g (i + 1), fneg (fadd (fmul (fmul (fmul ftwo m.zeta) omega) (g (i + 1))) (fmul (fmul omega omega) (g i)))]
  [fsub (fmul (g 3) c) (fmul (g 4) n), fadd (fmul (g 3) n) (fmul (g 4) c), g 5] ++ acc ++
    [fneg (fdiv (g 6) m.biasTc), fneg (fdiv (g 7) m.biasTc), fneg (fdiv (g 8) m.biasTc)] ++ wave 9 ++ wave 11 ++ wave 13 ++
    [g 16, 0, 0, 0, 0, 0, 0, 0, 0]

/-- The Jacobian F of the process model at a state. -/
def estJacobian (m : EstModel) (omega : Nat) (s : List Nat) : List (List Nat) :=
  let g := vget s
  let c := Config.fcos (g 2)
  let n := Config.fsin (g 2)
  let nuNu := mscale (fneg fone) (mmul 3 m.minv m.damp)
  let dPsi := mvec m.minv [fsub (fmul c (g 7)) (fmul n (g 6)), fneg (fadd (fmul c (g 6)) (fmul n (g 7))), 0]
  let rt := [[c, n, 0], [fneg n, c, 0], [0, 0, fone]]
  let nuB := mmul 3 m.minv rt
  mgen 24 24 (fun i j =>
    match i with
    | 0 => match j with
           | 2 => fneg (fadd (fmul (g 3) n) (fmul (g 4) c)) | 3 => c | 4 => fneg n | _ => 0
    | 1 => match j with
           | 2 => fsub (fmul (g 3) c) (fmul (g 4) n) | 3 => n | 4 => c | _ => 0
    | 2 => if j = 5 then fone else 0
    | 15 => if j = 16 then fone else 0
    | _ =>
      if 3 ≤ i ∧ i ≤ 5 then
        (if j = 2 then vget dPsi (i - 3) else if 3 ≤ j ∧ j ≤ 5 then mget nuNu (i - 3) (j - 3)
         else if 6 ≤ j ∧ j ≤ 8 then mget nuB (i - 3) (j - 6) else 0)
      else if 6 ≤ i ∧ i ≤ 8 then (if j = i then fneg (fdiv fone m.biasTc) else 0)
      else if i = 9 ∨ i = 11 ∨ i = 13 then (if j = i + 1 then fone else 0)
      else if i = 10 ∨ i = 12 ∨ i = 14 then
        (if j + 1 = i then fneg (fmul omega omega) else if j = i then fneg (fmul (fmul ftwo m.zeta) omega) else 0)
      else 0)

/-- The covariance as a full matrix. -/
def EstCore.full (c : EstCore) : List (List Nat) :=
  mgen 24 24 (fun i j => vget c.cov (if j ≤ i then i * (i + 1) / 2 + j else j * (j + 1) / 2 + i))

/-- A full matrix by rows of its lower triangle. -/
def packCov (m : List (List Nat)) : List Nat := (List.range 24).flatMap (fun i => (List.range (i + 1)).map (mget m i))

/-- Standard deviation of a state. -/
def EstCore.sd (c : EstCore) (i : Nat) : Nat := fsqrt (vget c.cov (i * (i + 1) / 2 + i))

/-- One Heun sub-step of length `h` s. -/
def heun (f : List Nat → List Nat) (h : Nat) (s : List Nat) : List Nat :=
  let k := f s
  vadd s (vscale (fmul h fhalf) (vadd k (f (vadd s (vscale h k)))))

/-- The nominal state propagated over `dt` ns in four equal Heun sub-steps (R116), its heading not wrapped. -/
def estPredict (m : EstModel) (tau : List Nat) (dt : Nat) (c : EstCore) : List Nat :=
  let f := estDeriv m c.omega tau
  let h := fdiv (frat dt 1000000000) (fint 4)
  heun f h (heun f h (heun f h (heun f h c.x)))

/-- Propagation over `dt` ns (R116): the nominal state, and P ← Φ P Φᵀ + Φ Q Φᵀ Δ. -/
def estPropagate (m : EstModel) (tau : List Nat) (dt : Nat) (c : EstCore) : EstCore :=
  let dl := frat dt 1000000000
  let s := estPredict m tau dt c
  let j := estJacobian m c.omega c.x
  let phi := madd (madd (mone 24) (mscale dl j)) (mscale (fmul (fmul dl dl) fhalf) (mmul 24 j j))
  let q := mgen 24 24 (fun i k => if i = k then fmul (vget m.q i) dl else 0)
  let pt := mtrans 24 phi
  let sand (a : List (List Nat)) := mmul 24 (mmul 24 phi a) pt
  { c with x := s.set 2 (wrapTwoPi (vget s 2)), cov := packCov (madd (sand c.full) (sand q)) }

/-- One scalar measurement: its row H, its value z and prediction h as an innovation at the nominal state, its σ, and marks. -/
structure Scal where
  h : List Nat
  y : Nat
  sigma : Nat
  angle : Bool
  pos : Bool

/-- A row with the given entries. -/
def hrow (l : List (Nat × Nat)) : List Nat :=
  (List.range 24).map (fun i => (l.filter (fun e => e.1 == i)).foldl (fun a e => fadd a e.2) 0)

/-- Speed of light, m/s. -/
def fLight : Nat := fint 299792458

/-- f₁ and f₅ squared, in MHz². -/
def freqSq (hz : Nat) : Nat := fmul (frat hz 1000000) (frat hz 1000000)

/-- a₁ (R119). -/
def ionA1 : Nat := fdiv (freqSq 1575420000) (fsub (freqSq 1575420000) (freqSq 1176450000))

/-- a₅ (R119). -/
def ionA5 : Nat := fdiv (freqSq 1176450000) (fsub (freqSq 1575420000) (freqSq 1176450000))

/-- One entry of a raw record as a sample's components hold it: system, PRN, flags, channel, pseudorange, phase, Doppler, C/N0. -/
def rawEntries : List Nat → List (List Nat)
  | a :: b :: c :: d :: e :: f :: g :: h :: r => [a, b, c, d, e, f, g, h] :: rawEntries r
  | _ => []

/-- An entry measures a satellite's pseudorange in a band. -/
def entryIs (sys prn band : Nat) (e : List Nat) : Bool :=
  vget e 0 == sys && vget e 1 == prn && vget e 2 % 2 == band && bit (vget e 2) 4

/-- Satellites with a pseudorange in both bands, by system and PRN, with the two entries (R119, R124). -/
def dualSats (l : List Nat) : List (List Nat × List Nat) :=
  let es := rawEntries l
  [1, 2, 3, 4].flatMap (fun sys => (List.range 256).filterMap (fun prn =>
    match es.find? (entryIs sys prn 0), es.find? (entryIs sys prn 1) with
    | some a, some b => some (a, b)
    | _, _ => none))

/-- Ionosphere-free pseudorange (R119). -/
def ionFree (a b : List Nat) : Nat := fsub (fmul ionA1 (vget a 4)) (fmul ionA5 (vget b 4))

/-- Ionosphere-free range rate, from the Doppler of both bands in the same way (R119, R259). -/
def ionFreeRate (a b : List Nat) : Nat :=
  let lam (hz : Nat) := fdiv fLight (fint hz)
  fsub (fmul ionA1 (fneg (fmul (lam 1575420000) (vget a 6)))) (fmul ionA5 (fneg (fmul (lam 1176450000) (vget b 6))))

/-- The navigation store as the free functions of Config take it; a lane whose SBAS use is suspended leaves SBAS out (R267). -/
def navWords (l : Lane) (noSbas : Bool) : List Nat :=
  (l.nav.filter (fun r => !(noSbas && r.sys == 5))).flatMap (fun r => [r.stamp, r.die, r.channel, r.sys, r.prn, r.signal, r.page, r.bits]) ++
    l.corr.flatMap (fun c => c.stamp :: c.message :: c.bytes)

/-- The scalars of a GNSS_RAW contribution but for the baseline heading (R119, R120, R124, R125), from the satellites above `mask` degrees. -/
def gnssScalars (p : Pkg) (x : Side) (mask : Nat) (c : EstCore) (t : Int) (k : Contrib) (w : SrcWeight) : List Scal :=
  let d := x.helm
  let lane := p.lanes.get x
  let g := vget c.x
  let lat := rd p d EST_DATUM_LAT.DEG
  let lon := rd p d EST_DATUM_LON.DEG
  let n := fadd (g 0) (g 9)
  let e := fadd (g 1) (g 11)
  let lev := vget k.lever
  let ant := Config.antennaEcef lat lon n e (fsub (rd p d I_EST.DATUM_H) (g 17)) k.lever
  let co := Config.fcos (g 2)
  let si := Config.fsin (g 2)
  let yaw := fadd (g 5) (g 14)
  let vn := fsub (fadd (fsub (fmul (g 3) co) (fmul (g 4) si)) (g 10)) (fmul yaw (lev 1))
  let ve := fadd (fadd (fadd (fmul (g 3) si) (fmul (g 4) co)) (g 12)) (fmul yaw (lev 0))
  let gb := rdI p d CFL_SRC.DIE k.src == 4
  let low := Config.fsin (toRad (fint mask))
  (dualSats k.vals).flatMap (fun (a, b) =>
    match Config.satState (navWords lane (flag p x.helm I_EST.SBAS_OFF)) (vget a 0) (vget a 1) t with
    | none => []
    | some sat =>
      let sv := vget sat
      let los := vsub [sv 0, sv 1, sv 2] ant
      let rho := fsqrt (vdot los los)
      let u := Config.ecefToNed lat lon (vscale (fdiv fone rho) los)
      let vel := Config.ecefToNed lat lon [sv 3, sv 4, sv 5]
      let sinEl := fneg (vget u 2)
      if !(flt low sinEl) then []
      else
        let sysState := match vget a 0 with | 2 => 19 | 3 => 20 | _ => 24
        let map := fdiv (frat 1001 1000) (fsqrt (fadd (frat 2001 1000000) (fmul sinEl sinEl)))
        let pred := fadd (fsub (fadd (fadd (fadd (fadd rho (g 15)) (if gb then g 18 else 0)) (vget c.x sysState))
          (fmul map (Config.zenithDelay ant))) (sv 6)) (sv 8)
        let ub i := fneg (vget u i)
        let rel := vsub vel [vn, ve, 0]
        let predRate := fsub (fadd (vdot u rel) (g 16)) (sv 7)
        let dvPsi := [fneg (fadd (fmul (g 3) si) (fmul (g 4) co)), fsub (fmul (g 3) co) (fmul (g 4) si)]
        let range : Scal :=
          { h := hrow ([(0, ub 0), (1, ub 1), (9, ub 0), (11, ub 1), (17, ub 2), (15, fone), (sysState, fone)] ++
              (if gb then [(18, fone)] else []))
            y := fsub (ionFree a b) pred, sigma := fdiv (vget w.sigma 0) sinEl, angle := false, pos := true }
        let yawH := fsub (fmul (ub 1) (lev 0)) (fmul (ub 0) (lev 1))
        let rate : Scal :=
          { h := hrow [(2, fadd (fmul (ub 0) (vget dvPsi 0)) (fmul (ub 1) (vget dvPsi 1))),
              (3, fadd (fmul (ub 0) co) (fmul (ub 1) si)), (4, fsub (fmul (ub 1) co) (fmul (ub 0) si)),
              (5, yawH), (14, yawH), (10, ub 0), (12, ub 1), (16, fone)]
            y := fsub (ionFreeRate a b) predRate, sigma := fdiv (vget w.sigma 1) sinEl, angle := false, pos := false }
        (if vget w.sigma 0 = 0 then [] else [range]) ++ (if vget w.sigma 1 = 0 then [] else [rate]))

/-- A heading scalar (Table 04-2). -/
def headingScalar (c : EstCore) (deg sigmaDeg : Nat) : Scal :=
  { h := hrow [(2, fone), (13, fone)], y := wrapPi (fsub (toRad deg) (fadd (vget c.x 2) (vget c.x 13)))
    sigma := toRad sigmaDeg, angle := true, pos := false }

/-- Two position scalars for a measured north and east (Table 04-2). -/
def posScalars (c : EstCore) (n e sigma : Nat) : List Scal :=
  let g := vget c.x
  [ { h := hrow [(0, fone), (9, fone)], y := fsub n (fadd (g 0) (g 9)), sigma := sigma, angle := false, pos := true },
    { h := hrow [(1, fone), (11, fone)], y := fsub e (fadd (g 1) (g 11)), sigma := sigma, angle := false, pos := true } ]

/-- The anchor of a zeroed relative source. -/
def EstCore.anchor (c : EstCore) (src : Nat) : Option (Nat × Nat) :=
  (c.anchors.find? (fun a => a.1 == src)).map (fun a => a.2)

/-- The reference point a relative source measures, from its anchor (R122). -/
def relativePos (k : Contrib) (an ae : Nat) : List Nat :=
  let l := vget k.vals 0
  [fsub (fsub an (fmul l (vget k.dir 0))) (vget k.lever 0), fsub (fsub ae (fmul l (vget k.dir 1))) (vget k.lever 1)]

/-- The higher-indexed of the two antennas contributes here, with the other's record: the fixed baseline's heading (R121). -/
def baselineOf (p : Pkg) (x : Side) (ks : List Contrib) : List Nat :=
  match ks.filter (fun k => k.kind == 1) with
  | [a, b] => Config.baseline (navWords (p.lanes.get x) (flag p x.helm I_EST.SBAS_OFF)) a.vals b.vals
  | _ => []

/-- Yaw of the line between the two lever arms in degrees, in the vessel frame (R121). -/
def baselineYaw (p : Pkg) (x : Side) (ks : List Contrib) : Nat :=
  let d := x.helm
  let lev (k : Contrib) (F : Fld) := rdI p d F (rdI p d CFL_SRC.MOUNT k.src)
  match ks.filter (fun k => k.kind == 1) with
  | [a, b] => toDeg (Config.fatan2 (fsub (lev b CFL_MOUNT.LEVER_Y) (lev a CFL_MOUNT.LEVER_Y))
      (fsub (lev b CFL_MOUNT.LEVER_X) (lev a CFL_MOUNT.LEVER_X)))
  | _ => 0

/-- A contribution is that of the higher-indexed of the two antennas of a frame (Table 04-2). -/
def isUpperAntenna (ks : List Contrib) (k : Contrib) : Bool :=
  match ks.filter (fun j => j.kind == 1) with
  | [_, b] => b.src == k.src
  | _ => false

/-- The scalars of a contribution in a frame, in the order of Table 04-2 and R124; a GNSS_RAW contribution hands over its first
MAX_SCALARS at most (R104). -/
def scalarsOf (p : Pkg) (x : Side) (c : EstCore) (f : ClosedFrame) (k : Contrib) (w : SrcWeight) : List Scal :=
  let d := x.helm
  let s i := vget w.sigma i
  match k.kind with
  | 1 =>
    (gnssScalars p x f.set.mask c f.t k w ++
      (match f.fixed with
       | some h => if isUpperAntenna f.contribs k && s 2 != 0 then [headingScalar c (wrap360 (fsub h (baselineYaw p x f.contribs))) (s 2)] else []
       | none => [])).take (rdI p d CFL_SRC.MAX_SCALARS k.src)
  | 2 =>
    if s 0 = 0 then []
    else
      let ned := Config.geoToNed (rd p d EST_DATUM_LAT.DEG) (rd p d EST_DATUM_LON.DEG) (vget k.vals 0) (vget k.vals 1) (vget k.vals 2)
      posScalars c (fsub (vget ned 0) (vget k.lever 0)) (fsub (vget ned 1) (vget k.lever 1)) (s 0)
  | 3 => if s 0 = 0 then [] else [headingScalar c (vget k.vals 0) (s 0)]
  | 4 =>
    if s 0 = 0 then []
    else [{ h := hrow [(5, fone), (14, fone)], y := fsub (toRad (vget k.vals 4)) (fadd (vget c.x 5) (vget c.x 14))
            sigma := toRad (s 0), angle := false, pos := false }]
  | 5 | 6 =>
    match c.anchor k.src with
    | some (an, ae) =>
      let m := relativePos k an ae
      if s 0 = 0 then [] else posScalars c (vget m 0) (vget m 1) (s 0)
    | none => []
  | _ => []

/-- What an update brings back beside the new track. -/
structure EstOut where
  core : EstCore
  tests : List ScalarTest
  fused : Nat
  rejected : Nat
  fusedSrc : List Nat
  rejSrc : List Nat
  posApplied : Bool

/-- The sequential update with the error state and the Joseph form (R124 to R126). -/
structure Upd where
  err : List Nat
  cov : List (List Nat)
  tests : List ScalarTest
  fused : Nat
  rejected : Nat
  posApplied : Bool

/-- SPAN_SIGMA of a source for its scalars: it is read in the unit of σ per second, so that of an angle comes from degrees (DEDUCED). -/
def spanSigma (p : Pkg) (x : Side) (k : Contrib) : Nat :=
  let v := f32 p x.helm CFL_SRC.SPAN_SIGMA k.src
  if k.kind = 3 ∨ k.kind = 4 then toRad v else v

/-- Test and apply one scalar (R125, R126). A scalar of an EXCLUDED source is tested and not applied (R127). A scalar of weight 0
has an infinite variance: it counts as applied and moves nothing, which is the limit of the gain (DEDUCED). -/
def applyScalar (gate2 : Nat) (t : Int) (src : Nat) (span spanSigma weight : Nat) (apply : Bool) (u : Upd) (z : Scal) : Upd :=
  let sp := fmul spanSigma (frat span 1000000000)
  let r := fadd (fdiv (fmul z.sigma z.sigma) weight) (fmul sp sp)
  let y0 := fsub z.y (vdot z.h u.err)
  let y := if z.angle then wrapPi y0 else y0
  let ph := mvec u.cov z.h
  let s := fadd (vdot z.h ph) r
  let y2 := fmul y y
  let rej := flt (fmul gate2 s) y2
  let u := { u with tests := u.tests ++ [⟨t, src, fdiv y2 s, rej⟩] }
  if rej then { u with rejected := u.rejected + 1 }
  else if !apply then u
  else if !(b64.finite r) then { u with fused := u.fused + 1, posApplied := u.posApplied || z.pos }
  else
    let k := ph.map (fun v => fdiv v s)
    let ikh := mgen 24 24 (fun i j => fsub (if i = j then fone else 0) (fmul (vget k i) (vget z.h j)))
    let cov := madd (mmul 24 (mmul 24 ikh u.cov) (mtrans 24 ikh))
      (mgen 24 24 (fun i j => fmul (fmul (vget k i) r) (vget k j)))
    { u with err := vadd u.err (vscale y k), cov := cov, fused := u.fused + 1, posApplied := u.posApplied || z.pos }

/-- The weights of a source in a frame. -/
def weightOf (f : ClosedFrame) (src : Nat) : SrcWeight :=
  (f.weights.find? (fun w => w.src == src)).getD ⟨src, false, false, [0, 0, 0], 0⟩

/-- Zeroing (R122): a relative source without an anchor, in a frame in which the estimator is CONVERGED. -/
def zeroAnchors (f : ClosedFrame) (c : EstCore) : EstCore :=
  if !f.conv then c
  else
    let g := vget c.x
    f.contribs.foldl (fun (q : EstCore) k =>
      if (k.kind = 5 ∨ k.kind = 6) ∧ (q.anchor k.src).isNone ∧ !(weightOf f k.src).excluded then
        let l := vget k.vals 0
        { q with anchors := q.anchors ++ [(k.src,
            fadd (fadd (fadd (g 0) (g 9)) (vget k.lever 0)) (fmul l (vget k.dir 0)),
            fadd (fadd (fadd (g 1) (g 11)) (vget k.lever 1)) (fmul l (vget k.dir 1)))] }
      else q) c

/-- The update of one frame on one track: propagate, apply the scalars in ascending source index, inject, zero (R116, R122,
R124). What may change between frames comes with the frame (R130). -/
def estUpdate (p : Pkg) (x : Side) (f : ClosedFrame) (c0 : EstCore) : EstOut :=
  let c := estPropagate (estModel (p.layouts.get x) f.set) f.tau f.dt c0
  let u0 : Upd := ⟨List.replicate 24 0, c.full, [], 0, 0, false⟩
  let u := f.contribs.foldl (fun (u : Upd) k =>
    let w := weightOf f k.src
    let ss := scalarsOf p x c f k w
    let skip := w.excluded && (k.kind == 5 || k.kind == 6)
    if skip then u
    else ss.foldl (applyScalar (fmul f.set.gate f.set.gate) f.t k.src k.span (spanSigma p x k) w.weight (!w.excluded)) u) u0
  let s := vadd c.x u.err
  let core := zeroAnchors f { c with x := s.set 2 (wrapTwoPi (vget s 2)), cov := packCov u.cov }
  let srcs := f.contribs.map (fun k => k.src)
  let mine (n : Nat) := u.tests.filter (fun t => t.src == n)
  { core := core, tests := u.tests, fused := u.fused, rejected := u.rejected, posApplied := u.posApplied
    fusedSrc := srcs.filter (fun n => !(weightOf f n).excluded && (mine n).any (fun t => !t.rejected))
    rejSrc := (f.weights.filter (fun w => w.excluded || (!(mine w.src).isEmpty && (mine w.src).all (fun t => t.rejected)))).map (fun w => w.src) }

/-- Bit set of source indices. -/
def srcBits (l : List Nat) : Nat := l.foldl (fun a n => if a.testBit n then a else a + 2 ^ n) 0

/-- Squares of the initial standard deviations on the diagonal (R135). -/
def initCov : List Nat :=
  let deg (a b : Nat) := toRad (frat a b)
  let sd : List Nat := [fint 10, fint 10, deg 2 1, fhalf, fhalf, deg 1 2, fint 200, fint 200, fint 10000, fone, fone, fone, fone,
    deg 1 1, deg 1 1, fint 3, frat 1 10, fint 5, fint 5, fint 10, fint 10, 0, 0, 0]
  packCov (mgen 24 24 (fun i j => if i = j then fmul (vget sd i) (vget sd i) else 0))

/-- Midpoint of the wave peak's range, rad/s (R118). -/
def omegaMid (p : Pkg) (x : Side) : Nat :=
  fmul (fadd (fq p x.helm EST_WAVE.OMEGA_MIN 100) (fq p x.helm EST_WAVE.OMEGA_MAX 100)) fhalf

/-- Return the estimator to INIT (R135, R123): the relative sources wait for zeroing, a replay in progress is lost. -/
def estInit (x : Side) (p : Pkg) : Pkg :=
  let l := p.lanes.get x
  { p with lanes := p.lanes.set x { l with est := EstCore.zero, ring := [], replay := none, tests := [], crossings := [] } }
    |> wr x.helm EST_STATUS.PHASE 0 |> wr x.helm EST_STATUS.REPLAYING 0 |> wr x.helm EST_STATUS.REPLAY_LEFT 0
    |> wr x.helm CFL_STATUS.REPLAYING 0 |> wr x.helm I_EST.CONV_HELD 0 |> wr x.helm I_EST.DR_FRAMES 0 |> wr x.helm I_EST.INFLATED 0 |> wr x.helm I_EST.PLAN_FIX 0

/-- A replay in progress is abandoned (R133): its samples are lost, and the next record carries LATE_DROPPED. -/
def replayAbandon (x : Side) (p : Pkg) : Pkg :=
  let l := p.lanes.get x
  let d := x.helm
  match l.replay with
  | none => p
  | some r =>
    { p with lanes := p.lanes.set x { l with replay := none, hist := l.hist.filter (fun s => !(r.carried.contains (s.src, s.seq))) } }
      |> wr d EST_STATUS.REPLAYING 0 |> wr d CFL_STATUS.REPLAYING 0 |> wr d EST_STATUS.REPLAY_LEFT 0
      |> inc d EST_REPLAY_ABANDONED.V |> raise d clsWarning EST_EVENT.REPLAY_ABANDON
      |> wr d I_CFL.NEXT_FLAGS (Nat.lor (rd p d I_CFL.NEXT_FLAGS) 32)

/-- Latitude, longitude and height of the reference point that a POSITION contribution gives (R135, R486). -/
def positionFix (k : Contrib) : List Nat :=
  let g := Config.nedToGeo (vget k.vals 0) (vget k.vals 1) (fneg (vget k.lever 0)) (fneg (vget k.lever 1))
  [vget g 0, vget g 1, fadd (vget k.vals 2) (vget k.lever 2)]

/-- A frame closed in INIT gives the position of the channel-plan predictions where it has a POSITION contribution (R486). -/
def notePlanFix (x : Side) (f : ClosedFrame) (p : Pkg) : Pkg :=
  let d := x.helm
  match f.contribs.find? (fun k => k.kind == 2) with
  | some k =>
    let g := vget (positionFix k)
    p |> wr d I_EST.PLAN_FIX 1 |> wr d I_EST.PLAN_LAT (g 0) |> wr d I_EST.PLAN_LON (g 1) |> wr d I_EST.PLAN_H (g 2)
  | none => wr d I_EST.PLAN_FIX 0 p

/-- The position of an INIT frame: latitude, longitude and height with u, v and the clock states, or none (R135). -/
def initFix (p : Pkg) (x : Side) (f : ClosedFrame) : Option (List Nat) :=
  match f.contribs.find? (fun k => k.kind == 2) with
  | some k => some (positionFix k ++ [0, 0, 0, 0])
  | none =>
    let raws := f.contribs.filter (fun k => k.kind == 1)
    if 5 ≤ (raws.map (fun k => (dualSats k.vals).length)).foldl (· + ·) 0 then
      Config.leastSquares (navWords (p.lanes.get x) (flag p x.helm I_EST.SBAS_OFF)) (raws.map (fun k => k.vals)) (raws.map (fun k => k.lever)) f.t
    else none

/-- The heading of an INIT frame: a HEADING contribution or the fixed baseline (R135). -/
def initHeading (p : Pkg) (x : Side) (f : ClosedFrame) : Option Nat :=
  match f.contribs.find? (fun k => k.kind == 3) with
  | some k => some (vget k.vals 0)
  | none => f.fixed.map (fun h => wrap360 (fsub h (baselineYaw p x f.contribs)))

/-- The first frame with both a position and a heading ends INIT (R135). -/
def estStart (x : Side) (f : ClosedFrame) (p : Pkg) : Pkg :=
  let d := x.helm
  match initFix p x f, initHeading p x f with
  | some fix, some h =>
    let g := vget fix
    let r := match f.contribs.find? (fun k => k.kind == 4) with | some k => toRad (vget k.vals 4) | none => 0
    let s := [0, 0, wrapTwoPi (toRad h), g 3, g 4, r, 0, 0, 0, 0, 0, 0, 0, 0, 0, g 5, g 6, 0, 0, 0, 0, 0, 0, 0]
    let l := p.lanes.get x
    let c : EstCore := ⟨s, initCov, omegaMid p x, []⟩
    { p with lanes := p.lanes.set x { l with est := c, ring := [⟨f.t, c⟩] } }
      |> wr d EST_DATUM_LAT.DEG (g 0) |> wr d EST_DATUM_LON.DEG (g 1) |> wr d I_EST.DATUM_H (g 2) |> wr d EST_STATUS.PHASE 1 |> wr d I_EST.CONV_HELD 0
  | _, _ => p

/-- The thresholds of R136 hold. -/
def convHolds (p : Pkg) (x : Side) : Bool :=
  let d := x.helm
  let c := (p.lanes.get x).est
  let pos := fq p d EST_CONV.CONV_POS 10
  let hdg := toRad (fq p d EST_CONV.CONV_HDG 100)
  let bias := fint (10 * rd p d EST_CONV.CONV_BIAS)
  flt (c.sd 0) pos && flt (c.sd 1) pos && flt (c.sd 2) hdg && flt (c.sd 6) bias && flt (c.sd 7) bias

/-- Watch the thresholds at the frame at `t` (R136): a break returns the phase to CONVERGING. -/
def watchConvergence (x : Side) (t : Nat) (p : Pkg) : Pkg :=
  let d := x.helm
  if convHolds p x then
    if flag p d I_EST.CONV_HELD then p else p |> wr d I_EST.CONV_HELD 1 |> wr d I_EST.CONV_SINCE t
  else
    p |> wr d I_EST.CONV_HELD 0
      |> onlyIf (rd p d EST_STATUS.PHASE == 2) (fun q => q |> wr d EST_STATUS.PHASE 1 |> raise d clsWarning EST_EVENT.CONV_LOST)

/-- Dead reckoning (R128). -/
def deadReckoning (x : Side) (posApplied : Bool) (p : Pkg) : Pkg :=
  let d := x.helm
  let was := flag p d EST_STATUS.DEAD_RECKONING
  if posApplied then
    p |> wr d EST_STATUS.DEAD_RECKONING 0 |> wr d EST_STATUS.POS_REACQUIRE 0 |> wr d I_EST.DR_FRAMES 0 |> wr d I_EST.INFLATED 0
      |> onlyIf was (raise d clsInfo EST_EVENT.DR_EXIT)
  else
    p |> wr d EST_STATUS.DEAD_RECKONING 1 |> incSat d I_EST.DR_FRAMES |> onlyIf (!was) (raise d clsWarning EST_EVENT.DR_ENTER)

/-- Multiply the variances of n, e, ξ_n and ξ_e by 100 (R128). -/
def inflate (c : EstCore) : EstCore :=
  let k := fint 100
  { c with cov := [0, 1, 9, 11].foldl (fun l i => l.set (i * (i + 1) / 2 + i) (fmul k (vget l (i * (i + 1) / 2 + i)))) c.cov }

/-- The inflation after the frame at `t` (R128): of the live track and its snapshot, of a replay that has re-run the frame, and of every
re-run of it to come. -/
def Lane.inflated (t : Int) (l : Lane) : Lane :=
  let ringOf (r : List Snapshot) := r.map (fun s => if s.t = t then { s with core := inflate s.core } else s)
  { l with
    est := inflate l.est, ring := ringOf l.ring
    frames := l.frames.map (fun f => if f.t = t then { f with inflated := true } else f)
    replay := l.replay.map (fun r => { r with
      core := if t < r.next then inflate r.core else r.core
      ring := if t < r.next then ringOf r.ring else r.ring
      frames := r.frames.map (fun f => if f.t = t then { f with inflated := true } else f) }) }

/-- Add to elements of the nominal state. -/
def EstCore.added (l : List (Nat × Nat)) (c : EstCore) : EstCore :=
  { c with x := l.foldl (fun x e => x.set e.1 (fadd (vget x e.1) e.2)) c.x }

/-- A change of the nominal state after the frame at `t` that measurements do not make (R269): of the live track and its snapshot, of a
replay that has re-run the frame, and of every re-run of it to come. -/
def Lane.shifted (t : Int) (e : Nat × Nat) (l : Lane) : Lane :=
  let ringOf (r : List Snapshot) := r.map (fun s => if s.t = t then { s with core := s.core.added [e] } else s)
  let note (r : List ClosedFrame) := r.map (fun f => if f.t = t then { f with shifts := f.shifts ++ [e] } else f)
  { l with
    est := l.est.added [e], ring := ringOf l.ring, frames := note l.frames
    replay := l.replay.map (fun r => { r with
      core := if t < r.next then r.core.added [e] else r.core
      ring := if t < r.next then ringOf r.ring else r.ring
      frames := note r.frames }) }

/-- POS_REACQUIRE (R128). -/
def posReacquire (x : Side) (p : Pkg) : Pkg :=
  let d := x.helm
  if rd p d EST_STATUS.PHASE ≠ 0 ∧ flag p d EST_STATUS.DEAD_RECKONING ∧ rd p d EST_POSLOST.POS_LOST_FRAMES ≤ rd p d I_EST.DR_FRAMES ∧
      ¬ flag p d I_EST.INFLATED then
    p |> onLane x (Lane.inflated (rd p d I_EST.T0)) |> wr d I_EST.INFLATED 1 |> wr d EST_STATUS.POS_REACQUIRE 1
      |> raise d clsWarning EST_EVENT.POS_REACQUIRE
  else p

/-- CONV_GAINED (R136). -/
def convGained (x : Side) (p : Pkg) : Pkg :=
  let d := x.helm
  if rd p d EST_STATUS.PHASE = 1 ∧ flag p d I_EST.CONV_HELD ∧
      rd p d I_EST.CONV_SINCE + rd p d EST_CONV.CONV_HOLD * 1000000000 ≤ rd p d I_EST.T0 then
    p |> wr d EST_STATUS.PHASE 2 |> raise d clsInfo EST_EVENT.CONV_GAINED
  else p

/-- SRC_RETURNED (R127): an EXCLUDED absolute source after RETURN_RUN frames without rejection. Its count of rejected frames starts
again, since the frames it was EXCLUDED in would shut it out at the next boundary (DEDUCED). -/
def srcReturned (x : Side) (n : Nat) (p : Pkg) : Pkg :=
  let d := x.helm
  let k := rdI p d CFL_SRC.KIND n
  if rdI p d EST_SRC.STATE n = 2 ∧ (1 ≤ k ∧ k ≤ 4) ∧ rd p d EST_GATE.RETURN_RUN ≤ rdI p d I_EST.OK_RUN n then
    p |> wrI d EST_SRC.STATE n 1 |> wrI d EST_SRC.W_DYN n 0x3D800000 |> wrI d I_EST.OK_RUN n 0 |> wrI d I_EST.REJ_HISTORY n 0 |> wrI d EST_SRC.REJ64 n 0
      |> raiseWith d clsInfo EST_EVENT.SRC_RETURNED (.words [n])
  else p

/-- Statistics of a source after a live frame (R126, R127): its rejection history and its run without rejection. -/
def sourceStats (x : Side) (o : EstOut) (contribs : List Contrib) (p : Pkg) : Pkg :=
  let d := x.helm
  forAll (List.range 64) (fun n q =>
    if rdI q d CFL_SRC.KIND n = 0 then q
    else
      let rej := o.rejSrc.contains n
      let h := trunc 64 (rdI q d I_EST.REJ_HISTORY n * 2 + b2n rej)
      let mine := o.tests.filter (fun t => t.src == n)
      let bad := !mine.isEmpty && mine.all (fun t => t.rejected)
      q |> wrI d I_EST.REJ_HISTORY n h |> wrI d EST_SRC.REJ64 n (popcount h 64)
        |> onlyIf (contribs.any (fun k => k.src == n))
            (wrI d I_EST.OK_RUN n (if bad then 0 else rdI q d I_EST.OK_RUN n + 1))) p

/-- 1/16 to 1 in binary32 from the mean of the tested ratios (R127). -/
def dynWeight (tests : List ScalarTest) : Nat :=
  let mean := fdiv (fsum (tests.map (fun t => t.ratio))) (fint tests.length)
  f64to32 (b64.clamp (fdiv fone mean) (frat 1 16) fone)

/-- The boundary's update of every source's status (R127). -/
def boundarySources (x : Side) (p : Pkg) : Pkg :=
  let d := x.helm
  let fr := rd p d CFL_STATUS.FRAME_MS * 1000000
  let since : Int := (rd p d I_EST.T0 : Int) - 64 * fr
  let recent := (p.lanes.get x).tests.filter (fun t => decide (since < t.t))
  forAll (List.range 64) (fun n q =>
    let k := rdI q d CFL_SRC.KIND n
    if k = 0 ∨ 7 ≤ k then q
    else
      let mine := recent.filter (fun t => t.src == n)
      let q := if mine.isEmpty then q else wrI d EST_SRC.W_DYN n (dynWeight mine) q
      if rd q d EST_GATE.REJECT_EXCL ≤ popcount (rdI q d I_EST.REJ_HISTORY n) 64 ∧ rdI q d EST_SRC.STATE n ≠ 2 then
        q |> wrI d EST_SRC.STATE n 2 |> wrI d I_EST.OK_RUN n 0 |> raiseWith d clsWarning EST_EVENT.SRC_EXCLUDED (.words [n])
      else q) p

/-- Up-crossings of one wave state between two frames. -/
def upCross (a b : Nat) : Nat := b2n (flt a 0 && !(flt b 0))

/-- Record the up-crossings of ξ_n, ξ_e and ξ_ψ of the frame at `t` (R118); those older than any window may reach go. -/
def recordCrossings (x : Side) (t : Int) (old new : List Nat) (p : Pkg) : Pkg :=
  let n := ([9, 11, 13].map (fun i => upCross (vget old i) (vget new i))).foldl (· + ·) 0
  onLane x (fun l => { l with crossings := l.crossings.filter (fun c => decide (t - 255000000000 < c)) ++ List.replicate n t }) p

/-- Wave peak adaptation at a boundary (R118). WAVE_CLAMPED stands until an adaptation that is not clamped (DESIGN CHOICE: the rule
names only what sets it). -/
def waveAdapt (x : Side) (p : Pkg) : Pkg :=
  let d := x.helm
  let win := rd p d EST_WAVE.WAVE_WIN
  let since : Int := (rd p d I_EST.T0 : Int) - ((win * 1000000000 : Nat) : Int)
  let n := ((p.lanes.get x).crossings.filter (fun c => decide (since < c))).length
  if rd p d EST_STATUS.PHASE = 0 ∨ n < 4 then p
  else
    let c := (p.lanes.get x).est
    let tz := frat (3 * win) n
    let goal := fdiv (fmul ftwo fpi) tz
    let w := fadd c.omega (fdiv (fsub goal c.omega) (fint 16))
    let lo := fq p d EST_WAVE.OMEGA_MIN 100
    let hi := fq p d EST_WAVE.OMEGA_MAX 100
    let v := b64.clamp w lo hi
    p |> onLane x (fun l => { l with est := { l.est with omega := v } }) |> wr d EST_STATUS.WAVE_CLAMPED (b2n (v != w))

/-- Horizontal distance from the datum, m. -/
def datumDistance (c : EstCore) : Nat := fsqrt (fadd (fmul (vget c.x 0) (vget c.x 0)) (fmul (vget c.x 1) (vget c.x 1)))

/-- A track seen from a datum moved by n, e and d; `here` is the track the datum moved to. -/
def EstCore.shifted (n e dn : Nat) (here : Bool) (c : EstCore) : EstCore :=
  let y := ((c.x.set 0 (fsub (vget c.x 0) n)).set 1 (fsub (vget c.x 1) e)).set 17 (fsub (vget c.x 17) dn)
  { c with x := if here then ((y.set 0 0).set 1 0).set 17 0 else y
           anchors := c.anchors.map (fun a => (a.1, fsub a.2.1 n, fsub a.2.2 e)) }

/-- The datum moves to the current position (R115): n, e and d become 0, and the datum height takes d over; anchors and snapshots keep
their places on the earth. -/
def moveDatum (x : Side) (p : Pkg) : Pkg × (Nat × Nat) :=
  let d := x.helm
  let c := (p.lanes.get x).est
  let n := vget c.x 0
  let e := vget c.x 1
  let dn := vget c.x 17
  let g := Config.nedToGeo (rd p d EST_DATUM_LAT.DEG) (rd p d EST_DATUM_LON.DEG) n e
  (p |> replayAbandon x
    |> onLane x (fun l => { l with est := l.est.shifted n e dn true, ring := l.ring.map (fun r => { r with core := r.core.shifted n e dn false }) })
    |> wr d EST_DATUM_LAT.DEG (vget g 0) |> wr d EST_DATUM_LON.DEG (vget g 1) |> wr d I_EST.DATUM_H (fsub (rd p d I_EST.DATUM_H) dn) |> inc d EST_DATUM_ID.COUNT
    |> wr d EST_STATUS.DATUM_FAR 0 |> raise d clsInfo EST_EVENT.REDATUM, (n, e))

/-- The state readout after a frame (block 0x027), unless it is frozen. -/
def estReadout (x : Side) (p : Pkg) : Pkg :=
  let d := x.helm
  if flag p d I_EST.FROZEN then p
  else
    let c := (p.lanes.get x).est
    p |> forAll (List.range 24) (fun i q => wrI d EST_X.V i (vget c.x i) q)
      |> forAll (List.range 300) (fun i q => wrI d EST_P.V i (vget c.cov i) q)

/-- EST_FREEZE (R58): the readout of the die written freezes or resumes. -/
def estFreeze (x : Side) (on : Bool) (p : Pkg) : Pkg :=
  if running p x.helm then
    wr x.helm I_EST.FROZEN (b2n on) p
  else p

/-! The commands of the table: one meaning each. -/

/-- POS_REACQUIRE (R128). -/
def execPosReacquire (x : Side) (s : State) : Host.Outcome State Fault Refusal := nextPk s (posReacquire x)

/-- CONV_GAINED (R136). -/
def execConvGained (x : Side) (s : State) : Host.Outcome State Fault Refusal := nextPk s (convGained x)

/-- SRC_RETURNED (R127). -/
def execSrcReturned (x : Side) (n : Nat) (s : State) : Host.Outcome State Fault Refusal := nextPk s (srcReturned x n)

/-- EST_FREEZE (R58). -/
def execEstFreeze (x : Side) (on : Bool) (s : State) : Host.Outcome State Fault Refusal := nextPk s (estFreeze x on)

end Sys2Proof.Machine
end

