-- ==== Sys2Proof/Machine/Leat.lean ====
section
/-! DEFINITION. Chapter 02: the leat, its flits and their go-back-N recovery, training, and the copies it carries. -/

namespace Sys2Proof.Machine

/-- The 64-bit header of a flit (Table 02-3). -/
def flitHeader (f : List Nat) : Nat := leNat (f.take 8)

/-- TYPE of a flit. -/
def flitType (f : List Nat) : Nat := bitsAt (flitHeader f) 60 4

/-- SEQ of a flit. -/
def flitSeq (f : List Nat) : Nat := bitsAt (flitHeader f) 40 16

/-- LENGTH of a flit's payload in words. -/
def flitWords (f : List Nat) : Nat := bitsAt (flitHeader f) 32 8

/-- OFFSET of a flit's payload in words. -/
def flitOffset (f : List Nat) : Nat := bitsAt (flitHeader f) 0 32

/-- The flit is 256 bytes long and its CRC-32C over bytes 0 to 251 holds (Table 02-2, R45). -/
def flitGood (f : List Nat) : Bool := f.length == 256 && leNat ((f.drop 252).take 4) == crc32c (f.take 252)

/-- Both ends of the link begin anew. -/
def leatFresh (x : Side) (p : Pkg) : Pkg :=
  let d := x.helm
  p |> wr d I_LEAT.RX_SEQ 0 |> wr d I_LEAT.RX_GAP 0 |> wr d I_LEAT.FAIL_RUN 0 |> wr d I_LEAT.TX_SEQ 0
    |> wr d I_LEAT.NAK_PENDING 0 |> wr d I_LEAT.NAK_SEQ 0 |> wr d LEAT_STATUS.REPLAY_USED 0

/-- The link goes down: an end that trains sends the other no valid flit, so both ends mark it (R46, DEDUCED); a lane whose leat is down is
not STANDBY_READY. -/
def leatLost (p : Pkg) : Pkg := p |> wr .ha LEAT_STATUS.UP 0 |> wr .hb LEAT_STATUS.UP 0 |> checkReady .a |> checkReady .b

/-- An attempt at training (R46): with its success both ends are up. -/
def leatTrain (ok : Bool) (p : Pkg) : Pkg :=
  if ok && running p .ha && running p .hb && !(flag p .ha LEAT_CTRL.LOOPBACK) && !(flag p .hb LEAT_CTRL.LOOPBACK) then
    p |> leatFresh .a |> leatFresh .b |> wr .ha LEAT_STATUS.UP 1 |> wr .hb LEAT_STATUS.UP 1
  else p

/-- Change a lane's staging. -/
def onStage (x : Side) (f : Stage → Stage) (p : Pkg) : Pkg := { p with staged := p.staged.set x (f (p.staged.get x)) }

/-- The words of a copy flit go to their place in the staging (R49). -/
def stageWords (x : Side) (f : List Nat) (p : Pkg) : Pkg :=
  let n := flitWords f
  let k := flitType f
  let o := flitOffset f
  let new := (List.range (min 61 n)).map (fun i => (k, o + i, leNat ((f.drop (8 + 4 * i)).take 4)))
  onStage x (fun s => { s with words := new ++ s.words.filter (fun w => !(w.1 == k && decide (o ≤ w.2.1) && decide (w.2.1 < o + min 61 n))) }) p

/-- The staging of a kind of copy is free again. -/
def Stage.freed (s : Stage) (k : Nat) : Stage :=
  if k = 1 then { s with words := s.words.filter (fun w => w.1 != k), tick := none }
  else { s with words := s.words.filter (fun w => w.1 != k), cycle := none }

/-- What an accepted flit brings (Table 02-3): the words of a copy are staged, an ACK frees the replay window, a HANDSHAKE is compared; an
IMAGE flit's words go to the ledger (R466, leatFlitAll). -/
def flitEffect (x : Side) (f : List Nat) (p : Pkg) : Pkg :=
  let d := x.helm
  match flitType f with
  | 1 => stageWords x f p
  | 2 => stageWords x f p
  | 3 => wr d LEAT_STATUS.REPLAY_USED (min (rd p d LEAT_STATUS.REPLAY_USED) (Config.replayAfterAck f)) p
  | 6 => handshake x p
  | _ => p

/-- The sender goes back to a flit that its replay window still holds, the last REPLAY_USED flits before TX_SEQ, and sends from it on
again (R45). -/
def goBack (x : Side) (seq : Nat) (p : Pkg) : Pkg :=
  let d := x.helm
  if flag p d LEAT_STATUS.UP && decide ((rd p d I_LEAT.TX_SEQ + 65536 - seq % 65536) % 65536 ≤ rd p d LEAT_STATUS.REPLAY_USED) then
    p |> inc d LEAT_RETX.COUNT |> wr d I_LEAT.RESEND seq
  else p

/-- LEAT_FLIT_RECEIVE (R45): a failing flit is discarded with every later one until it comes again, and a NAK with its SEQ is sent. A NAK
itself carries the SEQ it names and stands outside the sequence (DEDUCED). -/
def leatFlitReceive (x : Side) (f : List Nat) (p : Pkg) : Pkg :=
  let d := x.helm
  if !(flag p d LEAT_STATUS.UP) then p
  else if flitGood f then
    let p := wr d I_LEAT.FAIL_RUN 0 p
    if flitType f = 4 then goBack x (flitSeq f) p
    else if flitSeq f = rd p d I_LEAT.RX_SEQ then
      p |> wr d I_LEAT.RX_GAP 0 |> wr d I_LEAT.NAK_PENDING 0 |> wr d I_LEAT.RX_SEQ (flitSeq f + 1) |> flitEffect x f
    else p
  else
    p |> inc d LEAT_CRC_ERR.COUNT |> incSat d I_LEAT.FAIL_RUN |> wr d I_LEAT.RX_GAP 1 |> wr d I_LEAT.NAK_PENDING 1
      |> wr d I_LEAT.NAK_SEQ (rd p d I_LEAT.RX_SEQ) |> logAt d (eventCode clsTransient 0x11 36) .unstated

/-- LEAT_NAK (R45): the NAK that the partner has sent reaches the sender; it names the SEQ that it was sent with. -/
def leatNak (x : Side) (seq : Nat) (p : Pkg) : Pkg :=
  if flag p x.other.helm I_LEAT.NAK_PENDING && rd p x.other.helm I_LEAT.NAK_SEQ == seq then goBack x seq p else p

/-- LEAT_DOWN (R46): 32 failing flits in a row, or 1 µs without a valid one. -/
def leatDown (x : Side) (silent : Bool) (p : Pkg) : Pkg :=
  if flag p x.helm LEAT_STATUS.UP && (silent || decide (32 ≤ rd p x.helm I_LEAT.FAIL_RUN)) then leatLost p else p

/-- LEAT_RETRAIN_TIMER (R46): the 10 ms retry while the link is down. -/
def leatRetrainTimer (ok : Bool) (p : Pkg) : Pkg :=
  if flag p .ha LEAT_STATUS.UP && flag p .hb LEAT_STATUS.UP then p else leatTrain ok p

/-- RETRAIN (R46, LEAT_CTRL): ignored while ACTIVE with a STANDBY_READY partner; otherwise the link goes down and trains. -/
def retrain (x : Side) (ok : Bool) (p : Pkg) : Pkg :=
  if isActive p x && laneState p x.other == 3 then p
  else p |> leatLost |> leatTrain ok

/-- LOOPBACK (R46, LEAT_CTRL): accepted only in DOWN or STARTING. -/
def loopback (x : Side) (on : Bool) (p : Pkg) : Pkg :=
  if laneState p x = 0 ∨ laneState p x = 1 then
    p |> wr x.helm LEAT_CTRL.LOOPBACK (b2n on) |> onlyIf on leatLost
  else p

/-- Send a copy of some words from the active lane (R47, R48): its flits enter the replay window, and a partner that waits for no flit to
come again has received them. -/
def leatSend (x : Side) (words : Nat) (p : Pkg) : Pkg :=
  let d := x.helm
  let n := (words + 60) / 61
  let e := x.other.helm
  p |> wr d I_LEAT.TX_SEQ (rd p d I_LEAT.TX_SEQ + n) |> wr d LEAT_STATUS.REPLAY_USED (min 64 (rd p d LEAT_STATUS.REPLAY_USED + n))
    |> onlyIf (!(flag p e I_LEAT.RX_GAP)) (wr e I_LEAT.RX_SEQ (rd p d I_LEAT.TX_SEQ + n))

/-- A copy that was sent over a link that is up at both ends waits at the standby. -/
def leatCarries (p : Pkg) : Bool := flag p .ha LEAT_STATUS.UP && flag p .hb LEAT_STATUS.UP

/-- COPIES_STALE stands while R50 is not met. -/
def staleFlag (x : Side) (p : Pkg) : Pkg :=
  let d := x.helm
  wr d HG_STATUS.COPIES_STALE (b2n (!(flag p d LEAT_STATUS.TICK_CURRENT && flag p d LEAT_STATUS.CYCLE_CURRENT))) p

/-- The lane takes copies: its layout and its copy format are the active lane's (R430 step 2, Table 18-6). -/
def takesCopies (p : Pkg) (x : Side) : Bool :=
  isActive p x.other && rd p x.helm I_LANE.LAYOUT_HASH == rd p x.other.helm I_LANE.LAYOUT_HASH &&
    rd p x.helm I_LANE.COPY_FORMAT == rd p x.other.helm I_LANE.COPY_FORMAT && !(laneState p x == 0) && !(laneState p x == 1)

/-- Register fields the per-cycle copy carries with the lists (R48): estimator status, mode and references, assembly's kept items,
solver status and fallback counts. -/
def cycleFlds : List Fld :=
  [EST_STATUS.PHASE, EST_STATUS.DEAD_RECKONING, EST_STATUS.HEADING_FIXED, EST_STATUS.POS_REACQUIRE, EST_STATUS.DATUM_FAR,
    EST_STATUS.WAVE_CLAMPED, EST_STATUS.REPLAYING, EST_STATUS.REPLAY_LEFT, EST_STATUS.DEPTH, EST_DATUM_LAT.DEG, EST_DATUM_LON.DEG,
    EST_DATUM_ID.COUNT, EST_SRC.W_DYN, EST_SRC.STATE, EST_SRC.REJ64,
    SP_STATUS.MODE, SP_STATUS.RAMP_LIMITED, SP_STATUS.EST_DEGRADED, SP_STATUS.JOY_LOST, SP_STATUS.RAMP_OVERLIMIT,
    SP_STATUS.DWELLING, SP_STATUS.WP_INDEX, SP_STATUS.CMD_SLOT, SP_REF_N_REF.V, SP_REF_E_REF.V, SP_REF_PSI_REF.V, SP_REF_VN_REF.V,
    SP_REF_VE_REF.V, SP_REF_R_REF.V, SP_REF_N_TGT.V, SP_REF_E_TGT.V, SP_REF_PSI_TGT.V, SP_WP.N, SP_WP.E, SP_WP.SPEED, SP_WP.HDG,
    SP_WP.DWELL, SP_WP.FLAGS, ASM_STATUS.POWER_SHORT, ASM_STATUS.SECTOR_SLACK, ASM_STATUS.WIND_LOST, ASM_THR.STATE, ASM_SEC.SLACK0,
    SOL_STATUS.FALLBACK, SOL_CONSEC.NOT_OPT_RUN, SOL_CONSEC.OPT_RUN, SOL_FURROW_STATE.BIST_NEXT]

/-- A field identity of the per-cycle copy. -/
def cyclePick (i : Nat) : Bool := (decide (cycleIds.1 ≤ i) && decide (i < cycleIds.2)) || (cycleFlds.map (·.id)).contains i

/-- The records of the usable slots take the place of the standby's own (R245); a slot lost in either lane stays lost there. -/
def copySlots (own act : List SlotRec) : List SlotRec :=
  List.zipWith (fun o a => if a.lost then o else { a with lost := o.lost }) own act

/-- What has come over the leat is complete and clean: the link is up and no flit waits to come again (R49). -/
def copyClean (p : Pkg) (x : Side) : Bool := flag p x.helm LEAT_STATUS.UP && !(flag p x.helm I_LEAT.RX_GAP)

/-- The standby's edge for a per-tick copy (R49, R50, R53): applied whole when complete and clean, otherwise missed. -/
def takeTickCopy (x : Side) (p : Pkg) : Pkg :=
  let d := x.helm
  if !(takesCopies p x) then wr d I_LANE.TICK_COPY_APPLIED 0 p
  else match (if copyClean p x then (p.staged.get x).tick else none) with
    | some l =>
      p |> onLane x (fun n => { n with slots := copySlots n.slots l }) |> onStage x (·.freed 1) |> wr d I_LANE.TICK_COPY_APPLIED 1
        |> wr d I_LANE.TICK_MISS_RUN 0 |> wr d LEAT_STATUS.TICK_CURRENT 1 |> staleFlag x
    | none =>
      let q := p |> onStage x (·.freed 1) |> wr d I_LANE.TICK_COPY_APPLIED 0 |> incSat d LEAT_MISS.TICK_MISS |> incSat d I_LANE.TICK_MISS_RUN
      if 2 ≤ rd q d I_LANE.TICK_MISS_RUN then q |> wr d LEAT_STATUS.TICK_CURRENT 0 |> staleFlag x |> checkReady x
      else q

/-- The standby's boundary for a per-cycle copy (R49, R50): the lists of the lane come with its fields. -/
def takeCycleCopy (x : Side) (p : Pkg) : Pkg :=
  let d := x.helm
  if !(takesCopies p x) then p
  else match (if copyClean p x then (p.staged.get x).cycle else none) with
    | some c =>
      p |> putCells cyclePick d c.1 |> onLane x (fun n => n.taking c.2) |> onStage x (·.freed 2) |> wr d I_LANE.CYCLE_COPY_MISS_RUN 0
        |> wr d LEAT_STATUS.CYCLE_CURRENT 1 |> staleFlag x
    | none =>
      let q := p |> onStage x (·.freed 2) |> incSat d LEAT_MISS.CYCLE_MISS |> incSat d I_LANE.CYCLE_COPY_MISS_RUN
      if 2 ≤ rd q d I_LANE.CYCLE_COPY_MISS_RUN then q |> wr d LEAT_STATUS.CYCLE_CURRENT 0 |> staleFlag x |> checkReady x
      else q

/-! The commands of the table: one meaning each. -/

/-- LEAT_NAK (R45). -/
def execLeatNak (x : Side) (seq : Nat) (s : State) : Host.Outcome State Fault Refusal := nextPk s (leatNak x seq)

/-- LEAT_DOWN (R46). -/
def execLeatDown (x : Side) (silent : Bool) (s : State) : Host.Outcome State Fault Refusal := nextPk s (leatDown x silent)

/-- LEAT_RETRAIN_TIMER (R46). -/
def execLeatRetrainTimer (ok : Bool) (s : State) : Host.Outcome State Fault Refusal := nextPk s (leatRetrainTimer ok)

/-- RETRAIN (R46). -/
def execRetrain (x : Side) (ok : Bool) (s : State) : Host.Outcome State Fault Refusal := nextPk s (retrain x ok)

/-- LOOPBACK (R46). -/
def execLoopback (x : Side) (on : Bool) (s : State) : Host.Outcome State Fault Refusal := nextPk s (loopback x on)

end Sys2Proof.Machine
end

