-- ==== Sys2Proof/Machine/Confluence.lean ====
section
/-! DEFINITION. Chapter 03: samples and their stamps, seals, closing a frame, clock models, contributions, late samples and replay,
projection, and the frame record. -/

namespace Sys2Proof.Machine

/-- The fusion frame in ns of a lane. -/
def frameNs (p : Pkg) (x : Side) : Int := ((rd p x.helm CFL_STATUS.FRAME_MS * 1000000 : Nat) : Int)

/-- ADMIT in ns (R90). -/
def admitNs (p : Pkg) (x : Side) : Nat := rd p x.helm CFL_CFG.ADMIT * 10000

/-- Nanoseconds of a UTC day. -/
def dayNs : Int := 86400000000000

/-- A sentence's time of day on the device's timescale, with the date that places it nearest to the arrival (R88). -/
def utcStamp (offset : Int) (arrival : Nat) (tod : Int) : Int :=
  let base := tod + offset * 1000000000
  base + dayNs * divRne ((arrival : Int) - base) 86400000000000

/-- The source stamp (R86, Table 03-2); none for a sentence without a valid time field (R88). A stamp in ticks is rounded to the nearest
nanosecond, ties to even (DESIGN CHOICE: R94 gives the conversion and no rounding). -/
def sourceStamp (p : Pkg) (m : SrcMatch) (r : RawSample) : Option Int :=
  let a : Int := r.arrival
  match m.stampMode with
  | 1 | 2 => r.own.map (fun t => if m.stampMode = 1 then divRne (t * (m.tickPs : Int)) 1000 else t)
  | 3 => r.own.map (utcStamp (rdS p .sw TIM_UTC.UTC_OFFSET) r.arrival)
  | 4 => some (r.own.getD a)
  | _ => some (a - (r.delay : Int) - (m.latency : Int))

/-- The row of the source matching that a sample meets first (R83). -/
def matchSource (p : Pkg) (r : RawSample) : Option SrcMatch :=
  p.matching.find? (fun m => m.die == r.die.num && m.portType == r.portType && m.portIndex == r.portIndex &&
    Nat.land r.key m.mask == Nat.land m.key m.mask)

/-- Hand a sample to the lanes its die reaches (R84). -/
def deliverSample (r : Die) (s : Sample) (p : Pkg) : Pkg :=
  forAll bothSides (fun x q =>
    if running q x.helm && reaches q r x.helm then
      onLane x (fun l => { l with inbox := l.inbox ++ [s] }) q
    else q) p

/-- A sample at its receiving die (R83, R84); `degraded` as a UDP stream's sender or an OVERRANGE channel marks it (Table 12-1, R285). The sequence number has 32 bits
and wraps (DESIGN CHOICE: R84 gives it no width). -/
def receiveMarked (degraded : Bool) (r : RawSample) (p : Pkg) : Pkg :=
  if !(running p r.die) then p
  else match matchSource p r with
    | none => inc r.die I_DIE.UNMATCHED p
    | some m =>
      match sourceStamp p m r with
      | none => incI r.die I_SRC.FRAMING m.src p
      | some st =>
        let n := trunc 32 (rdI p r.die I_SRC.SEQ m.src + 1)
        { p with stamped := p.stamped ++ [⟨r.die.num, m.src, n, r.arrival⟩] } |> wrI r.die I_SRC.SEQ m.src n |> deliverSample r.die ⟨m.src, n, r.arrival, st, r.comps, degraded⟩

/-- SAMPLE_RECEIVE (R83 to R89). -/
def receiveSample (r : RawSample) (p : Pkg) : Pkg := receiveMarked false r p

/-- Sequence numbers from the one after `a` to `b`, modulo 2^32. -/
def seqSpan (a b : Nat) : Nat := (b + 2 ^ 32 - a) % 2 ^ 32

/-- The number of the last sample that a die has stamped for a source at or before a cutoff (R91). -/
def sealedSeq (p : Pkg) (d : Die) (cut n : Nat) : Nat :=
  match ((p.stamped.filter (fun s => s.die == d.num && s.src == n && decide (s.arrival ≤ cut))).map (fun s => s.seq)).getLast? with
  | some q => q
  | none => rdI p d I_SRC.SEALED n

/-- The cutoff of the present frame in a die's time (R90). -/
def cutoffOf (p : Pkg) (d : Die) : Nat :=
  let x : Side := if running p .ha then .a else .b
  let fr := (frameNs p x).toNat
  now p d / fr * fr + admitNs p x

/-- The sources of a die. -/
def dieSources (p : Pkg) (d : Die) : List Nat := (p.matching.filter (fun m => m.die == d.num)).map (fun m => m.src)

/-- FRAME_CUTOFF (R90, R91): the die's seal for the frame whose cutoff it has reached, once a frame. -/
def frameCutoff (d : Die) (p : Pkg) : Pkg :=
  let srcs := dieSources p d
  let cut := cutoffOf p d
  if !(running p d) || srcs.isEmpty || p.sealsOut.any (fun s => s.die == d.num && s.cutoff == cut) then p
  else
    { p with sealsOut := p.sealsOut.filter (fun s => s.die != d.num) ++
               [⟨d.num, cut, srcs.map (fun n => (n, rdI p d I_SRC.SEALED n, sealedSeq p d cut n))⟩]
             stamped := p.stamped.filter (fun s => !(s.die == d.num && decide (s.arrival ≤ cut))) }
      |> forAll srcs (fun n q => wrI d I_SRC.SEALED n (sealedSeq p d cut n) q)

/-- SEAL_RECEIVE (R91): the lane takes the die's last seal. -/
def sealReceive (x : Side) (d : Die) (p : Pkg) : Pkg :=
  match p.sealsOut.find? (fun s => s.die == d.num) with
  | some s =>
    if running p x.helm && reaches p d x.helm then
      onLane x (fun l => { l with seals := l.seals.filter (fun q => q.die != d.num) ++ [s] }) p
    else p
  | none => p

/-- The dies whose seals a frame needs: those that receive samples for the source table. -/
def sealDies (p : Pkg) (d : Die) : List Nat :=
  [3, 4, 5, 6].filter (fun k => (List.range 64).any (fun n => rdI p d CFL_SRC.KIND n != 0 && rdI p d CFL_SRC.DIE n == k))

/-- A lane holds every sample of a source that a seal counts: each number after the seal before, up to this one's. -/
def holdsSealed (l : Lane) (e : Nat × Nat × Nat) : Bool :=
  let k := seqSpan e.2.1 e.2.2
  (l.inbox.filter (fun s => s.src == e.1 && decide (0 < seqSpan e.2.1 s.seq ∧ seqSpan e.2.1 s.seq ≤ k))).length == k

/-- Every seal and every sealed sample of the frame is held (R91). -/
def framesComplete (p : Pkg) (x : Side) : Bool :=
  let d := x.helm
  let cut := rd p d I_CFL.FRAME_T + admitNs p x
  let l := p.lanes.get x
  (sealDies p d).all (fun k => l.seals.any (fun s => s.die == k && s.cutoff == cut && s.last.all (holdsSealed l)))

/-- A source has a tracked clock model (R89). -/
def tracked (p : Pkg) (d : Die) (n : Nat) : Bool :=
  let m := rdI p d CFL_SRC.STAMP n
  m == 1 || m == 2 || m == 3

/-- The mapped time of a source stamp (R94); the stamp itself for a FIXED or EPOCH source (R89). -/
def mapStamp (p : Pkg) (d : Die) (n : Nat) (s : Int) : Int :=
  if tracked p d n then
    s + rdSI p d CFL_SST.OFFSET n + b64.toInt (fmul (rdI p d I_CFL.DRIFT n) (fint (s - rdSI p d I_CFL.ANCHOR n)))
  else s

/-- A signed number held to 32 bits. -/
def sat32 (v : Int) : Int := clampInt v (-2147483648) 2147483647

/-- The ADRIFT bit of a source. -/
def setAdrift (x : Side) (n : Nat) (on : Bool) (p : Pkg) : Pkg :=
  let F := if n < 32 then CFL_ADRIFT_LO.ADRIFT else CFL_ADRIFT_HI.ADRIFT
  let b := 2 ^ (n % 32)
  let v := rd p x.helm F
  wr x.helm F (if on then Nat.lor v b else v - Nat.land v b) p

/-- Enter CLOCK_ADRIFT (R96), or begin pairing again (R97): the model is cleared and the sample discarded. -/
def enterAdrift (x : Side) (n : Nat) (amount : Int) (p : Pkg) : Pkg :=
  let d := x.helm
  p |> wrI d I_CFL.VALID n 0 |> wrI d I_CFL.SECOND n 0 |> wrI d I_CFL.DRIFT n 0 |> wrI d I_CFL.ANCHOR n 0
    |> wrI d CFL_SST.OFFSET n 0 |> wrI d CFL_SST.DRIFT n 0 |> wrI d CFL_SST.PAIR_COUNT n 0 |> incI d I_CFL.LIFE n
    |> onLane x (fun l => { l with blocks := l.blocks.filter (fun b => b.1 != n) }) |> incI d CFL_SST.DISCARDED n
    |> onlyIf (rdI p d I_CFL.CLOCK n == 3) (fun q => q |> wrI d I_CFL.CLOCK n 4 |> setAdrift x n true
        |> raiseWith d clsWarning CFL_EVENT.ADRIFT_ENTER (.words [n, ofSigned 64 amount]))

/-- The block's smallest lag, at the earliest stamp among equal lags (R95). -/
def smallestLag : List (Nat × Int × Int) → Int × Int
  | [] => (0, 0)
  | [(_, lag, at_)] => (lag, at_)
  | (_, lag, at_) :: r =>
    let q := smallestLag r
    if lag < q.1 ∨ (lag = q.1 ∧ at_ ≤ q.2) then (lag, at_) else q

/-- A full block sets or corrects the model (R95); false when the offset jumped by more than a frame. -/
def blockFull (x : Side) (n : Nat) (p : Pkg) : Pkg × Bool :=
  let d := x.helm
  let lat : Int := rdI p d CFL_SRC.LATENCY n
  let (lam, sj) := smallestLag ((p.lanes.get x).blocks.filter (fun b => b.1 == n))
  let p' := onLane x (fun l => { l with blocks := l.blocks.filter (fun b => b.1 != n) }) p
  let o := rdSI p d CFL_SST.OFFSET n
  let sa := rdSI p d I_CFL.ANCHOR n
  let dr := rdI p d I_CFL.DRIFT n
  let put (q : Pkg) (drift : Nat) (second : Nat) : Pkg :=
    q |> wrSI d CFL_SST.OFFSET n (lam - lat) |> wrSI d I_CFL.ANCHOR n sj |> wrI d I_CFL.DRIFT n drift
      |> wrI d I_CFL.VALID n 1 |> wrI d I_CFL.SECOND n second
      |> wrSI d CFL_SST.DRIFT n (sat32 (b64.toInt (fmul drift (fint 1000000000))))
  if flagI p d I_CFL.VALID n then
    let pred := o + b64.toInt (fmul dr (fint (sj - sa)))
    let jump := lam - lat - pred
    if frameNs p x < jump.natAbs then (enterAdrift x n jump p', false)
    else
      let raw := fdiv (fint (lam - lat - o)) (fint (sj - sa))
      let drift := if flagI p d I_CFL.SECOND n then raw else fadd dr (fdiv (fsub raw dr) (fint 8))
      (put p' drift 0, true)
  else (put p' 0 1, true)

/-- One sample taken into the clock model of a tracked source (R95); true when it passed. -/
def clockStep (x : Side) (s : Sample) (p : Pkg) : Pkg × Bool :=
  let d := x.helm
  let n := s.src
  let eps : Int := (s.arrival : Int) - (rdI p d CFL_SRC.LATENCY n : Int) - mapStamp p d n s.stamp
  let valid := flagI p d I_CFL.VALID n
  let p := if valid then wrSI d CFL_SST.ERROR n (sat32 eps) p else p
  if valid && decide (frameNs p x < (eps.natAbs : Int)) then (enterAdrift x n eps p, false)
  else
    let p := onLane x (fun l => { l with blocks := l.blocks ++ [(n, (s.arrival : Int) - s.stamp, s.stamp)] }) p
    if 16 ≤ ((p.lanes.get x).blocks.filter (fun b => b.1 == n)).length then blockFull x n p else (p, true)

/-- The clock side of an admitted sample (R89, R95 to R97); true when it may be fused. -/
def admitClock (x : Side) (s : Sample) (p : Pkg) : Pkg × Bool :=
  let d := x.helm
  let n := s.src
  let p := p |> incI d CFL_SST.ADMITTED n |> wrI d I_CFL.LAST_ARRIVAL n s.arrival
  let out (q : Pkg) : Pkg := wrI d CFL_SST.MAPPED_LO n (ofSigned 32 (mapStamp q d n s.stamp)) q
  if !(tracked p d n) then (out p, true)
  else
    let (q, ok) := clockStep x s p
    if !ok then (q, false)
    else
      let st := rdI q d I_CFL.CLOCK n
      if st = 3 then (out q, true)
      else
        let c := rdI q d CFL_SST.PAIR_COUNT n + 1
        let q := wrI d CFL_SST.PAIR_COUNT n (min c 32) q
        if 32 ≤ c then
          (q |> wrI d I_CFL.CLOCK n 3 |> setAdrift x n false |> wrI d I_EST.REZERO n 1
            |> raiseWith d clsInfo CFL_EVENT.REPAIRED (.words [n]) |> out, true)
        else (q |> incI d CFL_SST.DISCARDED n |> out, false)

/-- The home frame of a mapped time: the first frame instant at or after it (R101). -/
def homeFrame (fr m : Int) : Int := -((-m) / fr) * fr

/-- ALIGN of a source: HOME. -/
def isHome (p : Pkg) (d : Die) (n : Nat) : Bool := bit (rdI p d CFL_SRC.ALIGN n) 0

/-- ALIGN of a source: HOLD. -/
def isHold (p : Pkg) (d : Die) (n : Nat) : Bool := bit (rdI p d CFL_SRC.ALIGN n) 1

/-- What a component of a kind is: 0 a plain number, 1 an angle wrapped to [0, 360), 2 one wrapped to (-180, 180] (R103). -/
def compKind (kind i : Nat) : Nat :=
  match kind with
  | 2 => if i < 2 then 2 else 0
  | 3 => if i = 0 then 1 else 0
  | 4 => if i < 2 then 2 else 0
  | 5 => if i = 1 ∨ i = 2 then 2 else 0
  | 6 => if i = 1 then 1 else if i = 2 then 2 else 0
  | 7 => if i = 1 then 1 else 0
  | _ => 0

/-- A component on the line through two samples at a fraction of the way (R100, R103). -/
def lineComp (kind i a b frac : Nat) : Nat :=
  match compKind kind i with
  | 0 => fadd a (fmul (fsub b a) frac)
  | 1 => wrap360 (fadd a (fmul (wrap180 (fsub b a)) frac))
  | _ => wrap180 (fadd a (fmul (wrap180 (fsub b a)) frac))

/-- A held component, wrapped. -/
def heldComp (kind i a : Nat) : Nat :=
  match compKind kind i with
  | 0 => a
  | 1 => wrap360 a
  | _ => wrap180 a

/-- The entries of a raw record on the line through two records: an entry of the later one whose signal the earlier one has too (system,
PRN, band) takes its measurements from the line, any other stands as it is (DESIGN CHOICE: R100 speaks of values and not of signals
that one sample lacks). -/
def lineEntries (a b : List Nat) (frac : Nat) : List Nat :=
  (rawEntries b).flatMap (fun e =>
    match (rawEntries a).find? (fun q => vget q 0 == vget e 0 && vget q 1 == vget e 1 && vget q 2 % 2 == vget e 2 % 2) with
    | some q => e.take 4 ++ [4, 5, 6, 7].map (fun i => fadd (vget q i) (fmul (fsub (vget e i) (vget q i)) frac))
    | none => e)

/-- Components at `t` on the line through two samples (R100). -/
def lineValue (kind : Nat) (s0 s1 : Admitted) (t : Int) : List Nat :=
  let frac := fdiv (fint (t - s0.mapped)) (fint (s1.mapped - s0.mapped))
  if kind = 1 then (if t = s0.mapped then s0.comps else lineEntries s0.comps s1.comps frac)
  else (List.range s1.comps.length).map (fun i => lineComp kind i (vget s0.comps i) (vget s1.comps i) frac)

/-- The sample of greatest mapped time, the later of equals. -/
def newestOf : List Admitted → Option Admitted
  | [] => none
  | a :: r => match newestOf r with
    | none => some a
    | some b => if b.mapped < a.mapped then some a else some b

/-- The sample of least mapped time. -/
def oldestOf : List Admitted → Option Admitted
  | [] => none
  | a :: r => match oldestOf r with
    | none => some a
    | some b => if b.mapped < a.mapped then some b else some a

/-- Newest sample extrapolated to `t` with its predecessor, or held (R100 to R102). -/
def carry (kind : Nat) (hold : Bool) (maxNs : Int) (hist : List Admitted) (s : Admitted) (t : Int) : List Nat :=
  let held := if kind = 1 then s.comps else (List.range s.comps.length).map (fun i => heldComp kind i (vget s.comps i))
  if hold then held
  else match newestOf (hist.filter (fun q => decide (q.mapped < s.mapped))) with
    | some q => if s.mapped - q.mapped ≤ maxNs then lineValue kind q s t else held
    | none => held

/-- What a source contributes at a frame before projection, from stored samples: its components, span and the newest mapped time used;
none when the frame has none of its samples (R100, R101). -/
def formValue (p : Pkg) (x : Side) (stored : List Admitted) (maxNs : Int) (n : Nat) (t : Int) : Option (List Nat × Nat × Int) :=
  let d := x.helm
  let kind := rdI p d CFL_SRC.KIND n
  let hist := stored.filter (fun s => s.src == n && decide (s.frame ≤ t))
  if isHome p d n then
    match newestOf (hist.filter (fun s => decide (t - frameNs p x < s.mapped ∧ s.mapped ≤ t))) with
    | some s => some (carry kind (isHold p d n) maxNs hist s t, (t - s.mapped).natAbs, s.mapped)
    | none => none
  else if hist.any (fun s => s.frame == t) then
    let after := oldestOf (hist.filter (fun s => decide (t < s.mapped)))
    let before := newestOf (hist.filter (fun s => decide (s.mapped ≤ t)))
    match after, before with
    | some a, some b => some (lineValue kind b a t, (a.mapped - t).natAbs, a.mapped)
    | _, _ =>
      match newestOf hist with
      | some s => some (carry kind (isHold p d n) maxNs hist s t, (t - s.mapped).natAbs, s.mapped)
      | none => none
  else none

/-- The eight scale factors take framer fields to the units of Table 03-1; a raw record is in them already. -/
def scaled (p : Pkg) (d : Die) (n : Nat) (l : List Nat) : List Nat :=
  if rdI p d CFL_SRC.KIND n = 1 then l
  else
    let f := [CFL_SRC.UNIT_MAP0, CFL_SRC.UNIT_MAP1, CFL_SRC.UNIT_MAP2, CFL_SRC.UNIT_MAP3, CFL_SRC.UNIT_MAP4,
      CFL_SRC.UNIT_MAP5, CFL_SRC.UNIT_MAP6, CFL_SRC.UNIT_MAP7]
    List.zipWith (fun c F => fmul c (f32 p d F n)) l f

/-- A mounting's quaternion. -/
def mountQ (p : Pkg) (d : Die) (n : Nat) : List Nat :=
  let m := rdI p d CFL_SRC.MOUNT n
  [CFL_MOUNT.Q_W, CFL_MOUNT.Q_X, CFL_MOUNT.Q_Y, CFL_MOUNT.Q_Z].map (fun F => rdI p d F m)

/-- A mounting's lever arm. -/
def mountR (p : Pkg) (d : Die) (n : Nat) : List Nat :=
  let m := rdI p d CFL_SRC.MOUNT n
  [CFL_MOUNT.LEVER_X, CFL_MOUNT.LEVER_Y, CFL_MOUNT.LEVER_Z].map (fun F => rdI p d F m)

/-- Heading of a source corrected by its mounting (Table 03-4). -/
def mountedHeading (p : Pkg) (d : Die) (n v : Nat) : Nat := wrap360 (fsub v (quatYaw (mountQ p d n)))

/-- A direction in degrees rotated by a quaternion: its unit vector's, in the plane (Table 03-4). -/
def turnDirection (q : List Nat) (deg : Nat) : Nat :=
  let v := qrot q [Config.fcos (toRad deg), Config.fsin (toRad deg), 0]
  wrap360 (toDeg (Config.fatan2 (vget v 1) (vget v 0)))

/-- Projection of a value (Table 03-4) with the attitude of the frame. A rotation by q_nb ⊗ q_m is two rotations in turn, by q_m and then
by q_nb (DESIGN CHOICE: R109 gives the units one quaternion each, and R110 no product). -/
def project (p : Pkg) (x : Side) (qnb : List Nat) (n : Nat) (v : List Nat) (span : Nat) (newest : Int) : Contrib :=
  let d := x.helm
  let kind := rdI p d CFL_SRC.KIND n
  let qm := mountQ p d n
  let lever := qrot qnb (mountR p d n)
  let g := vget v
  let base : Contrib := ⟨n, kind, span, newest, v, [], lever⟩
  match kind with
  | 3 => { base with vals := [mountedHeading p d n (g 0)] }
  | 4 => { base with vals := Config.attitudeCorrect (g 0) (g 1) qm ++ qrot qm [g 2, g 3, g 4] }
  | 5 => { base with vals := [g 0], dir := qrot qnb (qrot qm (Config.wireVector (g 1) (g 2))) }
  | 6 => { base with vals := [g 0], dir := qrot qnb (qrot qm (Config.sightVector (g 1) (g 2))) }
  | 7 => { base with vals := [g 0, turnDirection qm (g 1)] }
  | _ => base

/-- The attitude and heading orders of FRAMES (R110, Table 03-9): sources of a kind whose mounting has the role, by position. -/
def orderOf (p : Pkg) (d : Die) (role kind : Nat) : List Nat :=
  [0, 1, 2].flatMap (fun k => (List.range 64).filter (fun n =>
    let m := rdI p d CFL_SRC.MOUNT n
    rdI p d CFL_SRC.KIND n == kind && bit (rdI p d CFL_MOUNT.ROLE m) role && rdI p d CFL_MOUNT.ORDER m == k))

/-- A source enabled in CFL_ENABLE (R99). -/
def srcEnabled (p : Pkg) (d : Die) (n : Nat) : Bool :=
  if n < 32 then bit (rd p d CFL_ENABLE_LO.ENABLE) n else bit (rd p d CFL_ENABLE_HI.ENABLE) (n - 32)

/-- A source in PAIRING or CLOCK_ADRIFT (Table 03-5). -/
def quarantined (p : Pkg) (d : Die) (n : Nat) : Bool := rdI p d I_CFL.CLOCK n == 2 || rdI p d I_CFL.CLOCK n == 4

/-- The defined sources of a lane. -/
def definedSrcs (p : Pkg) (d : Die) : List Nat := (List.range 64).filter (fun n => rdI p d CFL_SRC.KIND n != 0)

/-- Values of every source that contributes at `t`, from stored samples, given which sources may (R99, R102). -/
def frameValues (p : Pkg) (x : Side) (stored : List Admitted) (maxNs : Nat) (t : Int) (may : Nat → Bool) : List (Nat × List Nat × Nat × Int) :=
  (definedSrcs p x.helm).filterMap (fun n => if !(may n) then none else (formValue p x stored maxNs n t).map (fun v => (n, v)))

/-- Those within EXTRAP_MAX, and those beyond it. -/
def usable (maxNs : Nat) (l : List (Nat × List Nat × Nat × Int)) :
    List (Nat × List Nat × Nat × Int) × List (Nat × List Nat × Nat × Int) :=
  l.partition (fun v => decide (v.2.2.1 ≤ maxNs))

/-- Scalars a contribution counts for among the contributions of its frame (R104, Table 04-2); `fixed`: the baseline is fixed. -/
def scalarCount (p : Pkg) (d : Die) (ks : List Contrib) (fixed : Bool) (c : Contrib) : Nat :=
  match c.kind with
  | 1 => min (2 * (dualSats c.vals).length + b2n (fixed && isUpperAntenna ks c)) (rdI p d CFL_SRC.MAX_SCALARS c.src)
  | 2 | 5 | 6 => 2
  | 3 | 4 => 1
  | _ => 0

/-- WIND and SCALAR sources count for nothing in the scalar limit (R104). -/
def uncounted (c : Contrib) : Bool := c.kind == 7 || c.kind == 8

/-- Withhold every counted contribution from the first that would take the scalar count above 256 (R104); answers the count too. -/
def limitScalars (count : Contrib → Nat) : Nat → List Contrib → List Contrib × Nat
  | n, [] => ([], n)
  | n, c :: r =>
    if uncounted c then
      let q := limitScalars count n r
      (c :: q.1, q.2)
    else
      let k := n + count c
      if 256 < k then (r.filter uncounted, n)
      else
        let q := limitScalars count k r
        (c :: q.1, q.2)

/-- The estimator's heading for the frame's instant (R110), in degrees: ψ of the propagated state (R116). -/
def predictedHeading (p : Pkg) (x : Side) (tau : List Nat) (dt : Nat) : Nat :=
  wrap360 (toDeg (vget (estPredict (estModel (p.layouts.get x) (frameSet p x)) tau dt (p.lanes.get x).est) 2))

/-- The weights and enables in force for a frame (R125, R130). -/
def frameWeights (p : Pkg) (x : Side) : List SrcWeight :=
  let d := x.helm
  (definedSrcs p d).map (fun n =>
    ⟨n, srcEnabled p d n, rdI p d EST_SRC.STATE n == 2,
      [f32 p d EST_SRC.SIGMA_A n, f32 p d EST_SRC.SIGMA_B n, f32 p d EST_SRC.SIGMA_C n],
      fmul (f32 p d EST_SRC.W_BASE n) (f32 p d EST_SRC.W_DYN n)⟩)

/-- The wind vector of a frame from its WIND contributions (R177): forward and starboard parts of the wind's direction of origin. -/
def windVector (cs : List Contrib) : Option (List Nat) :=
  let parts := (cs.filter (fun c => c.kind == 7)).map (fun c =>
    [fmul (vget c.vals 0) (Config.fcos (toRad (vget c.vals 1))), fmul (vget c.vals 0) (Config.fsin (toRad (vget c.vals 1)))])
  let med (i : Nat) : Nat :=
    let s := parts.map (fun q => vget q i)
    let sorted := s.mergeSort (fun a b => fle a b)
    match sorted.length with
    | 2 => fmul (fadd (vget sorted 0) (vget sorted 1)) fhalf
    | n => if n % 2 = 1 then vget sorted (n / 2) else fmul (fadd (vget sorted (n / 2 - 1)) (vget sorted (n / 2))) fhalf
  if parts.isEmpty then none else some [med 0, med 1]

/-- A wind coefficient: the table at 10° steps, linear between (R177). -/
def windCoef (t : List Nat) (deg : Nat) : Nat :=
  let q := fdiv deg (fint 10)
  let i := (b64.floor q).toNat
  let a := vget t (i % t.length)
  let b := vget t ((i + 1) % t.length)
  fadd a (fmul (fsub b a) (fsub q (fint i)))

/-- The wind force in kN and kN m (R177). -/
def windForce (p : Pkg) (x : Side) (w : List Nat) : List Nat :=
  let l := p.layouts.get x
  let sp2 := fadd (fmul (vget w 0) (vget w 0)) (fmul (vget w 1) (vget w 1))
  let deg := wrap360 (toDeg (Config.fatan2 (vget w 1) (vget w 0)))
  let k := fdiv (fmul (fmul (fmul (f32 p x.helm ASM_WIND_GAIN.V 0) fhalf) (frat 1226 1000)) sp2) (fint 1000)
  let a := vget l.windAreas
  [fmul k (fmul (a 0) (windCoef l.windX deg)), fmul k (fmul (a 1) (windCoef l.windY deg)),
    fmul k (fmul (fmul (a 1) (a 2)) (windCoef l.windN deg))]

/-- The wind force of a closed frame: formed, or the last one held (R177). -/
def frameWind (x : Side) (cs : List Contrib) (p : Pkg) : Pkg :=
  let d := x.helm
  match windVector cs with
  | some w => p |> onLane x (fun l => { l with wind := windForce p x w }) |> wr d I_ASM.WIND_AGE 0 |> wr d ASM_STATUS.WIND_LOST 0
  | none => wr d I_ASM.WIND_AGE (rd p d I_ASM.WIND_AGE + rd p d CFL_STATUS.FRAME_MS) p

/-- WIND_LOST (R177): WIND_HOLD has passed without a wind contribution. -/
def windLost (x : Side) (p : Pkg) : Pkg :=
  let d := x.helm
  if !(flag p d ASM_STATUS.WIND_LOST) && fle (fmul (f32 p d ASM_WIND_HOLD.V 0) (fint 1000)) (fint (rd p d I_ASM.WIND_AGE)) then
    p |> onLane x (fun l => { l with wind := [0, 0, 0] }) |> wr d ASM_STATUS.WIND_LOST 1 |> raise d clsWarning ASM_EVENT.WIND_LOST
  else p

/-- The vessel force of a frame: delivered thrust averaged over its ticks, plus the wind (R116, R176). -/
def frameForce (p : Pkg) (x : Side) : List Nat :=
  let l := p.lanes.get x
  let thr := if l.tauTicks = 0 then l.tau else vscale (fdiv fone (fint l.tauTicks)) l.tau
  vadd thr l.wind

/-- The stored samples as the clock models stand now (R108): those that the present life of their source's model covers are mapped again,
the others keep the mapped time stored with them. -/
def remapped (p : Pkg) (x : Side) (l : List Admitted) : List Admitted :=
  let d := x.helm
  l.map (fun s => if tracked p d s.src && s.life == rdI p d I_CFL.LIFE s.src then { s with mapped := mapStamp p d s.src s.stamp } else s)

/-- Re-form a closed frame's contributions from samples mapped again, with its stored attitude, settings, weights and enables (R106, R108,
R130). -/
def reform (p : Pkg) (x : Side) (stored : List Admitted) (f : ClosedFrame) : ClosedFrame :=
  let m := f.set.extrapMax
  let vals := (usable m (frameValues p x stored m f.t (fun n => (weightOf f n).enabled && !(quarantined p x.helm n)))).1
  let qnb := attitudeQ f.roll f.pitch f.heading
  let cs := vals.map (fun v => project p x qnb v.1 v.2.1 v.2.2.1 v.2.2.2)
  { f with contribs := (limitScalars (scalarCount p x.helm cs f.fixed.isSome) 0 cs).1 }

/-- A frame is to be re-formed for folded samples (R106): it is the home of one of them, or a value of one's source is another with it. -/
def affected (p : Pkg) (x : Side) (stored : List Admitted) (late : List (Admitted × Int)) (f : ClosedFrame) : Bool :=
  let was := stored.filter (fun s => !(late.any (fun e => e.1.src == s.src && e.1.seq == s.seq)))
  late.any (fun e => e.2 == f.t || (decide (e.2 ≤ f.t) &&
    formValue p x stored f.set.extrapMax e.1.src f.t != formValue p x was f.set.extrapMax e.1.src f.t))

/-- Closed frames with some of them replaced by their re-formed likes. -/
def overlay (old new : List ClosedFrame) : List ClosedFrame := old.map (fun f => (new.find? (fun g => g.t == f.t)).getD f)

/-- The heading of the fixed baseline in force: fixed by enough resolved double differences and FIX_RATIO, lost below 5 (R121). With an
antenna that does not contribute there is no double difference. -/
def baselineStep (x : Side) (cs : List Contrib) (p : Pkg) : Pkg × Option Nat :=
  let d := x.helm
  let b := baselineOf p x cs
  let was := flag p d EST_STATUS.HEADING_FIXED
  let enough := !b.isEmpty && decide (5 ≤ vget b 0)
  let now := enough && (was || flt (fq p d EST_GNSS.FIX_RATIO 10) (vget b 1))
  (p |> wr d EST_STATUS.HEADING_FIXED (b2n now) |> onlyIf (now && !was) (raise d clsInfo EST_EVENT.FIX_GAINED)
    |> onlyIf (was && !now) (raise d clsWarning EST_EVENT.FIX_LOST), if now then some (vget b 2) else none)

/-- Push a snapshot into a ring of 72 (R130). -/
def pushSnap (s : Snapshot) (l : List Snapshot) : List Snapshot :=
  let r := l ++ [s]
  r.drop (r.length - 72)

/-- The snapshot of the frame before an instant (R130). -/
def snapBefore (l : List Snapshot) (t : Int) : Option Snapshot := (l.filter (fun s => decide (s.t < t))).getLast?

/-- A track without the anchors of some sources (R123). -/
def EstCore.without (l : List Nat) (c : EstCore) : EstCore := { c with anchors := c.anchors.filter (fun a => !(l.contains a.1)) }

/-- Re-run the next frame of a replay with what the frame keeps (R130, R131): its ω₀, the anchors dropped before it, the
inflation and the changes after. -/
def replayOne (p : Pkg) (x : Side) (r : Replay) : Replay :=
  match (overlay (p.lanes.get x).frames r.frames).find? (fun f => decide (r.next ≤ f.t)) with
  | some f =>
    let o := (estUpdate p x f ({ r.core with omega := f.omega }.without f.dropped)).core
    let c := (if f.inflated then inflate o else o).added f.shifts
    { r with core := c, ring := pushSnap ⟨f.t, c⟩ r.ring, next := f.t + 1, finished := decide ((rd p x.helm I_EST.T0 : Int) ≤ f.t) }
  | none => { r with finished := true }

/-- Re-run up to `n` frames. -/
def replayRun (p : Pkg) (x : Side) : Nat → Replay → Replay
  | 0, r => r
  | n + 1, r => if r.finished then r else replayRun p x n (replayOne p x r)

/-- Show a replay in the status registers. -/
def replayStatus (x : Side) (p : Pkg) : Pkg :=
  let d := x.helm
  match (p.lanes.get x).replay with
  | some r =>
    let left := if r.finished then 0 else ((p.lanes.get x).frames.filter (fun f => decide (r.next ≤ f.t))).length
    p |> wr d EST_STATUS.REPLAYING 1 |> wr d CFL_STATUS.REPLAYING 1 |> wr d EST_STATUS.REPLAY_LEFT (min left 255)
  | none => p |> wr d EST_STATUS.REPLAYING 0 |> wr d CFL_STATUS.REPLAYING 0 |> wr d EST_STATUS.REPLAY_LEFT 0

/-- At a close, a finished replay replaces the live track, but for ω₀, which only a boundary changes (R118, R131); one unfinished by the
eighth close after it began is lost (R133). -/
def replaySwap (x : Side) (t : Int) (p : Pkg) : Pkg :=
  let d := x.helm
  let l := p.lanes.get x
  match l.replay with
  | none => p
  | some r =>
    if r.finished then
      p |> onLane x (fun l => { l with est := { r.core with omega := l.est.omega }, ring := r.ring, replay := none, frames := overlay l.frames r.frames })
        |> inc d EST_REPLAYS.V |> wr d EST_STATUS.DEPTH r.depth |> wr d I_CFL.ROLLBACK r.depth
        |> wr d I_CFL.NEXT_FLAGS (Nat.lor (rd p d I_CFL.NEXT_FLAGS) 4)
    else if 8 * frameNs p x ≤ t - r.start then replayAbandon x p
    else p

/-- Put a replay into a lane. -/
def setReplay (x : Side) (r : Replay) (p : Pkg) : Pkg := onLane x (fun l => { l with replay := some r }) p

/-- Fold late samples in at the close of the frame at `t`, `h` the earliest of their home frames (R106, R108, R130, R132): the frames that
they affect are re-formed as the clock models and the quarantine stand now, and a replay starts from `h`, or a running one takes the
samples in. -/
def replayFold (x : Side) (t h : Int) (late : List (Admitted × Int)) (p : Pkg) : Pkg :=
  let l := p.lanes.get x
  let depth := ((t - h) / frameNs p x).toNat
  let upto (s : Snapshot) (ring : List Snapshot) := ring.filter (fun q => decide (q.t ≤ s.t))
  let stored := remapped p x l.hist
  let mine := late.map (fun e => (e.1.src, e.1.seq))
  let formed (old : List ClosedFrame) : List ClosedFrame :=
    (overlay l.frames old).filterMap (fun f =>
      if decide (h ≤ f.t) && affected p x stored late f then some (reform p x stored f) else old.find? (fun g => g.t == f.t))
  match l.replay with
  | some r =>
    let q := { r with depth := max r.depth depth, frames := formed r.frames, carried := r.carried ++ mine }
    if r.next ≤ h then setReplay x { q with finished := false } p
    else match snapBefore r.ring h with
      | some s => setReplay x { q with core := s.core, ring := upto s r.ring, next := h, finished := false } p
      | none => p
  | none =>
    match snapBefore l.ring h with
    | some s => setReplay x ⟨s.core, upto s l.ring, h, t, depth, false, formed [], mine⟩ p
    | none => p

/-- A late sample is discarded (R106, R107). -/
def dropLate (x : Side) (p : Pkg) : Pkg :=
  let d := x.helm
  p |> inc d CFL_LATE_DROPPED.COUNT |> raise d clsWarning CFL_EVENT.LATE_DROP |> wr d I_CFL.FLAGS (Nat.lor (rd p d I_CFL.FLAGS) 32)

/-- The home frame of a sample that is late at the close of the frame at `t` (R105); none when it is not late. A sealed sample that came
after its frame's close is at home in that frame, unless it is a HOME sample with a closed home frame of its own. -/
def lateHome (p : Pkg) (x : Side) (t m : Int) (s : Sample) : Option Int :=
  let d := x.helm
  let fr := frameNs p x
  if isHome p d s.src && decide (homeFrame fr m < t) then some (homeFrame fr m)
  else if s.arrival ≤ rd p d I_CFL.LAST_CUTOFF then some (homeFrame fr ((s.arrival : Int) - (admitNs p x : Int)))
  else if isHome p d s.src then none
  else if flagI p d I_CFL.USED_ONCE s.src && decide (m < rdSI p d I_CFL.LAST_USED s.src) then some (homeFrame fr m)
  else none

/-- Store a sample in the buffer of 49,152 (R108): a source that would overflow it gives up its oldest sample. -/
def storeSample (s : Admitted) (l : List Admitted) : List Admitted :=
  if l.length < 49152 then l ++ [s]
  else match l.find? (fun q => q.src == s.src) with
    | some o => l.erase o ++ [s]
    | none => l

/-- Admit one sample at the close of the frame at `t`; samples to fold gather in the list with their home frames (R105 to R107). -/
def admitOne (x : Side) (t : Int) (acc : Pkg × List (Admitted × Int)) (s : Sample) : Pkg × List (Admitted × Int) :=
  let d := x.helm
  let (p, fold) := acc
  let (q, ok) := admitClock x s p
  if !ok then (q, fold)
  else
    let m := mapStamp q d s.src s.stamp
    let kept (f : Int) : Admitted := ⟨s.src, s.seq, s.arrival, s.stamp, m, scaled q d s.src s.comps, f, rdI q d I_CFL.LIFE s.src⟩
    match lateHome q x t m s with
    | none => (onLane x (fun l => { l with hist := storeSample (kept t) l.hist }) q, fold)
    | some h =>
      let fr := frameNs q x
      if 64 * fr < t - h ∨ h < (rd q d I_CFL.STEP_T : Int) then (dropLate x q, fold)
      else (inc d CFL_LATE_REPLAYED.COUNT q, fold ++ [(kept h, h)])

/-- The samples of the closing frame: those that arrived by its cutoff, in ascending source and sequence (R90, R95). -/
def admitted (cut : Nat) (l : List Sample) : List Sample :=
  let s := l.filter (fun q => decide (q.arrival ≤ cut))
  (List.range 64).flatMap (fun n => (s.filter (fun q => q.src == n)).mergeSort (fun a b => decide (seqSpan a.seq b.seq < 2 ^ 31)))

/-- Keep the samples of the last 64 frames (R108). -/
def pruneHist (t fr : Int) (l : List Admitted) : List Admitted := l.filter (fun s => decide (t - 64 * fr ≤ s.frame))

/-- Report each source's state (Table 03-10). -/
def sourceStates (x : Side) (t : Nat) (p : Pkg) : Pkg :=
  let d := x.helm
  forAll (definedSrcs p d) (fun n q =>
    let silent := rdI q d CFL_SRC.SILENT_MS n
    let quiet := silent != 0 && decide (rdI q d I_CFL.LAST_ARRIVAL n + silent * 1000000 < t)
    q |> wrI d CFL_SST.STATE n (if quiet then 5 else rdI q d I_CFL.CLOCK n) |> wrI d CFL_SST.DISABLED n (b2n (!(srcEnabled q d n)))) p

/-- Kinds that measure against a zeroed point (R122). -/
def relativeKind (k : Nat) : Bool := k == 5 || k == 6

/-- The relative sources that are to be zeroed again (R123). -/
def toRezero (p : Pkg) (d : Die) : List Nat := (definedSrcs p d).filter (fun n => flagI p d I_EST.REZERO n && relativeKind (rdI p d CFL_SRC.KIND n))

/-- Sources to be zeroed again lose their anchor and their exclusion (R123). -/
def rezero (x : Side) (p : Pkg) : Pkg :=
  let d := x.helm
  let l := toRezero p d
  p |> onLane x (fun n => { n with est := n.est.without l })
    |> forAll l (fun n q => q |> wrI d EST_SRC.STATE n 3 |> wrI d I_EST.REJ_HISTORY n 0 |> wrI d EST_SRC.REJ64 n 0)
    |> forAll (definedSrcs p d) (fun n => wrI d I_EST.REZERO n 0)

/-- STATE of the sources after a frame (Table 04-6, R122): a relative source without an anchor waits for zeroing; a source that has
contributed is FUSED when a scalar of it was applied, else NOT_USED; an EXCLUDED one stays so. -/
def sourceStatus (x : Side) (cs : List Contrib) (fusedSrc : List Nat) (p : Pkg) : Pkg :=
  let d := x.helm
  forAll (definedSrcs p d) (fun n q =>
    if rdI q d EST_SRC.STATE n = 2 then q
    else if relativeKind (rdI q d CFL_SRC.KIND n) && ((q.lanes.get x).est.anchor n).isNone then wrI d EST_SRC.STATE n 3 q
    else if cs.any (fun c => c.src == n) then wrI d EST_SRC.STATE n (b2n (fusedSrc.contains n)) q
    else q) p

/-- The attitude of a frame (R110): roll, pitch, heading, and whether roll and pitch are assumed. -/
def frameAttitude (p : Pkg) (x : Side) (tau : List Nat) (dt : Nat) (vals : List (Nat × List Nat × Nat × Int)) : List Nat × Bool :=
  let d := x.helm
  let rejected (n : Nat) : Bool := (rd p d I_EST.REJECT_SRC).testBit n
  let val (n : Nat) := (vals.find? (fun v => v.1 == n && !(rejected n))).map (fun v => v.2.1)
  let hdg := match (orderOf p d 1 3).findSome? (fun n => (val n).map (fun v => mountedHeading p d n (vget v 0))) with
    | some h => h
    | none => predictedHeading p x tau dt
  match (orderOf p d 0 4).findSome? (fun n => (val n).map (fun v => Config.attitudeCorrect (vget v 0) (vget v 1) (mountQ p d n))) with
  | some a => ([vget a 0, vget a 1, hdg], false)
  | none => ([0, 0, hdg], true)

/-- What the frame being closed takes over before anything else (R92, R131, R133): a finished replay's track, the flags that wait for a
record, and SEAL_SHORT. -/
def frameOpening (x : Side) (t : Int) (short : Bool) (p : Pkg) : Pkg :=
  let d := x.helm
  p |> wr d I_CFL.FRAME_OPEN 0 |> wr d I_CFL.ROLLBACK 0 |> replaySwap x t
    |> (fun q => q |> wr d I_CFL.FLAGS (rd q d I_CFL.NEXT_FLAGS) |> wr d I_CFL.NEXT_FLAGS 0) |> wr d CFL_STATUS.SEAL_SHORT (b2n short)
    |> onlyIf short (fun q => q |> inc d CFL_SEAL_SHORT.COUNT |> raise d clsWarning CFL_EVENT.SEAL_SHORT
        |> wr d I_CFL.FLAGS (Nat.lor (rd q d I_CFL.FLAGS) 2))

/-- What the contributions of a closed frame leave in the registers (R102, R104, R110, Table 03-10). -/
def frameMarks (x : Side) (bad held : Nat) (assumed : Bool) (cs : List Contrib) (p : Pkg) : Pkg :=
  let d := x.helm
  p |> wr d CFL_UNUSABLE.COUNT (rd p d CFL_UNUSABLE.COUNT + bad) |> wr d CFL_STATUS.ATT_ASSUMED (b2n assumed)
    |> onlyIf assumed (fun q => q |> raise d clsWarning CFL_EVENT.ATT_ASSUMED |> wr d I_CFL.FLAGS (Nat.lor (rd q d I_CFL.FLAGS) 8))
    |> onlyIf (held != 0) (fun q => q |> wr d CFL_MEAS_OVF.COUNT (rd q d CFL_MEAS_OVF.COUNT + held)
        |> raise d clsWarning CFL_EVENT.MEAS_OVF |> wr d I_CFL.FLAGS (Nat.lor (rd q d I_CFL.FLAGS) 16))
    |> forAll cs (fun c q => q |> wrI d CFL_SST.SPAN c.src (min (c.span / 1000) (2 ^ 32 - 1))
        |> wrSI d I_CFL.LAST_USED c.src c.newest |> wrI d I_CFL.USED_ONCE c.src 1
        |> onlyIf (c.kind == 8) (wrI d I_CFL.SCALAR c.src (vget c.vals 0)))

/-- The frame formed at `t` from the stored samples (R99 to R110), with the marks it leaves; `dropped` are the sources it zeroes again.
The wind is formed first, since the predicted heading needs the vessel's force. -/
def formFrame (x : Side) (t : Int) (dt : Nat) (dropped : List Nat) (p : Pkg) : Pkg × ClosedFrame × Nat :=
  let d := x.helm
  let set := frameSet p x
  let all := frameValues p x (p.lanes.get x).hist set.extrapMax t (fun n => srcEnabled p d n && !(quarantined p d n))
  let (vals, bad) := usable set.extrapMax all
  let flat := attitudeQ 0 0 0
  let winds := (vals.filter (fun v => rdI p d CFL_SRC.KIND v.1 == 7)).map (fun v => project p x flat v.1 v.2.1 v.2.2.1 v.2.2.2)
  let p := frameWind x winds p
  let tau := frameForce p x
  let (att, assumed) := frameAttitude p x tau dt vals
  let qnb := attitudeQ (vget att 0) (vget att 1) (vget att 2)
  let cs0 := vals.map (fun v => project p x qnb v.1 v.2.1 v.2.2.1 v.2.2.2)
  let (p, fixed) := baselineStep x cs0 p
  let (cs, scal) := limitScalars (scalarCount p d cs0 fixed.isSome) 0 cs0
  let f : ClosedFrame := ⟨t, dt, cs, frameWeights p x, set, vget att 0, vget att 1, vget att 2, tau, fixed, (p.lanes.get x).est.omega,
    rd p d EST_STATUS.PHASE == 2, dropped, false, []⟩
  (frameMarks x bad.length (cs0.length - cs.length) assumed cs p, f, scal)

/-- The sources of a lane that are EXCLUDED. -/
def excludedSrcs (p : Pkg) (d : Die) : List Nat := (definedSrcs p d).filter (fun n => rdI p d EST_SRC.STATE n == 2)

/-- The live update of a closed frame (R116 to R128, R135), and what it leaves in the registers. -/
def liveUpdate (x : Side) (f : ClosedFrame) (p : Pkg) : Pkg :=
  let d := x.helm
  let far (q : Pkg) : Bool := decide (2 ≤ rd q d SP_STATUS.MODE) && flt (fint 50000) (datumDistance (q.lanes.get x).est)
  if rd p d EST_STATUS.PHASE = 0 then
    p |> notePlanFix x f |> estStart x f |> wr d I_EST.FUSED 0 |> wr d I_EST.REJECTED 0 |> wr d I_EST.FUSED_SRC 0
      |> wr d I_EST.REJECT_SRC (srcBits (excludedSrcs p d)) |> sourceStatus x f.contribs []
  else
    let old := (p.lanes.get x).est
    let o := estUpdate p x f old
    p |> onLane x (fun l => { l with est := o.core, ring := pushSnap ⟨f.t, o.core⟩ l.ring
                                     tests := (l.tests ++ o.tests).filter (fun s => decide (f.t - 64 * frameNs p x < s.t)) })
      |> recordCrossings x f.t old.x o.core.x |> sourceStats x o f.contribs
      |> wr d I_EST.FUSED o.fused |> wr d I_EST.REJECTED o.rejected |> wr d I_EST.FUSED_SRC (srcBits o.fusedSrc)
      |> wr d I_EST.REJECT_SRC (srcBits o.rejSrc) |> wr d EST_FUSED.V (rd p d EST_FUSED.V + o.fused)
      |> wr d EST_REJECTED.V (rd p d EST_REJECTED.V + o.rejected)
      |> sourceStatus x f.contribs o.fusedSrc |> deadReckoning x o.posApplied |> watchConvergence x f.t.toNat
      |> (fun q => wr d EST_STATUS.DATUM_FAR (b2n (far q)) q)

/-- The replay at a close (R106, R130 to R132): the late samples join the stored ones, a replay takes them in unless the estimator is in
INIT, and it re-runs its frames of this period. -/
def replayStep (x : Side) (t : Int) (late : List (Admitted × Int)) (p : Pkg) : Pkg :=
  let d := x.helm
  let p := onLane x (fun l => { l with hist := late.foldl (fun h e => storeSample e.1 h) l.hist }) p
  let p := match (late.map (fun e => e.2)).min? with
    | some h => if rd p d EST_STATUS.PHASE = 0 then p else replayFold x t h late p
    | none => p
  match (p.lanes.get x).replay with
  | some r => setReplay x (replayRun p x (rd p d EST_TIMING.REPLAY_STEPS) r) p
  | none => p

/-- Close the frame (R91 to R110) and run the estimator's live update and then the replay (R116 to R133). -/
def closeFrame (x : Side) (short : Bool) (p : Pkg) : Pkg :=
  let d := x.helm
  let tn := rd p d I_CFL.FRAME_T
  let t : Int := tn
  let cut := tn + admitNs p x
  let dt := tn - rd p d I_CFL.PREV_T
  let came := admitted cut (p.lanes.get x).inbox
  let p := p |> frameOpening x t short |> onLane x (fun l => { l with inbox := l.inbox.filter (fun s => decide (cut < s.arrival)) })
  let (p, late) := came.foldl (admitOne x t) (p, [])
  let dropped := toRezero p d
  let p := p |> onLane x (fun l => { l with hist := pruneHist t (frameNs p x) l.hist }) |> rezero x
  let (p, f, scal) := formFrame x t dt dropped p
  p |> onLane x (fun l => { l with frames := (l.frames ++ [f]).drop (l.frames.length + 1 - 72), tau := [0, 0, 0], tauTicks := 0 })
    |> wr d I_EST.CONTRIB (srcBits (f.contribs.map (fun c => c.src))) |> wr d I_EST.SCALARS scal |> wr d I_EST.T0 tn
    |> liveUpdate x f |> replayStep x t late
    |> replayStatus x |> sourceStates x tn |> wr d I_CFL.LAST_CUTOFF cut |> wr d I_CFL.PREV_T tn |> estReadout x

/-- Committed values that the dies have the order for wait to be applied at `t` or before: they take effect before anything else of a
boundary (R421), its frame among it. -/
def applyDue (p : Pkg) (t : Nat) : Bool := p.txn.ordered && decide (rd p .sw I_TXN.B ≤ t)

/-- The lane's open frame may close: no committed value comes before it. -/
def frameMayClose (p : Pkg) (x : Side) : Bool :=
  running p x.helm && flag p x.helm I_CFL.FRAME_OPEN && !(applyDue p (rd p x.helm I_CFL.FRAME_T))

/-- FRAME_CLOSE (R91): with every seal and sealed sample held. -/
def frameClose (x : Side) (p : Pkg) : Pkg :=
  if frameMayClose p x && framesComplete p x then closeFrame x false p else p

/-- SEAL_SHORT (R92): the frame closes at t_C + 50 µs although a seal or a sealed sample is missing. -/
def sealShort (x : Side) (p : Pkg) : Pkg :=
  if frameMayClose p x then
    (if framesComplete p x then closeFrame x false p else closeFrame x true p)
  else p

/-- The frame record of the last closed frame (Tables 03-5 and 04-4), 256 bytes little-endian. -/
def frameRecord (p : Pkg) (x : Side) : List Nat :=
  let d := x.helm
  let t := rd p d I_CFL.PREV_T
  let s := (p.lanes.get x).est
  let g := vget s.x
  let fr := rd p d CFL_STATUS.FRAME_MS
  let quar := srcBits ((definedSrcs p d).filter (quarantined p d))
  let co := Config.fcos (g 2)
  let si := Config.fsin (g 2)
  let uTot := fadd (g 3) (fadd (fmul co (g 10)) (fmul si (g 12)))
  let vTot := fadd (g 4) (fsub (fmul co (g 12)) (fmul si (g 10)))
  let flags := Nat.lor (rd p d I_CFL.FLAGS) (b2n (flag p d I_CFL.SAW_STEP))
  let st := rd p d EST_STATUS.PHASE + 4 * rd p d EST_STATUS.DEAD_RECKONING + 8 * rd p d EST_STATUS.HEADING_FIXED +
    16 * rd p d EST_STATUS.POS_REACQUIRE + 32 * rd p d EST_STATUS.DATUM_FAR + 64 * rd p d EST_STATUS.WAVE_CLAMPED
  let q (v : Nat) := leBytes 8 v
  let r (v : Nat) := leBytes 4 (f64to32 v)
  q (t + 400000) ++ leBytes 4 (t / 1000000 / fr) ++ leBytes 2 flags ++ leBytes 2 (rd p d I_EST.SCALARS) ++ q (rd p d I_EST.CONTRIB) ++
    q quar ++ [rd p d I_CFL.ROLLBACK, 0, 0, 0] ++ leBytes 4 192 ++ List.replicate 24 0 ++
  q (g 0) ++ q (g 1) ++ q (wrap360 (toDeg (g 2))) ++ q (g 3) ++ q (g 4) ++ q (toDeg (g 5)) ++
    q (g 6) ++ q (g 7) ++ q (g 8) ++ q (fadd (g 0) (g 9)) ++ q (fadd (g 1) (g 11)) ++ q (wrap360 (toDeg (fadd (g 2) (g 13)))) ++
    q uTot ++ q vTot ++ q (toDeg (fadd (g 5) (g 14))) ++ q (g 15) ++ q (g 16) ++ q s.omega ++
    r (s.sd 0) ++ r (s.sd 1) ++ r (toDeg (s.sd 2)) ++ leBytes 2 st ++ leBytes 2 (rd p d I_EST.FUSED) ++ leBytes 2 (rd p d I_EST.REJECTED) ++
    [0, 0] ++ leBytes 4 (rd p d EST_DATUM_ID.COUNT) ++ q (rd p d I_EST.FUSED_SRC) ++ q (rd p d I_EST.REJECT_SRC) ++ List.replicate 8 0

/-- A lane's confluence at the start of a lane or an apply (R97): every tracked source begins in PAIRING; the relative sources wait for
zeroing (R122). -/
def confluenceStart (x : Side) (p : Pkg) : Pkg :=
  let d := x.helm
  forAll (definedSrcs p d) (fun n q => q |> wrI d I_CFL.CLOCK n (if tracked q d n then 2 else 1)
    |> wrI d CFL_SST.STATE n (if tracked q d n then 2 else 1) |> wrI d I_CFL.LAST_ARRIVAL n (now q d)) p
    |> sourceStatus x [] [] |> wr d CFL_STATUS.SOURCES (definedSrcs p d).length

/-- A time moved by a step; never before 0. -/
def movedBy (ns : Int) (t : Nat) : Nat := ((t : Int) + ns).toNat

/-- A sample moved by a step: its arrival, and its source stamp where that is in device time (R89, R98). -/
def Sample.moved (ns : Int) (trackedSrc : Bool) (s : Sample) : Sample :=
  { s with arrival := movedBy ns s.arrival, stamp := if trackedSrc then s.stamp else s.stamp + ns }

/-- A track at the instant of a step (R117): −c times the step goes to cδt. -/
def EstCore.stepped (ns : Int) (c : EstCore) : EstCore :=
  { c with x := c.x.set 15 (fsub (vget c.x 15) (fmul fLight (fdiv (fint ns) (fint 1000000000)))) }

/-- The lists of a lane at an accepted time step of `ns` (R98, R117): every stored time moves with device time, the last snapshot is
corrected as the live track is. -/
def Lane.stepped (ns : Int) (tr : Nat → Bool) (l : Lane) : Lane :=
  { l with
    hist := l.hist.map (fun s => { s with mapped := s.mapped + ns, arrival := movedBy ns s.arrival, frame := s.frame + ns,
                                          stamp := if tr s.src then s.stamp else s.stamp + ns })
    inbox := l.inbox.map (fun s => s.moved ns (tr s.src))
    blocks := l.blocks.map (fun b => (b.1, b.2.1 + ns, b.2.2))
    seals := l.seals.map (fun s => { s with cutoff := movedBy ns s.cutoff })
    frames := l.frames.map (fun f => { f with t := f.t + ns })
    tests := l.tests.map (fun s => { s with t := s.t + ns })
    crossings := l.crossings.map (· + ns)
    est := l.est.stepped ns
    ring := l.ring.map (fun s => { t := s.t + ns, core := s.core.stepped ns }) }

/-- The lane's side of an accepted time step (R98, R107, R116, R117, R133, R136): offsets and stored times move with device time, so that
intervals across the step are those that have passed. -/
def laneStep (x : Side) (ns : Int) (p : Pkg) : Pkg :=
  let d := x.helm
  let move (F : Fld) (q : Pkg) : Pkg := wr d F (movedBy ns (rd q d F)) q
  p |> replayAbandon x
    |> forAll (definedSrcs p d) (fun n q => q |> onlyIf (tracked q d n) (wrSI d CFL_SST.OFFSET n (rdSI q d CFL_SST.OFFSET n + ns))
        |> wrSI d I_CFL.LAST_USED n (rdSI q d I_CFL.LAST_USED n + ns) |> wrI d I_CFL.LAST_ARRIVAL n (movedBy ns (rdI q d I_CFL.LAST_ARRIVAL n)))
    |> onLane x (Lane.stepped ns (tracked p d))
    |> forAll [I_CFL.FRAME_T, I_CFL.LAST_CUTOFF, I_CFL.PREV_T, I_CFL.EMITTED, I_EST.T0, I_EST.CONV_SINCE, I_TIME.BOUND_AT] move
    |> wr d I_CFL.STEP_T (now p d) |> wr d I_CFL.SAW_STEP 1
    |> wr d I_TIME.BOUND_HOLD (now p d + rd p d CFL_STATUS.FRAME_MS * 1000000)

/-! The commands of the table: one meaning each. -/

/-- SAMPLE_RECEIVE (R84). -/
def execSampleReceive (r : RawSample) (s : State) : Host.Outcome State Fault Refusal := nextPk s (receiveSample r)

/-- FRAME_CUTOFF (R91). -/
def execFrameCutoff (d : Die) (s : State) : Host.Outcome State Fault Refusal := nextPk s (frameCutoff d)

/-- SEAL_RECEIVE (R91). -/
def execSealReceive (x : Side) (d : Die) (s : State) : Host.Outcome State Fault Refusal := nextPk s (sealReceive x d)

/-- FRAME_CLOSE (R91). -/
def execFrameClose (x : Side) (s : State) : Host.Outcome State Fault Refusal := nextPk s (frameClose x)

/-- SEAL_SHORT (R92). -/
def execSealShort (x : Side) (s : State) : Host.Outcome State Fault Refusal := nextPk s (sealShort x)

/-- WIND_LOST (R177). -/
def execWindLost (x : Side) (s : State) : Host.Outcome State Fault Refusal := nextPk s (windLost x)

end Sys2Proof.Machine
end

