-- ==== Sys2Proof/Machine/Health.lean ====
section
/-! DEFINITION. Chapter 17, the part every die carries out: counting the occurrences of a fault on a resource and judging it
transient or permanent (R444, R445), and the SRAM pages. -/

namespace Sys2Proof.Machine

/-- The block of a resource kind of Table 17-3: 0 SRAM page, 1 loop slot, 2 furrow engine, 3 tracking channel, 4 CAN controller,
5 analog input, 6 culvert link, 7 leat. -/
def kindBlock : Nat → Nat
  | 0 => 0x31 | 1 => 0x17 | 2 => 0x16 | 3 => 0x20 | 4 => 0x29 | 5 => 0x28 | 6 => 0x30 | _ => 0x11

/-- The side of a helm, baseband or port die. -/
def Die.side : Die → Side
  | .hb | .gb | .pb => .b
  | _ => .a

/-- Regions of a helm's SRAM in pages of 4 KiB, in the order of Table 01-13 (R32): firmware, solver, assembly, estimator, confluence,
flumes, loop slots, leat staging; the spare pages come last. Pages are numbered through the regions in that order (DEDUCED). -/
def sramRegions : List Nat := [1536, 3072, 512, 1024, 768, 256, 256, 512]

/-- The first spare page: the regions in use lie below it. -/
def spareBase : Nat := sramRegions.foldl (· + ·) 0

/-- Pages of a helm's SRAM, 256 spares among them. -/
def sramPages : Nat := spareBase + 256

/-- An SRAM page is served by a spare, or is itself a spare taken out of use. -/
def pageRetired (p : Pkg) (d : Die) (i : Nat) : Bool :=
  if i < spareBase then (List.range 256).any (fun k => rdI p d I_SRAM.PAGE k == i + 1) else rdI p d I_SRAM.PAGE (i - spareBase) == 0x1FFFF

/-- A resource is already retired (R445). -/
def resourceRetired (p : Pkg) (d : Die) (kind i : Nat) : Bool :=
  match kind with
  | 0 => pageRetired p d i
  | 1 => flagI p d LOOP_PHYS.RETIRED i
  | 2 => bit (rd p d SOL_FURROW_STATE.RETIRED) i
  | 3 => rdI p d GNS_CHAN.STATE i == 4
  | 4 => bit (rd p d CAN_DIE_STATUS.RETIRED) i
  | 5 => flagI p d I_PORT.AIN_RETIRED i
  | 6 => bit (rdI p .sw STW_LINK.STATE (i / 2)) (2 + i % 2)
  | _ => false

/-- Occurrences on a resource inside the sliding window (R444). -/
def inWindow (p : Pkg) (d : Die) (kind i : Nat) : List Occ :=
  p.faults.filter (fun o => o.die == d.num && o.kind == kind && o.index == i &&
    decide (rd p .sw I_PKG.OPERATING_MS < o.at' + rd p d I_DIE.PERM_WINDOW * 60000))

/-- The WINDOW field of a health entry reads the count in the window (R444). -/
def showWindow (d : Die) (kind i : Nat) (p : Pkg) : Pkg :=
  let n := (inWindow p d kind i).length
  match kind with
  | 1 => wrI d LOOP_PHYS.WINDOW i (min n 15) p
  | 2 => wrI d SOL_ENG.WINDOW i (min n 255) p
  | 3 => wrI d GNS_CHAN.WINDOW i (min n 255) p
  | _ => p

/-- Put a resource on the list of those that wait for their retirement; a self-test's verdict replaces a count's (R445). -/
def retireDue (d : Die) (kind i : Nat) (selftest : Bool) (p : Pkg) : Pkg :=
  let same (r : Retire) : Bool := r.die == d.num && r.kind == kind && r.index == i
  if p.retiring.any same then
    { p with retiring := p.retiring.map (fun r => if same r then { r with selftest := r.selftest || selftest } else r) }
  else { p with retiring := p.retiring ++ [⟨d.num, kind, i, selftest⟩] }

/-- A counted fault on a resource (R444): TRANSIENT below PERM_COUNT, PERMANENT at it or at a failed self-test. The leat is never
retired (Table 17-3); a tracking channel waits for its next epoch (R254). -/
def occurrence (d : Die) (kind i : Nat) (selftest : Bool) (p : Pkg) : Pkg :=
  if resourceRetired p d kind i || (kind == 0 && !((d == .ha || d == .hb) && decide (i < sramPages))) then p
  else
    let p := { p with faults := p.faults ++ [⟨d.num, kind, i, rd p .sw I_PKG.OPERATING_MS⟩] } |> showWindow d kind i
    let perm := selftest || decide (rd p d I_DIE.PERM_COUNT ≤ (inWindow p d kind i).length)
    let p := logAt d (eventCode (if perm then clsPermanent else clsTransient) (kindBlock kind) 36) (.words [kind, i]) p
    if !perm || kind == 7 then p
    else if kind = 3 then wrI d I_CHAN.RETIRE_DUE i (if selftest then 2 else max 1 (rdI p d I_CHAN.RETIRE_DUE i)) p
    else retireDue d kind i selftest p

/-- OCCURRENCE_AGE (R444): occurrences that have left the window no longer count. -/
def occurrenceAge (d : Die) (kind i : Nat) (p : Pkg) : Pkg :=
  let keep := inWindow p d kind i
  showWindow d kind i { p with faults := p.faults.filter (fun o => !(o.die == d.num && o.kind == kind && o.index == i) || keep.contains o) }

/-- SRAM_UE (R63 cause code 5): an uncorrectable error in a page of a region in use (R32, Table 01-13), by its number among those; a
page of the spare region, by its number there, is only retired. -/
def sramUe (x : Side) (inUse : Bool) (page : Nat) (p : Pkg) : Pkg :=
  if inUse then (if page < spareBase then laneFault x 5 p else p)
  else if page < 256 ∧ ¬ pageRetired p x.helm (spareBase + page) then
    p |> logAt x.helm (eventCode clsNme 0x31 41) .unstated |> retireDue x.helm 0 (spareBase + page) false
  else p

/-- A page's contents move to the lowest-numbered free spare page (Table 17-3); answers whether there was one. -/
def movePage (d : Die) (held : Nat) (p : Pkg) : Pkg × Bool :=
  match (List.range 256).find? (fun k => rdI p d I_SRAM.PAGE k == 0) with
  | some k => (wrI d I_SRAM.PAGE k held p, true)
  | none => (p, false)

/-- A die retires a page (Table 17-3): its contents move to a spare. A page of the spare region goes out of use, and what it held moves
on. -/
def retirePage (d : Die) (i : Nat) (p : Pkg) : Pkg × Bool :=
  if i < spareBase then movePage d (i + 1) p
  else
    let held := rdI p d I_SRAM.PAGE (i - spareBase)
    let p := wrI d I_SRAM.PAGE (i - spareBase) 0x1FFFF p
    if held = 0 then (p, false) else movePage d held p

/-- The retirement's record (Table 17-6) and its entry in the health page's list (R446). -/
def recordRetired (d : Die) (kind i : Nat) (spared selftest : Bool) (p : Pkg) : Pkg :=
  let n := rd p .sw I_RET.COUNT
  let p := logAt d (eventCode clsPermanent (kindBlock kind) 35) (.words [kind, i, b2n spared, b2n selftest]) p
  let p := if n < 64 then
      p |> wrI .sw STW_RET.DIE n d.num |> wrI .sw STW_RET.KIND n kind |> wrI .sw STW_RET.INDEX n i
        |> wrI .sw STW_RET.SPARED n (b2n spared) |> wrI .sw STW_RET.SELFTEST n (b2n selftest)
        |> wrI .sw STW_RET.WHEN n (now p d / 1000000000)
    else p
  p |> wr .sw I_RET.COUNT (min (n + 1) 255)
    |> onlyIf (running p .sw) (fun q => q |> wr .sw STW_STATUS.RETIRED (min (n + 1) 255) |> raise .sw clsPermanent STW_EVENT.RETIRED)

/-! The commands of the table: one meaning each. -/

/-- SRAM_UE (R63). -/
def execSramUe (x : Side) (inUse : Bool) (page : Nat) (s : State) : Host.Outcome State Fault Refusal := nextPk s (sramUe x inUse page)

/-- OCCURRENCE_AGE (R444). -/
def execOccurrenceAge (d : Die) (kind i : Nat) (s : State) : Host.Outcome State Fault Refusal := nextPk s (occurrenceAge d kind i)

end Sys2Proof.Machine
end

