-- ==== Sys2Proof/Machine/Gnss.lean ====
section
/-! DEFINITION. Chapter 09: the basebands. Antenna monitor, channels and search, epochs and their records, navigation pages and
correction frames, the reflectometer, harbour watch, snapshot captures and weirs. -/

namespace Sys2Proof.Machine

/-- Change the lists of a baseband. -/
def onBb (x : Side) (f : Bb → Bb) (p : Pkg) : Pkg := { p with bbs := p.bbs.set x (f (p.bbs.get x)) }

/-- The die runs on its fallback clock (spec/14: SOURCE 2). -/
def onFallback (p : Pkg) (d : Die) : Bool := rd p d CLK_STATUS.SOURCE == 2

/-! Antenna (R247, R248). -/

/-- Class of an antenna current in 0.1 mA: 1 PRESENT, 2 OPEN, 3 SHORT (R247). -/
def antClass (p : Pkg) (d : Die) (cur : Nat) : Nat :=
  if cur < rd p d GNS_ANT_CFG.OPEN_MA * 10 then 2 else if rd p d GNS_ANT_CFG.SHORT_MA * 10 < cur then 3 else 1

/-- Switch the bias off after a SHORT (R247). -/
def biasOff (d : Die) (p : Pkg) : Pkg :=
  p |> wr d I_GNS.BIAS_OFF 1 |> wr d I_GNS.OFF_AT (now p d) |> wr d I_GNS.RETRYING 0 |> wr d I_GNS.ANT_RUN 0

/-- The tenth equal classification (R247, R248). -/
def antSettled (d : Die) (k : Nat) (p : Pkg) : Pkg :=
  let was := rd p d GNS_STATUS.ANT_STATE
  let again := flag p d I_GNS.RETRYING
  let p := p |> wr d GNS_STATUS.ANT_STATE k |> wr d I_GNS.RETRYING 0
  match k with
  | 1 => onlyIf (was == 2 || was == 3) (raise d clsInfo GNS_EVENT.ANT_OK) p
  | 2 => onlyIf (was != 2) (raise d clsWarning GNS_EVENT.ANT_OPEN) p
  | _ =>
    if was ≠ 3 then p |> raise d clsWarning GNS_EVENT.ANT_SHORT |> biasOff d
    else if again then p |> logOpen d clsWarning 0x20 4 .unstated |> biasOff d
    else p

/-- ANT_MONITOR_SAMPLE (R247): the 10 ms classification of a current in 0.1 mA. -/
def antMonitorSample (x : Side) (cur : Nat) (p : Pkg) : Pkg :=
  let d := x.bb
  if !(running p d) || !(periodDue p d I_GNS.ANT_DUE 0 10000000) then p
  else surrFrom p d GNS_STATUS.ANT_STATE 0 <|
    let p := p |> periodNext d I_GNS.ANT_DUE 0 10000000 |> wr d GNS_ANT_CURRENT.CURRENT cur
    if !(flag p d GNS_ANT_CFG.BIAS_EN) then
      p |> wr d GNS_STATUS.ANT_STATE 0 |> wr d I_GNS.ANT_RUN 0 |> wr d I_GNS.BIAS_OFF 0 |> wr d I_GNS.RETRYING 0
    else if flag p d I_GNS.BIAS_OFF then p
    else
      let k := antClass p d cur
      let n := if rd p d I_GNS.ANT_CLASS = k then min 10 (rd p d I_GNS.ANT_RUN + 1) else 1
      p |> wr d I_GNS.ANT_CLASS k |> wr d I_GNS.ANT_RUN n |> onlyIf (n == 10) (antSettled d k)

/-- Put the bias on again (R248). -/
def biasAgain (d : Die) (p : Pkg) : Pkg :=
  if flag p d I_GNS.BIAS_OFF then
    p |> wr d I_GNS.BIAS_OFF 0 |> wr d I_GNS.RETRYING 1 |> wr d I_GNS.ANT_RUN 0 |> wr d I_GNS.ANT_CLASS 0
  else p

/-- ANT_BIAS_RETRY (R248): RETRY_S seconds after the bias went off. -/
def antBiasRetry (x : Side) (p : Pkg) : Pkg :=
  let d := x.bb
  if rd p d I_GNS.OFF_AT + rd p d GNS_ANT_CFG.RETRY_S * 1000000000 ≤ now p d then biasAgain d p else p

/-- ANT_RETRY (R248): at once. -/
def antRetry (x : Side) (p : Pkg) : Pkg := if running p x.bb then biasAgain x.bb p else p

/-! Channels (R246, R250 to R256, R272). -/

/-- A signal of Table 09-1: system, PRN, band. -/
def supported (sys prn band : Nat) : Bool :=
  ((sys == 1 || sys == 2 || sys == 3 || sys == 4) && decide (band ≤ 1)) || (sys == 5 && band == 0 && decide (120 ≤ prn) && decide (prn ≤ 158))

/-- State of a channel: 0 FREE, 1 PULL_IN, 2 TRACKING, 3 REACQ, 4 RETIRED. -/
def chanState (p : Pkg) (d : Die) (c : Nat) : Nat := rdI p d GNS_CHAN.STATE c

/-- The signal of a channel. -/
def chanSignal (p : Pkg) (d : Die) (c : Nat) : Nat × Nat × Nat :=
  (rdI p d GNS_CHAN.SYS c, rdI p d GNS_CHAN.PRN c, rdI p d GNS_CHAN.SIG c % 2)

/-- Channels in a state. -/
def chansIn (p : Pkg) (d : Die) (st : Nat) : List Nat := (List.range 160).filter (fun c => chanState p d c == st)

/-- TRACKING and FREE of GNS_STATUS. -/
def gnsCounts (d : Die) (p : Pkg) : Pkg :=
  p |> wr d GNS_STATUS.TRACKING (chansIn p d 2).length |> wr d GNS_STATUS.FREE (chansIn p d 0).length

/-- The loops of a channel start anew (R251). -/
def loopsClear (d : Die) (c : Nat) (p : Pkg) : Pkg :=
  p |> wrI d I_CHAN.CODE_ERR c 0 |> wrI d I_CHAN.CODE_RATE c 0 |> wrI d I_CHAN.CARR_FREQ c 0 |> wrI d I_CHAN.CARR_RATE c 0

/-- Free a channel. -/
def freeChannel (d : Die) (c : Nat) (p : Pkg) : Pkg :=
  p |> wrI d GNS_CHAN.SYS c 0 |> wrI d GNS_CHAN.PRN c 0 |> wrI d GNS_CHAN.SIG c 0 |> wrI d GNS_CHAN.STATE c 0
    |> wrI d GNS_CHAN.CN0 c 0 |> wrI d GNS_CHAN.LOCK_TIME c 0 |> wrI d I_CHAN.SLIP c 0 |> wrI d I_CHAN.PREDICTED c 0 |> loopsClear d c

/-- The channel is in use. -/
def chanBusy (p : Pkg) (d : Die) (c : Nat) : Bool := decide (1 ≤ chanState p d c) && decide (chanState p d c ≤ 3)

/-- The MP mode of a band (R251). -/
def mpMode (p : Pkg) (d : Die) (band : Nat) : Nat := if band = 0 then rd p d GNS_CORR_CFG.MP_L1 else rd p d GNS_CORR_CFG.MP_L5

/-- SIG of a channel (Table 09-8): the L5 band tracks pilots (Table 09-1). -/
def chanSig (p : Pkg) (d : Die) (band : Nat) : Nat := band + 2 * band + 4 * mpMode p d band

/-- Code period in ms and code length in half chips of a signal: the periods are Table 09-1's, the lengths follow from the dwells per bin
of Table 09-3, 512 chips each, and from L5-band codes ten times shorter in metres (DEDUCED). -/
def codeOf (sys band : Nat) : Nat × Nat :=
  if band = 1 then (1, 20460) else if sys = 2 then (4, 8184) else if sys = 3 then (10, 20460) else (1, 2046)

/-- Code phase in half chips at a transmit time in ps. -/
def codePhase (sys band : Nat) (txPs : Int) : Nat :=
  let c := codeOf sys band
  ((txPs % ((c.1 * 1000000000 : Nat) : Int)).toNat * c.2 / (c.1 * 1000000000)) % c.2

/-- What a search of a signal starts from where it is known: code phase in half chips and Doppler in Hz. -/
def chanKnown (p : Pkg) (d : Die) (c : Nat) : Option (Nat × Int) :=
  if flagI p d I_CHAN.PREDICTED c then some (rdI p d I_CHAN.CODE_PHASE c, rdSI p d I_CHAN.DOPPLER c) else none

/-- A signal is on a channel. -/
def onChannel (p : Pkg) (d : Die) (s : Nat × Nat × Nat) : Bool :=
  (List.range 160).any (fun c => chanBusy p d c && chanSignal p d c == s)

/-- Give a signal to the lowest-numbered free channel (R254, R255) in a state, 1 for pull-in or 3 to reacquire, from what is known of its
code phase and Doppler. -/
def handOver (d : Die) (st : Nat) (s : Nat × Nat × Nat) (known : Option (Nat × Int)) (p : Pkg) : Pkg :=
  match (chansIn p d 0).head? with
  | none => p
  | some c =>
    let k := known.getD (0, 0)
    p |> wrI d GNS_CHAN.SYS c s.1 |> wrI d GNS_CHAN.PRN c s.2.1 |> wrI d GNS_CHAN.SIG c (chanSig p d s.2.2)
      |> wrI d GNS_CHAN.STATE c st |> wrI d GNS_CHAN.LOCK_TIME c 0 |> wrI d I_CHAN.AT c (now p d) |> wrI d I_CHAN.REACQ_AT c (now p d)
      |> loopsClear d c |> wrI d I_CHAN.PREDICTED c (b2n known.isSome) |> wrI d I_CHAN.CODE_PHASE c k.1 |> wrSI d I_CHAN.DOPPLER c k.2
      |> gnsCounts d

/-- The last tracking channel has lost lock (R272). -/
def checkAllLost (d : Die) (p : Pkg) : Pkg :=
  if rd p d GNS_STATUS.STATE = 2 ∧ chansIn p d 2 = [] then p |> wr d GNS_STATUS.STATE 3 |> raise d clsWarning GNS_EVENT.ALL_LOST
  else p

/-- The baseband neither tracks nor searches: off, asleep, or on its internal oscillator (R249, R274). -/
def gnsIdle (p : Pkg) (d : Die) : Bool :=
  !(running p d) || rd p d GNS_STATUS.STATE == 0 || rd p d GNS_STATUS.STATE == 4 || rd p d GNS_STATUS.STATE == 6

/-- LOCK_LOSS (R252, R253, R272): the phase-lock indicator has stayed below 0.5 for `pliMs`, or C/N0 below 25 dB-Hz for `cn0Ms`. -/
def lockLoss (x : Side) (c pliMs cn0Ms : Nat) (p : Pkg) : Pkg :=
  let d := x.bb
  if gnsIdle p d || chanState p d c != 2 || !(decide (100 ≤ pliMs) || decide (1000 ≤ cn0Ms)) then p
  else p |> wrI d GNS_CHAN.STATE c 3 |> wrI d GNS_CHAN.LOCK_TIME c 0 |> wrI d I_CHAN.REACQ_AT c (now p d) |> gnsCounts d
    |> checkAllLost d

/-- The channel has searched REACQ_S seconds for its signal (R252). -/
def reacqOver (p : Pkg) (d : Die) (c : Nat) : Bool :=
  decide (rdI p d I_CHAN.REACQ_AT c + rd p d GNS_TRACK_CFG.REACQ_S * 1000000000 ≤ now p d)

/-- REACQ_TIMEOUT (R252): the channel is freed; its signal, on no channel any more, is searched again. -/
def reacqTimeout (x : Side) (c : Nat) (p : Pkg) : Pkg :=
  let d := x.bb
  if chanState p d c == 3 && reacqOver p d c then
    p |> freeChannel d c |> gnsCounts d
  else p

/-- CYCLE_SLIP (R253): the phase-lock indicator has recovered after `intervals` coherent intervals below 0.5, without loss of lock. -/
def cycleSlip (x : Side) (c intervals : Nat) (p : Pkg) : Pkg :=
  let d := x.bb
  if chanState p d c == 2 && decide (1 ≤ intervals) then
    p |> incI d GNS_CHAN.SLIPS c |> inc d GNS_SLIPS.V |> wrI d GNS_CHAN.LOCK_TIME c 0 |> wrI d I_CHAN.LOCK_AT c (now p d) |> wrI d I_CHAN.SLIP c 1
  else p

/-- CHANNEL_LOCKED (R252, R255, R272): LOCK_TIME grows from here (R253). -/
def channelLocked (x : Side) (c : Nat) (p : Pkg) : Pkg :=
  let d := x.bb
  if gnsIdle p d || !(chanState p d c == 1 || (chanState p d c == 3 && !(reacqOver p d c))) then p
  else
    let lost := rd p d GNS_STATUS.STATE == 3
    p |> wrI d GNS_CHAN.STATE c 2 |> wrI d I_CHAN.LOCK_AT c (now p d) |> gnsCounts d
      |> onlyIf (lost || rd p d GNS_STATUS.STATE == 1) (wr d GNS_STATUS.STATE 2)
      |> onlyIf lost (raise d clsInfo GNS_EVENT.SIGNALS_BACK)

/-- The cold list of R250, L1 band. -/
def coldList : List (Nat × Nat × Nat) :=
  ((List.range 32).map (fun k => (1, k + 1, 0))) ++ ((List.range 36).map (fun k => (2, k + 1, 0))) ++
    ((List.range 10).map (fun k => (4, k + 193, 0))) ++ ((List.range 28).map (fun k => (3, k + 19, 0))) ++
    ((List.range 39).map (fun k => (5, k + 120, 0)))

/-- L5-band handovers: the second band of satellites tracked on the first (R256). -/
def l5Handovers (p : Pkg) (d : Die) (wanted : Nat × Nat × Nat → Bool) : List (Nat × Nat × Nat) :=
  (chansIn p d 2).filterMap (fun c =>
    let s := chanSignal p d c
    let t := (s.1, s.2.1, 1)
    if s.2.2 = 0 ∧ s.1 ≤ 4 ∧ wanted t ∧ !(onChannel p d t) then some t else none)

/-- The engine's work after verification dwells, in the order of R256, each with the dwells it takes (Table 09-3). -/
def searchOrder (p : Pkg) (x : Side) : List ((Nat × Nat × Nat) × Nat) :=
  let d := x.bb
  let per (s : Nat × Nat × Nat) : Nat := if s.1 = 2 then 8 else if s.1 = 3 then 20 else 2
  match (p.bbs.get x).plan with
  | none => (l5Handovers p d (fun _ => true)).map (fun s => (s, 1)) ++
      (coldList.filter (fun s => !(onChannel p d s))).map (fun s => (s, per s * 21))
  | some l =>
    let sigs := l.map (fun e => ((e.sys, e.prn, e.band), e.pred.isSome))
    let open' := sigs.filter (fun e => !(onChannel p d e.1))
    (l5Handovers p d (fun s => sigs.any (fun e => e.1 == s))).map (fun s => (s, 1)) ++
      (open'.filter (fun e => e.2)).map (fun e => (e.1, per e.1 * 3)) ++
      (open'.filter (fun e => !e.2)).map (fun e => (e.1, per e.1 * 21))

/-- The next cell's signal and the dwells of its search; a round that has searched everything begins anew. -/
def nextSearch (p : Pkg) (x : Side) : Option ((Nat × Nat × Nat) × Nat) :=
  let l := searchOrder p x
  match l.find? (fun e => !((p.bbs.get x).searched.contains e.1)) with
  | some e => some e
  | none => l.head?

/-- Cells of a signal's search done so far. -/
def cellsDone (b : Bb) (s : Nat × Nat × Nat) : Nat :=
  match b.cells.find? (fun c => c.1 == s.1 && c.2.1 == s.2.1 && c.2.2.1 == s.2.2) with
  | some c => c.2.2.2
  | none => 0

/-- Set them. -/
def Bb.setCells (b : Bb) (s : Nat × Nat × Nat) (n : Nat) : Bb :=
  let r := b.cells.filter (fun c => !(c.1 == s.1 && c.2.1 == s.2.1 && c.2.2.1 == s.2.2))
  { b with cells := if n = 0 then r else r ++ [(s.1, s.2.1, s.2.2, n)] }

/-- What aids a signal's search: on the L5 band the code phase and Doppler of the same satellite's tracked L1-band signal (R256; the L5
code runs ten half chips to one, the carriers stand as 115 to 154), else the plan's prediction. -/
def aidOf (p : Pkg) (x : Side) (s : Nat × Nat × Nat) : Option (Nat × Int) :=
  let d := x.bb
  let l1 := (chansIn p d 2).find? (fun c => chanSignal p d c == (s.1, s.2.1, 0))
  let planned := match (p.bbs.get x).plan with
    | some l => (l.find? (fun e => (e.sys, e.prn, e.band) == s)).bind (fun e => e.pred)
    | none => none
  match (if s.2.2 = 1 then l1.bind (chanKnown p d) else none) with
  | some k => some (k.1 * 10 % 20460, divRne (k.2 * 115) 154)
  | none => planned

/-- The dwell that a waiting capture let finish has ended: the search is suspended (R276). -/
def suspendSearch (d : Die) (p : Pkg) : Pkg :=
  onlyIf (rd p d GNS_SNAP_STATUS.SNAP_STATE == 1) (wr d GNS_STATUS.SEARCH_SUSPENDED 1) p

/-- ACQ_DWELL (R255, R256, R276): the dwell the engine was on completes, with its cell above the threshold or not. -/
def acqDwell (x : Side) (above : Bool) (p : Pkg) : Pkg :=
  let d := x.bb
  if gnsIdle p d || flag p d GNS_STATUS.SEARCH_SUSPENDED then p
  else
    let b := p.bbs.get x
    match b.verify with
    | some s =>
      let p := onBb x (fun b => { b with verify := none }) p
      suspendSearch d (if above then p |> inc d GNS_ACQ_HITS.V |> onBb x (fun b => b.setCells s 0) |> handOver d 1 s (aidOf p x s) else p)
    | none =>
      match nextSearch p x with
      | none => suspendSearch d p
      | some (s, n) =>
        let k := cellsDone b s + 1
        let fresh := (searchOrder p x).all (fun e => b.searched.contains e.1)
        let base := if fresh then [] else b.searched
        p |> onBb x (fun b =>
          let b := if k < n then { b.setCells s k with searched := base } else { b.setCells s 0 with searched := base ++ [s] }
          if above then { b with verify := some s } else b) |> suspendSearch d

/-- The lane whose plan a baseband follows (R250). -/
def followed (p : Pkg) : Side :=
  let own := if running p .pa then rd p .pa I_PORT.TICK_OWNER else rd p .pb I_PORT.TICK_OWNER
  if own = 1 then .a else if own = 2 then .b else if running p .ha && rd p .ha HG_STATUS.LANE_STATE != 0 then .a else .b

/-- Where a lane's channel-plan predictions stand: the datum's latitude and longitude, north and east of it, and the height. In INIT the
position is that of a POSITION contribution, where one is present (R250, R486). -/
def planPosition (p : Pkg) (x : Side) : Option (List Nat) :=
  let d := x.helm
  let g := vget (p.lanes.get x).est.x
  if rd p d EST_STATUS.PHASE ≠ 0 then
    some [rd p d EST_DATUM_LAT.DEG, rd p d EST_DATUM_LON.DEG, fadd (g 0) (g 9), fadd (g 1) (g 11), fsub (rd p d I_EST.DATUM_H) (g 17)]
  else if flag p d I_EST.PLAN_FIX then some [rd p d I_EST.PLAN_LAT, rd p d I_EST.PLAN_LON, 0, 0, rd p d I_EST.PLAN_H]
  else none

/-- A lane's estimate of its velocity to north and east; none of it in INIT. -/
def planVelocity (p : Pkg) (x : Side) : List Nat :=
  let g := vget (p.lanes.get x).est.x
  let co := Config.fcos (g 2)
  let si := Config.fsin (g 2)
  if rd p x.helm EST_STATUS.PHASE = 0 then [0, 0, 0]
  else [fadd (fsub (fmul (g 3) co) (fmul (g 4) si)) (g 10), fadd (fadd (fmul (g 3) si) (fmul (g 4) co)) (g 12), 0]

/-- The predicted code phase in half chips and Doppler in Hz of a signal, from the navigation store and the lane's position and time
(R250, R486): at the reference point, from the geometric range and the satellite's clock (DESIGN CHOICE: the rules give no formula). -/
def planPredict (p : Pkg) (x : Side) (s : Nat × Nat × Nat) : Option (Nat × Int) :=
  let d := x.helm
  let gps : Int := (now p d : Int) - 19000000000
  (planPosition p x).bind (fun q =>
    (Config.satState (navWords (p.lanes.get x) (flag p d I_EST.SBAS_OFF)) s.1 s.2.1 (now p d)).map (fun sat =>
      let sv := vget sat
      let f := if s.2.2 = 1 then 1176450000 else 1575420000
      let ant := Config.antennaEcef (vget q 0) (vget q 1) (vget q 2) (vget q 3) (vget q 4) [0, 0, 0]
      let los := vsub [sv 0, sv 1, sv 2] ant
      let rho := fsqrt (vdot los los)
      let u := Config.ecefToNed (vget q 0) (vget q 1) (vscale (fdiv fone rho) los)
      let rel := vsub (Config.ecefToNed (vget q 0) (vget q 1) [sv 3, sv 4, sv 5]) (planVelocity p x)
      let ps := b64.toInt (fmul (fdiv (fsub rho (sv 6)) fLight) (fint 1000000000000))
      let rate := fsub (vdot u rel) (sv 7)
      (codePhase s.1 s.2.2 (gps * 1000 - ps), b64.toInt (fneg (fdiv (fmul rate (fint f)) fLight)))))

/-- The plan a lane's firmware forms from its list of signals in priority order (R250). -/
def formPlan (p : Pkg) (x : Side) (l : List (Nat × Nat × Nat)) : List PlanEntry := l.map (fun s => ⟨s.1, s.2.1, s.2.2, planPredict p x s⟩)

/-- CHANNEL_PLAN (R246, R250, R486): a lane's plan arrives, formed from the signals its firmware lists; the baseband takes it when it
follows that lane. -/
def channelPlan (x y : Side) (signals : List (Nat × Nat × Nat)) (p : Pkg) : Pkg :=
  let d := x.bb
  if !(running p d) || !(running p y.helm) || followed p != y || !(reaches p y.helm d) then p
  else
    let l := formPlan p y signals
    let good := l.filter (fun e => supported e.sys e.prn e.band)
    let p := p |> wr d GNS_NAV_ERR.V (rd p d GNS_NAV_ERR.V + (l.length - good.length)) |> onBb x (fun b => { b with plan := some good })
    let keep (c : Nat) : Bool := good.any (fun e => (e.sys, e.prn, e.band) == chanSignal p d c)
    let p := forAll ((List.range 160).filter (fun c => chanBusy p d c && !(keep c)))
      (freeChannel d) p
    p |> gnsCounts d |> onlyIf (decide (good.length + (chansIn p d 4).length ≤ 160)) (wr d GNS_STATUS.CHAN_SHORT 0) |> checkAllLost d

/-- Retire a channel (R254): its signal moves to the lowest-numbered free one and reacquires from the channel's last code phase and
Doppler, or takes the place of the signal lowest in the plan. -/
def retireChannel (x : Side) (c : Nat) (p : Pkg) : Pkg :=
  let d := x.bb
  let s := chanSignal p d c
  let busy := chanBusy p d c
  let known := chanKnown p d c
  if chanState p d c = 4 ∨ 160 ≤ c then p
  else
    let p := p |> freeChannel d c |> wrI d GNS_CHAN.STATE c 4 |> wrI d I_CHAN.RETIRE_DUE c 0 |> raise d clsWarning GNS_EVENT.CHAN_RETIRED
    let p := if !busy then p
      else if chansIn p d 0 ≠ [] then handOver d 3 s known p
      else
        let order := match (p.bbs.get x).plan with
          | some l => l.map (fun (e : PlanEntry) => (e.sys, e.prn, e.band))
          | none => coldList
        let p := p |> wr d GNS_STATUS.CHAN_SHORT 1 |> raise d clsWarning GNS_EVENT.CHAN_SHORT
        match (order.reverse.find? (fun t => onChannel p d t)) with
        | some t =>
          match (List.range 160).find? (fun k => chanBusy p d k && chanSignal p d k == t) with
          | some k => if order.idxOf s < order.idxOf t then p |> freeChannel d k |> handOver d 3 s known else p
          | none => p
        | none => p
    p |> gnsCounts d |> checkAllLost d

/-- A channel's retirement at an epoch, with its record (R254, R445). -/
def retireDueChannel (x : Side) (c : Nat) (p : Pkg) : Pkg :=
  let d := x.bb
  let spared := chanBusy p d c && chansIn p d 0 != []
  if chanState p d c = 4 then p else p |> retireChannel x c |> recordRetired d 3 c spared (rdI p d I_CHAN.RETIRE_DUE c == 2)

/-- The baseband's clock has become unusable (R249): every signal returns to the search. -/
def gnssClockLost (x : Side) (p : Pkg) : Pkg :=
  let d := x.bb
  if rd p d GNS_STATUS.STATE = 6 ∨ !(running p d) then p
  else forAll ((List.range 160).filter (fun c => chanState p d c != 4)) (freeChannel d) p |> gnsCounts d |> wr d GNS_STATUS.STATE 6
    |> onBb x (fun b => { b with verify := none }) |> raise d clsWarning GNS_EVENT.CLOCK_DEGRADED

/-- The die is back on a qualified root: reacquisition as after a loss of all signals (R249). -/
def gnssClockBack (x : Side) (p : Pkg) : Pkg :=
  let d := x.bb
  if rd p d GNS_STATUS.STATE = 6 then wr d GNS_STATUS.STATE (if flag p d I_GNS.WATCH then 4 else 3) p else p

/-! Epochs (R258 to R261, R279). -/

/-- An order key of record entries: system, PRN, band (R260). -/
def entryKey (p : Pkg) (d : Die) (m : Meas) : Nat :=
  let s := chanSignal p d m.channel
  s.1 * 1024 + s.2.1 * 2 + s.2.2

/-- Insert an entry before the first with a greater key. -/
def insertMeas (p : Pkg) (d : Die) (m : Meas) : List Meas → List Meas
  | [] => [m]
  | a :: r => if entryKey p d m < entryKey p d a then m :: a :: r else a :: insertMeas p d m r

/-- The entries of a record (R260): tracking channels that measure, SBAS left out, sorted. -/
def recordEntries (p : Pkg) (d : Die) (l : List Meas) : List Meas :=
  (l.filter (fun m => decide (m.channel < 160) && chanState p d m.channel == 2 && (chanSignal p d m.channel).1 != 5 &&
    (m.prValid || m.phaseValid))).foldl (fun acc m => insertMeas p d m acc) []

/-- EFLAGS of an entry (Table 09-5). -/
def entryFlags (p : Pkg) (d : Die) (m : Meas) : Nat :=
  let band := (chanSignal p d m.channel).2.2
  band + 2 * band + 4 * b2n (m.halfOk || band == 1) + 8 * rdI p d I_CHAN.SLIP m.channel + 16 * b2n m.prValid + 32 * b2n m.phaseValid

/-- FLAGS of a record (Table 09-5). -/
def recordFlags (p : Pkg) (d : Die) : Nat :=
  let st := rd p d GNS_STATUS.STATE
  let ant := rd p d GNS_STATUS.ANT_STATE
  b2n (st == 6) + 2 * b2n (st == 3) + 4 * b2n (st == 4) + 8 * rd p d GNS_STATUS.REFLECT_BUSY + 16 * rd p d I_GNS.DELAY_CHANGED +
    32 * b2n (ant == 2 || ant == 3)

/-- The epoch in GPS time at the antenna, fs from the GPS epoch (R259). -/
def rxFs (p : Pkg) (d : Die) (epoch : Nat) : Int := ((epoch : Int) - 19000000000) * 1000000 - rdS p d GNS_CABLE_DELAY.DELAY * 100000

/-- A transmit time in GPS time (R259): BeiDou time stands 14 s behind it by its document's nominal relation (PRESUMED), Galileo's agrees. -/
def txGps (sys : Nat) (tx : Int) : Int := if sys = 3 then tx + 14000000000000000 else tx

/-- The pseudorange in m, binary64 (R259): c (t_rx - t_tx). -/
def pseudorange (p : Pkg) (d : Die) (epoch : Nat) (m : Meas) : Nat :=
  frat (299792458 * (rxFs p d epoch - txGps (chanSignal p d m.channel).1 m.tx)) 1000000000000000

/-- The code discriminator of a channel's MP mode (R251), from the normalised powers of E, L, NE and NL. -/
def codeDisc (mp : Nat) (pw : List Nat) : Nat :=
  let w := fsub (vget pw 0) (vget pw 1)
  let n := fsub (vget pw 2) (vget pw 3)
  match mp with
  | 0 => w
  | 1 => n
  | _ => fsub n (fmul fhalf w)

/-- A channel's loops over the interval that ends at the epoch, `dt` in s (R251): the carrier loop pulls in as an FLL for at most 200 ms,
then tracks as a PLL; the code loop follows its discriminator with the carrier's aid. What the channel last measured stays as the
prediction of a later search (R254). They are taken forward once an epoch (DESIGN CHOICE). -/
def chanLoops (d : Die) (dt : Nat) (m : Meas) (p : Pkg) : Pkg :=
  let c := m.channel
  let s := chanSignal p d c
  let disc := codeDisc (mpMode p d s.2.2) m.powers
  let fll := chanState p d c == 1 && decide (now p d < rdI p d I_CHAN.AT c + 200000000)
  let carr := Config.carrierLoop fll (rd p d GNS_TRACK_CFG.PLL_BW) m.prompt [rdI p d I_CHAN.CARR_FREQ c, rdI p d I_CHAN.CARR_RATE c] dt
  p |> wrI d GNS_CHAN.SIG c (chanSig p d s.2.2) |> wrI d I_CHAN.CODE_ERR c disc |> wrI d I_CHAN.CARR_FREQ c (vget carr 0)
    |> wrI d I_CHAN.CARR_RATE c (vget carr 1)
    |> wrI d I_CHAN.CODE_RATE c (Config.codeLoop (rd p d GNS_TRACK_CFG.DLL_BW) disc (vget carr 0) (rdI p d I_CHAN.CODE_RATE c) dt)
    |> onlyIf (chanState p d c == 2) (fun q => q |> wrI d I_CHAN.PREDICTED c 1 |> wrSI d I_CHAN.DOPPLER c (b64.toInt (f32to64 m.doppler))
        |> onlyIf m.prValid (wrI d I_CHAN.CODE_PHASE c (codePhase s.1 s.2.2 (m.tx / 1000))))

/-- The bytes of a raw record (Table 09-5). -/
def recordBytes (p : Pkg) (d : Die) (epoch agc1 agc5 : Nat) (l : List Meas) : List Nat :=
  leBytes 8 epoch ++ [d.num, l.length] ++ leBytes 2 (recordFlags p d) ++ leBytes 2 (rd p d GNS_CABLE_DELAY.DELAY) ++ [0, 0] ++
    leBytes 2 agc1 ++ leBytes 2 agc5 ++ List.replicate 12 0 ++
    l.flatMap (fun m =>
      let s := chanSignal p d m.channel
      [s.1, s.2.1, entryFlags p d m, m.channel] ++ leBytes 8 (pseudorange p d epoch m) ++ leBytes 8 m.phase ++ leBytes 4 m.doppler ++ leBytes 2 m.cn0 ++
        leBytes 2 (rdI p d GNS_CHAN.LOCK_TIME m.channel) ++ [rdI p d GNS_CHAN.SLIPS m.channel % 256, 0, 0, 0])

/-- The same entries as a sample's components. -/
def recordComps (p : Pkg) (d : Die) (epoch : Nat) (l : List Meas) : List Nat :=
  l.flatMap (fun m =>
    let s := chanSignal p d m.channel
    [s.1, s.2.1, entryFlags p d m, m.channel, pseudorange p d epoch m, m.phase, f32to64 m.doppler, m.cn0])

/-- The mean C/N0 in 0.1 dB-Hz of the four strongest tracked signals of a band (R279). -/
def bandCn0 (p : Pkg) (d : Die) (band : Nat) : Nat :=
  let l := ((chansIn p d 2).filter (fun c => rdI p d GNS_CHAN.SIG c % 2 == band)).map (fun c => rdI p d GNS_CHAN.CN0 c)
  let top := (l.mergeSort (fun a b => decide (b ≤ a))).take 4
  if top = [] then 0 else top.foldl (· + ·) 0 / top.length / 10

/-- The quantity a baseband weir watches, 0.1 dB (R279). -/
def gweirValue (p : Pkg) (d : Die) (k : Nat) : Nat :=
  match rdI p d GNS_WEIR.SIGNAL k with
  | 0 => rd p d GNS_AGC.AGC_L1
  | 1 => rd p d GNS_AGC.AGC_L5
  | 2 => bandCn0 p d 0
  | _ => bandCn0 p d 1

/-- The quantity is on the DIR side of THRESH. -/
def gweirPast (p : Pkg) (d : Die) (k : Nat) : Bool :=
  let v := gweirValue p d k
  let t := rdI p d GNS_WEIR.THRESH k
  if flagI p d GNS_WEIR.DIR k then decide (t < v) else decide (v < t)

/-- Follow the time a weir's quantity has been past THRESH. -/
def gweirFollow (d : Die) (epoch : Nat) (k : Nat) (p : Pkg) : Pkg :=
  if gweirPast p d k then
    onlyIf (!(flagI p d I_GWEIR.RUN k)) (fun q => q |> wrI d I_GWEIR.RUN k 1 |> wrI d I_GWEIR.SINCE k epoch) p
  else wrI d I_GWEIR.RUN k 0 p

/-- The fusion frame in ns that a baseband's epochs follow: that of the lane it follows. -/
def bbFrameNs (p : Pkg) : Nat := max 1 (rd p (followed p).helm CFL_STATUS.FRAME_MS) * 1000000

/-- The baseband's tally stands at a fusion-frame instant whose epoch it has not taken (R258). -/
def epochDue (p : Pkg) (d : Die) : Bool :=
  running p d && now p d % bbFrameNs p == 0 && rd p d I_GNS.EPOCH_SEEN != now p d + 1

/-- Whole seconds since a channel's LOCK_TIME began to grow (R253, R260). -/
def lockTime (p : Pkg) (d : Die) (c : Nat) : Nat :=
  if chanState p d c = 2 then min 65535 ((now p d - rdI p d I_CHAN.LOCK_AT c) / 1000000000) else 0

/-- GNSS_EPOCH (R254, R258 to R260): the epoch, both gains, what the channels measure, the ns after the epoch at which the record is
handed to the culvert, within 80 µs, and whether the free channel under test fails. The epoch is the die's own tally at the fusion-frame
instant. -/
def gnssEpoch (x : Side) (epoch agc1 agc5 handNs : Nat) (l : List Meas) (bistFail : Bool) (p : Pkg) : Pkg :=
  let d := x.bb
  if !(epochDue p d) || epoch != now p d then p
  else
    let p := wr d I_GNS.EPOCH_SEEN (epoch + 1) p
    let p := forAll ((List.range 160).filter (fun c => flagI p d I_CHAN.RETIRE_DUE c)) (retireDueChannel x) p
    let p := p |> wr d GNS_AGC.AGC_L1 agc1 |> wr d GNS_AGC.AGC_L5 agc5
    let live := !(gnsIdle p d)
    let p := forAll (l.filter (fun m => live && decide (m.channel < 160) && chanBusy p d m.channel)) (chanLoops d (frat (bbFrameNs p : Nat) 1000000000)) p
    let es := if live then recordEntries p d l else []
    let p := forAll es (fun m q => q |> wrI d GNS_CHAN.CN0 m.channel m.cn0 |> wrI d GNS_CHAN.LOCK_TIME m.channel (lockTime q d m.channel)) p
    let bytes := recordBytes p d epoch agc1 agc5 es
    let comps := recordComps p d epoch es
    let p := p |> onBb x (fun b => { b with record := bytes }) |> inc d GNS_RECORDS.V |> wr d I_GNS.DELAY_CHANGED 0
      |> forAll es (fun m => wrI d I_CHAN.SLIP m.channel 0) |> forAll (List.range 4) (gweirFollow d epoch)
    let t := rd p d I_GNS.BIST_NEXT
    let p := p |> wr d I_GNS.BIST_NEXT ((t + 1) % 160)
      |> onlyIf (bistFail && live && chanState p d t == 0) (fun q => q |> addSatI d GNS_CHAN.BIST_FAIL t 1 |> occurrence d 3 t true)
    receiveSample ⟨d, 0, 0, 0, epoch + min 80000 handNs, 0, some epoch, comps⟩ p

/-- The epoch in which a page's last bit ended: the first fusion-frame instant at or after it (DEDUCED: an epoch is an instant). -/
def pageStamp (p : Pkg) (t : Nat) : Nat := (t + bbFrameNs p - 1) / bbFrameNs p * bbFrameNs p

/-- NAV_PAGE (R261): the instant at which a page's last bit ended, its type and its bits, at most 600; `good` says that its parity or CRC
check passed. The L5-band channels decode none (Table 09-1). -/
def navPage (x : Side) (c ended page bits : Nat) (good : Bool) (p : Pkg) : Pkg :=
  let d := x.bb
  if gnsIdle p d || !(decide (c < 160)) || chanState p d c != 2 || (chanSignal p d c).2.2 != 0 then p
  else if !good then inc d GNS_NAV_ERR.V p
  else
    let s := chanSignal p d c
    let r : NavRec := ⟨pageStamp p ended, d.num, c, s.1, s.2.1, s.2.2, page, trunc 600 bits⟩
    forAll bothSides (fun y q => if running q y.helm && reaches q d y.helm then onLane y (fun l => { l with navIn := l.navIn ++ [r] }) q else q) p

/-! Corrections (R264 to R267). -/

/-- The checks of R264: preamble, six reserved bits, length, CRC-24Q. -/
def rtcmGood (f : List Nat) : Bool :=
  let len := (f.getD 1 0 % 4) * 256 + f.getD 2 0
  decide (6 ≤ f.length) && f.getD 0 0 == 0xD3 && f.getD 1 0 / 4 % 64 == 0 && f.length == len + 6 && crc24q f == 0

/-- The message number of an RTCM 3 frame: its first 12 payload bits. -/
def rtcmNumber (f : List Nat) : Nat := f.getD 3 0 * 16 + f.getD 4 0 / 16

/-- A good correction frame goes to both lanes (R264). -/
def correctionSend (d : Die) (stamp : Nat) (f : List Nat) (p : Pkg) : Pkg :=
  let r : CorrRec := ⟨stamp, rtcmNumber f, f⟩
  forAll bothSides (fun y q => if running q y.helm && reaches q d y.helm then onLane y (fun l => { l with corrIn := l.corrIn ++ [r] }) q else q) p

/-- RTCM_FRAME (R264, R293): a frame at a UART in MODE RTCM. -/
def rtcmFrame (y : Side) (u stamp : Nat) (f : List Nat) (p : Pkg) : Pkg :=
  let d := y.port
  if !(running p d) || rdI p d SIG_UART.MODE u != 2 then p
  else if rtcmGood f then p |> incI d SIG_UART.FRAMES u |> correctionSend d stamp f
  else p |> incI d SIG_UART.FRAME_ERR u |> raise d clsInfo SIG_EVENT.FRAME_ERR

/-- First SSR message number of a system: GPS, Galileo, QZSS, BeiDou (Table 09-6). -/
def ssrBase (g : Nat) : Nat := [1057, 1240, 1246, 1258].getD g 0

/-- The newest stamp among records of a system's messages, by their places in its set of six. -/
def newestSsr (l : List CorrRec) (g : Nat) (which : List Nat) : Option Nat :=
  ((l.filter (fun c => which.any (fun k => c.message == ssrBase g + k))).map (fun c => c.stamp)).max?

/-- A system's orbit and clock corrections are past SSR_AGE_MAX: 90 s, and 10 s for the high-rate clock where one is received
(R266). -/
def ssrStale (l : List CorrRec) (g now : Nat) : Bool :=
  let old (lim : Nat) : Option Nat → Bool
    | some t => decide (t + lim * 1000000000 < now)
    | none => false
  old 90 (newestSsr l g [0, 3]) || old 90 (newestSsr l g [1, 3, 5]) || old 10 (newestSsr l g [5])

/-- A satellite of a system falls back to its broadcast data (R266): its corrections' age or their issue of data. -/
def corrFalls (p : Pkg) (x : Side) (g now : Nat) : Bool :=
  let l := p.lanes.get x
  ssrStale l.corr g now || Config.issueMismatch (navWords l (flag p x.helm I_EST.SBAS_OFF)) g

/-- CORR_STALE (R266). -/
def corrStale (x : Side) (g : Nat) (p : Pkg) : Pkg :=
  let d := x.helm
  if decide (g < 4) && corrFalls p x g (now p d) && !(flagI p d I_EST.CORR_STALE g) then
    let first := !((List.range 4).any (fun k => flagI p d I_EST.CORR_STALE k))
    p |> wrI d I_EST.CORR_STALE g 1 |> onlyIf first (logOpen d clsWarning 0x13 5 .unstated)
  else p

/-- SBAS_RESUME (R267). -/
def sbasResume (x : Side) (p : Pkg) : Pkg :=
  let d := x.helm
  if rd p d I_EST.SBAS_AT + 60000000000 ≤ now p d then wr d I_EST.SBAS_OFF 0 p else p

/-- Navigation records a lane holds at most for one system, PRN, signal and page type: the newest. -/
def navStore (l : List NavRec) (r : NavRec) : List NavRec :=
  l.filter (fun k => !(k.sys == r.sys && k.prn == r.prn && k.signal == r.signal && k.page == r.page)) ++ [r]

/-- The satellite of an ephemeris message: the first bits after its number, four for QZSS and six for the others (RTCM 3, PRESUMED). -/
def ephSat (c : CorrRec) : Nat :=
  let w := (c.bytes.getD 4 0 * 256 + c.bytes.getD 5 0) % 4096
  if c.message = 1044 then w / 256 else w / 64

/-- Correction records a lane holds: of an ephemeris message the newest for each satellite; of an SSR message all whose stamps are at most
90 s before the newest, the longest a correction applies (R266). -/
def corrStore (l : List CorrRec) (r : CorrRec) : List CorrRec :=
  let old (k : CorrRec) : Bool := k.message == r.message &&
    (if r.message < 1057 then ephSat k == ephSat r else decide (k.stamp + 90000000000 < r.stamp))
  l.filter (fun k => !(old k)) ++ [r]

/-- A message of Table 09-6. -/
def rtcmUsed (m : Nat) : Bool :=
  [1019, 1042, 1044, 1045, 1046].contains m || (List.range 4).any (fun g => decide (ssrBase g ≤ m) && decide (m < ssrBase g + 6))

/-- The boundary's decoding (R262, R265 to R267): admitted records enter the store in their order; SBAS type 0 suspends SBAS; a system
whose corrections are fresh again returns. -/
def navBoundary (x : Side) (tb : Nat) (p : Pkg) : Pkg :=
  let d := x.helm
  let l := p.lanes.get x
  let le (a b : NavRec) : Bool := decide (a.stamp * 4096 + a.die * 256 + a.channel ≤ b.stamp * 4096 + b.die * 256 + b.channel)
  let nav := (l.navIn.filter (fun r => decide (r.stamp ≤ tb))).mergeSort le
  let corr := ((l.corrIn.filter (fun r => decide (r.stamp ≤ tb))).mergeSort (fun a b => decide (a.stamp ≤ b.stamp))).filter (fun r => rtcmUsed r.message)
  let p := onLane x (fun l =>
    { l with
      navIn := l.navIn.filter (fun r => !(decide (r.stamp ≤ tb)))
      corrIn := l.corrIn.filter (fun r => !(decide (r.stamp ≤ tb)))
      nav := nav.foldl navStore l.nav, corr := corr.foldl corrStore l.corr }) p
  let p := forAll (nav.filter (fun r => r.sys == 5 && r.page == 0)) (fun r q => q |> wr d I_EST.SBAS_OFF 1 |> wr d I_EST.SBAS_AT r.stamp) p
  let was := (List.range 4).any (fun g => flagI p d I_EST.CORR_STALE g)
  let p := forAll (List.range 4) (fun g q => onlyIf (!(corrFalls q x g tb)) (wrI d I_EST.CORR_STALE g 0) q) p
  onlyIf (was && !((List.range 4).any (fun g => flagI p d I_EST.CORR_STALE g))) (logOpen d clsInfo 0x13 6 .unstated) p

/-! Reflectometer (R270, R271, R278). -/

/-- REFLECT_START is refused while the die runs on its internal oscillator or a capture waits, runs or is held (R278). -/
def reflectRefused (p : Pkg) (x : Side) : Bool := onFallback p x.bb || rd p x.bb GNS_SNAP_STATUS.SNAP_STATE != 0

/-- REFLECT_START (R270). -/
def reflectStart (x : Side) (p : Pkg) : Pkg :=
  if !(running p x.bb) || reflectRefused p x then p else p |> wr x.bb GNS_STATUS.REFLECT_BUSY 1
    |> wr x.bb I_GNS.REFLECT_AT (now p x.bb) |> wr x.bb GNS_REFLECT_RESULT.VALID 0

/-- REFLECT_DONE (R270, R271): after the run's 100 ms, 64 pulses at 1.5625 ms, its round trip in ps gives the length in 0.1 m and the proposed delay in 0.1 ns. -/
def reflectDone (x : Side) (rtPs : Nat) (p : Pkg) : Pkg :=
  let d := x.bb
  if !(flag p d GNS_STATUS.REFLECT_BUSY) || decide (now p d < rd p d I_GNS.REFLECT_AT + 100000000) then p
  else
    let len := (divRne ((rtPs * rd p d GNS_REFLECT_CFG.VF * 299792458 : Nat) : Int) 200000000000000).toNat
    let prop := (divRne (rtPs : Int) 200).toNat
    p |> wr d GNS_STATUS.REFLECT_BUSY 0 |> wr d GNS_REFLECT_RESULT.LENGTH (min len 4095) |> wr d GNS_REFLECT_RESULT.VALID 1
      |> wr d GNS_REFLECT_RESULT.PROPOSED (min prop 20000) |> wr d GNS_REFLECT_RESULT.CLIPPED (b2n (decide (20000 < prop)))
      |> raise d clsInfo GNS_EVENT.REFLECT_DONE |> surrFrom p d GNS_REFLECT_RESULT.LENGTH 0

/-! Harbour watch (R273, R274). -/

/-- Put the baseband to sleep: RF paths, ADCs and channels are off. -/
def gnssSleep (x : Side) (p : Pkg) : Pkg :=
  let d := x.bb
  forAll ((List.range 160).filter (fun c => chanState p d c != 4)) (freeChannel d) p |> gnsCounts d |> wr d GNS_STATUS.STATE 4
    |> wr d I_GNS.WATCH_AT (now p d) |> onBb x (fun b => { b with verify := none }) |> raise d clsInfo GNS_EVENT.HW_SLEEP

/-- HW_WAKE (R274): HW_INTERVAL asleep. -/
def hwWake (x : Side) (p : Pkg) : Pkg :=
  let d := x.bb
  if flag p d I_GNS.WATCH && rd p d GNS_STATUS.STATE == 4 &&
      decide (rd p d I_GNS.WATCH_AT + rd p d GNS_HARBOUR.HW_INTERVAL * 60000000000 ≤ now p d) then
    p |> wr d GNS_STATUS.STATE 5 |> wr d I_GNS.WATCH_AT (now p d) |> raise d clsInfo GNS_EVENT.HW_WAKE
  else p

/-- The active lane's frame record counts as a GNSS time solution (R268): GA's GNSS_RAW source had a scalar applied, or GB's. -/
def gnssSolution (p : Pkg) : Bool :=
  match activeLane p with
  | some x => rd p x.helm EST_STATUS.PHASE != 0 &&
      (definedSrcs p x.helm).any (fun n => rdI p x.helm CFL_SRC.KIND n == 1 && bit (rd p x.helm I_EST.FUSED_SRC) n)
  | none => false

/-- REFERENCE of the layout, as the steward holds it: 0 NONE, 1 GNSS, 2 PTP. -/
def timeRef (p : Pkg) : Nat := rd p .sw TIM_CFG.REFERENCE

/-- A reference update (R363): theta, device time less reference time in ns, and the measured frequency error in ppb, binary64, wait for
the servo. -/
def referenceUpdate (theta : Int) (f : Nat) (p : Pkg) : Pkg :=
  p |> wrSI .sw I_TIM.REF_THETA 0 theta |> wr .sw I_TIM.REF_F f |> wr .sw I_TIM.REF_DUE 1

/-- The frame record of a lane is a reference update (R268, R363): the active lane's record that counts as a GNSS time solution, with GNSS
as the reference, from CLK_BIAS / c and CLK_DRIFT / c. -/
def gnssUpdate (x : Side) (p : Pkg) : Pkg :=
  if isActive p x && timeRef p == 1 && running p .sw && reaches p x.helm .sw && gnssSolution p then
    let s := (p.lanes.get x).est.x
    let ppb (v : Nat) : Nat := fmul (fdiv v fLight) (fint 1000000000)
    referenceUpdate (b64.toInt (ppb (vget s 15))) (ppb (vget s 16)) p
  else p

/-- HW_SLEEP (R274): `fresh` says that every signal above ELEV_MASK has an ephemeris of the current issue; the record must count as a
time solution too, or HW_WAKE_MAX must have passed. -/
def hwSleep (x : Side) (fresh : Bool) (p : Pkg) : Pkg :=
  let d := x.bb
  if flag p d I_GNS.WATCH && rd p d GNS_STATUS.STATE == 5 &&
      ((fresh && gnssSolution p) || decide (rd p d I_GNS.WATCH_AT + rd p d GNS_HARBOUR.HW_WAKE_MAX * 1000000000 ≤ now p d)) then gnssSleep x p
  else p

/-- A boundary's entry into harbour watch or exit from it (R273): `mode` is the owning lane's mode. -/
def hwBoundary (x : Side) (mode : Nat) (p : Pkg) : Pkg :=
  let d := x.bb
  let on := flag p d GNS_HARBOUR.HW_EN
  let w := flag p d I_GNS.WATCH
  if !(running p d) || rd p d GNS_STATUS.STATE == 6 then p
  else if !w && on && decide (mode ≤ 1) then p |> wr d I_GNS.WATCH 1 |> gnssSleep x
  else if w && (!on || decide (2 ≤ mode)) then
    p |> wr d I_GNS.WATCH 0
      |> onlyIf (rd p d GNS_STATUS.STATE == 4 || rd p d GNS_STATUS.STATE == 5)
        (fun q => wr d GNS_STATUS.STATE (if chansIn q d 2 = [] then 1 else 2) q)
  else p

/-! Snapshot capture (R275 to R278). -/

/-- A trigger: 0 a command, 1 to 4 the baseband's weirs, 5 a port-die weir (R275, R277, R278). -/
def snapTrigger (x : Side) (src : Nat) (p : Pkg) : Pkg :=
  let d := x.bb
  let masked := src != 0 && !(bit (rd p d GNS_SNAP_CFG.TRIG_MASK) (src - 1))
  if !(running p d) || masked then p
  else if onFallback p d || rd p d GNS_SNAP_STATUS.SNAP_STATE != 0 then
    p |> inc d GNS_SNAP_MISSED.V |> raise d clsInfo GNS_EVENT.SNAP_MISSED
  else p |> wr d GNS_SNAP_STATUS.SNAP_STATE 1 |> wr d GNS_SNAP_STATUS.TRIGGER src |> wr d I_GNS.TRIG_AT (now p d)

/-- The engine searches: it has work, and nothing holds it. -/
def searching (p : Pkg) (x : Side) : Bool :=
  !(gnsIdle p x.bb) && ((p.bbs.get x).verify.isSome || (nextSearch p x).isSome)

/-- A triggered capture may start at an instant (R276): a search has finished its dwell, within 4 ms, and a sleeping baseband's RF paths
have settled for 3 ms. -/
def captureMayStart (p : Pkg) (x : Side) (at' : Nat) : Bool :=
  let d := x.bb
  let since (ns : Nat) : Bool := decide (rd p d I_GNS.TRIG_AT + ns ≤ at')
  running p d && rd p d GNS_SNAP_STATUS.SNAP_STATE == 1 && (!(searching p x) || flag p d GNS_STATUS.SEARCH_SUSPENDED || since 4000000) &&
    (rd p d GNS_STATUS.STATE != 4 || since 3000000)

/-- CAPTURE_START (R276): the first sample is taken `t0` ns after the last tick edge, within its millisecond; a reflectometer run has
ended after its current pulse. -/
def captureStart (x : Side) (t0 : Nat) (p : Pkg) : Pkg :=
  let d := x.bb
  if t0 < 1000000 ∧ captureMayStart p x (now p d + t0) then
    p |> wr d GNS_SNAP_STATUS.SNAP_STATE 2 |> wr d GNS_SNAP_T0.T0 (now p d + t0) |> onlyIf (searching p x) (wr d GNS_STATUS.SEARCH_SUSPENDED 1)
      |> wr d GNS_SNAP_STATUS.LENGTH_MS (rd p d GNS_SNAP_CFG.LENGTH_MS) |> wr d GNS_SNAP_STATUS.FORMAT (rd p d GNS_SNAP_CFG.FORMAT)
      |> onlyIf (flag p d GNS_STATUS.REFLECT_BUSY) (fun q => q |> wr d GNS_STATUS.REFLECT_BUSY 0 |> raise d clsInfo GNS_EVENT.REFLECT_ABORTED)
  else p

/-- CAPTURE_DONE (R275, R277): LENGTH_MS after the first sample, the sample bytes; the header is written and the buffer held. -/
def captureDone (x : Side) (samples : List Nat) (p : Pkg) : Pkg :=
  let d := x.bb
  if rd p d GNS_SNAP_STATUS.SNAP_STATE == 2 && decide (rd p d GNS_SNAP_T0.T0 + rd p d GNS_SNAP_STATUS.LENGTH_MS * 1000000 ≤ now p d) then
    let c : Capture := ⟨rd p d GNS_SNAP_T0.T0, rd p d GNS_SNAP_STATUS.FORMAT, rd p d GNS_SNAP_STATUS.LENGTH_MS, rd p d GNS_SNAP_STATUS.TRIGGER,
      rd p d GNS_AGC.AGC_L1, rd p d GNS_AGC.AGC_L5, rd p d GNS_CABLE_DELAY.DELAY, crc32c samples, samples⟩
    p |> wr d GNS_SNAP_STATUS.SNAP_STATE 3 |> wr d I_GNS.HOLD_AT (now p d) |> onBb x (fun b => { b with capture := some c })
      |> raise d clsInfo GNS_EVENT.SNAP_READY
  else p

/-- The buffer is given up and the search goes on (R277). -/
def captureFree (x : Side) (p : Pkg) : Pkg :=
  let d := x.bb
  p |> wr d GNS_SNAP_STATUS.SNAP_STATE 0 |> wr d GNS_SNAP_STATUS.EXPORTING 0 |> wr d GNS_STATUS.SEARCH_SUSPENDED 0
    |> onBb x (fun b => { b with capture := none })

/-- SNAP_RELEASE (R277). -/
def snapRelease (x : Side) (p : Pkg) : Pkg := if rd p x.bb GNS_SNAP_STATUS.SNAP_STATE = 3 then captureFree x p else p

/-- SNAP_DISCARDED (R277): HOLD_MAX has passed. -/
def snapDiscarded (x : Side) (p : Pkg) : Pkg :=
  let d := x.bb
  if rd p d GNS_SNAP_STATUS.SNAP_STATE = 3 ∧ rd p d I_GNS.HOLD_AT + rd p d GNS_SNAP_CFG.HOLD_MAX * 1000000000 ≤ now p d then
    p |> captureFree x |> raise d clsWarning GNS_EVENT.SNAP_DISCARDED
  else p

/-- GNS_WEIR_FIRE (R279). -/
def gnsWeirFire (x : Side) (k : Nat) (p : Pkg) : Pkg :=
  let d := x.bb
  if running p d && flagI p d GNS_WEIR.EN k && !(flagI p d I_GWEIR.FIRED k) && flagI p d I_GWEIR.RUN k &&
      decide (rdI p d I_GWEIR.SINCE k + rdI p d GNS_WEIR.MIN_DUR k * 10000000 ≤ now p d) then
    p |> wrI d I_GWEIR.FIRED k 1
      |> (if flagI p d GNS_WEIR.TO_LOG k then raiseWith d clsWarning GNS_EVENT.WEIR (.words [k, gweirValue p d k]) else wr d GNS_EVENT.WEIR 1)
      |> onlyIf (flagI p d GNS_WEIR.TO_SNAP k) (snapTrigger x (k + 1))
  else p

/-- GNS_WEIR_REARM (R279): back past THRESH by HYST. -/
def gnsWeirRearm (x : Side) (k : Nat) (p : Pkg) : Pkg :=
  let d := x.bb
  let v := gweirValue p d k
  let t := rdI p d GNS_WEIR.THRESH k
  let h := rdI p d GNS_WEIR.HYST k
  let back := if flagI p d GNS_WEIR.DIR k then decide (v + h ≤ t) else decide (t + h ≤ v)
  if flagI p d I_GWEIR.FIRED k && back then p |> wrI d I_GWEIR.FIRED k 0 |> wrI d I_GWEIR.RUN k 0 else p

/-! The commands of the table: one meaning each. -/

/-- ANT_MONITOR_SAMPLE (R247). -/
def execAntMonitorSample (x : Side) (cur : Nat) (s : State) : Host.Outcome State Fault Refusal := nextPk s (antMonitorSample x cur)

/-- ANT_BIAS_RETRY (R248). -/
def execAntBiasRetry (x : Side) (s : State) : Host.Outcome State Fault Refusal := nextPk s (antBiasRetry x)

/-- ANT_RETRY (R248). -/
def execAntRetry (x : Side) (s : State) : Host.Outcome State Fault Refusal := nextPk s (antRetry x)

/-- CHANNEL_PLAN (R250). -/
def execChannelPlan (x : Side) (y : Side) (signals : List (Nat × Nat × Nat)) (s : State) : Host.Outcome State Fault Refusal := nextPk s (channelPlan x y signals)

/-- LOCK_LOSS (R252). -/
def execLockLoss (x : Side) (c : LockMeas) (s : State) : Host.Outcome State Fault Refusal := nextPk s (lockLoss x c.channel c.pliMs c.cn0Ms)

/-- REACQ_TIMEOUT (R252). -/
def execReacqTimeout (x : Side) (c : Nat) (s : State) : Host.Outcome State Fault Refusal := nextPk s (reacqTimeout x c)

/-- CYCLE_SLIP (R253). -/
def execCycleSlip (x : Side) (c : SlipMeas) (s : State) : Host.Outcome State Fault Refusal := nextPk s (cycleSlip x c.channel c.intervals)

/-- CHANNEL_LOCKED (R272). -/
def execChannelLocked (x : Side) (c : Nat) (s : State) : Host.Outcome State Fault Refusal := nextPk s (channelLocked x c)

/-- ACQ_DWELL (R255). -/
def execAcqDwell (x : Side) (above : Bool) (s : State) : Host.Outcome State Fault Refusal := nextPk s (acqDwell x above)

/-- GNSS_EPOCH (R258). -/
def execGnssEpoch (x : Side) (epoch agc1 agc5 handNs : Nat) (meas : List Meas) (bistFail : Bool) (s : State) : Host.Outcome State Fault Refusal := nextPk s (gnssEpoch x epoch agc1 agc5 handNs meas bistFail)

/-- NAV_PAGE (R261). -/
def execNavPage (x : Side) (c ended page bits : Nat) (good : Bool) (s : State) : Host.Outcome State Fault Refusal := nextPk s (navPage x c ended page bits good)

/-- RTCM_FRAME (R264). -/
def execRtcmFrame (y : Side) (u stamp : Nat) (frame : List Nat) (s : State) : Host.Outcome State Fault Refusal := nextPk s (rtcmFrame y u stamp frame)

/-- CORR_STALE (R266). -/
def execCorrStale (x : Side) (g : Nat) (s : State) : Host.Outcome State Fault Refusal := nextPk s (corrStale x g)

/-- SBAS_RESUME (R267). -/
def execSbasResume (x : Side) (s : State) : Host.Outcome State Fault Refusal := nextPk s (sbasResume x)

/-- REFLECT_START (R270). -/
def execReflectStart (x : Side) (s : State) : Host.Outcome State Fault Refusal := nextPk s (reflectStart x)

/-- REFLECT_DONE (R270). -/
def execReflectDone (x : Side) (rtPs : Nat) (s : State) : Host.Outcome State Fault Refusal := nextPk s (reflectDone x rtPs)

/-- HW_WAKE (R274). -/
def execHwWake (x : Side) (s : State) : Host.Outcome State Fault Refusal := nextPk s (hwWake x)

/-- HW_SLEEP (R274). -/
def execHwSleep (x : Side) (fresh : Bool) (s : State) : Host.Outcome State Fault Refusal := nextPk s (hwSleep x fresh)

/-- SNAP_TRIGGER (R275). -/
def execSnapTrigger (x : Side) (s : State) : Host.Outcome State Fault Refusal := nextPk s (snapTrigger x 0)

/-- CAPTURE_START (R276). -/
def execCaptureStart (x : Side) (t0 : Nat) (s : State) : Host.Outcome State Fault Refusal := nextPk s (captureStart x t0)

/-- CAPTURE_DONE (R277). -/
def execCaptureDone (x : Side) (samples : List Nat) (s : State) : Host.Outcome State Fault Refusal := nextPk s (captureDone x samples)

/-- SNAP_RELEASE (R277). -/
def execSnapRelease (x : Side) (s : State) : Host.Outcome State Fault Refusal := nextPk s (snapRelease x)

/-- SNAP_DISCARDED (R277). -/
def execSnapDiscarded (x : Side) (s : State) : Host.Outcome State Fault Refusal := nextPk s (snapDiscarded x)

/-- GNS_WEIR_FIRE (R279). -/
def execGnsWeirFire (x : Side) (k : Nat) (s : State) : Host.Outcome State Fault Refusal := nextPk s (gnsWeirFire x k)

/-- GNS_WEIR_REARM (R279). -/
def execGnsWeirRearm (x : Side) (k : Nat) (s : State) : Host.Outcome State Fault Refusal := nextPk s (gnsWeirRearm x k)

end Sys2Proof.Machine
end

