-- ==== Sys2Proof/Machine/Flume.lean ====
section
/-! DEFINITION. Chapter 15: the flumes. Telemetry entries, answers, and the audit and the count of commands. -/

namespace Sys2Proof.Machine

/-- Bytes of a telemetry entry: its 8-byte head and its content (R407). -/
def TelBody.bytes : TelBody → Nat
  | .answer _ _ => 24
  | .frame l => 8 + l.length
  | .cycle l => 8 + l.length

/-- An ANSWER entry. -/
def TelBody.isAnswer : TelBody → Bool
  | .answer _ _ => true
  | .frame _ => false
  | .cycle _ => false

/-- Bytes held in the telemetry flume of a slot. -/
def telUsed (p : Pkg) (slot : Nat) : Nat :=
  ((p.tel.filter (fun e => e.slot == slot)).map (fun e => e.body.bytes)).foldl (· + ·) 0

/-- The active lane writes an entry into a session's telemetry flume of 64 KiB, 4 KiB of it kept for answers (R405, R409). -/
def telPut (x : Side) (slot : Nat) (b : TelBody) (p : Pkg) : Pkg :=
  if !(isActive p x) || !(sessionOpen p slot) then p
  else
    let room := if b.isAnswer then 65536 else 61440
    if telUsed p slot + b.bytes ≤ room then
      let n := trunc 32 (rdI p .sw I_TEL.SEQ slot + 1)
      { p with tel := p.tel ++ [⟨slot, x.num, n, b⟩] } |> wrI .sw I_TEL.SEQ slot n
    else p |> incI .sw HST_SESS.TEL_DROP slot |> raise .sw clsWarning HST_EVENT.TEL_DROP

/-- Results of a command (R146). -/
inductive CmdResult
  | accepted | notInCommand | modeMismatch | modeRefused | outOfRange | malformed
  deriving DecidableEq, Repr

/-- The code of a result in an ANSWER entry, in the order in which R146 names them. -/
def CmdResult.code : CmdResult → Nat
  | .accepted => 0 | .notInCommand => 1 | .modeMismatch => 2 | .modeRefused => 3 | .outOfRange => 4 | .malformed => 5

/-- Bytes of a control message in its half: the 32-byte head and the payload padded to 16 bytes (Table 15-6). -/
def FlumeEntry.bytes (e : FlumeEntry) : Nat := 32 + (e.cmd.payload.length + 15) / 16 * 16

/-- Bytes of a slot's half that an ingress die fills (R405). -/
def halfUsed (l : Lane) (die slot : Nat) : Nat :=
  ((l.flume.filter (fun e => e.cmd.die == die && e.cmd.slot == slot)).map FlumeEntry.bytes).foldl (· + ·) 0

/-- The ACTIVE lane logs the audit of an accepted command, and counts continuous demands (R423, R450). -/
def auditCommand (x : Side) (code : Nat) (c : Cmd) (p : Pkg) : Pkg :=
  let d := x.helm
  if !(isActive p x) then p
  else if code = 5 ∨ code = 6 then
    p |> onlyIf (rdI p d I_SP.DEMANDS c.slot == 0) (wrI d I_SP.DEMAND_FIRST c.slot c.stamp) |> addSatI d I_SP.DEMANDS c.slot 1
      |> wrI d I_SP.DEMAND_LAST c.slot c.stamp
  else if code = 0x80 then p
  else auditRec d 2 c.slot c.keyId 0x14
    (.audit (0xC0000000 + code) (leNat (c.payload.take 4)) (leNat ((c.payload.drop 4).take 4)) 0 0 c.slot c.keyId c.counter) p

/-- Answer a command and count it (R146). -/
def answerCommand (x : Side) (code : Nat) (c : Cmd) (r : CmdResult) (p : Pkg) : Pkg :=
  let d := x.helm
  p |> (if r = .accepted then fun q => q |> inc d SP_ACCEPTED.V |> auditCommand x code c else inc d SP_REFUSED.V)
    |> telPut x c.slot (.answer c.counter r.code)

/-- DEMAND_SPILL (R450): the ACTIVE lane writes one record a session that counts its continuous demands. -/
def demandSpill (x : Side) (slot : Nat) (p : Pkg) : Pkg :=
  let d := x.helm
  let n := rdI p d I_SP.DEMANDS slot
  if !(isActive p x) || n == 0 then p
  else p |> logRec d (eventCode clsSpill 0x14 34) 0 slot (rdI p .sw HST_SLOT.KEY_ID slot)
      (.spill (eventCode clsAudit 0x14 33) d.num n (rdI p d I_SP.DEMAND_FIRST slot) (rdI p d I_SP.DEMAND_LAST slot))
    |> wrI d I_SP.DEMANDS slot 0

/-! The commands of the table: one meaning each. -/

/-- DEMAND_SPILL (R450). -/
def execDemandSpill (x : Side) (slot : Nat) (s : State) : Host.Outcome State Fault Refusal := nextPk s (demandSpill x slot)

end Sys2Proof.Machine
end

