-- ==== Sys2Proof/Machine/Nhp.lean ====
section
/-! DEFINITION. Chapter 15: NHP messages, the dispatchers of the port dies, and the replies and telemetry that leave. -/

namespace Sys2Proof.Machine

/-! Messages (R393 to R396). -/

/-- The bytes of a message but for its tag (Table 15-2). -/
def Msg.body (m : Msg) : List Nat :=
  [0x4E, 0x48, 1, 1, m.slot, 0] ++ leBytes 2 m.opcode ++ leBytes 8 m.counter ++ leBytes 4 m.session ++ leBytes 2 m.status ++
    leBytes 2 m.payload.length ++ leBytes 8 m.req ++ m.payload

/-- The 32 bytes of a key. -/
def keyBytes (k : Nat) : List Nat := leBytes 32 k

/-- The datagram's bytes: the message and its tag (R394). -/
def Msg.bytes (m : Msg) : List Nat := m.body ++ hmacSha (keyBytes m.key) m.body

/-- Hand a message to the network. Its COUNTER carries the die and counts the die's messages in the session (R395). -/
def sendWith (d : Die) (dest : Nat × Nat) (slot session key opcode status req : Nat) (payload : List Nat) (p : Pkg) : Pkg :=
  let n := trunc 56 (rdI p d I_HST.TX slot + 1)
  { p with nhp := { p.nhp with sent := p.nhp.sent ++ [⟨d.num, slot, session, d.num * 2 ^ 56 + n, opcode, status, req, payload, key, dest⟩] } }
    |> wrI d I_HST.TX slot n

/-- The port die that accepted the session's last message. -/
def servingDie (p : Pkg) (slot : Nat) : Die := if rdI p .pa I_HST.LAST slot < rdI p .pb I_HST.LAST slot then .pb else .pa

/-- Where a die's messages of a session go: to the address and port from which the last message came that the die itself, or for the
steward the serving port die, has accepted (R407). -/
def peerOf (p : Pkg) (d : Die) (slot : Nat) : Nat × Nat :=
  let s := if d = .pa ∨ d = .pb then d else servingDie p slot
  (rdI p s I_HST.PEER_ADDR slot, rdI p s I_HST.PEER_PORT slot)

/-- The session ID of a slot at a die that sends: at a port die what it checks, at the steward its table's. -/
def sessionIdAt (p : Pkg) (d : Die) (slot : Nat) : Nat :=
  if d = .pa ∨ d = .pb then rdI p d I_HST.SESS slot else rdI p .sw HST_SESS.SESSION_ID slot

/-- Send a message of an open session. -/
def sendMsg (d : Die) (slot opcode status req : Nat) (payload : List Nat) (p : Pkg) : Pkg :=
  sendWith d (peerOf p d slot) slot (sessionIdAt p d slot) (rdI p d I_HST.KEY slot) opcode status req payload p

/-- An event of the host interface at a port die: the steward shows its bit while it runs, and the die logs it. -/
def hostRaise (d : Die) (cls : Nat) (F : Fld) (p : Pkg) : Pkg :=
  p |> onlyIf (running p .sw) (wr .sw F 1) |> logAt d (eventCode cls (blockCode F.off) F.lo) .unstated

/-- Status codes (Table 15-5). -/
inductive Status
  | ok | busy | roleDenied | malformed | unknownOp | flumeFull | dieDown | laneNone | resourceHeld | txnNone | txnHeld | txnInvalid
  | txnFull | txnNotTx | txnApplyFail | storeDown | standbyNotReady | swapPending | drillRefused
  | other (code : Nat)
  deriving DecidableEq, Repr

/-- The code of a status. -/
def Status.code : Status → Nat
  | .ok => 0 | .busy => 1 | .roleDenied => 2 | .malformed => 3 | .unknownOp => 4 | .flumeFull => 5 | .dieDown => 6 | .laneNone => 7
  | .resourceHeld => 8 | .txnNone => 0x10 | .txnHeld => 0x11 | .txnInvalid => 0x12 | .txnFull => 0x13 | .txnNotTx => 0x14
  | .txnApplyFail => 0x15 | .storeDown => 0x16 | .standbyNotReady => 0x20 | .swapPending => 0x21 | .drillRefused => 0x22
  | .other c => c

/-- A BUSY payload (Table 15-8). -/
def busyPayload (p : Pkg) (reason : Nat) : List Nat :=
  [reason, rd p .sw HST_STATUS.BUSY_OP, rd p .sw HST_STATUS.PROGRESS, 0] ++ leBytes 4 (Config.remainMs (rd p .sw HST_STATUS.PROGRESS))

/-! The dispatcher (R392, R394 to R397, R402 to R406, R425). -/

/-- A datagram dropped without a reply, and counted. -/
def nhpDrop (d : Die) (C E : Fld) (p : Pkg) : Pkg := p |> inc .sw C |> hostRaise d clsWarning E

/-- A counter is new to the die's window of the session: above the highest, or within 64 below it and not yet taken (R395). -/
def counterNew (p : Pkg) (d : Die) (slot c : Nat) : Bool :=
  let h := rdI p d I_HST.HIGH slot
  decide (h ≤ c) || (decide (h ≤ c + 65) && !(bit (rdI p d I_HST.SEEN slot) (h - 1 - c)))

/-- Mark a counter as taken. -/
def counterTake (d : Die) (slot c : Nat) (p : Pkg) : Pkg :=
  let h := rdI p d I_HST.HIGH slot
  let seen := rdI p d I_HST.SEEN slot
  if h ≤ c then p |> wrI d I_HST.SEEN slot (trunc 65 (seen * 2 ^ min 65 (c + 1 - h) + 1)) |> wrI d I_HST.HIGH slot (c + 1)
  else wrI d I_HST.SEEN slot (Nat.lor seen (2 ^ (h - 1 - c))) p

/-- The opcodes of control messages: Commands 0x01 to 0x09 and TEL_SUB. -/
def isControl (op : Nat) : Bool := (decide (0x101 ≤ op) && decide (op ≤ 0x109)) || op == 0x180

/-- The opcodes the steward serves (Table 15-4 and the ranges of the other chapters). -/
def managed : List Nat :=
  [0x0002, 0x0004, 0x0200, 0x0201, 0x0210, 0x0211, 0x0212, 0x0213, 0x0214, 0x0220, 0x0221, 0x0222, 0x0223, 0x0230, 0x0240, 0x0242,
    0x0300, 0x0301, 0x0302, 0x0303, 0x0304, 0x0305, 0x0400, 0x0401, 0x0402, 0x0403, 0x0404, 0x0405, 0x0410, 0x0500, 0x0501, 0x0510, 0x0520]

/-- The lanes that hold flumes now. -/
def flumeLanes (p : Pkg) (d : Die) : List Side := bothSides.filter (fun x => running p x.helm && reaches p d x.helm)

/-- A control message refused FLUME_FULL (R406, R425). -/
def flumeRefuse (d : Die) (slot op c : Nat) (p : Pkg) : Pkg :=
  p |> inc .sw HST_FLUME_FULL.V |> incI d I_HST.FULL_NEW slot |> hostRaise d clsWarning HST_EVENT.FLUME_FULL
    |> sendMsg d slot op Status.flumeFull.code c []

/-- The dispatcher's watch on the active lane's audit hold (R425): it stops audited commands above 32 and takes them again below 16. -/
def auditWatch (d : Die) (p : Pkg) : Pkg :=
  let n := match activeLane p with
    | some x => (p.log.get x.helm).hold.length
    | none => 0
  if flag p d I_HST.AUDIT_STOP then onlyIf (decide (n < 16)) (wr d I_HST.AUDIT_STOP 0) p
  else onlyIf (decide (32 < n)) (fun q => q |> wr d I_HST.AUDIT_STOP 1 |> hostRaise d clsWarning HST_EVENT.AUDIT_HOLD) p

/-- A command that is audited (R423): all but JOYSTICK, THRUSTER_MANUAL and TEL_SUB. -/
def audited (code : Nat) : Bool := code != 5 && code != 6 && code != 0x80

/-- A control message toward the flumes (R405, R406): an entry in the die's half, in both lanes. -/
def dispatchControl (d : Die) (stamp slot op c : Nat) (payload : List Nat) (p : Pkg) : Pkg :=
  let p := auditWatch d p
  let code := op % 256
  let e : FlumeEntry := ⟨code, ⟨stamp, d.num, slot, rdI p d I_HST.KEY_ID slot, c, payload⟩, false⟩
  let lanes := flumeLanes p d
  if audited code && flag p d I_HST.AUDIT_STOP then flumeRefuse d slot op c p
  else if lanes.any (fun x => decide (32768 < halfUsed (p.lanes.get x) d.num slot + e.bytes)) then flumeRefuse d slot op c p
  else forAll lanes (fun x q => onLane x (fun l => { l with flume := l.flume ++ [e] }) q) p

/-- The steward can be given a management request. -/
def stewardServes (p : Pkg) (d : Die) : Bool := running p .sw && !(flag p d I_DIE.STEWARD_SILENT) && reaches p d .sw

/-- A BUSY answer, counted. -/
def answerBusy (d : Die) (slot op c reason : Nat) (p : Pkg) : Pkg :=
  p |> inc .sw HST_BUSY_REPLIES.V |> sendMsg d slot op Status.busy.code c (busyPayload p reason)

/-- A management request toward the steward's queue of 32 (R392, R410). -/
def dispatchManaged (d : Die) (slot op c : Nat) (payload : List Nat) (p : Pkg) : Pkg :=
  if !(stewardServes p d) then sendMsg d slot op Status.dieDown.code c [] p
  else if 32 ≤ p.nhp.queue.length then answerBusy .sw slot op c 2 p
  else
    { p with nhp := { p.nhp with queue := p.nhp.queue ++ [⟨d.num, slot, c, op, payload⟩] } }
      |> wr .sw HST_STATUS.QUEUE (p.nhp.queue.length + 1)

/-- The least role of a control opcode (Table 15-4). -/
def controlRole (op : Nat) : Nat := if op = 0x180 then 0 else 1

/-- A request whose opcode needs a higher role than the session holds (R402): answered and counted. -/
def denyRole (d : Die) (slot op c : Nat) (p : Pkg) : Pkg :=
  p |> inc .sw I_HST.DENIED |> hostRaise d clsWarning HST_EVENT.ROLE_DENIED |> sendMsg d slot op Status.roleDenied.code c []

/-- Route a whole request by its opcode (R392, R403). KEEPALIVE and OPEN have rows of their own. -/
def dispatchRoute (d : Die) (stamp slot op c : Nat) (payload : List Nat) (p : Pkg) : Pkg :=
  if isControl op then
    if rdI p d I_HST.ROLE slot < controlRole op then denyRole d slot op c p else dispatchControl d stamp slot op c payload p
  else if op = 0x0003 then p
  else if managed.contains op then dispatchManaged d slot op c payload p
  else sendMsg d slot op Status.unknownOp.code c [] p

/-- A first part waits at the die for a counter (R396). -/
def partOf (p : Pkg) (d : Die) (slot c : Nat) : Option Part :=
  p.nhp.parts.find? (fun x => x.req.die == d.num && x.req.slot == slot && x.req.counter + 1 == c)

/-- Remove the first parts of a slot and counter. -/
def dropPart (d : Die) (slot c : Nat) (p : Pkg) : Pkg :=
  { p with nhp := { p.nhp with parts := p.nhp.parts.filter (fun x => !(x.req.die == d.num && x.req.slot == slot && x.req.counter == c)) } }

/-- A message the dispatcher has accepted: a first part waits, a second one completes its request (R396). -/
def dispatchPart (d : Die) (stamp slot op c : Nat) (more : Bool) (payload : List Nat) (p : Pkg) : Pkg :=
  if more then { p with nhp := { p.nhp with parts := p.nhp.parts ++ [⟨⟨d.num, slot, c, op, payload⟩, now p d⟩] } }
  else match partOf p d slot c with
    | none => dispatchRoute d stamp slot op c payload p
    | some x =>
      let p := dropPart d slot x.req.counter p
      let whole := x.req.payload ++ payload
      if x.req.opcode ≠ op ∨ x.at' + 100000000 < now p d ∨ whole.length ≤ 1400 then sendMsg d slot op Status.malformed.code c [] p
      else dispatchRoute d stamp slot op c whole p

/-- An accepted message restarts the idle time and is shown in the session table at the next collection (R401). -/
def nhpTake (d : Die) (slot c srcAddr srcPort : Nat) (v6 : Bool) (p : Pkg) : Pkg :=
  p |> counterTake d slot c |> wrI d I_HST.LAST slot (now p d) |> incI d I_HST.RX_NEW slot |> wrI d I_HST.PEER_PORT slot srcPort
    |> wrI d I_HST.PEER_ADDR slot srcAddr |> wrI d I_HST.PEER_V6 slot (b2n v6)

/-- An NHP datagram at the dispatcher of the die of ingress (R394, R395). `stamp` is its compensated ingress timestamp in ns. -/
def nhpDatagram (d : Die) (stamp srcAddr srcPort : Nat) (v6 : Bool) (b : List Nat) (p : Pkg) : Pkg :=
  let len := leNat ((b.drop 22).take 2)
  let slot := b.getD 4 0
  let op := leNat ((b.drop 6).take 2)
  let c := leNat ((b.drop 8).take 8)
  let body := b.take (32 + len)
  let framed := b.take 3 == [0x4E, 0x48, 1] && b.length == 64 + len && decide (len ≤ 1400) && decide (slot < 8)
  if !framed then nhpDrop d HST_AUTH_FAIL.V HST_EVENT.AUTH_FAIL p
  else if op = 0x0001 then
    if leNat ((b.drop 16).take 4) ≠ 0 then nhpDrop d HST_AUTH_FAIL.V HST_EVENT.AUTH_FAIL p else p
  else if !(flagI p d I_HST.OPEN slot) || leNat ((b.drop 16).take 4) != rdI p d I_HST.SESS slot ||
      b.drop (32 + len) != hmacSha (keyBytes (rdI p d I_HST.KEY slot)) body then nhpDrop d HST_AUTH_FAIL.V HST_EVENT.AUTH_FAIL p
  else if !(counterNew p d slot c) then nhpDrop d HST_REPLAY.V HST_EVENT.REPLAY p
  else p |> nhpTake d slot c srcAddr srcPort v6 |> dispatchPart d stamp slot op c (bit (b.getD 3 0) 1) (body.drop 32)

/-- MORE_TIMEOUT (R396): a first part without its second for 100 ms. -/
def moreTimeout (y : Side) (slot : Nat) (p : Pkg) : Pkg :=
  let d := y.port
  let old := p.nhp.parts.filter (fun x => x.req.die == d.num && x.req.slot == slot && decide (x.at' + 100000000 ≤ now p d))
  if !(running p d) then p
  else forAll old (fun x q => q |> dropPart d slot x.req.counter |> sendMsg d slot x.req.opcode Status.malformed.code x.req.counter []) p

/-- KEEPALIVE (R403): an accepted KEEPALIVE is answered by the port die. -/
def keepalive (y : Side) (slot c : Nat) (p : Pkg) : Pkg :=
  if running p y.port && flagI p y.port I_HST.OPEN slot && decide (slot < 8) then sendMsg y.port slot 0x0003 Status.ok.code c [] p else p

/-! Telemetry messages (R407). -/

/-- The bytes of a telemetry entry: type, lane, length, sequence number, content. -/
def TelEntry.bytes (e : TelEntry) : List Nat :=
  let c := match e.body with
    | .answer n r => leBytes 8 n ++ [r] ++ List.replicate 7 0
    | .frame l => l
    | .cycle l => l
  let t := match e.body with
    | .answer _ _ => 1 | .frame _ => 2 | .cycle _ => 3
  [t, e.lane] ++ leBytes 2 c.length ++ leBytes 4 e.seq ++ c

/-- Gather whole entries into messages of at most 1,400 bytes. -/
def packEntries : List TelEntry → List Nat → List (List Nat)
  | [], acc => if acc.isEmpty then [] else [acc]
  | e :: r, acc =>
    let b := e.bytes
    if 1400 < acc.length + b.length then acc :: packEntries r b else packEntries r (acc ++ b)

/-- The serving port die of an open session sends what stands in its telemetry flume. -/
def telemetrySend (slot : Nat) (p : Pkg) : Pkg :=
  let d := servingDie p slot
  if !(running p d) || !(flagI p d I_HST.OPEN slot) then p
  else
    let mine := p.tel.filter (fun e => e.slot == slot)
    { p with tel := p.tel.filter (fun e => e.slot != slot) } |> forAll (packEntries mine []) (fun b q => sendMsg d slot 0x0181 0 0 b q)

/-- At a tick the network has taken the messages of the last one, and the telemetry flumes are sent. -/
def networkTick (p : Pkg) : Pkg := { p with nhp := { p.nhp with sent := [] } } |> forAll (List.range 8) telemetrySend

/-! The commands of the table: one meaning each. -/

/-- MORE_TIMEOUT (R396). -/
def execMoreTimeout (y : Side) (slot : Nat) (s : State) : Host.Outcome State Fault Refusal := nextPk s (moreTimeout y slot)

/-- KEEPALIVE (R403). -/
def execKeepalive (y : Side) (slot ctr : Nat) (s : State) : Host.Outcome State Fault Refusal := nextPk s (keepalive y slot ctr)

end Sys2Proof.Machine
end

