-- ==== Sys2Proof/Machine/LoopSlot.lean ====
section
/-! DEFINITION. Chapter 08: the arithmetic of one loop slot and one tick of it, exact to the bit. -/

namespace Sys2Proof.Machine

/-- The greatest 32-bit signed code. -/
def codeMax : Int := 0x7FFFFFFF

/-- The least 32-bit signed code. -/
def codeMin : Int := -0x80000000

/-- A signed number held to 32 bits (R215). -/
def satCode (v : Int) : Int := clampInt v codeMin codeMax

/-- A signed number taken modulo 2^32 (R215, WRAP slots). -/
def wrap32 (v : Int) : Int := toSigned 32 (ofSigned 32 v)

/-- The difference of two signal codes: it wraps in a WRAP slot and saturates otherwise (R215). -/
def codeDiff (wrap : Bool) (a b : Int) : Int := if wrap then wrap32 (a - b) else satCode (a - b)

/-- Mantissa of a coefficient word (Table 08-4). -/
def coefM (c : Nat) : Int := toSigned 24 (bitsAt c 8 24)

/-- Shift of a coefficient word (Table 08-4). -/
def coefSh (c : Nat) : Int := toSigned 6 (bitsAt c 0 6)

/-- A number shifted left, or right with rounding to nearest, ties to even (R214). -/
def shiftRne (v : Int) (n : Int) : Int := if 0 ≤ n then v * (2 ^ n.toNat : Nat) else divRne v (2 ^ (-n).toNat)

/-- The product of a coefficient word and a code as the accumulator takes it; `bx` is the block exponent of a state word, 0 for a
signal code (R214). -/
def prodTerm (c : Nat) (s : Int) (bx : Nat) : Int := shiftRne (coefM c * s) (coefSh c + 8 + (bx : Int))

/-- A code as the accumulator takes it: a signal code with `bx` 0, a state word with the block exponent (R214). -/
def codeTerm (s : Int) (bx : Nat) : Int := s * (2 ^ (31 + bx) : Nat)

/-- The accumulator: its contents, and whether it has saturated (R214). -/
structure Accu where
  v : Int
  sat : Bool
  deriving DecidableEq, Repr

/-- The empty accumulator. -/
def Accu.zero : Accu := ⟨0, false⟩

/-- Add a term; the accumulator holds 80 bits (R214). -/
def Accu.add (a : Accu) (t : Int) : Accu :=
  let s := a.v + t
  if s < -((2 ^ 79 : Nat) : Int) then ⟨-((2 ^ 79 : Nat) : Int), true⟩
  else if ((2 ^ 79 : Nat) : Int) - 1 < s then ⟨((2 ^ 79 : Nat) : Int) - 1, true⟩
  else ⟨s, a.sat⟩

/-- The accumulator over a list of terms. -/
def accuOf (l : List Int) : Accu := l.foldl Accu.add Accu.zero

/-- The accumulator's contents as a signal code (R215). -/
def Accu.code (a : Accu) : Int := satCode (divRne a.v (2 ^ 31))

/-- An engineering value as a code, `k` being 2^31 / FS in binary64 (R213). -/
def toCode (wrap : Bool) (k v : Nat) : Int :=
  match b64.split (fmul v k) with
  | .nan => 0
  | .inf s => if wrap then 0 else if s then codeMin else codeMax
  | .fin _ _ _ => if wrap then wrap32 (b64.toInt (fmul v k)) else satCode (b64.toInt (fmul v k))

/-- 2^31 / FS in binary64 (R213). -/
def codeScale (fs : Nat) : Nat := fdiv (fint 0x80000000) fs

/-- The engineering value of an output word: w × OUT_FS / 2^31 in binary64 (R213). -/
def codeValue (fs : Nat) (w : Int) : Nat := fdiv (fmul (fint w) fs) (fint 0x80000000)

/-- A region entry (Table 08-9): coefficient words and limits. -/
structure Region where
  kp : Nat
  ki : Nat
  kd : Nat
  ad : Nat
  kt : Nat
  kf : Nat
  bq1 : List Nat
  bq2 : List Nat
  rcL : Nat
  rcQ : Nat
  uMin : Int
  uMax : Int
  rateUp : Int
  rateDn : Int
  deriving DecidableEq, Repr

/-- Region entry `j` of a helm. -/
def regionAt (p : Pkg) (d : Die) (j : Nat) : Region :=
  { kp := rdI p d LOOP_REG.KP j, ki := rdI p d LOOP_REG.KI j, kd := rdI p d LOOP_REG.KD j, ad := rdI p d LOOP_REG.AD j
    kt := rdI p d LOOP_REG.KT j, kf := rdI p d LOOP_REG.KF j
    bq1 := [rdI p d LOOP_REG.BQ1_B0 j, rdI p d LOOP_REG.BQ1_B1 j, rdI p d LOOP_REG.BQ1_B2 j, rdI p d LOOP_REG.BQ1_A1 j,
      rdI p d LOOP_REG.BQ1_A2 j]
    bq2 := [rdI p d LOOP_REG.BQ2_B0 j, rdI p d LOOP_REG.BQ2_B1 j, rdI p d LOOP_REG.BQ2_B2 j, rdI p d LOOP_REG.BQ2_A1 j,
      rdI p d LOOP_REG.BQ2_A2 j]
    rcL := rdI p d LOOP_REG.RC_L j, rcQ := rdI p d LOOP_REG.RC_Q j
    uMin := rdSI p d LOOP_REG.UMIN j, uMax := rdSI p d LOOP_REG.UMAX j
    rateUp := rdSI p d LOOP_REG.RATE_UP j, rateDn := rdSI p d LOOP_REG.RATE_DN j }

/-- What of a slot's descriptor its tick uses (Table 08-8). -/
structure SlotCfg where
  options : Nat
  nreg : Nat
  base : Nat
  dwell : Nat
  hyst : Int
  bfpMax : Nat
  bfpDwell : Nat
  modelOn : Bool
  dtDiv : Nat
  dtTaps : Nat
  modK : Nat
  modAlpha : Nat
  resBeta : Nat
  plThresh : Int
  plTime : Nat
  deriving DecidableEq, Repr

/-- OPTIONS.WRAP. -/
def SlotCfg.wrap (c : SlotCfg) : Bool := bit c.options 0
/-- OPTIONS.DERIV_ON. -/
def SlotCfg.derivOn (c : SlotCfg) : Bool := bit c.options 1
/-- OPTIONS.BQ_POS. -/
def SlotCfg.bqPos (c : SlotCfg) : Bool := bit c.options 2
/-- OPTIONS.AW. -/
def SlotCfg.aw (c : SlotCfg) : Nat := bitsAt c.options 3 2
/-- OPTIONS.RC_EN. -/
def SlotCfg.rcEn (c : SlotCfg) : Bool := bit c.options 5
/-- OPTIONS.PLAUS_EN. -/
def SlotCfg.plausEn (c : SlotCfg) : Bool := bit c.options 6
/-- OPTIONS.BFP_EN. -/
def SlotCfg.bfpEn (c : SlotCfg) : Bool := bit c.options 7

/-- The descriptor of logical slot `i` on a helm. -/
def slotCfg (p : Pkg) (d : Die) (i : Nat) : SlotCfg :=
  { options := rdI p d LOOP_DESC.OPTIONS i, nreg := rdI p d LOOP_DESC.NREG i, base := rdI p d LOOP_DESC.REGION_BASE i
    dwell := rdI p d LOOP_DESC.DWELL i, hyst := rdSI p d LOOP_DESC.HYST i, bfpMax := rdI p d LOOP_DESC.BFP_MAX i
    bfpDwell := rdI p d LOOP_DESC.BFP_DWELL i, modelOn := flagI p d LOOP_DESC.MODEL_ON i
    dtDiv := rdI p d LOOP_DESC.DT_DIV i, dtTaps := rdI p d LOOP_DESC.DT_TAPS i, modK := rdI p d LOOP_DESC.MOD_K i
    modAlpha := rdI p d LOOP_DESC.MOD_ALPHA i, resBeta := rdI p d LOOP_DESC.RES_BETA i
    plThresh := rdSI p d LOOP_DESC.PL_THRESH i, plTime := rdI p d LOOP_DESC.PL_TIME i }

/-- A slot in the course of its tick: its record, the raises of BX, and whether BX left 0. -/
structure Work where
  r : SlotRec
  raises : Nat
  entered : Bool
  deriving DecidableEq, Repr

/-- Note that an accumulator saturated. -/
def Work.note (w : Work) (a : Accu) : Work := if a.sat then { w with r := { w.r with outSat := true } } else w

/-- The six state words at a greater block exponent, each rounded (R216). -/
def SlotRec.raised (r : SlotRec) (n : Nat) : SlotRec :=
  let f (v : Int) : Int := divRne v (2 ^ n)
  { r with integ := f r.integ, b1s1 := f r.b1s1, b1s2 := f r.b1s2, b2s1 := f r.b2s1, b2s2 := f r.b2s2, dState := f r.dState
           bx := r.bx + n }

/-- How much BX must grow for an accumulator value to fit a state word, looking at most `n` steps ahead. -/
def bxGrowth (v : Int) (bx : Nat) : Nat → Nat → Option Nat
  | 0, _ => none
  | n + 1, k =>
    let c := divRne v (2 ^ (31 + bx + k))
    if codeMin ≤ c ∧ c ≤ codeMax then some k else bxGrowth v bx n (k + 1)

/-- Store an accumulator value as a state word (R215 to R217): `put` places it in the record. -/
def Work.store (c : SlotCfg) (w : Work) (a : Accu) (put : SlotRec → Int → SlotRec) : Work :=
  let w := w.note a
  let code := divRne a.v (2 ^ (31 + w.r.bx))
  if codeMin ≤ code ∧ code ≤ codeMax then { w with r := put w.r code }
  else
    match (if c.bfpEn then bxGrowth a.v w.r.bx (c.bfpMax - w.r.bx) 1 else none) with
    | some k =>
      let r := w.r.raised k
      { r := put r (divRne a.v (2 ^ (31 + r.bx))), raises := w.raises + 1, entered := w.entered || w.r.bx == 0 }
    | none => { w with r := put { w.r with stateSat := true } (satCode code) }

/-- A biquad in transposed direct form II on `v` (R219): its output and the slot after it. -/
def biquad (c : SlotCfg) (k : List Nat) (v : Int) (s1 s2 : SlotRec → Int) (put1 put2 : SlotRec → Int → SlotRec) (w : Work) :
    Int × Work :=
  let g (i : Nat) : Nat := k.getD i 0
  let a := accuOf [prodTerm (g 0) v 0, codeTerm (s1 w.r) w.r.bx]
  let o := a.code
  let w := w.note a
  let w := w.store c (accuOf [prodTerm (g 1) v 0, -(prodTerm (g 3) o 0), codeTerm (s2 w.r) w.r.bx]) put1
  (o, w.store c (accuOf [prodTerm (g 2) v 0, -(prodTerm (g 4) o 0)]) put2)

/-- Both biquads in turn. -/
def biquads (c : SlotCfg) (g : Region) (v : Int) (w : Work) : Int × Work :=
  let b1 := biquad c g.bq1 v (·.b1s1) (·.b1s2) (fun r x => { r with b1s1 := x }) (fun r x => { r with b1s2 := x }) w
  biquad c g.bq2 b1.1 (·.b2s1) (·.b2s2) (fun r x => { r with b2s1 := x }) (fun r x => { r with b2s2 := x }) b1.2

/-- What a slot's tick takes from outside its record: the input codes, whether its feedback is stale, the restart's read-back
where the slot restarts (R229), the fallback law's axis force while the slot tracks (R240), the repetitive controller's two bins
while it acts, the device time in ms, and whether the monitor is reset in this tick (R238). -/
structure SlotIn where
  r : Int
  y : Int
  w : Int
  g : Int
  stale : Bool
  restart : Option Int
  track : Option Int
  rc : Option (Int × Int)
  ms : Nat
  monReset : Bool
  deriving DecidableEq, Repr

/-- What a slot's tick leaves: its record, the new content of the updated bin, and what it logs. -/
structure SlotOut where
  r : SlotRec
  bin : Option Int
  raises : Nat
  swapped : Bool
  clampOnSwap : Bool
  bfpEnter : Bool
  bfpExit : Bool
  plaus : Bool
  deriving DecidableEq, Repr

/-- The last region whose lower boundary lies at or below a code; `los` holds the boundaries of regions 1 and up (R225). -/
def regionOf (los : List Int) (g : Int) (j best : Nat) : Nat :=
  match los with
  | [] => best
  | l :: r => regionOf r g (j + 1) (if l ≤ g then j else best)

/-- The candidate region of a scheduling code (R225). -/
def candidate (los : List Int) (cur : Nat) (hyst g : Int) : Nat :=
  let here := regionOf los g 1 0
  let g' := if cur < here then satCode (g - hyst) else if here < cur then satCode (g + hyst) else g
  regionOf los g' 1 0

/-- The dwell count of R225: the slot after it, and whether its region changes in this tick; the record of a swap tick holds the count
that reached DWELL (Table 08-7). -/
def selectRegion (c : SlotCfg) (los : List Int) (g : Int) (r : SlotRec) : SlotRec × Bool :=
  if c.nreg ≤ 1 then (r, false)
  else
    let k := candidate los r.region c.hyst g
    let r := if k = r.region then { r with dwell := 0 }
      else if k = r.cand then { r with dwell := min (r.dwell + 1) 65535 }
      else { r with cand := k, dwell := 1 }
    if k ≠ r.region ∧ max 1 c.dwell ≤ r.dwell then ({ r with region := k }, true) else (r, false)

/-- Sign of a code. -/
def sgn (v : Int) : Int := if v < 0 then -1 else if 0 < v then 1 else 0

/-- The upper 16 bits of a code, rounded, ties to even (R235). -/
def upper16 (v : Int) : Int := clampInt (divRne v 65536) (-32768) 32767

/-- Measured quantity of the monitor (R236). -/
def measured (c : SlotCfg) (r : SlotRec) (y : Int) : Int := if c.modelOn then codeDiff c.wrap y r.yPrev else y

/-- One tick of the plausibility monitor (R235 to R238): the slot and whether PLAUS_FAULT is latched now. -/
def monitor (c : SlotCfg) (n : SlotIn) (w : Work) : Work × Bool :=
  let r := w.r
  let m := measured c r n.y
  let push (l : List Int) : List Int :=
    if n.ms % max 1 c.dtDiv = 0 then (upper16 r.out :: l).take 12 else l
  if n.monReset then
    ({ w with r := { r with modY := m, modRes := 0, plCnt := 0, delay := List.replicate 12 (upper16 r.out), yPrev := n.y, monReset := false } }, false)
  else if !c.plausEn then ({ w with r := { r with delay := push r.delay } }, false)
  else
    let ud := if c.dtTaps = 0 then r.out else (r.delay.getD (c.dtTaps - 1) 0) * 65536
    let k := (accuOf [prodTerm c.modK ud 0]).code
    let a := accuOf [codeTerm r.modY 0, prodTerm c.modAlpha (satCode (k - r.modY)) 0]
    let my := a.code
    let e := satCode ((satCode (m - my)).natAbs : Int)
    let b := accuOf [codeTerm r.modRes 0, prodTerm c.resBeta (satCode (e - r.modRes)) 0]
    let mr := b.code
    let n' := if c.plThresh < mr then min (r.plCnt + 1) 65535 else 0
    let trips := decide (max 1 c.plTime ≤ n') && !r.plaus
    let w := (w.note a).note b
    ({ w with r := { w.r with modY := my, modRes := mr, plCnt := n', plaus := r.plaus || trips, delay := push r.delay, yPrev := n.y } }, trips)

/-- The six state words are all below 2^29 in magnitude (R218). -/
def SlotRec.small (r : SlotRec) : Bool :=
  [r.integ, r.b1s1, r.b1s2, r.b2s1, r.b2s2, r.dState].all (fun v => decide (v.natAbs < 2 ^ 29))

/-- BX lowered by one, the six words doubled (R218). -/
def SlotRec.lowered (r : SlotRec) : SlotRec :=
  { r with integ := r.integ * 2, b1s1 := r.b1s1 * 2, b1s2 := r.b1s2 * 2, b2s1 := r.b2s1 * 2, b2s2 := r.b2s2 * 2, dState := r.dState * 2
           bx := r.bx - 1, bfpCnt := 0 }

/-- The block exponent's way down when BFP_CNT has reached BFP_DWELL (R218): the slot and whether BX reached 0. -/
def bfpLower (c : SlotCfg) (r : SlotRec) : SlotRec × Bool :=
  if 0 < r.bx ∧ max 1 c.bfpDwell ≤ r.bfpCnt then (r.lowered, r.bx == 1) else (r, false)

/-- The count at the end of a tick and the step down (R218). -/
def bfpEnd (c : SlotCfg) (r : SlotRec) : SlotRec × Bool :=
  if 0 < r.bx && r.small then bfpLower c { r with bfpCnt := min (r.bfpCnt + 1) 65535 } else ({ r with bfpCnt := 0 }, false)

/-- INTEG such that the output continues at `t` (R226). -/
def bumpless (c : SlotCfg) (t : Int) (terms : List Int) (w : Work) : Work :=
  let a := accuOf terms
  (w.note a).store c (accuOf [codeTerm t 0, -a.v]) (fun r x => { r with integ := x })

/-- SWAP_HOLD of a tick (R227). -/
def swapHoldStep (swap clampLogged : Bool) (x : Int) (r : SlotRec) : SlotRec :=
  if swap && x != 0 && (r.limited || clampLogged) then { r with swapHold := true, swapNeg := decide (x < 0) }
  else if r.swapHold && (x == 0 || decide (x < 0) != r.swapNeg) then { r with swapHold := false }
  else r

/-- One tick of a slot (R219 to R238); `g` is the region in force, `swap` says that this is a swap tick. -/
def slotTick (c : SlotCfg) (g : Region) (swap swapped : Bool) (n : SlotIn) (r0 : SlotRec) : SlotOut :=
  let r0 := { r0 with outSat := false, stateSat := false, stale := n.stale, tracking := n.track.isSome, pendSwap := false }
  let prev0 := match n.restart with
    | some t => clampInt t g.uMin g.uMax
    | none => r0.out
  let w : Work := ⟨r0, 0, false⟩
  -- filters and error
  let f := if c.bqPos then biquads c g n.y w else biquads c g (codeDiff c.wrap n.r n.y) w
  let x := if c.bqPos then satCode (n.r - f.1) else f.1
  let w := f.2
  let xd := if c.derivOn then satCode (-(if c.bqPos then f.1 else n.y)) else x
  let w := w.store c (accuOf [prodTerm g.ad w.r.dState w.r.bx, prodTerm g.kd (codeDiff c.wrap xd w.r.dPrev) 0])
    (fun r v => { r with dState := v })
  let w := { w with r := { w.r with dPrev := xd } }
  let rc := match n.rc with
    | some (b, _) => b
    | none => 0
  let p := prodTerm g.kp x 0
  let ff := prodTerm g.kf n.w 0
  let rest (w : Work) : List Int := [p, codeTerm w.r.dState w.r.bx, ff, codeTerm rc 0]
  -- swap, restart and tracking
  let tooTight := swap && n.restart.isNone && n.track.isNone && (decide (g.uMax < prev0) || decide (prev0 < g.uMin))
  let t := match n.track with
    | some t => t
    | none => if swap then clampInt prev0 g.uMin g.uMax else prev0
  let forced := swap || n.restart.isSome || n.track.isSome
  let w := if forced then bumpless c t (rest w) w else w
  let a := accuOf (codeTerm w.r.integ w.r.bx :: rest w)
  let w := w.note a
  let uPre := a.code
  let u1 := clampInt uPre (satCode (prev0 - g.rateDn)) (satCode (prev0 + g.rateUp))
  let u := match n.track with
    | some t => t
    | none => clampInt u1 g.uMin g.uMax
  let limited := decide (u ≠ uPre)
  let engaged := limited && decide (sgn x = sgn (uPre - u)) && decide (x ≠ 0)
  let w := { w with r := { swapHoldStep swap tooTight x w.r with out := u, uPre := uPre, engaged := engaged } }
  let skip := forced || (w.r.swapHold && (c.aw == 1 || c.aw == 2)) || (engaged && c.aw == 1)
  let w := if skip then w
    else
      let back := if c.aw = 2 then [prodTerm g.kt (satCode (u - uPre)) 0] else []
      w.store c (accuOf (codeTerm w.r.integ w.r.bx :: prodTerm g.ki x 0 :: back)) (fun r v => { r with integ := v })
  let w := { w with r := { w.r with limited := limited } }
  -- repetitive controller
  let learn : Option Accu := match n.rc with
    | some (_, m) => if engaged || w.r.swapHold then none else some (accuOf [prodTerm g.rcQ m 0, prodTerm g.rcL x 0])
    | none => none
  let w := match learn with
    | some b => w.note b
    | none => w
  let mo := monitor c n w
  let e := bfpEnd c mo.1.r
  { r := e.1, bin := learn.map Accu.code, raises := mo.1.raises, swapped := swapped, clampOnSwap := tooTight
    bfpEnter := mo.1.entered, bfpExit := e.2, plaus := mo.2 }

end Sys2Proof.Machine
end

