-- ==== Sys2Proof/Machine/RampGen.lean ====
section
/-! DEFINITION. Chapter 05: the ramp generator, its closed-form evaluation, its search, and the line its axes are measured on. -/

namespace Sys2Proof.Machine

/-- Position, velocity and acceleration of an axis. -/
structure Axis where
  p : Nat
  v : Nat
  a : Nat
  deriving DecidableEq, Repr

/-- The limits of an axis. -/
structure Lim where
  v : Nat
  a : Nat
  j : Nat
  deriving DecidableEq, Repr

/-- The state after `t` s of constant jerk. -/
def Axis.advance (s : Axis) (jerk t : Nat) : Axis :=
  let t2 := fmul t t
  { p := fadd (fadd (fadd s.p (fmul s.v t)) (fmul (fmul s.a t2) fhalf)) (fdiv (fmul (fmul jerk t2) t) (fint 6))
    v := fadd (fadd s.v (fmul s.a t)) (fmul (fmul jerk t2) fhalf)
    a := fadd s.a (fmul jerk t) }

/-- The state after a list of segments. -/
def Axis.run (s : Axis) : List Seg → Axis
  | [] => s
  | g :: r => (s.advance g.jerk g.dur).run r

/-- The state `t` s into a list of segments; past the end the axis rests at the end point. -/
def Axis.runTo (s : Axis) : List Seg → Nat → Axis
  | [], _ => { s with v := 0, a := 0 }
  | g :: r, t => if fle t g.dur then s.advance g.jerk t else (s.advance g.jerk g.dur).runTo r (fsub t g.dur)

/-- A plan evaluated at an instant in closed form (R151). -/
def Plan.eval (pl : Plan) (t : Int) : Axis :=
  (Axis.mk pl.pos pl.vel pl.acc).runTo pl.segs (fdiv (fint (t - pl.origin)) (fint 1000000000))

/-- 1 or -1 with the sign of a number; 1 for 0. -/
def fsign (x : Nat) : Nat := if flt x 0 then fneg fone else fone

/-- Shortest constant-jerk segments from (v, a) to (v1, 0) within A and J. -/
def changeVelocity (v a v1 A J : Nat) : List Seg :=
  let va := fadd v (fdiv (fmul a (fabs a)) (fmul ftwo J))
  let s := fsign (fsub v1 va)
  if flt (fsub v1 va) 0 || flt 0 (fsub v1 va) then
    let a' := fmul s a
    let dv := fmul s (fsub v1 v)
    let a2 := fmul (fmul a' a') fhalf
    let pk := fsqrt (fadd (fmul J dv) a2)
    if fle pk A then [⟨fmul s J, fdiv (fsub pk a') J⟩, ⟨fneg (fmul s J), fdiv pk J⟩]
    else
      let hold := fdiv (fsub dv (fdiv (fsub (fmul A A) a2) J)) A
      [⟨fmul s J, fdiv (fsub A a') J⟩, ⟨0, hold⟩, ⟨fneg (fmul s J), fdiv A J⟩]
  else if flt a 0 || flt 0 a then [⟨fneg (fmul (fsign a) J), fdiv (fabs a) J⟩]
  else []

/-- The segments that bring an axis to rest. -/
def brake (v a A J : Nat) : List Seg := changeVelocity v a 0 A J

/-- Rest position if the axis brakes now. -/
def stopPoint (s : Axis) (A J : Nat) : Nat := (s.run (brake s.v s.a A J)).p

/-- Rest position after a change to speed `v1` followed at once by braking. -/
def stopAfter (s : Axis) (v1 A J : Nat) : Nat := (s.run (changeVelocity s.v s.a v1 A J ++ brake v1 0 A J)).p

/-- The search of 48 halvings for the cruise speed. -/
def cruiseSearch (s : Axis) (sgn target A J : Nat) : Nat → Nat → Nat → Nat
  | 0, lo, _ => lo
  | n + 1, lo, hi =>
    let vc := fmul (fadd lo hi) fhalf
    let e := stopAfter s (fmul sgn vc) A J
    if flt 0 (fmul sgn (fsub e target)) then cruiseSearch s sgn target A J n lo vc else cruiseSearch s sgn target A J n vc hi

/-- The planning algorithm of chapter 05: from the state at `tb` to the target, within the limits and the cap. -/
def planAxis (lim : Lim) (cap eps : Nat) (tb : Int) (s0 : Axis) (target : Nat) : Plan :=
  let pre : List Seg := if flt lim.a (fabs s0.a) then [⟨fneg (fmul (fsign s0.a) lim.j), fdiv (fsub (fabs s0.a) lim.a) lim.j⟩] else []
  let s := s0.run pre
  let ps := stopPoint s lim.a lim.j
  let body : List Seg :=
    if fle (fabs (fsub target ps)) eps then brake s.v s.a lim.a lim.j
    else
      let sg := fsign (fsub target ps)
      let vc := cruiseSearch s sg target lim.a lim.j 48 0 (b64.min lim.v cap)
      let v1 := fmul sg vc
      let up := changeVelocity s.v s.a v1 lim.a lim.j
      let cruise : List Seg := if flt 0 vc then [⟨0, fdiv (fsub target (stopAfter s v1 lim.a lim.j)) v1⟩] else []
      up ++ cruise ++ brake v1 0 lim.a lim.j
  ⟨tb, s0.p, s0.v, s0.a, pre ++ body, target⟩

/-- 1 mm, the tolerance of L and C (R153). -/
def epsLC : Nat := frat 1 1000

/-- 1e-5 rad, the tolerance of H (R153). -/
def epsH : Nat := frat 1 100000

/-- The limits of L and C. -/
def limL (p : Pkg) (x : Side) : Lim := ⟨f32 p x.helm SP_V_L.V 0, f32 p x.helm SP_A_L.V 0, f32 p x.helm SP_J_L.V 0⟩

/-- The limits of H in radians. -/
def limH (p : Pkg) (x : Side) : Lim :=
  ⟨toRad (f32 p x.helm SP_V_H.V 0), toRad (f32 p x.helm SP_A_H.V 0), toRad (f32 p x.helm SP_J_H.V 0)⟩

/-- An axis has reached its target (R153). -/
def Plan.reached (pl : Plan) (eps : Nat) (t : Int) : Bool :=
  let s := pl.eval t
  fle (fabs (fsub s.p pl.target)) eps && fle (fabs s.v) 0 && fle (fabs s.a) 0

/-- Position, velocity and acceleration north and east of the point that L and C lead. -/
def Ramp.point (r : Ramp) (t : Int) : List Nat :=
  let l := r.l.eval t
  let c := r.c.eval t
  let on (a b : Nat) := fsub (fmul r.dn a) (fmul r.de b)
  let oe (a b : Nat) := fadd (fmul r.de a) (fmul r.dn b)
  let dl := fsub l.p r.base
  [fadd r.n0 (on dl c.p), fadd r.e0 (oe dl c.p), on l.v c.v, oe l.v c.v, on l.a c.a, oe l.a c.a]

/-- The position target of L and C. -/
def Ramp.targetPoint (r : Ramp) : List Nat :=
  let dl := fsub r.l.target r.base
  [fadd r.n0 (fsub (fmul r.dn dl) (fmul r.de r.c.target)), fadd r.e0 (fadd (fmul r.de dl) (fmul r.dn r.c.target))]

/-- Direction of a vector; north for the vector 0. -/
def unitDir (n e : Nat) : Nat × Nat :=
  let m := fsqrt (fadd (fmul n n) (fmul e e))
  if flt 0 m then (fdiv n m, fdiv e m) else (fone, 0)

/-- Split a point's motion into L and C on a line through (n0, e0) with a direction, L being `base` there. -/
def splitOn (pt : List Nat) (n0 e0 dn de base : Nat) : Axis × Axis :=
  let g := vget pt
  let al (a b : Nat) := fadd (fmul dn a) (fmul de b)
  let ac (a b : Nat) := fsub (fmul dn b) (fmul de a)
  let n := fsub (g 0) n0
  let e := fsub (g 1) e0
  (⟨fadd base (al n e), al (g 2) (g 3), al (g 4) (g 5)⟩, ⟨ac n e, ac (g 2) (g 3), ac (g 4) (g 5)⟩)

/-- A new position target (R151): L and C are redefined on the line from the reference to the target. -/
def Ramp.toPoint (r : Ramp) (lim : Lim) (tb : Int) (pt : List Nat) (tn te : Nat) : Ramp :=
  let n0 := vget pt 0
  let e0 := vget pt 1
  let (dn, de) := unitDir (fsub tn n0) (fsub te e0)
  let (l, c) := splitOn pt n0 e0 dn de 0
  let dist := fadd (fmul dn (fsub tn n0)) (fmul de (fsub te e0))
  { r with l := planAxis lim lim.v epsLC tb l dist, c := planAxis lim lim.v epsLC tb c 0, n0 := n0, e0 := e0, dn := dn, de := de, base := 0 }

/-- Enter L and C at a point with a velocity, the target being the stop point (R143). -/
def Ramp.enterPoint (r : Ramp) (lim : Lim) (tb : Int) (pt : List Nat) : Ramp :=
  let (dn, de) := unitDir (vget pt 2) (vget pt 3)
  let (l, c) := splitOn pt (vget pt 0) (vget pt 1) dn de 0
  { r with l := planAxis lim lim.v epsLC tb l (stopPoint l lim.a lim.j), c := planAxis lim lim.v epsLC tb c (stopPoint c lim.a lim.j)
           n0 := vget pt 0, e0 := vget pt 1, dn := dn, de := de, base := 0 }

/-- Move an axis to a target. -/
def Plan.retarget (pl : Plan) (lim : Lim) (cap eps : Nat) (tb : Int) (target : Nat) : Plan := planAxis lim cap eps tb (pl.eval tb) target

/-- The plan that brings an axis to its stop point (R149). -/
def Plan.stopNow (pl : Plan) (lim : Lim) (eps : Nat) (tb : Int) : Plan :=
  let s := pl.eval tb
  planAxis lim lim.v eps tb s (stopPoint s lim.a lim.j)

/-- The shorter-arc image of an angle about an unwrapped one. -/
def nearAngle (ref a : Nat) : Nat := fadd ref (wrapPi (fsub a ref))

/-- Heading target with a turn direction (chapter 05): 0 the shorter arc, 1 clockwise, 2 anticlockwise. -/
def turnTarget (ref a turn : Nat) : Nat :=
  let t := nearAngle ref a
  let full := fmul ftwo fpi
  match turn with
  | 1 => if flt t ref then fadd t full else t
  | 2 => if flt ref t then fsub t full else t
  | _ => t

/-- Shift every plan of the position axes with a datum move (R150). -/
def Ramp.shifted (r : Ramp) (n e : Nat) : Ramp := { r with n0 := fsub r.n0 n, e0 := fsub r.e0 e }

end Sys2Proof.Machine
end

