-- ==== Sys2Proof/Machine/Modes.lean ====
section
/-! DEFINITION. Chapter 05: modes, commands and their tests, tracks, weathervane heading, and what the boundary does to them. -/

namespace Sys2Proof.Machine

/-- The mode of a lane. -/
def modeOf (p : Pkg) (x : Side) : Nat := rd p x.helm SP_STATUS.MODE

/-- Change a lane's ramp generator. -/
def onRamp (x : Side) (f : Ramp → Ramp) (p : Pkg) : Pkg := onLane x (fun l => { l with ramp := f l.ramp }) p

/-- A session holds at least a role in the flumes' sense: it is open and its role suffices (R145, R402). -/
def mayCommand (p : Pkg) (slot : Nat) : Bool := sessionHolds p slot 1

/-- The estimator's low-frequency point and its velocity in the earth frame (R143); the pivot point in WEATHERVANE. -/
def estPoint (p : Pkg) (x : Side) (pivot : Bool) : List Nat :=
  let g := vget (p.lanes.get x).est.x
  let co := Config.fcos (g 2)
  let si := Config.fsin (g 2)
  let px := if pivot then f32 p x.helm SP_PIVOT_X.V 0 else 0
  let py := if pivot then f32 p x.helm SP_PIVOT_Y.V 0 else 0
  [fadd (g 0) (fsub (fmul co px) (fmul si py)), fadd (g 1) (fadd (fmul si px) (fmul co py)),
    fsub (fmul (g 3) co) (fmul (g 4) si), fadd (fmul (g 3) si) (fmul (g 4) co), 0, 0]

/-- The entry condition of a mode (Table 05-2) on the estimator. -/
def entryHolds (p : Pkg) (x : Side) (m : Nat) : Bool :=
  let d := x.helm
  let ph := rd p d EST_STATUS.PHASE
  let sd := (p.lanes.get x).est.sd 2
  match m with
  | 3 => ph != 0 && flt sd (toRad (fq p d EST_CONV.CONV_HDG 100))
  | 4 => ph == 2
  | 5 => ph == 2
  | 6 => ph == 2 && fle fone (f32 p d SP_WV_FMIN.V 0) && fle (f32 p d SP_WV_FMIN.V 0) (fint 1000)
  | _ => true

/-- Distances along the stored path, one a waypoint. -/
def pathDist : Nat → List Waypoint → List Nat
  | _, [] => []
  | d, [_] => [d]
  | d, a :: b :: r =>
    d :: pathDist (fadd d (fsqrt (fadd (fmul (fsub b.n a.n) (fsub b.n a.n)) (fmul (fsub b.e a.e) (fsub b.e a.e))))) (b :: r)

/-- A waypoint of the list; the last for an index past the end. -/
def wpAt (l : List Waypoint) (k : Nat) : Waypoint := (l[k]?).getD ((l.getLast?).getD ⟨0, 0, 0, 0, 0, false⟩)

/-- Direction of the leg that ends at waypoint `k`. -/
def legDir (l : List Waypoint) (k : Nat) : Nat × Nat :=
  unitDir (fsub (wpAt l k).n (wpAt l (k - 1)).n) (fsub (wpAt l k).e (wpAt l (k - 1)).e)

/-- Course of a leg in radians. -/
def legCourse (l : List Waypoint) (k : Nat) : Nat := let d := legDir l k; Config.fatan2 d.2 d.1

/-- A stop waypoint (R156); at the first of the list no course changes. -/
def isStop (l : List Waypoint) (turnMax k : Nat) : Bool :=
  decide (l.length ≤ k + 1) || (wpAt l k).dwell != 0 ||
    (k != 0 && flt (toRad (fint turnMax)) (fabs (wrapPi (fsub (legCourse l (k + 1)) (legCourse l k)))))

/-- The first stop waypoint at or after `k`. -/
def nextStop (l : List Waypoint) (turnMax : Nat) : Nat → Nat → Nat
  | 0, k => k
  | n + 1, k => if isStop l turnMax k then k else nextStop l turnMax n (k + 1)

/-- Speed of the leg that ends at waypoint `k`. -/
def legSpeed (l : List Waypoint) (k : Nat) : Nat := f32to64 (wpAt l k).speed

/-- Pass speed of waypoint `k` (R156). -/
def passSpeed (l : List Waypoint) (turnMax k : Nat) : Nat :=
  if isStop l turnMax k then 0 else b64.min (legSpeed l k) (legSpeed l (k + 1))

/-- TRACK_TURN_MAX in degrees. -/
def turnMax (p : Pkg) (x : Side) : Nat := rd p x.helm SP_CFG.TRACK_TURN_MAX

/-- Cycle length in s. -/
def cycleSec (p : Pkg) (x : Side) : Nat := frat (cycleMs p x) 1000

/-- L stands, in the last boundary before it, at the point from which braking to the pass speed of waypoint `k` ends there (R156). -/
def capFalls (p : Pkg) (x : Side) (k : Nat) (s : Axis) : Bool :=
  let l := (p.lanes.get x).waypoints
  let lim := limL p x
  let ends := (s.run (changeVelocity s.v s.a (passSpeed l (turnMax p x) k) lim.a lim.j)).p
  !(isStop l (turnMax p x) k) && flt (vget (pathDist 0 l) k) (fadd ends (fmul s.v (cycleSec p x)))

/-- The velocity cap of L on the leg that ends at `k` (R156): the leg's speed until the cap has fallen to the pass speed. -/
def trackCap (p : Pkg) (x : Side) (k : Nat) (fallen : Bool) : Nat :=
  let l := (p.lanes.get x).waypoints
  if fallen then passSpeed l (turnMax p x) k else legSpeed l k

/-- Mirror the stored list into the waypoint table. -/
def showWaypoints (x : Side) (p : Pkg) : Pkg :=
  let d := x.helm
  let l := (p.lanes.get x).waypoints
  forAll (List.range 64) (fun k q =>
    match l[k]? with
    | some w => q |> wrI d SP_WP.N k w.n |> wrI d SP_WP.E k w.e |> wrI d SP_WP.SPEED k w.speed |> wrI d SP_WP.HDG k w.hdg
        |> wrI d SP_WP.DWELL k w.dwell |> wrI d SP_WP.FLAGS k (b2n (isStop l (turnMax p x) k) + 2 * b2n w.passed)
    | none => q |> wrI d SP_WP.N k 0 |> wrI d SP_WP.E k 0 |> wrI d SP_WP.SPEED k 0 |> wrI d SP_WP.HDG k 0
        |> wrI d SP_WP.DWELL k 0 |> wrI d SP_WP.FLAGS k 0) p

/-- The heading target of the leg that ends at `k` (R157). -/
def legHeading (x : Side) (k : Nat) (tb : Int) (p : Pkg) : Pkg :=
  let l := (p.lanes.get x).waypoints
  let h := (wpAt l k).hdg
  let goal := if b32.isNan h then legCourse l k else toRad (f32to64 h)
  let lim := limH p x
  onRamp x (fun r => { r with h := r.h.retarget lim lim.v epsH tb (nearAngle (r.h.eval tb).p goal) }) p

/-- Put L and C on the leg that ends at `k` from a point's motion, and plan L to the next stop (R155 to R157). -/
def startLeg (x : Side) (k : Nat) (tb : Int) (pt : List Nat) (base : Nat) (p : Pkg) : Pkg :=
  let l := (p.lanes.get x).waypoints
  let lim := limL p x
  let (dn, de) := legDir l k
  let a := wpAt l (k - 1)
  let (la, ca) := splitOn pt a.n a.e dn de base
  let fallen := capFalls p x k la
  let cap := trackCap p x k fallen
  let goal := vget (pathDist 0 l) (nextStop l (turnMax p x) 64 k)
  p |> onRamp x (fun r => { r with l := planAxis lim cap epsLC tb la goal, c := planAxis lim lim.v epsLC tb ca 0
                                   n0 := a.n, e0 := a.e, dn := dn, de := de, base := base })
    |> wr x.helm I_SP.CAP cap |> wr x.helm I_SP.FALLEN (b2n fallen) |> wr x.helm SP_STATUS.WP_INDEX k |> wr x.helm SP_STATUS.DWELLING 0 |> legHeading x k tb

/-- Begin the stored track from a point's motion: the first waypoint becomes the current reference (R155). -/
def startTrack (x : Side) (tb : Int) (pt : List Nat) (p : Pkg) : Pkg :=
  p |> onLane x (fun l => { l with waypoints := match l.waypoints with
        | w :: r => { w with n := vget pt 0, e := vget pt 1, passed := true } :: r
        | [] => [] })
    |> startLeg x 1 tb pt 0 |> showWaypoints x

/-- The modes in which L and C run, and H runs. -/
def hasLC (m : Nat) : Bool := m == 4 || m == 5 || m == 6

/-- The modes in which H runs. -/
def hasH (m : Nat) : Bool := m == 3 || hasLC m

/-- The pivot's lever arm (PIVOT_X, PIVOT_Y) rotated by a heading, north and east (R159). -/
def pivotArm (p : Pkg) (x : Side) (h : Nat) : Nat × Nat :=
  let co := Config.fcos h
  let si := Config.fsin h
  let px := f32 p x.helm SP_PIVOT_X.V 0
  let py := f32 p x.helm SP_PIVOT_Y.V 0
  (fsub (fmul co px) (fmul si py), fadd (fmul si px) (fmul co py))

/-- L and C that go on running between WEATHERVANE and another mode keep their state and target (R143), while the point they lead changes
between the reference point and the pivot: their line moves by the lever arm at the heading reference (DEDUCED: no reference jumps). -/
def rehang (x : Side) (old m : Nat) (tb : Int) (p : Pkg) : Pkg :=
  let arm := pivotArm p x ((p.lanes.get x).ramp.h.eval tb).p
  if m = 6 ∧ old ≠ 6 then onRamp x (fun r => { r with n0 := fadd r.n0 arm.1, e0 := fadd r.e0 arm.2 }) p
  else if old = 6 ∧ m ≠ 6 then onRamp x (fun r => { r with n0 := fsub r.n0 arm.1, e0 := fsub r.e0 arm.2 }) p
  else p

/-- What a change from one mode to another does to the solver's counts and to the fallback law (R168, R197, R200, R202): entering 2 to
6 from 0 or 1 begins anew; leaving them ends the fallback law. -/
def solverModeEdge (d : Die) (old m : Nat) (p : Pkg) : Pkg :=
  p |> onlyIf (decide (2 ≤ m) && decide (old < 2)) (fun q =>
      q |> wr d SOL_CONSEC.NOT_OPT_RUN 0 |> wr d SOL_CONSEC.OPT_RUN 0 |> wr d I_SOL.FROM_FB 1 |> wr d I_SOL.HAVE_PREV 0)
    |> onlyIf (decide (m < 2)) (fun q => q |> wr d SOL_STATUS.FALLBACK 0 |> wr d LOOP_STATUS.FALLBACK 0)

/-- Enter a mode at a boundary (R143, R148, R151, R155, R200): the axes it controls start from the estimate, or, where they run already,
are planned again to the target they have. -/
def enterMode (x : Side) (m : Nat) (tb : Int) (p : Pkg) : Pkg :=
  let d := x.helm
  let old := modeOf p x
  let g := vget (p.lanes.get x).est.x
  let lh := limH p x
  let ll := limL p x
  let p := p |> wr d SP_STATUS.MODE m |> wr d SP_STATUS.DWELLING 0 |> raise d clsInfo SP_EVENT.MODE_CHANGED
  let p := if hasH m && !(hasH old) then
      onRamp x (fun r => { r with h := planAxis lh lh.v epsH tb ⟨g 2, g 5, 0⟩ (stopPoint ⟨g 2, g 5, 0⟩ lh.a lh.j) }) p
    else if hasH m then onRamp x (fun r => { r with h := r.h.retarget lh lh.v epsH tb r.h.target }) p
    else p
  let p := if hasLC m && !(hasLC old) then onRamp x (fun r => r.enterPoint ll tb (estPoint p x (m == 6))) p
    else if hasLC m then
      p |> rehang x old m tb |> onRamp x (fun r => { r with l := r.l.retarget ll ll.v epsLC tb r.l.target, c := r.c.retarget ll ll.v epsLC tb r.c.target })
    else p
  let p := if m = 5 then startTrack x tb ((p.lanes.get x).ramp.point tb) p else p
  let p := if (m = 2 ∨ m = 3) ∧ ¬ (old = 2 ∨ old = 3) then
      p |> onLane x (fun l => { l with joy := [0, 0, 0] }) |> wr d SP_STATUS.JOY_LOST 0 |> wr d I_SP.JOY_AT tb.toNat
    else p
  p |> solverModeEdge d old m |> onLane x (fun l => { l with thrAngleHeld := if m = 1 then [] else l.thrAngleHeld })

/-- A new position target for L and C. -/
def newTarget (x : Side) (tb : Int) (tn te : Nat) (p : Pkg) : Pkg :=
  onRamp x (fun r => r.toPoint (limL p x) tb (r.point tb) tn te) p

/-- A new heading target for H. -/
def newHeading (x : Side) (tb : Int) (goal : Nat) (p : Pkg) : Pkg :=
  let lim := limH p x
  onRamp x (fun r => { r with h := r.h.retarget lim lim.v epsH tb goal }) p

/-- Every axis of the current mode goes to its stop point (R149); in TRACK the mode becomes STATION (R158). -/
def stopAxes (x : Side) (tb : Int) (p : Pkg) : Pkg :=
  let m := modeOf p x
  let ll := limL p x
  let lh := limH p x
  let p := onRamp x (fun r =>
    { r with l := if hasLC m then r.l.stopNow ll epsLC tb else r.l, c := if hasLC m then r.c.stopNow ll epsLC tb else r.c
             h := if hasH m then r.h.stopNow lh epsH tb else r.h }) p
  if m = 5 then
    p |> wr x.helm SP_STATUS.MODE 4 |> wr x.helm SP_STATUS.DWELLING 0 |> raise x.helm clsInfo SP_EVENT.MODE_CHANGED
  else p

/-- A binary32 value within [-1, 1]. -/
def unitRange (v : Nat) : Bool := b32.le (b32.neg (f64to32 fone)) v && b32.le v (f64to32 fone)

/-- A 32-byte waypoint of a WAYPOINTS payload: latitude, longitude, speed, heading, dwell. -/
def parseWp (p : Pkg) (x : Side) (b : List Nat) : Waypoint :=
  let ned := Config.geoToNed (rd p x.helm EST_DATUM_LAT.DEG) (rd p x.helm EST_DATUM_LON.DEG) (leNat (b.take 8)) (leNat ((b.drop 8).take 8)) 0
  ⟨vget ned 0, vget ned 1, leNat ((b.drop 16).take 4), leNat ((b.drop 20).take 4), leNat ((b.drop 24).take 2), false⟩

/-- The waypoints of a payload. -/
def parseWps (p : Pkg) (x : Side) : Nat → List Nat → List Waypoint
  | 0, _ => []
  | n + 1, b => parseWp p x (b.take 32) :: parseWps p x n (b.drop 32)

/-- Length and form of a payload against Table 05-3 (R146, test 1). -/
def wellFormedCmd (code : Nat) (b : List Nat) : Bool :=
  match code with
  | 1 => b.length == 1 && decide (vget b 0 ≤ 6)
  | 2 => b.length == 16
  | 3 => b.length == 8
  | 4 => b.length == 9 && decide (vget b 8 ≤ 2)
  | 5 => b.length == 12
  | 6 => b.length == 9
  | 7 => decide (2 ≤ vget b 0 ∧ vget b 0 ≤ 64) && b.length == 1 + 32 * vget b 0
  | 8 => b.length == 0
  | 9 => b.length == 0
  | 0x80 => b.length == 2
  | _ => false

/-- Modes in which a command is accepted (Table 05-3). -/
def modeAllows (code m : Nat) : Bool :=
  match code with
  | 2 => m == 4 || m == 6
  | 3 => m == 4 || m == 6
  | 4 => m == 3 || m == 4
  | 5 => m == 2 || m == 3
  | 6 => m == 1
  | 9 => decide (3 ≤ m ∧ m ≤ 6)
  | _ => true

/-- The position target a TARGET_POS or MOVE_REL names. -/
def cmdTarget (p : Pkg) (x : Side) (tb : Int) (code : Nat) (b : List Nat) : List Nat :=
  let d := x.helm
  let r := (p.lanes.get x).ramp
  if code = 2 then
    let ned := Config.geoToNed (rd p d EST_DATUM_LAT.DEG) (rd p d EST_DATUM_LON.DEG) (leNat (b.take 8)) (leNat (b.drop 8)) 0
    [vget ned 0, vget ned 1]
  else
    let pt := r.point tb
    let dx := f32to64 (leNat (b.take 4))
    let dy := f32to64 (leNat (b.drop 4))
    let co := Config.fcos r.h.target
    let si := Config.fsin r.h.target
    [fadd (vget pt 0) (fsub (fmul co dx) (fmul si dy)), fadd (vget pt 1) (fadd (fmul si dx) (fmul co dy))]

/-- Intervals and limits (R146 test 4, R147). -/
def inRange (p : Pkg) (x : Side) (tb : Int) (code : Nat) (b : List Nat) : Bool :=
  let d := x.helm
  match code with
  | 2 | 3 =>
    let t := cmdTarget p x tb code b
    let pt := (p.lanes.get x).ramp.point tb
    let dn := fsub (vget t 0) (vget pt 0)
    let de := fsub (vget t 1) (vget pt 1)
    fle (fsqrt (fadd (fmul dn dn) (fmul de de))) (fint (rd p d SP_CFG2.MOVE_MAX))
  | 5 => unitRange (leNat (b.take 4)) && unitRange (leNat ((b.drop 4).take 4)) && unitRange (leNat (b.drop 8))
  | 6 => decide (vget b 0 < (p.layouts.get x).thrusters.length) && unitRange (leNat ((b.drop 1).take 4))
  | 7 => (parseWps p x (vget b 0) (b.drop 1)).all (fun w => !(flt (fq p d SP_CFG2.TRACK_VMAX 100) (f32to64 w.speed)))
  | _ => true

/-- The sender's right (R145): answered before the mode and the values. -/
def hasRight (p : Pkg) (x : Side) (code : Nat) (c : Cmd) : Bool :=
  let own := rd p x.helm SP_STATUS.CMD_SLOT
  if code = 0x80 then true
  else if code = 8 then mayCommand p c.slot
  else if own = 15 then code == 1 && mayCommand p c.slot
  else own == c.slot

/-- The result of a command (R146): the first test that fails. -/
def testCommand (p : Pkg) (x : Side) (tb : Int) (code : Nat) (c : Cmd) : CmdResult :=
  let m := modeOf p x
  let b := c.payload
  if !(wellFormedCmd code b) then .malformed
  else if !(hasRight p x code c) then .notInCommand
  else if !(modeAllows code m) then .modeMismatch
  else if !(inRange p x tb code b) then .outOfRange
  else if code = 1 ∧ vget b 0 ≠ m ∧
      (!(entryHolds p x (vget b 0)) ∨ (vget b 0 = 5 ∧ (p.lanes.get x).waypoints.length < 2)) then .modeRefused
  else .accepted

/-- Command passes to a session (R145): logged. -/
def takeCommand (x : Side) (c : Cmd) (p : Pkg) : Pkg :=
  p |> wr x.helm SP_STATUS.CMD_SLOT c.slot |> raiseFrom x.helm clsInfo SP_EVENT.CMD_TAKEN 2 c.slot c.keyId (.words [c.slot])

/-- The effect of an accepted MODE command (R139, R140, R145, R482): the outputs are released with the first one. -/
def acceptMode (x : Side) (tb : Int) (c : Cmd) (p : Pkg) : Pkg :=
  let m := vget c.payload 0
  let p := if rd p x.helm SP_STATUS.CMD_SLOT = 15 then takeCommand x c p else p
  let p := wr x.helm I_MODE.OUT_HELD 0 p
  if m = modeOf p x then p else enterMode x m tb p

/-- The effect of an accepted WAYPOINTS command (R155). -/
def acceptWaypoints (x : Side) (tb : Int) (c : Cmd) (p : Pkg) : Pkg :=
  let l := parseWps p x (vget c.payload 0) (c.payload.drop 1)
  let p := onLane x (fun q => { q with waypoints := l }) p
  if modeOf p x = 5 then startTrack x tb ((p.lanes.get x).ramp.point tb) p else showWaypoints x p

/-- The effect of an accepted JOYSTICK command (R148). -/
def acceptJoystick (x : Side) (tb : Int) (c : Cmd) (p : Pkg) : Pkg :=
  let d := x.helm
  let v (k : Nat) := f32to64 (leNat ((c.payload.drop (4 * k)).take 4))
  p |> onLane x (fun l => { l with joy := [fmul (v 0) (f32 p d SP_JOY_FX.V 0), fmul (v 1) (f32 p d SP_JOY_FY.V 0),
        fmul (v 2) (f32 p d SP_JOY_MZ.V 0)] })
    |> wr d SP_STATUS.JOY_LOST 0 |> wr d I_SP.JOY_AT tb.toNat

/-- The effect of an accepted command. -/
def acceptCommand (x : Side) (tb : Int) (code : Nat) (c : Cmd) (p : Pkg) : Pkg :=
  let b := c.payload
  match code with
  | 1 => acceptMode x tb c p
  | 2 => let t := cmdTarget p x tb code b; newTarget x tb (vget t 0) (vget t 1) p
  | 3 => let t := cmdTarget p x tb code b; newTarget x tb (vget t 0) (vget t 1) p
  | 4 => newHeading x tb (turnTarget ((p.lanes.get x).ramp.h.eval tb).p (toRad (leNat (b.take 8))) (vget b 8)) p
  | 5 => acceptJoystick x tb c p
  | 6 => onLane x (fun l => { l with thrMan := l.thrMan.filter (fun t => t.1 != vget b 0) ++
        [(vget b 0, leNat ((b.drop 1).take 4), leNat (b.drop 5))] }) p
  | 7 => acceptWaypoints x tb c p
  | 8 => takeCommand x c p
  | 9 => stopAxes x tb p
  | 0x80 => p |> wrI x.helm I_TEL.MASK c.slot (vget b 0) |> wrI x.helm I_TEL.DIV c.slot (vget b 1)
  | _ => p

/-- One command applied at a boundary in one lane (R144 to R149). A copy of a command already applied is only counted (R397). -/
def applyCommand (x : Side) (tb : Int) (code : Nat) (c : Cmd) (p : Pkg) : Pkg :=
  let r := testCommand p x tb code c
  (if r = .accepted then acceptCommand x tb code c p else p) |> answerCommand x code c r

/-- JOY_LOST (R148). -/
def joyLost (x : Side) (p : Pkg) : Pkg :=
  let d := x.helm
  let m := modeOf p x
  if (m = 2 ∨ m = 3) ∧ ¬ flag p d SP_STATUS.JOY_LOST ∧ rd p d I_SP.JOY_AT + rd p d SP_CFG.JOY_TIMEOUT * 10000000 ≤ now p d then
    p |> onLane x (fun l => { l with joy := [0, 0, 0] }) |> wr d SP_STATUS.JOY_LOST 1 |> raise d clsWarning SP_EVENT.JOY_LOST
  else p

/-- A lane stands at its vessel-cycle boundary, which it has run (R28). -/
def standsAtBoundary (p : Pkg) (x : Side) : Bool := rd p x.helm I_TIME.BOUND_AT == now p x.helm && !(flag p x.helm I_TIME.BOUND_DUE)

/-- WAYPOINT_DWELL (R151, R157): at a boundary the next leg starts when DWELL has run and H has reached its target. -/
def waypointDwell (x : Side) (p : Pkg) : Pkg :=
  let d := x.helm
  let k := rd p d SP_STATUS.WP_INDEX
  let l := (p.lanes.get x).waypoints
  let tb : Int := now p d
  let r := (p.lanes.get x).ramp
  if modeOf p x = 5 ∧ standsAtBoundary p x ∧ flag p d SP_STATUS.DWELLING ∧ k + 1 < l.length ∧
      rd p d I_SP.DWELL_AT + (wpAt l k).dwell * 1000000000 ≤ now p d ∧ r.h.reached epsH tb then
    startLeg x (k + 1) tb (r.point tb) (vget (pathDist 0 l) k) p |> showWaypoints x
  else p

/-- Mark a waypoint passed. -/
def markPassed (x : Side) (k : Nat) (p : Pkg) : Pkg :=
  p |> onLane x (fun l => { l with waypoints := l.waypoints.mapIdx (fun i w => if i = k then { w with passed := true } else w) })
    |> showWaypoints x

/-- A committed limit has changed (R151): every axis of the current mode is planned again. -/
def replanAll (x : Side) (tb : Int) (p : Pkg) : Pkg :=
  let m := modeOf p x
  let ll := limL p x
  let lh := limH p x
  let cap := if m = 5 then rd p x.helm I_SP.CAP else ll.v
  onRamp x (fun r =>
    { r with l := if hasLC m then r.l.retarget ll cap epsLC tb r.l.target else r.l
             c := if hasLC m then r.c.retarget ll ll.v epsLC tb r.c.target else r.c
             h := if hasH m then r.h.retarget lh lh.v epsH tb r.h.target else r.h }) p

/-- The end of a track (R158). -/
def trackDone (x : Side) (tb : Int) (p : Pkg) : Pkg :=
  let d := x.helm
  p |> wr d SP_STATUS.MODE 4 |> wr d SP_STATUS.DWELLING 0 |> replanAll x tb
    |> raiseFrom d clsInfo SP_EVENT.MODE_CHANGED 1 0xFF 0 .unstated |> raiseFrom d clsInfo SP_EVENT.TRACK_DONE 1 0xFF 0 .unstated

/-- The cap of L at a boundary (R156): once it has fallen on a leg it stays so; a cap that changes plans L again (R151). -/
def capStep (x : Side) (k : Nat) (tb : Int) (p : Pkg) : Pkg :=
  let d := x.helm
  let fallen := flag p d I_SP.FALLEN || capFalls p x k ((p.lanes.get x).ramp.l.eval tb)
  let cap := trackCap p x k fallen
  let p := wr d I_SP.FALLEN (b2n fallen) p
  if cap = rd p d I_SP.CAP then p
  else p |> wr d I_SP.CAP cap |> onRamp x (fun r => { r with l := r.l.retarget (limL p x) cap epsLC tb r.l.target })

/-- The track at a boundary (R156 to R158): legs passed at speed, stops reached, the cap of L. -/
def trackBoundary (x : Side) (tb : Int) (p : Pkg) : Pkg :=
  let d := x.helm
  let k := rd p d SP_STATUS.WP_INDEX
  let l := (p.lanes.get x).waypoints
  let r := (p.lanes.get x).ramp
  if modeOf p x ≠ 5 ∨ flag p d SP_STATUS.DWELLING then p
  else
    let la := r.l.eval tb
    let dist := vget (pathDist 0 l) k
    if isStop l (turnMax p x) k then
      if r.l.reached epsLC tb && fle (fabs (fsub r.l.target dist)) epsLC then
        let q := markPassed x k p
        if l.length ≤ k + 1 then trackDone x tb q else q |> wr d SP_STATUS.DWELLING 1 |> wr d I_SP.DWELL_AT tb.toNat
      else
        capStep x k tb p
    else if fle dist la.p then
      p |> markPassed x k |> startLeg x (k + 1) tb (r.point tb) dist |> showWaypoints x
    else capStep x k tb p

/-- The mean environmental force and the WEATHERVANE heading at a boundary (R159). -/
def weathervane (x : Side) (tb : Int) (p : Pkg) : Pkg :=
  let d := x.helm
  let l := p.lanes.get x
  let g := vget l.est.x
  let co := Config.fcos (g 2)
  let si := Config.fsin (g 2)
  let wn := fsub (fmul co (vget l.wind 0)) (fmul si (vget l.wind 1))
  let we := fadd (fmul si (vget l.wind 0)) (fmul co (vget l.wind 1))
  let tc := fint (10 * rd p d SP_CFG.WV_TC)
  let fn := Config.lowPass (vget l.env 0) (fadd (g 6) wn) (cycleSec p x) tc
  let fe := Config.lowPass (vget l.env 1) (fadd (g 7) we) (cycleSec p x) tc
  let p := onLane x (fun l => { l with env := [fn, fe] }) p
  if modeOf p x ≠ 6 then p
  else
    let goal := Config.fatan2 (fneg fe) (fneg fn)
    let cur := l.ramp.h.target
    let diff := fabs (wrapPi (fsub goal cur))
    if flt (toRad (fq p d SP_CFG.WV_DEADBAND 10)) diff && fle (f32 p d SP_WV_FMIN.V 0) (fsqrt (fadd (fmul fn fn) (fmul fe fe))) then
      newHeading x tb (nearAngle (l.ramp.h.eval tb).p goal) p
    else p

/-- EST_DEGRADED at a boundary (R141). -/
def estDegraded (x : Side) (p : Pkg) : Pkg :=
  let d := x.helm
  let m := modeOf p x
  let bad := decide (3 ≤ m) && !(entryHolds p x m)
  let was := flag p d SP_STATUS.EST_DEGRADED
  p |> wr d SP_STATUS.EST_DEGRADED (b2n bad) |> onlyIf (bad && !was) (raise d clsWarning SP_EVENT.EST_DEGRADED)

/-- The reference point's position at an instant from the plans (R159 for the pivot). -/
def refPoint (p : Pkg) (x : Side) (t : Int) : List Nat :=
  let r := (p.lanes.get x).ramp
  let pt := r.point t
  if modeOf p x = 6 then
    let arm := pivotArm p x (r.h.eval t).p
    [fsub (vget pt 0) arm.1, fsub (vget pt 1) arm.2, vget pt 2, vget pt 3, vget pt 4, vget pt 5]
  else pt

/-- The reference point's target (R159): in WEATHERVANE the pivot's less the lever arm at the heading reference. -/
def targetRef (p : Pkg) (x : Side) (t : Int) : List Nat :=
  let r := (p.lanes.get x).ramp
  let tg := r.targetPoint
  if modeOf p x = 6 then
    let arm := pivotArm p x (r.h.eval t).p
    [fsub (vget tg 0) arm.1, fsub (vget tg 1) arm.2]
  else tg

/-- RAMP_LIMITED, RAMP_OVERLIMIT and the reference readout at a boundary (R152, R153, Table 05-5). -/
def rampStatus (x : Side) (tb : Int) (p : Pkg) : Pkg :=
  let d := x.helm
  let m := modeOf p x
  let r := (p.lanes.get x).ramp
  let limited := (hasLC m && !(r.l.reached epsLC tb && r.c.reached epsLC tb)) || (hasH m && !(r.h.reached epsH tb))
  let beyond (pl : Plan) (v : Nat) := flt v (fabs (pl.eval tb).v)
  let ov := (hasLC m && (beyond r.l (limL p x).v || beyond r.c (limL p x).v)) || (hasH m && beyond r.h (limH p x).v)
  let was := flag p d SP_STATUS.RAMP_LIMITED
  let h := r.h.eval tb
  let ref := refPoint p x tb
  let tg := targetRef p x tb
  p |> wr d SP_STATUS.RAMP_LIMITED (b2n limited) |> wr d SP_STATUS.RAMP_OVERLIMIT (b2n ov)
    |> onlyIf (was && !limited) (raise d clsInfo SP_EVENT.TARGET_REACHED)
    |> wr d SP_REF_N_REF.V (vget ref 0) |> wr d SP_REF_E_REF.V (vget ref 1) |> wr d SP_REF_PSI_REF.V (wrap360 (toDeg h.p))
    |> wr d SP_REF_VN_REF.V (vget ref 2) |> wr d SP_REF_VE_REF.V (vget ref 3) |> wr d SP_REF_R_REF.V (toDeg h.v)
    |> wr d SP_REF_N_TGT.V (vget tg 0) |> wr d SP_REF_E_TGT.V (vget tg 1) |> wr d SP_REF_PSI_TGT.V (wrap360 (toDeg r.h.target))

/-- A datum move shifts targets, plans and waypoints (R150). -/
def shiftSetpoints (x : Side) (n e : Nat) (p : Pkg) : Pkg :=
  p |> onRamp x (fun r => r.shifted n e)
    |> onLane x (fun l => { l with waypoints := l.waypoints.map (fun w => { w with n := fsub w.n n, e := fsub w.e e }) })
    |> showWaypoints x

/-- The datum move of a boundary (R115): in STANDBY or MANUAL, beyond 5 km, with no replay. -/
def datumBoundary (x : Side) (p : Pkg) : Pkg :=
  let l := p.lanes.get x
  if modeOf p x ≤ 1 ∧ rd p x.helm EST_STATUS.PHASE ≠ 0 ∧ l.replay.isNone ∧ flt (fint 5000) (datumDistance l.est) then
    let (q, s) := moveDatum x p
    shiftSetpoints x s.1 s.2 q
  else p

/-- REDATUM (R115, R133, R150): a committed EST_CTRL.REDATUM, in any mode. In INIT there is no estimate to move the datum to, and nothing
happens (DESIGN CHOICE: R115 names no effect there). -/
def redatum (x : Side) (p : Pkg) : Pkg :=
  if running p x.helm && rd p x.helm EST_STATUS.PHASE != 0 then
    let (q, s) := moveDatum x p
    shiftSetpoints x s.1 s.2 q
  else p

/-- REINIT (R135, R133, R123): a committed EST_CTRL.REINIT returns the estimator to INIT. -/
def reinit (x : Side) (p : Pkg) : Pkg :=
  if running p x.helm then
    p |> replayAbandon x |> onlyIf (rd p x.helm EST_STATUS.PHASE == 2) (raise x.helm clsWarning EST_EVENT.CONV_LOST)
      |> estInit x |> forAll (definedSrcs p x.helm) (fun n q => wrI x.helm I_EST.REZERO n 1 q)
  else p

/-! The commands of the table: one meaning each. -/

/-- REINIT (R135). -/
def execReinit (x : Side) (s : State) : Host.Outcome State Fault Refusal := nextPk s (reinit x)

/-- REDATUM (R115). -/
def execRedatum (x : Side) (s : State) : Host.Outcome State Fault Refusal := nextPk s (redatum x)

/-- JOY_LOST (R148). -/
def execJoyLost (x : Side) (s : State) : Host.Outcome State Fault Refusal := nextPk s (joyLost x)

/-- WAYPOINT_DWELL (R157). -/
def execWaypointDwell (x : Side) (s : State) : Host.Outcome State Fault Refusal := nextPk s (waypointDwell x)

end Sys2Proof.Machine
end

