-- ==== Sys2Proof/Machine/Can.lean ====
section
/-! DEFINITION. Chapter 11: the CAN FD ports. Composing periodic messages, the transmit FIFO, errors and bus-off, filters and
reception, stamps, the census and the spare controller. -/

namespace Sys2Proof.Machine

/-- Change the lists of a port die. -/
def onPort (y : Side) (f : Port → Port) (p : Pkg) : Pkg := { p with ports := p.ports.set y (f (p.ports.get y)) }

/-- The transmit FIFO of a port. -/
def canFifo (p : Pkg) (y : Side) (k : Nat) : List CanEntry := (p.ports.get y).fifo.getD k []

/-- Replace it; TX_DEPTH follows. -/
def setFifo (y : Side) (k : Nat) (l : List CanEntry) (p : Pkg) : Pkg :=
  p |> onPort y (fun q => { q with fifo := q.fifo.set k l }) |> wrI y.port CAN_STATUS.TX_DEPTH k l.length

/-- Bytes of a data length code. -/
def dlcBytes (n : Nat) : Nat := [0, 1, 2, 3, 4, 5, 6, 7, 8, 12, 16, 20, 24, 32, 48, 64].getD n 64

/-- The bit after `b` toward the least significant end of a big-endian signal. -/
def nextBig (b : Nat) : Nat := if b % 8 = 0 then b + 15 else b - 1

/-- The places of a signal's bits from its least significant one on (R312): START is that bit for a little-endian signal, the most
significant one for a big-endian signal. -/
def sigBits (start len : Nat) (big : Bool) : List Nat :=
  if big then ((List.range len).foldl (fun (acc : List Nat × Nat) _ => (acc.2 :: acc.1, nextBig acc.2)) ([], start)).1
  else (List.range len).map (fun i => start + i)

/-- Place a raw value in a payload held as a number. -/
def packSignal (start len : Nat) (big : Bool) (raw payload : Nat) : Nat :=
  ((sigBits start len big).zipIdx).foldl (fun acc (pos, i) => if raw.testBit i then acc + 2 ^ pos else acc) payload

/-- Take a raw value from a payload. -/
def unpackSignal (start len : Nat) (big : Bool) (payload : Nat) : Nat :=
  ((sigBits start len big).zipIdx).foldl (fun acc (pos, i) => if payload.testBit pos then acc + 2 ^ i else acc) 0

/-- The raw value of an output word: clamp(OFFSET + round(SPAN × w / 2^31)) to LEN bits (R312). -/
def txRawOf (p : Pkg) (d : Die) (s : Nat) (w : Int) : Int :=
  let v := rdSI p d CAN_TXS.OFFSET s + divRne (rdSI p d CAN_TXS.SPAN s * w) 0x80000000
  let n := rdI p d CAN_TXS.LEN s
  if bit (rdI p d CAN_TXS.FMT s) 1 then clampInt v (-((2 ^ (n - 1) : Nat) : Int)) ((2 ^ (n - 1) : Nat) - 1 : Int)
  else clampInt v 0 ((2 ^ n : Nat) - 1 : Int)

/-- The raw value the scheduler sends now (R313), and whether it comes from a latch. -/
def txRawNow (p : Pkg) (d : Die) (s : Nat) : Int × Bool :=
  if flag p d HG_DH_STATUS.TRIPPED || !(flagI p d I_TXS.EVER s) then
    (if rdI p d CAN_TXS.DH_ACTION s = 1 then rdSI p d CAN_TXS.DH_VALUE s
     else if flagI p d I_TXS.COMPOSED s then rdSI p d I_TXS.HELD s else rdSI p d CAN_TXS.INIT_VALUE s, false)
  else (txRawOf p d s (rdSI p d I_TXS.WORD s), true)

/-- Compose one signal into a payload. -/
def composeSignal (d : Die) (acc : Pkg × Nat) (s : Nat) : Pkg × Nat :=
  let p := acc.1
  let r := txRawNow p d s
  let w := ofSigned 32 r.1
  let p := p |> wrI d CAN_TXS.RAW s w |> onlyIf r.2 (fun q => q |> wrI d I_TXS.HELD s w |> wrI d I_TXS.COMPOSED s 1)
  (p, packSignal (rdI p d CAN_TXS.START s) (rdI p d CAN_TXS.LEN s) (bit (rdI p d CAN_TXS.FMT s) 0) (w % 2 ^ rdI p d CAN_TXS.LEN s) acc.2)

/-- Signals of a TX message. -/
def msgSignals (p : Pkg) (d : Die) (m : Nat) : List Nat :=
  (List.range 128).filter (fun s => rdI p d CAN_TXS.LEN s != 0 && rdI p d CAN_TXS.MSG s == m)

/-- The frame of a periodic message (R311, R312). -/
def composeFrame (d : Die) (m : Nat) (p : Pkg) : Pkg × CanFrame :=
  let r := (msgSignals p d m).foldl (composeSignal d) (p, 0)
  let fl := rdI p d CAN_TXM.FLAGS m
  let dlc := rdI p d CAN_TXM.DLC m
  (r.1, ⟨rdI p d CAN_TXM.ID m, bit fl 0, bit fl 1, bit fl 2, false, false, dlc, leBytes (dlcBytes dlc) r.2⟩)

/-- Send a completion record to both helms (R315). -/
def completion (y : Side) (k : Nat) (e : CanEntry) (status : Nat) (late : Bool) (sof : Int) (p : Pkg) : Pkg :=
  onPort y (fun q => { q with done := q.done ++ [⟨k, e.tag, e.writer, status, late, e.attempts, sof⟩] }) p

/-- What FD suspension makes of the frames that reach the head (R329): sent as a classic frame, or DISCARDED. -/
def suspendHead (l : List CanEntry) : List CanEntry × List CanEntry :=
  match l with
  | [] => ([], [])
  | e :: r =>
    if !e.frame.fdf then (e :: r, [])
    else if e.demote && decide (e.frame.data.length ≤ 8) then ({ e with frame := { e.frame with fdf := false, brs := false } } :: r, [])
    else let q := suspendHead r; (q.1, e :: q.2)

/-- Apply it to a port's FIFO while FD is suspended. -/
def settleHead (y : Side) (k : Nat) (p : Pkg) : Pkg :=
  if flag p y.port CAN_DIE_STATUS.FD_SUSPENDED then
    let r := suspendHead (canFifo p y k)
    p |> setFifo y k r.1 |> forAll r.2 (fun e => completion y k e 3 false 0)
  else p

/-- Enqueue an entry at the tail. -/
def enqueue (y : Side) (k : Nat) (e : CanEntry) (p : Pkg) : Pkg := p |> setFifo y k (canFifo p y k ++ [e]) |> settleHead y k

/-- A periodic message is due: its PERIOD_MS and PHASE_MS against the device time of the tick, once for a tick (R311). -/
def msgDue (p : Pkg) (d : Die) (m : Nat) : Bool :=
  let per := rdI p d CAN_TXM.PERIOD_MS m
  per != 0 && now p d / 1000000 % per == rdI p d CAN_TXM.PHASE_MS m && rdI p d I_TXM.SEEN m != now p d + 1

/-- CAN_MSG_COMPOSE (R310 to R313, R321). -/
def canMsgCompose (y : Side) (m : Nat) (p : Pkg) : Pkg :=
  let d := y.port
  let k := rdI p d CAN_TXM.PORT m
  if !(running p d) || !(decide (m < 64)) || !(decide (k < 4)) || rdI p d CAN_CFG.MODE k != 1 || flagI p d I_CAN.DEAD k || !(msgDue p d m) then p
  else
    let r := composeFrame d m (wrI d I_TXM.SEEN m (now p d + 1) p)
    let l := canFifo r.1 y k
    if l.any (fun e => e.writer == 2 && e.tag == m) then
      setFifo y k (l.map (fun e => if e.writer == 2 && e.tag == m then { e with frame := r.2 } else e)) r.1 |> settleHead y k
    else if 32 ≤ l.length then r.1 |> incI d CAN_CNT.TX_SKIP k |> raise d clsWarning CAN_EVENT.TX_SKIP
    else enqueue y k ⟨2, m, r.2, bit (rdI p d CAN_TXM.FLAGS m) 3, 0, 0, false⟩ r.1

/-- The frame in a port's staging registers (R314). -/
def stagedFrame (p : Pkg) (d : Die) (k : Nat) : CanFrame :=
  let ws := [rdI p d CAN_RAW.DATA0 k, rdI p d CAN_RAW.DATA1 k, rdI p d CAN_RAW.DATA2 k, rdI p d CAN_RAW.DATA3 k, rdI p d CAN_RAW.DATA4 k,
    rdI p d CAN_RAW.DATA5 k, rdI p d CAN_RAW.DATA6 k, rdI p d CAN_RAW.DATA7 k, rdI p d CAN_RAW.DATA8 k, rdI p d CAN_RAW.DATA9 k,
    rdI p d CAN_RAW.DATA10 k, rdI p d CAN_RAW.DATA11 k, rdI p d CAN_RAW.DATA12 k, rdI p d CAN_RAW.DATA13 k, rdI p d CAN_RAW.DATA14 k,
    rdI p d CAN_RAW.DATA15 k]
  let dlc := rdI p d CAN_RAW.DLC k
  ⟨rdI p d CAN_RAW.ID k, flagI p d CAN_RAW.IDE k, flagI p d CAN_RAW.FDF k, flagI p d CAN_RAW.BRS k, false, false, dlc,
    (ws.flatMap (leBytes 4)).take (dlcBytes dlc)⟩

/-- Lane `x` owns the sluices of port die `y` (R40). -/
def ownsPort (p : Pkg) (x y : Side) : Bool := rd p y.port HG_OWNER.OWNER == x.num + 1

/-- A write that its sluice refuses (R43). -/
def refuseWrite (y : Side) (p : Pkg) : Pkg := inc y.port HG_STALE_WR.COUNT p

/-- A write of lane `x` reaches port die `y`. -/
def portHears (p : Pkg) (x y : Side) : Bool := running p x.helm && running p y.port && reaches p x.helm y.port

/-- PUSH (R314). -/
def canPush (x y : Side) (k tag : Nat) (p : Pkg) : Pkg :=
  let d := y.port
  if !(portHears p x y) || !(decide (k < 4)) then p
  else if !(ownsPort p x y) then refuseWrite y p
  else
    let e : CanEntry := ⟨x.num, tag, stagedFrame p d k, flagI p d CAN_RAW.DEMOTE k, 0, 0, false⟩
    if 32 ≤ (canFifo p y k).length then completion y k e 2 false 0 p else enqueue y k e p

/-- Remove the first entry that meets a test. -/
def removeFirst (f : CanEntry → Bool) : List CanEntry → List CanEntry
  | [] => []
  | e :: r => if f e then r else e :: removeFirst f r

/-- Mark the first entry that meets a test. -/
def markFirst (f : CanEntry → Bool) : List CanEntry → List CanEntry
  | [] => []
  | e :: r => if f e then { e with cancel := true } :: r else e :: markFirst f r

/-- CANCEL (R318): `onBus` says that the head frame's attempt is past its start of frame. -/
def canCancel (x y : Side) (k tag : Nat) (onBus : Bool) (p : Pkg) : Pkg :=
  if !(portHears p x y) || !(decide (k < 4)) then p
  else if !(ownsPort p x y) then refuseWrite y p
  else
    let l := canFifo p y k
    let f (e : CanEntry) : Bool := e.writer != 2 && e.tag == tag
    match l.findIdx? f with
    | none => incI y.port CAN_CNT.CANCEL_MISS k p
    | some i =>
      if onBus && i == 0 then setFifo y k (markFirst f l) p
      else
        match l.find? f with
        | some e => p |> setFifo y k (removeFirst f l) |> completion y k e 1 false 0 |> settleHead y k
        | none => p

/-- An attempt of the head frame has failed: a frame with a late cancellation goes, another contends again (R316 to R318). -/
def attemptFailed (y : Side) (k : Nat) (lost : Bool) (p : Pkg) : Pkg :=
  match canFifo p y k with
  | [] => p
  | e :: r =>
    let e := { e with attempts := e.attempts + 1, losses := if lost then e.losses + 1 else 0 }
    let lim := rdI p y.port CAN_CFG.REQUEUE_LOSSES k
    if e.cancel then p |> setFifo y k r |> completion y k e 1 false 0 |> settleHead y k
    else if lost && lim != 0 && decide (lim ≤ e.losses) then p |> setFifo y k (r ++ [{ e with losses := 0 }]) |> settleHead y k
    else setFifo y k (e :: r) p

/-- The port sends (R320, R321): NORMAL, a controller serves it, and it is not bus-off. -/
def canSends (p : Pkg) (y : Side) (k : Nat) : Bool :=
  running p y.port && decide (k < 4) && rdI p y.port CAN_CFG.MODE k == 1 && !(flagI p y.port I_CAN.DEAD k) &&
    !(flagI p y.port I_CAN.TAKEOVER k) && rdI p y.port CAN_STATUS.STATE k != 2

/-- CAN_ARBITRATION_LOST (R316, R317). -/
def canArbitrationLost (y : Side) (k : Nat) (p : Pkg) : Pkg := if canSends p y k then attemptFailed y k true p else p

/-- The error state that the counts give. -/
def canErrorState (d : Die) (k : Nat) (p : Pkg) : Pkg :=
  let tec := rdI p d I_CAN.TEC k
  let was := rdI p d CAN_STATUS.STATE k
  let p := wrI d CAN_STATUS.TEC k (min tec 255) p
  if was = 2 ∨ was = 3 then p
  else if 255 < tec then
    p |> wrI d CAN_STATUS.STATE k 2 |> incI d CAN_CNT.BUS_OFFS k |> raise d clsWarning CAN_EVENT.BUS_OFF
  else if 128 ≤ tec ∨ 128 ≤ rdI p d CAN_STATUS.REC k then
    p |> wrI d CAN_STATUS.STATE k 1 |> onlyIf (was == 0) (raise d clsWarning CAN_EVENT.ERR_PASSIVE)
  else wrI d CAN_STATUS.STATE k 0 p

/-- The loop delay of a frame that was sent with BRS (R309, R327). -/
def loopDelay (d : Die) (k : Nat) (tdcv : Option Nat) (p : Pkg) : Pkg :=
  match tdcv with
  | none => p
  | some v =>
    let t := min v 127
    p |> wrI d CAN_LOOP.LAST k t |> wrI d CAN_LOOP.MIN k (min t (rdI p d CAN_LOOP.MIN k)) |> wrI d CAN_LOOP.MAX k (max t (rdI p d CAN_LOOP.MAX k))
      |> surrFrom p d CAN_LOOP.MAX k
      |> onlyIf (decide (127 < v)) (fun q => q |> wrI d CAN_LOOP.TDC_SAT k 1 |> raise d clsWarning CAN_EVENT.TDC_SAT)

/-- CAN_LONELY clears (R319). -/
def notLonely (d : Die) (k : Nat) (p : Pkg) : Pkg := p |> wrI d CAN_STATUS.LONELY k 0 |> wrI d I_CAN.ACK_RUN k 0

/-- A difference of counts, modulo 2^32. -/
def countDiff (a b : Nat) : Nat := (b + 2 ^ 32 - a) % 2 ^ 32

/-- The two latches that map a count (R87), of latches newest first: the newest taken at or before it and the one before that; the oldest
two when every one kept is later. -/
def latchPair (c : Nat) : List (Nat × Nat) → Option ((Nat × Nat) × (Nat × Nat))
  | [] => none
  | [_] => none
  | [b, a] => some (a, b)
  | b :: a :: r => if countDiff b.1 c < 2 ^ 31 then some (a, b) else latchPair c (a :: r)

/-- A count less another, signed. -/
def countLess (c b : Nat) : Int := if countDiff b c < 2 ^ 31 then (countDiff b c : Int) else -(countDiff c b : Int)

/-- Device time of a count of the CAN counter (R87): from one latch alone at the nominal 100 ns a count (R369); before a latch has been
taken, the device time itself. -/
def canTime (p : Pkg) (y : Side) (c : Nat) : Int :=
  match latchPair c (p.ports.get y).latches with
  | none => match (p.ports.get y).latches with
    | b :: _ => (b.2 : Int) + countLess c b.1 * 100
    | [] => (now p y.port : Int)
  | some (a, b) =>
    let dc := countLess c b.1
    (b.2 : Int) + b64.toInt (frat (dc * ((b.2 : Int) - (a.2 : Int))) (max 1 (countDiff a.1 b.1)))

/-- CAN_ERROR (R316, R319, R320, R328): `tx` for an error in the frame the port sends, `ack` for an acknowledgement error, `dominant`
when a dominant bit stood in the passive error flag, `fdBits` when the error frame began within the FDF-to-BRS bits. -/
def canError (y : Side) (k : Nat) (tx ack dominant fdBits : Bool) (tdcv : Option Nat) (p : Pkg) : Pkg :=
  let d := y.port
  if !(running p d) || !(decide (k < 4)) || rdI p d CAN_CFG.MODE k == 0 || flagI p d I_CAN.TAKEOVER k || rdI p d CAN_STATUS.STATE k == 2 || rdI p d CAN_STATUS.STATE k == 3 then p
  else
    let tec := rdI p d I_CAN.TEC k
    let sends := tx && canSends p y k
    let head := ((canFifo p y k).head?).map (fun e => e.frame)
    let fd := head.any (fun f => f.fdf)
    let p := p |> incI d CAN_CNT.ERR_FRAMES k |> incI d I_CEN.ERR k
    if !sends then p |> wrI d CAN_STATUS.REC k (min 255 (rdI p d CAN_STATUS.REC k + 1)) |> canErrorState d k
    else
      let quiet := ack && decide (128 ≤ tec) && !dominant
      let run := if ack && decide (128 ≤ tec) then min 255 (rdI p d I_CAN.ACK_RUN k + 1) else 0
      p |> wrI d I_CAN.TEC k (if quiet then tec else min 511 (tec + 8)) |> wrI d I_CAN.ACK_RUN k run |> onlyIf (head.any (fun f => f.fdf && f.brs)) (loopDelay d k tdcv)
        |> onlyIf (decide (16 ≤ run) && !(flagI p d CAN_STATUS.LONELY k))
          (fun q => q |> wrI d CAN_STATUS.LONELY k 1 |> raise d clsWarning CAN_EVENT.LONELY)
        |> onlyIf (fdBits && fd && !(bit (rdI p d I_CEN.FLAGS k) 0))
          (fun q => q |> wrI d I_CEN.FLAGS k (rdI q d I_CEN.FLAGS k + 1) |> raise d clsWarning CAN_EVENT.FD_INTOLERANT)
        |> canErrorState d k |> attemptFailed y k false

/-- CAN_FRAME_SENT (R309, R315, R319): the head frame is acknowledged and completes; the count at its start of frame, and the loop
delay measured in a frame with BRS. With a delay above 127 periods the data phase fails with bit errors instead. -/
def canFrameSent (y : Side) (k sof : Nat) (tdcv : Option Nat) (p : Pkg) : Pkg :=
  let d := y.port
  match canFifo p y k with
  | [] => p
  | e :: r =>
    if !(canSends p y k) then p
    else if e.frame.fdf && e.frame.brs && tdcv.any (fun v => decide (127 < v)) then canError y k true false false false tdcv p
    else
      let e := { e with attempts := e.attempts + 1 }
      p |> setFifo y k r |> incI d CAN_CNT.TX_SENT k |> wrI d CAN_STATUS.INTEGRATING k 0
        |> (if e.writer = 2 then fun q => q |> incI d CAN_TXM.SENT e.tag |> wrI d CAN_TXM.LAST_SOF e.tag sof
            else completion y k e 0 e.cancel (canTime p y sof))
        |> onlyIf (e.frame.fdf && e.frame.brs) (loopDelay d k tdcv) |> notLonely d k
        |> wrI d I_CAN.TEC k (rdI p d I_CAN.TEC k - 1) |> canErrorState d k |> settleHead y k

/-- BUS_ON (R320): 128 occurrences of 11 recessive bits have passed. -/
def canBusOn (y : Side) (k : Nat) (p : Pkg) : Pkg :=
  let d := y.port
  if running p d && rdI p d CAN_STATUS.STATE k == 2 then
    p |> wrI d CAN_STATUS.STATE k 0 |> wrI d I_CAN.TEC k 0 |> wrI d CAN_STATUS.TEC k 0 |> wrI d CAN_STATUS.REC k 0
      |> raise d clsInfo CAN_EVENT.BUS_ON
  else p

/-- The filter that decides a frame: the first enabled one of the port that matches (R322). -/
def canFilter (p : Pkg) (d : Die) (k key : Nat) : Option Nat :=
  ((List.range 128).map (fun f => k * 128 + f)).find? (fun i =>
    rdI p d CAN_FILT.ACTION i != 0 && Nat.land (Nat.xor key (rdI p d CAN_FILT.ID i)) (rdI p d CAN_FILT.MASK i % 2 ^ 30) == 0)

/-- The identifier and IDE bit as filters and sources hold them. -/
def canKey (f : CanFrame) : Nat := f.id % 2 ^ 29 + 2 ^ 29 * b2n f.ide

/-- Update an RX signal from a frame with its identifier (R325). -/
def updateRx (d : Die) (at' : Nat) (f : CanFrame) (r : Nat) (p : Pkg) : Pkg :=
  let len := rdI p d CAN_RXS.LEN r
  let fmt := rdI p d CAN_RXS.FMT r
  let start := rdI p d CAN_RXS.START r
  let last := ((sigBits start len (bit fmt 0)).max?).getD 0
  if f.data.length * 8 ≤ last then wrI d I_RXS.SHORT r 1 p
  else
    let v := unpackSignal start len (bit fmt 0) (leNat f.data)
    p |> wrI d CAN_RXS.RAW r (if bit fmt 1 then ofSigned 32 (toSigned len v) else v) |> wrI d I_RXS.AT r at' |> wrI d I_RXS.HAVE r 1
      |> wrI d I_RXS.SHORT r 0

/-- A frame taken from the receive FIFO (R323 to R325): a sample, RX signals, or both. -/
def canTake (y : Side) (k : Nat) (e : Nat × CanFrame) (p : Pkg) : Pkg :=
  let d := y.port
  let sof := e.1
  let f := e.2
  let s : RawSample := ⟨d, 2, k, canKey f, (canTime p y sof).toNat, 0, none, Config.canFields f.data⟩
  let p := receiveSample s p
  forAll ((List.range 128).filter (fun r => rdI p d CAN_RXS.LEN r != 0 && rdI p d CAN_RXS.PORT r == k && rdI p d CAN_RXS.ID r == canKey f))
    (updateRx d (now p d) f) p

/-- The census of a received frame (R328). -/
def censusFrame (y : Side) (k : Nat) (f : CanFrame) (p : Pkg) : Pkg :=
  let d := y.port
  let l := (p.ports.get y).seen.getD k []
  let fl := rdI p d I_CEN.FLAGS k
  p |> onPort y (fun q => { q with seen := if l.contains (canKey f) || 1023 ≤ l.length then q.seen else q.seen.set k (l ++ [canKey f]) })
    |> (if f.fdf then incI d I_CEN.FD k else incI d I_CEN.CLASSIC k) |> onlyIf (f.fdf && f.brs) (incI d I_CEN.BRS k)
    |> onlyIf (f.esi && !(bit fl 1)) (wrI d I_CEN.FLAGS k (fl + 2))

/-- Replace a port's receive FIFO. -/
def setRx (y : Side) (k : Nat) (l : List (Nat × CanFrame)) (p : Pkg) : Pkg := onPort y (fun q => { q with rx := q.rx.set k l }) p

/-- The port die takes the frames of a receive FIFO in order of arrival (R323). -/
def drainRx (y : Side) (k : Nat) (p : Pkg) : Pkg := p |> setRx y k [] |> forAll ((p.ports.get y).rx.getD k []) (canTake y k)

/-- An accepted frame enters the 64-frame receive FIFO (R322, R323). -/
def enterRx (y : Side) (k sof : Nat) (f : CanFrame) (p : Pkg) : Pkg :=
  let l := (p.ports.get y).rx.getD k []
  if 64 ≤ l.length then p |> incI y.port CAN_CNT.RX_OVF k |> raise y.port clsWarning CAN_EVENT.RX_OVF
  else p |> incI y.port CAN_CNT.RX_OK k |> setRx y k (l ++ [(sof, f)])

/-- CAN_FRAME_RECEIVE (R319, R321 to R325, R328, R329): a frame, the count at its start of frame, and whether the port die has yet to take
frames from the receive FIFO, which it does within 5 µs. -/
def canFrameReceive (y : Side) (k sof : Nat) (f : CanFrame) (held : Bool) (p : Pkg) : Pkg :=
  let d := y.port
  if !(running p d) || !(decide (k < 4)) || rdI p d CAN_CFG.MODE k == 0 || flagI p d I_CAN.DEAD k || flagI p d I_CAN.TAKEOVER k || rdI p d CAN_STATUS.STATE k == 2 then p
  else if f.fdf && flag p d CAN_DIE_STATUS.FD_SUSPENDED then wrI d CAN_STATUS.INTEGRATING k 1 p
  else if f.fdf && !(flagI p d CAN_CFG.FD_EN k) then p
  else
    let p := p |> notLonely d k |> wrI d CAN_STATUS.INTEGRATING k 0 |> wrI d CAN_STATUS.REC k (rdI p d CAN_STATUS.REC k - 1)
      |> canErrorState d k |> censusFrame y k f
    match canFilter p d k (canKey f) with
    | none => p
    | some i =>
      let p := incI d CAN_FILT.HITS i p
      if rdI p d CAN_FILT.ACTION i ≠ 1 then p
      else p |> enterRx y k sof f |> onlyIf (!held) (drainRx y k)

/-- CAN_PAIR_LATCH (R326): once for each millisecond boundary. -/
def canPairLatch (y : Side) (count : Nat) (p : Pkg) : Pkg :=
  let d := y.port
  if running p d && ((p.ports.get y).latches.head?.map (fun l => l.2)) != some (now p d) then
    p |> onPort y (fun q => { q with latches := ((count % 2 ^ 32, now p d) :: q.latches).take 16 })
      |> wr d CAN_PAIR_CNT.COUNT count |> wr d CAN_PAIR_TIME.TIME (now p d)
  else p

/-- The census of one port at the end of its window (R328). -/
def censusPort (y : Side) (k : Nat) (p : Pkg) : Pkg :=
  let d := y.port
  p |> wrI d CAN_CENSUS.IDS k ((p.ports.get y).seen.getD k []).length |> wrI d CAN_CENSUS.FLAGS k (rdI p d I_CEN.FLAGS k)
    |> wrI d CAN_CENSUS.CLASSIC k (rdI p d I_CEN.CLASSIC k) |> wrI d CAN_CENSUS.FD k (rdI p d I_CEN.FD k)
    |> wrI d CAN_CENSUS.BRS k (rdI p d I_CEN.BRS k) |> wrI d CAN_CENSUS.ERR k (rdI p d I_CEN.ERR k)
    |> wrI d I_CEN.FLAGS k 0 |> wrI d I_CEN.CLASSIC k 0 |> wrI d I_CEN.FD k 0 |> wrI d I_CEN.BRS k 0 |> wrI d I_CEN.ERR k 0
    |> onPort y (fun q => { q with seen := q.seen.set k [] }) |> surrFrom p d CAN_CENSUS.FLAGS k

/-- CAN_CENSUS_WINDOW (R328): every 10 s. -/
def canCensusWindow (y : Side) (p : Pkg) : Pkg :=
  let d := y.port
  if running p d && periodDue p d I_PORT.CENSUS_DUE 0 10000000000 then
    p |> periodNext d I_PORT.CENSUS_DUE 0 10000000000 |> forAll (List.range 4) (censusPort y)
  else p

/-- Queued raw frames end DISCARDED and the FIFO is empty (R330). -/
def discardFifo (y : Side) (k : Nat) (p : Pkg) : Pkg :=
  let l := canFifo p y k
  p |> setFifo y k [] |> forAll l (fun e => completion y k e 3 false 0)

/-- A controller is retired (R330): the spare takes its port over at the next bus idle, or the port is left OFF. -/
def canRetire (y : Side) (c : Nat) (p : Pkg) : Pkg :=
  let d := y.port
  let ret := rd p d CAN_DIE_STATUS.RETIRED
  if bit ret c ∨ 5 ≤ c then p
  else
    let p := p |> wr d CAN_DIE_STATUS.RETIRED (ret + 2 ^ c) |> raise d clsWarning CAN_EVENT.CTRL_RETIRED
    let off (k : Nat) (q : Pkg) : Pkg := q |> discardFifo y k |> wrI d I_CAN.DEAD k 1 |> wrI d CAN_STATUS.STATE k 3
    let waits := (List.range 4).find? (fun k => flagI p d I_CAN.TAKEOVER k)
    if c = 4 then
      match waits with
      | some k => p |> wrI d I_CAN.TAKEOVER k 0 |> off k
      | none => onlyIf (flag p d CAN_DIE_STATUS.SPARE_USED) (off (rd p d CAN_DIE_STATUS.SPARE_FOR)) p
    else if flag p d CAN_DIE_STATUS.SPARE_USED || waits.isSome || bit ret 4 then off c p
    else wrI d I_CAN.TAKEOVER c 1 p

/-- CAN_SPARE_TAKEOVER (R330). -/
def canSpareTakeover (y : Side) (k : Nat) (p : Pkg) : Pkg :=
  let d := y.port
  if running p d && flagI p d I_CAN.TAKEOVER k then
    p |> discardFifo y k |> wrI d I_CAN.TAKEOVER k 0 |> wr d CAN_DIE_STATUS.SPARE_USED 1 |> wr d CAN_DIE_STATUS.SPARE_FOR k
      |> wrI d I_CAN.TEC k 0 |> wrI d CAN_STATUS.TEC k 0 |> wrI d CAN_STATUS.REC k 0 |> notLonely d k
      |> wrI d CAN_STATUS.STATE k (if rdI p d CAN_CFG.MODE k = 0 then 3 else 0)
  else p

/-- FD operation is suspended while the die runs on its internal oscillator (R329). -/
def canClockLost (y : Side) (p : Pkg) : Pkg :=
  if flag p y.port CAN_DIE_STATUS.FD_SUSPENDED then p
  else p |> wr y.port CAN_DIE_STATUS.FD_SUSPENDED 1 |> raise y.port clsWarning CAN_EVENT.FD_SUSPENDED |> forAll (List.range 4) (settleHead y)

/-- FD operation returns on a qualified root (R329). -/
def canClockBack (y : Side) (p : Pkg) : Pkg := wr y.port CAN_DIE_STATUS.FD_SUSPENDED 0 p

/-! The commands of the table: one meaning each. -/

/-- CAN_MSG_COMPOSE (R311). -/
def execCanMsgCompose (y : Side) (m : Nat) (s : State) : Host.Outcome State Fault Refusal := nextPk s (canMsgCompose y m)

/-- PUSH (R314). -/
def execPushFrame (x : Side) (y : Side) (k tag : Nat) (s : State) : Host.Outcome State Fault Refusal := nextPk s (canPush x y k tag)

/-- CANCEL (R318). -/
def execCancel (x : Side) (y : Side) (k tag : Nat) (onBus : Bool) (s : State) : Host.Outcome State Fault Refusal := nextPk s (canCancel x y k tag onBus)

/-- CAN_ARBITRATION_LOST (R317). -/
def execCanArbitrationLost (y : Side) (k : Nat) (s : State) : Host.Outcome State Fault Refusal := nextPk s (canArbitrationLost y k)

/-- CAN_FRAME_SENT (R315). -/
def execCanFrameSent (y : Side) (k sof : Nat) (tdcv : Option Nat) (s : State) : Host.Outcome State Fault Refusal := nextPk s (canFrameSent y k sof tdcv)

/-- CAN_ERROR (R316). -/
def execCanError (y : Side) (k : Nat) (tx ack dominant fdBits : Bool) (tdcv : Option Nat) (s : State) : Host.Outcome State Fault Refusal := nextPk s (canError y k tx ack dominant fdBits tdcv)

/-- BUS_ON (R320). -/
def execBusOn (y : Side) (k : Nat) (s : State) : Host.Outcome State Fault Refusal := nextPk s (canBusOn y k)

/-- CAN_FRAME_RECEIVE (R323). -/
def execCanFrameReceive (y : Side) (k sof : Nat) (frame : CanFrame) (held : Bool) (s : State) : Host.Outcome State Fault Refusal := nextPk s (canFrameReceive y k sof frame held)

/-- CAN_PAIR_LATCH (R326). -/
def execCanPairLatch (y : Side) (count : Nat) (s : State) : Host.Outcome State Fault Refusal := nextPk s (canPairLatch y count)

/-- CAN_CENSUS_WINDOW (R328). -/
def execCanCensusWindow (y : Side) (s : State) : Host.Outcome State Fault Refusal := nextPk s (canCensusWindow y)

/-- CAN_SPARE_TAKEOVER (R330). -/
def execCanSpareTakeover (y : Side) (k : Nat) (s : State) : Host.Outcome State Fault Refusal := nextPk s (canSpareTakeover y k)

end Sys2Proof.Machine
end

