-- ==== Sys2Proof/Machine/Signal.lean ====
section
/-! DEFINITION. Chapter 10, with R42, R43, R81 and R82 of chapter 02: sluices and pins, the dead-hand, analog channels, weirs, serial
framers, digital inputs, and the feedback table. -/

namespace Sys2Proof.Machine

/-- Outputs that take part in the dead-hand: all but those marked TEST (R81, R512). -/
def deadHandOutputs (p : Pkg) (d : Die) : List Nat := (List.range 40).filter (fun o => rdI p d SIG_OUT.USER o != 2)

/-- PORT_OK and the pins that carry it (R303). -/
def portOk (y : Side) (p : Pkg) : Pkg :=
  let d := y.port
  let ok := running p d && !(onFallback p d) && !(flag p d HG_DH_STATUS.TRIPPED)
  let was := flag p d SIG_STATUS.PORT_OK
  p |> wr d SIG_STATUS.PORT_OK (b2n ok)
    |> forAll ((List.range 24).filter (fun n => rdI p d SIG_DIO.FUNC n == 4)) (fun n => wrI d I_OUT.LEVEL (16 + n) (b2n ok))
    |> onlyIf (was && !ok && running p d) (raise d clsWarning SIG_EVENT.PORT_OK_LOW)

/-- The code of a DAC output for an output word (R297). -/
def dacCode (p : Pkg) (d : Die) (o : Nat) (w : Int) : Nat :=
  (clampInt ((rdI p d SIG_OUT.ZERO o : Int) + divRne (rdSI p d SIG_OUT.SPAN o * w) 0x80000000) 0 65535).toNat

/-- The pin takes a latched word: a DAC code (R297) or a level (R299). -/
def drivePin (d : Die) (o : Nat) (p : Pkg) : Pkg :=
  if o < 16 then wrI d SIG_OUT.CODE o (dacCode p d o (rdSI p d SIG_OUT.LATCHED o)) p
  else wrI d I_OUT.LEVEL o (rdI p d SIG_OUT.LATCHED o % 2) p

/-- The kind and number an OUT_A or OUT_B field names, with its port die (Table 08-8). -/
def outRef (v : Nat) : Option (Side × OutKind × Nat) :=
  match (if v % 16 = 5 then some Side.a else if v % 16 = 6 then some Side.b else none) with
  | none => none
  | some y => match v / 16 % 16 with
    | 1 => some (y, .can, v / 65536 % 65536)
    | 2 => some (y, .dac, v / 65536 % 65536)
    | _ => none

/-- Latch an output word (R42, R301): while the dead-hand acts the pin keeps its action until the refresh. For a UART the word is a sentence,
its characters as the digits of a number to base 256: its transmitter sends it (R293). -/
def latchOut (y : Side) (k : OutKind) (i w : Nat) (p : Pkg) : Pkg :=
  let d := y.port
  let free := !(flag p d HG_DH_STATUS.TRIPPED)
  match k with
  | .can => if i < 128 then p |> wrI d I_TXS.WORD i w |> wrI d I_TXS.WRITTEN i 1 |> wrI d I_TXS.EVER i 1 |> wrI d I_TXS.TICK i 1 else p
  | .dac =>
    if i < 16 ∧ rdI p d SIG_OUT.USER i ≠ 2 then
      p |> wrI d SIG_OUT.LATCHED i w |> wrI d I_OUT.WRITTEN i 1 |> wrI d I_OUT.EVER i 1 |> wrI d I_OUT.TICK i 1 |> onlyIf free (drivePin d i)
    else p
  | .dio =>
    let o := 16 + i
    if i < 24 ∧ rdI p d SIG_OUT.USER o ≠ 2 ∧ (rdI p d SIG_DIO.FUNC i = 2 ∨ rdI p d SIG_DIO.FUNC i = 3) then
      p |> wrI d SIG_OUT.LATCHED o (w % 2) |> wrI d I_OUT.WRITTEN o 1 |> wrI d I_OUT.EVER o 1 |> wrI d I_OUT.TICK o 1 |> onlyIf free (drivePin d o)
    else p
  | .uart => if i < 8 ∧ rdI p d SIG_UART.MODE i ≠ 0 then onPort y (fun q => { q with uart := q.uart ++ [(i, w)] }) p else p

/-- SLUICE_WRITE (R40, R42, R43, R293, R297, R299): an output write of lane `x` at port die `y`. -/
def sluiceWrite (x y : Side) (k : OutKind) (i w : Nat) (p : Pkg) : Pkg :=
  if !(portHears p x y) then p else if ownsPort p x y then latchOut y k i w p else refuseWrite y p

/-- A lane's digital-output bitmap takes a level (R51). -/
def noteLevel (y : Side) (i w : Nat) (x : Side) (p : Pkg) : Pkg :=
  let m := rdI p x.helm I_LANE.DIO_MAP y.num
  wrI x.helm I_LANE.DIO_MAP y.num (if m.testBit i then m - 2 ^ i + 2 ^ i * (w % 2) else m + 2 ^ i * (w % 2)) p

/-- The digital-output bitmaps follow a lane's write (R51). The spec names no source for the level of a digital output: the model takes the
operand of the lane's SLUICE_WRITE (DESIGN CHOICE, the log's entry on digital levels). The standby computes the same tick, so the level the
ACTIVE lane writes is also the one that the other lane would write. -/
def noteDio (x y : Side) (k : OutKind) (i w : Nat) (p : Pkg) : Pkg :=
  match k with
  | .dio => if i < 24 then p |> noteLevel y i w x |> onlyIf (isActive p x && running p x.other.helm) (noteLevel y i w x.other) else p
  | _ => p

/-- The read-back word of an output (R301). -/
def readBack (p : Pkg) (y : Side) (k : OutKind) (i : Nat) : Int :=
  let d := y.port
  let form (num span : Int) : Int :=
    if span = 0 then 0
    else satCode (b64.toInt (fdiv (fint (num * 0x80000000)) (fint span)))
  match k with
  | .dac =>
    if flagI p d I_OUT.WRITTEN i then rdSI p d SIG_OUT.LATCHED i
    else form ((rdI p d SIG_OUT.CODE i : Int) - (rdI p d SIG_OUT.ZERO i : Int)) (rdSI p d SIG_OUT.SPAN i)
  | .can =>
    if flagI p d I_TXS.WRITTEN i then rdSI p d I_TXS.WORD i
    else form ((txRawNow p d i).1 - rdSI p d CAN_TXS.OFFSET i) (rdSI p d CAN_TXS.SPAN i)
  | .dio => rdI p d I_OUT.LEVEL (16 + i)
  | .uart => 0

/-- The level bitmap of the digital outputs (R301). -/
def dioBitmap (p : Pkg) (y : Side) : Nat :=
  (List.range 24).foldl (fun acc n => acc + 2 ^ n * rdI p y.port I_OUT.LEVEL (16 + n)) 0

/-- An output takes its dead-hand action at a trip or an apply (R300, R302): HOLD before any latched value drives INIT_VALUE. -/
def deadHandAct (d : Die) (o : Nat) (p : Pkg) : Pkg :=
  let set (v : Nat) (q : Pkg) : Pkg := if o < 16 then wrI d SIG_OUT.CODE o v q else wrI d I_OUT.LEVEL o (v % 2) q
  match rdI p d SIG_OUT.DH_ACTION o with
  | 1 => set (rdI p d SIG_OUT.DH_VALUE o) p
  | 0 => if flagI p d I_OUT.EVER o then p else set (rdI p d SIG_OUT.INIT_VALUE o) p
  | _ => if flagI p d I_OUT.EVER o then p else set (rdI p d SIG_OUT.INIT_VALUE o) p

/-- The dead-hand trips (R81, R300, R301, R303). -/
def deadHandTrip (y : Side) (p : Pkg) : Pkg :=
  let d := y.port
  p |> wr d HG_DH_STATUS.TRIPPED 1 |> wr d HG_DH_STATUS.TRIP_EVT 1 |> logAt d (eventCode clsAuthority 0x10 44) .unstated
    |> forAll (deadHandOutputs p d) (fun o q => q |> wrI d I_OUT.WRITTEN o 0 |> deadHandAct d o)
    |> forAll (List.range 128) (fun s => wrI d I_TXS.WRITTEN s 0) |> portOk y

/-- DEADHAND_TRIP (R81): DH_TIMEOUT without a refresh from the owner. -/
def deadHandTimer (y : Side) (p : Pkg) : Pkg :=
  let d := y.port
  if running p d && !(flag p d HG_DH_STATUS.TRIPPED) && decide (rd p d HG_DH_CFG.DH_TIMEOUT ≤ rd p d HG_DH_STATUS.SINCE_REFRESH) then
    deadHandTrip y p
  else p

/-- DEADHAND_REFRESH (R81, R82): a refresh of lane `x` at port die `y`; the first from the owner after a trip ends the dead-hand. -/
def deadHandRefresh (x y : Side) (p : Pkg) : Pkg :=
  let d := y.port
  if !(portHears p x y) || !(ownsPort p x y) then p
  else
    let tripped := flag p d HG_DH_STATUS.TRIPPED
    let p := wr d HG_DH_STATUS.SINCE_REFRESH 0 p
    if !tripped then p
    else p |> wr d HG_DH_STATUS.TRIPPED 0
      |> forAll ((deadHandOutputs p d).filter (fun o => flagI p d I_OUT.WRITTEN o)) (drivePin d) |> portOk y

/-- One step of a RAMP (R300). -/
def rampToward (cur goal rate : Nat) : Nat :=
  if cur < goal then min goal (cur + rate) else max goal (cur - rate)

/-- DEADHAND_RAMP_STEP (R300, R301): once after each tick-edge latch. -/
def deadHandRampStep (y : Side) (p : Pkg) : Pkg :=
  let d := y.port
  let p' := wr d I_PORT.RAMP_DUE 0 p
  if running p d && flag p d I_PORT.RAMP_DUE && flag p d HG_DH_STATUS.TRIPPED && flag p d SIG_STATUS.LAYOUT then
    forAll ((deadHandOutputs p d).filter (fun o => decide (o < 16) && rdI p d SIG_OUT.DH_ACTION o == 2))
      (fun o q => wrI d SIG_OUT.CODE o (rampToward (rdI q d SIG_OUT.CODE o) (rdI q d SIG_OUT.DH_VALUE o) (rdI q d SIG_OUT.DH_RATE o)) q) p'
  else p

/-! Analog channels (R280 to R285). -/

/-- Samples a channel's stages reach over: S × (L − 1) + 1 (R284). -/
def fillLength (p : Pkg) (d : Die) (n : Nat) : Nat := rdI p d SIG_AIN.S n * (rdI p d SIG_AIN.L n - 1) + 1

/-- GD_NS: round(1e9 × (126 / 2,080,000 + S × (L − 1) / 65,000)), ties to even (R282). -/
def groupDelay (s l : Nat) : Nat := (divRne (((126 + 32 * (s * (l - 1))) * 1000000000 : Nat) : Int) 2080000).toNat

/-- Set the FILLING flag of a channel in both places. -/
def setFilling (d : Die) (n : Nat) (on : Bool) (p : Pkg) : Pkg :=
  let fl := rdI p d SIG_AIN.FLAGS n
  let m := rd p d SIG_STATUS.FILLING
  p |> wrI d SIG_AIN.FLAGS n (fl / 2 * 2 + b2n on) |> wr d SIG_STATUS.FILLING (if m.testBit n then m - 2 ^ n + 2 ^ n * b2n on else m + 2 ^ n * b2n on)

/-- Set the OVERRANGE flag of a channel. -/
def setOver (d : Die) (n : Nat) (on : Bool) (p : Pkg) : Pkg := wrI d SIG_AIN.FLAGS n (rdI p d SIG_AIN.FLAGS n % 2 + 2 * b2n on) p

/-- A channel's state. -/
def ainAt (p : Pkg) (y : Side) (n : Nat) : AinSt := (p.ports.get y).ain.getD n AinSt.zero

/-- Replace it. -/
def setAin (y : Side) (n : Nat) (a : AinSt) (p : Pkg) : Pkg := onPort y (fun q => { q with ain := q.ain.set n a }) p

/-- A trigger of a synchronising reset (R283): it takes effect at the next first-stage sample. -/
def syncReset (y : Side) (n : Nat) (p : Pkg) : Pkg := setAin y n { ainAt p y n with sync := true } p

/-- The first stage restarts (R280): four samples are discarded, and the channel is reset. -/
def firstStageRestart (y : Side) (p : Pkg) : Pkg :=
  forAll (List.range 16) (fun n q => setAin y n { ainAt q y n with sync := true, skip := 4 } q) p

/-- TO_LANE delivers a weir's state to both helms, stamped as a sample of its channel (R289, R282). -/
def weirDeliver (y : Side) (k : Nat) (p : Pkg) : Pkg :=
  let d := y.port
  let n := rdI p d SIG_WEIR.CHANNEL k
  let st : Int := (rdI p d I_AIN.AT n : Int) - rdI p d SIG_AIN.GD_NS n
  onlyIf (bit (rdI p d SIG_WEIR.CFG k) 2) (forAll bothSides (fun x q => onlyIf (running q x.helm && reaches q d x.helm)
    (fun q => q |> wrI x.helm I_LANE.WEIR (64 * y.num + k) (rdI q d SIG_WEIR.STATE k) |> wrSI x.helm I_LANE.WEIR_AT (64 * y.num + k) st) q)) p

/-- The reset as it takes effect (R283, R284, R288). -/
def syncTake (y : Side) (n : Nat) (p : Pkg) : Pkg :=
  let d := y.port
  p |> wrI d I_AIN.DONE n 0 |> setAin y n { ainAt p y n with hist := [], count := 0, sync := false } |> setFilling d n true
    |> wrI d SIG_AIN.FILL_LEFT n (fillLength p d n)
    |> forAll ((List.range 64).filter (fun k => rdI p d SIG_WEIR.CHANNEL k == n)) (fun k q => q |> wrI d SIG_WEIR.STATE k 0 |> wrI d I_WEIR.RUN k 0 |> onlyIf (rdI q d SIG_WEIR.STATE k == 1) (weirDeliver y k))

/-- A sample enters the second stage (R281, R284, R285). -/
def ainEnter (y : Side) (n : Nat) (v : Int) (p : Pkg) : Pkg :=
  let d := y.port
  let a := ainAt p y n
  let fill := fillLength p d n
  let full := decide (2 ^ 23 - 1 ≤ v.natAbs)
  let was := bit (rdI p d SIG_AIN.FLAGS n) 1
  let left := if full then fill else a.overLeft - 1
  let fl := rdI p d SIG_AIN.FILL_LEFT n
  p |> setAin y n { a with hist := (v :: a.hist).take fill, count := a.count + 1, overLeft := left }
    |> wrI d SIG_AIN.FILL_LEFT n (fl - 1)
    |> onlyIf (fl == 1) (fun q => q |> setFilling d n false |> raise d clsInfo SIG_EVENT.FILL_DONE)
    |> onlyIf (full && !was) (fun q => q |> setOver d n true |> incI d SIG_AIN.OVR_COUNT n |> raise d clsWarning SIG_EVENT.OVERRANGE)
    |> onlyIf (was && !full && left == 0) (setOver d n false)

/-- FIRST_STAGE_SAMPLE (R280, R283 to R285): a 24-bit first-stage sample. -/
def firstStageSample (y : Side) (n : Nat) (v : Int) (p : Pkg) : Pkg :=
  let d := y.port
  let a := ainAt p y n
  if !(running p d) || !(decide (n < 16)) || !(flagI p d SIG_AIN.EN n) then p
  else if 0 < a.skip then setAin y n { a with skip := a.skip - 1 } p
  else ainEnter y n v (if a.sync then syncTake y n p else p)

/-- SYNC_RESET (R283): the channel's pending reset takes effect. -/
def syncResetNow (y : Side) (n : Nat) (p : Pkg) : Pkg :=
  if running p y.port && decide (n < 16) && (ainAt p y n).sync then syncTake y n p else p

/-- SIG_SYNC (R283): bit n of the word written resets AIN n. -/
def sigSync (y : Side) (w : Nat) (p : Pkg) : Pkg :=
  if running p y.port then forAll ((List.range 16).filter (fun n => w.testBit n)) (syncReset y) p else p

/-- A moving-average stage over a history held newest first, its window `l` long. -/
def movingSums (l : Nat) : List Int → List Int
  | [] => []
  | v :: r => ((v :: r).take l).foldl (· + ·) 0 :: movingSums l r

/-- The cascade of `s` stages. -/
def cascade (l : Nat) (h : List Int) : Nat → List Int
  | 0 => h
  | s + 1 => movingSums l (cascade l h s)

/-- The output of a channel: round(2^8 × Σ / L^S), saturating to 32 bits (R281). -/
def ainOutput (s l : Nat) (h : List Int) : Int := satCode (divRne (256 * (cascade l h s).headD 0) (l ^ s))

/-! Weirs (R287 to R289). -/

/-- Take the routes of a firing (R289). -/
def weirRoutes (y : Side) (k : Nat) (p : Pkg) : Pkg :=
  let d := y.port
  let c := rdI p d SIG_WEIR.CFG k
  let code := rdI p d SIG_AIN.LAST (rdI p d SIG_WEIR.CHANNEL k)
  let sn := c / 32 % 4
  p |> (if bit c 3 then raiseWith d clsWarning SIG_EVENT.WEIR (.words [k, code]) else wr d SIG_EVENT.WEIR 1)
    |> weirDeliver y k
    |> onlyIf (bit c 4 && (sn == 1 || sn == 3)) (snapTrigger .a 5) |> onlyIf (bit c 4 && (sn == 2 || sn == 3)) (snapTrigger .b 5)

/-- A weir that is ARMED fires when its channel has stayed past THRESH for MIN_DUR (R287). -/
def weirFireIfDue (y : Side) (k : Nat) (p : Pkg) : Pkg :=
  let d := y.port
  let n := rdI p d SIG_WEIR.CHANNEL k
  if bit (rdI p d SIG_WEIR.CFG k) 0 && rdI p d SIG_WEIR.STATE k == 0 && flagI p d I_WEIR.RUN k &&
      decide (rdI p d I_WEIR.SINCE k + rdI p d SIG_WEIR.MIN_DUR k * 1000000 ≤ rdI p d I_AIN.AT n) then
    p |> wrI d SIG_WEIR.STATE k 1 |> incI d SIG_WEIR.FIRES k |> weirRoutes y k
  else p

/-- The evaluation of a weir at an output of its channel (R287). -/
def weirEvaluate (y : Side) (k : Nat) (p : Pkg) : Pkg :=
  let d := y.port
  let n := rdI p d SIG_WEIR.CHANNEL k
  let c := rdI p d SIG_WEIR.CFG k
  let v := rdSI p d SIG_AIN.LAST n
  let t := rdSI p d SIG_WEIR.THRESH k
  let h := rdSI p d SIG_WEIR.HYST k
  let past := if bit c 1 then decide (t < v) else decide (v < t)
  if !(bit c 0) then p
  else if rdI p d SIG_WEIR.STATE k = 1 then
    if (if bit c 1 then decide (v ≤ t - h) else decide (t + h ≤ v)) then
      p |> wrI d SIG_WEIR.STATE k 0 |> wrI d I_WEIR.RUN k 0
        |> weirDeliver y k
    else p
  else if past then
    p |> onlyIf (!(flagI p d I_WEIR.RUN k)) (fun q => q |> wrI d I_WEIR.RUN k 1 |> wrI d I_WEIR.SINCE k (rdI p d I_AIN.AT n)) |> weirFireIfDue y k
  else wrI d I_WEIR.RUN k 0 p

/-- WEIR_FIRE (R287). -/
def weirFire (y : Side) (k : Nat) (p : Pkg) : Pkg := if running p y.port && decide (k < 64) then weirFireIfDue y k p else p

/-- ANALOG_OUTPUT (R281, R282, R284, R285, R287): the channel's count has reached a multiple of D, once for each; `at'` is the tally at the
output. A sample formed while OVERRANGE is set carries the flag. -/
def analogOutput (y : Side) (n at' : Nat) (p : Pkg) : Pkg :=
  let d := y.port
  let a := ainAt p y n
  let dd := rdI p d SIG_AIN.D n
  let s := rdI p d SIG_AIN.S n
  let l := rdI p d SIG_AIN.L n
  if !(running p d) || !(decide (n < 16)) || !(flagI p d SIG_AIN.EN n) || a.count == 0 || dd == 0 || a.count % dd != 0 || l == 0 || rdI p d I_AIN.DONE n == a.count then p
  else
    let code := ainOutput s l a.hist
    let p := p |> wrI d I_AIN.DONE n a.count |> wrSI d SIG_AIN.LAST n code |> wrI d I_AIN.AT n at'
    if bit (rdI p d SIG_AIN.FLAGS n) 0 then p
    else
      let p := forAll ((List.range 64).filter (fun k => rdI p d SIG_WEIR.CHANNEL k == n)) (weirEvaluate y) p
      let r : RawSample := ⟨d, 5, n, n, at', rdI p d SIG_AIN.GD_NS n, none, [fint code]⟩
      receiveMarked (bit (rdI p d SIG_AIN.FLAGS n) 1) r p

/-! Serial framers (R291, R292). -/

/-- A framer over received characters; a character of 256 or more had a stop-bit error or was a break. It answers how many discards
it counts and the sentences it completes, each from its start character to its CR LF. -/
def frameChars : List Nat → Option (List Nat) → Nat × List (List Nat)
  | [], _ => (0, [])
  | c :: r, cur =>
    let count (n : Nat) (q : Nat × List (List Nat)) : Nat × List (List Nat) := (n + q.1, q.2)
    if 256 ≤ c then count 1 (frameChars r none)
    else if c = 0x24 ∨ c = 0x21 then count (b2n cur.isSome) (frameChars r (some [c]))
    else match cur with
      | none => frameChars r none
      | some s =>
        let s := s ++ [c]
        if c = 0x0A ∧ (s.drop (s.length - 2)).head? = some 0x0D then
          let q := frameChars r none
          if s.length ≤ 82 then (q.1, s :: q.2) else count 1 q
        else if 82 ≤ s.length then count 1 (frameChars r none)
        else frameChars r (some s)

/-- The value of an upper-case or lower-case hexadecimal digit. -/
def hexDigit (c : Nat) : Option Nat :=
  if 0x30 ≤ c ∧ c ≤ 0x39 then some (c - 0x30) else if 0x41 ≤ c ∧ c ≤ 0x46 then some (c - 0x37)
  else if 0x61 ≤ c ∧ c ≤ 0x66 then some (c - 0x57) else none

/-- The check of a sentence (R291): the exclusive or of the characters between the start character and "*" against the two digits
after it; a sentence without "*" passes unless one is required. -/
def sentenceGood (need : Bool) (s : List Nat) : Bool :=
  let body := (s.drop 1).takeWhile (fun c => c != 0x2A && c != 0x0D)
  let rest := s.drop (1 + body.length)
  if rest.head? = some 0x2A then
    match hexDigit (rest.getD 1 0), hexDigit (rest.getD 2 0) with
    | some h, some l => h * 16 + l == body.foldl Nat.xor 0 && rest.length == 5
    | _, _ => false
  else !need

/-- A sentence that passed goes to both helms, and feeds the feedback entries that take a field of it (R291, R296). -/
def takeSentence (d : Die) (portType index arrival : Nat) (s : List Nat) (p : Pkg) : Pkg :=
  let r : RawSample := ⟨d, portType, index, Config.sentenceKey s, arrival, 0, Config.sentenceTime s, Config.sentenceFields s⟩
  let p := receiveSample r p
  if portType ≠ 1 then p
  else forAll ((List.range 128).filter (fun f => rdI p d SIG_FB.SRC f == 4 && rdI p d SIG_FB.INDEX f == index))
    (fun f q => match Config.sentenceField (rdI q d SIG_FB.FIELD f) s with
      | some v => q |> wrI d I_FB.RAW f v |> wrI d I_FB.AT f arrival |> wrI d I_FB.HAVE f 1
      | none => q) p

/-- SENTENCE_RECEIVE (R290 to R292): the characters a UART has received up to a sentence's end, and the tally at the start bit of its
start character. -/
def sentenceReceive (y : Side) (u arrival : Nat) (chars : List Nat) (p : Pkg) : Pkg :=
  let d := y.port
  if !(running p d) || !(decide (u < 8)) || rdI p d SIG_UART.MODE u != 1 then p
  else
    let r := frameChars chars none
    let good := r.2.filter (sentenceGood (flagI p d SIG_UART.CHK_REQ u))
    let bad := r.1 + (r.2.length - good.length)
    p |> wrI d SIG_UART.FRAME_ERR u (rdI p d SIG_UART.FRAME_ERR u + bad) |> onlyIf (bad != 0) (raise d clsInfo SIG_EVENT.FRAME_ERR)
      |> wrI d SIG_UART.FRAMES u (rdI p d SIG_UART.FRAMES u + good.length) |> forAll good (takeSentence d 1 u arrival)

/-! Digital inputs (R294, R295). -/

/-- DIO_INPUT_CHANGE (R294): a new level and how long it has held, µs. -/
def dioInputChange (y : Side) (n : Nat) (high : Bool) (heldUs : Nat) (p : Pkg) : Pkg :=
  let d := y.port
  if running p d && decide (n < 24) && rdI p d SIG_DIO.FUNC n == 0 && decide (rdI p d SIG_DIO.DEBOUNCE_US n ≤ heldUs) then
    wrI d I_DIO.LEVEL n (b2n high) p
  else p

/-- PULSE_EDGE (R295). -/
def pulseEdge (y : Side) (n stamp : Nat) (p : Pkg) : Pkg :=
  let d := y.port
  let k := rdI p d I_DIO.EDGES n
  let last := rdI p d I_DIO.EDGE_AT n
  if !(running p d) || !(decide (n < 24)) || rdI p d SIG_DIO.FUNC n != 1 || (k != 0 && decide (stamp < last + rdI p d SIG_DIO.DEBOUNCE_US n * 1000)) then p
  else p |> wrI d I_DIO.EDGES n (min 2 (k + 1)) |> wrI d I_DIO.EDGE_AT n stamp
    |> onlyIf (k != 0) (wrI d SIG_DIO.PERIOD_NS n (stamp - last)) |> onPort y (fun q => { q with edges := q.edges ++ [(n, stamp)] })

/-! Feedback (R296, R325). -/

/-- A stamp is more than STALE_MS old, or there is none. -/
def feedbackOld (p : Pkg) (d : Die) (f : Nat) (have' : Bool) (at' : Nat) : Bool :=
  !have' || decide (at' + rdI p d SIG_FB.STALE_MS f * 1000000 < now p d)

/-- Value and stale mark of a feedback entry (R296, R325, Table 10-4). -/
def feedbackNow (p : Pkg) (d : Die) (f : Nat) : Int × Bool :=
  let n := rdI p d SIG_FB.INDEX f
  let scale := f32to64 (rdI p d SIG_FB.SCALE f)
  match rdI p d SIG_FB.SRC f with
  | 1 => (rdSI p d SIG_AIN.LAST n, !(flagI p d SIG_AIN.EN n) || rdI p d SIG_AIN.FLAGS n % 4 != 0)
  | 2 => (if flagI p d I_DIO.LEVEL n then codeMax else 0, flag p d I_PORT.BANK_LOW)
  | 3 => (satCode (rdI p d SIG_DIO.PERIOD_NS n), feedbackOld p d f (rdI p d I_DIO.EDGES n != 0) (rdI p d I_DIO.EDGE_AT n))
  | 4 => (satCode (b64.toInt (fmul (rdI p d I_FB.RAW f) scale)), feedbackOld p d f (flagI p d I_FB.HAVE f) (rdI p d I_FB.AT f))
  | 5 =>
    let r := rdI p d SIG_FB.FIELD f
    let k := rdI p d CAN_RXS.PORT r
    let raw : Int := if bit (rdI p d CAN_RXS.FMT r) 1 then rdSI p d CAN_RXS.RAW r else rdI p d CAN_RXS.RAW r
    (satCode (b64.toInt (fmul (fint raw) scale)),
      feedbackOld p d f (flagI p d I_RXS.HAVE r) (rdI p d I_RXS.AT r) || flagI p d I_RXS.SHORT r || rdI p d CAN_CFG.MODE k != 1 ||
        rdI p d CAN_STATUS.STATE k == 2 || rdI p d CAN_STATUS.STATE k == 3)
  | _ => (0, false)

/-- An entry latches its source at a tick edge (R296). -/
def feedbackLatch (d : Die) (f : Nat) (p : Pkg) : Pkg :=
  let r := feedbackNow p d f
  p |> wrSI d SIG_FB.VALUE f r.1 |> wrI d SIG_FB.STALE f (b2n r.2)

/-- FEEDBACK_STALE (R296, Table 10-4): the entry's source has delivered nothing for STALE_MS. -/
def feedbackStale (y : Side) (f : Nat) (p : Pkg) : Pkg :=
  if running p y.port && decide (f < 128) && (feedbackNow p y.port f).2 then wrI y.port SIG_FB.STALE f 1 p else p

/-- DAC_LOAD_MEASURE (R298): the load current of an output in nA. -/
def dacLoadMeasure (y : Side) (o na : Nat) (p : Pkg) : Pkg :=
  let d := y.port
  let code := rdI p d SIG_OUT.CODE o
  if !(running p d) || !(decide (o < 16)) || !(periodDue p d I_OUT.MEASURE_DUE o 10000000) then p
  else if !(decide (65535 < code * 25)) then periodNext d I_OUT.MEASURE_DUE o 10000000 p
  else surrFrom p d SIG_OUT.LOAD o <|
    let p := periodNext d I_OUT.MEASURE_DUE o 10000000 p
    let isOpen := decide (na * 1000000 * 65535 < code * 2500000000)
    let isShort := decide (10000000 ≤ na)
    let n := if isOpen then min 10 (rdI p d I_OUT.OPEN_RUN o + 1) else 0
    let s := if isShort then min 10 (rdI p d I_OUT.SHORT_RUN o + 1) else 0
    let was := rdI p d SIG_OUT.LOAD o
    let p := p |> wrI d I_OUT.OPEN_RUN o n |> wrI d I_OUT.SHORT_RUN o s
    if n = 10 ∧ was ≠ 2 then p |> wrI d SIG_OUT.LOAD o 2 |> raise d clsWarning SIG_EVENT.DAC_OPEN
    else if s = 10 ∧ was ≠ 3 then p |> wrI d SIG_OUT.LOAD o 3 |> raise d clsWarning SIG_EVENT.DAC_SHORT
    else if !isOpen && !isShort && was != 1 then p |> wrI d SIG_OUT.LOAD o 1 |> logOpen d clsInfo 0x28 7 (.words [o])
    else p

/-- The output entry that SIG_TEST names: AOUT 0 to 15 or DIO 0 to 23. -/
def testOutput (kind out : Nat) : Option Nat :=
  if kind = 0 then (if out < 16 then some out else none) else if out < 24 then some (16 + out) else none

/-- SIG_TEST (R305, R512): a word written from an ENGINEER session. -/
def sigTest (y : Side) (w : Nat) (p : Pkg) : Pkg :=
  let d := y.port
  let out := w % 32
  let kind := w / 32 % 2
  let en := bit w 6
  let v := w / 65536 % 65536
  let marked := match testOutput kind out with
    | some o => rdI p d SIG_OUT.USER o == 2
    | none => false
  if !(running p d) then p
  else if en && !marked then raise d clsWarning SIG_EVENT.TEST_REFUSED p
  else
    let p := p |> wr d SIG_TEST.OUTPUT out |> wr d SIG_TEST.KIND kind |> wr d SIG_TEST.EN (b2n en) |> wr d SIG_TEST.VALUE v
    match testOutput kind out with
    | some o => if !en then p else if o < 16 then wrI d SIG_OUT.CODE o v p else wrI d I_OUT.LEVEL o (v % 2) p
    | none => p

/-! The commands of the table: one meaning each. -/

/-- SLUICE_WRITE (R43). -/
def execSluiceWrite (x : Side) (y : Side) (k : OutKind) (i w : Nat) (s : State) : Host.Outcome State Fault Refusal := nextPk s (fun p => noteDio x y k i w (sluiceWrite x y k i w p))

/-- DEADHAND_REFRESH (R82). -/
def execDeadhandRefresh (x : Side) (y : Side) (s : State) : Host.Outcome State Fault Refusal := nextPk s (deadHandRefresh x y)

/-- DEADHAND_TRIP (R81). -/
def execDeadhandTrip (y : Side) (s : State) : Host.Outcome State Fault Refusal := nextPk s (deadHandTimer y)

/-- DEADHAND_RAMP_STEP (R300). -/
def execDeadhandRampStep (y : Side) (s : State) : Host.Outcome State Fault Refusal := nextPk s (deadHandRampStep y)

/-- ANALOG_OUTPUT (R281). -/
def execAnalogOutput (y : Side) (n at' : Nat) (s : State) : Host.Outcome State Fault Refusal := nextPk s (analogOutput y n at')

/-- SYNC_RESET (R283). -/
def execSyncReset (y : Side) (n : Nat) (s : State) : Host.Outcome State Fault Refusal := nextPk s (syncResetNow y n)

/-- SIG_SYNC (R283). -/
def execSigSync (y : Side) (w : Nat) (s : State) : Host.Outcome State Fault Refusal := nextPk s (sigSync y w)

/-- WEIR_FIRE (R287). -/
def execWeirFire (y : Side) (k : Nat) (s : State) : Host.Outcome State Fault Refusal := nextPk s (weirFire y k)

/-- SENTENCE_RECEIVE (R291). -/
def execSentenceReceive (y : Side) (u arrival : Nat) (chars : List Nat) (s : State) : Host.Outcome State Fault Refusal := nextPk s (sentenceReceive y u arrival chars)

/-- DIO_INPUT_CHANGE (R294). -/
def execDioInputChange (y : Side) (n : Nat) (high : Bool) (heldUs : Nat) (s : State) : Host.Outcome State Fault Refusal := nextPk s (dioInputChange y n high heldUs)

/-- PULSE_EDGE (R295). -/
def execPulseEdge (y : Side) (n stamp : Nat) (s : State) : Host.Outcome State Fault Refusal := nextPk s (pulseEdge y n stamp)

/-- FEEDBACK_STALE (R296). -/
def execFeedbackStale (y : Side) (f : Nat) (s : State) : Host.Outcome State Fault Refusal := nextPk s (feedbackStale y f)

/-- DAC_LOAD_MEASURE (R298). -/
def execDacLoadMeasure (y : Side) (o na : Nat) (s : State) : Host.Outcome State Fault Refusal := nextPk s (dacLoadMeasure y o na)

/-- SIG_TEST (R305). -/
def execSigTest (y : Side) (w : Nat) (s : State) : Host.Outcome State Fault Refusal := nextPk s (sigTest y w)

/-- FIRST_STAGE_SAMPLE (R284). -/
def execFirstStageSample (y : Side) (n : Nat) (v : Int) (s : State) : Host.Outcome State Fault Refusal := nextPk s (firstStageSample y n v)

end Sys2Proof.Machine
end

