-- ==== Sys2Proof/Machine/Selection.lean ====
section
/-! DEFINITION. Chapter 06: delivered thrust, availability, and the selections of the lane firmware. -/

namespace Sys2Proof.Machine

/-- Change what the solver of a lane holds. -/
def onSol (x : Side) (f : SolverSt → SolverSt) (p : Pkg) : Pkg := onLane x (fun l => { l with sol := f l.sol }) p

/-- Thrust components a thruster has a step (Table 06-1). -/
def Thruster.dim (t : Thruster) : Nat := if t.kind = 0 then 1 else 2

/-- The thrusters in the order in which the compiler places them (Table 06-1): tunnels, azimuths, main propellers. -/
def placedThrusters (l : List Thruster) : List Nat :=
  (List.range 3).flatMap (fun k => (List.range l.length).filter (fun i => (l[i]?).any (fun t => t.kind == k)))

/-- Thrust components of the thrusters of a list. -/
def dimsOf (l : List Thruster) (is : List Nat) : Nat := (is.filterMap (fun i => l[i]?)).foldl (fun a t => a + t.dim) 0

/-- Place of a thruster's first component inside the block of a step. -/
def thrOff (l : List Thruster) (i : Nat) : Nat := dimsOf l ((placedThrusters l).takeWhile (fun k => k != i))

/-- Sections of a layout's switchboard. -/
def sectionsOf (p : Pkg) (x : Side) : Nat := rd p x.helm ASM_STATUS.SECTIONS

/-- A thruster of the layout has a forbidden sector: the step has a sector slack (Table 06-1). -/
def hasSector (l : List Thruster) : Bool := l.any (fun t => t.sector.isSome)

/-- Variables of the thrust part of a step. -/
def thrWidth (l : List Thruster) : Nat := dimsOf l (List.range l.length)

/-- Variables of a step (Table 06-1). -/
def blockWidth (p : Pkg) (x : Side) : Nat :=
  let l := (p.layouts.get x).thrusters
  thrWidth l + sectionsOf p x + b2n (hasSector l) + 6

/-- Components (F_x, F_y) of a thruster at step `k` of a vector of variables. -/
def stepThrust (p : Pkg) (x : Side) (v : List Nat) (k i : Nat) : Nat × Nat :=
  let l := (p.layouts.get x).thrusters
  let b := k * blockWidth p x + thrOff l i
  match l[i]? with
  | some t => if t.kind = 0 then (0, vget v b) else (vget v b, vget v (b + 1))
  | none => (0, 0)

/-- Components of a thruster in a list of two a thruster. -/
def compAt (c : List Nat) (i : Nat) : Nat × Nat := (vget c (2 * i), vget c (2 * i + 1))

/-- Magnitude of a pair of components. -/
def magn (f : Nat × Nat) : Nat := fsqrt (fadd (fmul f.1 f.1) (fmul f.2 f.2))

/-- Direction of a pair of components, degrees clockwise from vessel x in [0, 360). -/
def course (f : Nat × Nat) : Nat := wrap360 (toDeg (Config.fatan2 f.2 f.1))

/-- Vessel force T f of the components of the thrusters (chapter 06). -/
def vesselForce (l : List Thruster) (c : List Nat) : List Nat :=
  (List.range l.length).foldl (fun acc i =>
    match l[i]? with
    | some t =>
      let f := compAt c i
      vadd acc [f.1, f.2, fsub (fmul t.x f.2) (fmul t.y f.1)]
    | none => acc) [0, 0, 0]

/-- The feedback of a loop slot as the last tick delivered it, in engineering units (R211, R213). -/
def slotFeedback (p : Pkg) (x : Side) (s : Nat) : Nat :=
  codeValue (rdI p x.helm LOOP_DESC.FS s) (rdSI p x.helm I_LANE.FB (rdI p x.helm LOOP_DESC.FB_INDEX s))

/-- Delivered thrust of a thruster (R176). -/
def measuredThrust (p : Pkg) (x : Side) (t : Thruster) : Nat × Nat :=
  let f := tableAt t.fbTable (slotFeedback p x t.fbSlot)
  let a := slotFeedback p x t.angSlot
  match t.kind with
  | 0 => (0, f)
  | 1 => (fmul f (Config.fcos (toRad a)), fmul f (Config.fsin (toRad a)))
  | _ => (f, if flt f 0 then 0 else fmul f (tableAt t.liftTable a))

/-- Delivered components of every thruster. -/
def measuredAll (p : Pkg) (x : Side) : List Nat :=
  (p.layouts.get x).thrusters.flatMap (fun t => let f := measuredThrust p x t; [f.1, f.2])

/-- The region of each main propeller from its measured F_x (R166, a lane's start): ASTERN below 0. -/
def rudderStart (x : Side) (p : Pkg) : Pkg :=
  let l := (p.layouts.get x).thrusters
  let one (i : Nat) (q : Pkg) : Pkg :=
    match l[i]? with
    | some t =>
      let s := rdI q x.helm ASM_THR.STATE i
      onlyIf (t.kind == 2) (wrI x.helm ASM_THR.STATE i (s / 128 * 128 + s % 64 + 64 * b2n (flt (measuredThrust q x t).1 0))) q
    | none => q
  forAll (List.range l.length) one p

/-- The sum of delivered thrust over the ticks of the frame gains a tick (R176). The first tick of a lane is the first that measures
F_x: it sets the rudder regions of the start (R166). -/
def tauTick (x : Side) (p : Pkg) : Pkg :=
  p |> onlyIf (!(flag p x.helm I_ASM.RUDDER_SET)) (fun q => q |> rudderStart x |> wr x.helm I_ASM.RUDDER_SET 1)
    |> onLane x (fun l => { l with tau := vadd l.tau (vesselForce (p.layouts.get x).thrusters (measuredAll p x)), tauTicks := l.tauTicks + 1 })

/-- An input that TOPOLOGY names, as latched at the last tick: digital inputs of PA from 0 and of PB from 24, weirs of PA from 64 and
of PB from 128; an input whose port die is down or which that die marks stale (a weir's by its analog channel, Table 10-4) counts as
low (R170, R172, R289). -/
def topoInput (p : Pkg) (x : Side) (n : Nat) : Bool :=
  if n < 48 then
    let d := (sideOf (n / 24)).port
    running p d && !(flag p d I_PORT.BANK_LOW) && flagI p d SIG_DIO.LEVEL (n % 24)
  else if n < 64 then false
  else
    let d := (sideOf ((n - 64) / 64)).port
    let ch := rdI p d SIG_WEIR.CHANNEL (n % 64)
    running p d && flagI p d SIG_AIN.EN ch && rdI p d SIG_AIN.FLAGS ch % 4 == 0 && flagI p x.helm I_LANE.WEIR (n - 64)

/-- A loop slot's record. -/
def slotRec (p : Pkg) (x : Side) (i : Nat) : SlotRec := (((p.lanes.get x).slots)[i]?).getD SlotRec.zero

/-- A resource that a slot depends on is retired without a spare: the slot itself, its analog feedback, the controller of its CAN
feedback or output (R170). -/
def slotDead (p : Pkg) (x : Side) (s : Nat) : Bool :=
  let d := x.helm
  let fb := rdI p d LOOP_DESC.FB_INDEX s
  let y := sideOf (fb / 128)
  let f := fb % 128
  let fbDead := rdI p d LOOP_DESC.FB_KIND s == 1 &&
    ((rdI p y.port SIG_FB.SRC f == 1 && flagI p y.port I_PORT.AIN_RETIRED (rdI p y.port SIG_FB.INDEX f)) ||
      (rdI p y.port SIG_FB.SRC f == 5 && flagI p y.port I_CAN.DEAD (rdI p y.port CAN_RXS.PORT (rdI p y.port SIG_FB.FIELD f))))
  let outDead (v : Nat) : Bool :=
    match outRef v with
    | some (z, .can, i) => flagI p z.port I_CAN.DEAD (rdI p z.port CAN_TXM.PORT (rdI p z.port CAN_TXS.MSG i))
    | _ => false
  let a := rdI p d LOOP_DESC.OUT_A s
  let b := rdI p d LOOP_DESC.OUT_B s
  (slotRec p x s).lost || fbDead || (outDead a && (b == 0 || outDead b)) || (a == 0 && outDead b)

/-- The availability bits of a thruster at a boundary (R170, Table 06-8): AVAILABLE and its four reasons against. -/
def availBits (p : Pkg) (x : Side) (i : Nat) (t : Thruster) : Nat :=
  let off := !(bit (rd p x.helm ASM_THR_ENABLE.ENABLE) i)
  let low := !(topoInput p x t.ready)
  let pl := t.slots.any (fun s => (slotRec p x s).plaus)
  let ret := t.slots.any (slotDead p x)
  b2n (!(off || low || pl || ret)) + 2 * b2n off + 4 * b2n low + 8 * b2n pl + 16 * b2n ret

/-- A thruster is available. -/
def available (p : Pkg) (x : Side) (i : Nat) : Bool := bit (rdI p x.helm ASM_THR.STATE i) 0

/-- AVAILABILITY (R170): the boundary's evaluation; thrusters whose availability changed are marked (R168). -/
def availability (x : Side) (p : Pkg) : Pkg :=
  let d := x.helm
  let l := (p.layouts.get x).thrusters
  let step (i : Nat) (t : Thruster) (q : Pkg) : Pkg :=
    let b := availBits p x i t
    let old := rdI p d ASM_THR.STATE i
    q |> wrI d ASM_THR.STATE i (old / 32 * 32 + b)
      |> onlyIf (b % 2 != old % 2) (wr d I_ASM.CHANGED (Nat.lor (rd q d I_ASM.CHANGED) (2 ^ i)))
  let q := (List.range l.length).foldl (fun q (i : Nat) => match l[i]? with | some t => step i t q | none => q) (wr d I_ASM.CHANGED 0 p)
  q |> onlyIf (rd q d I_ASM.CHANGED != 0) (raise d clsInfo ASM_EVENT.AVAIL_CHANGED)

/-- Step-0 slack of section `s` in the last result. -/
def slack0 (p : Pkg) (x : Side) (s : Nat) : Nat :=
  vget (p.lanes.get x).sol.result (thrWidth (p.layouts.get x).thrusters + s)

/-- POWER_SHORT and SECTOR_SLACK at a boundary, from the last result (R175). -/
def powerBoundary (x : Side) (p : Pkg) : Pkg :=
  let d := x.helm
  let l := (p.layouts.get x).thrusters
  let n := sectionsOf p x
  let short := (List.range n).any (fun s => flt fone (slack0 p x s))
  let sec := hasSector l && flt 0 (slack0 p x n)
  let was := flag p d ASM_STATUS.POWER_SHORT
  let wasSec := flag p d ASM_STATUS.SECTOR_SLACK
  p |> wr d ASM_STATUS.POWER_SHORT (b2n short) |> wr d ASM_STATUS.SECTOR_SLACK (b2n sec)
    |> onlyIf short (inc d ASM_SHORT_CYCLES.V) |> onlyIf (short && !was) (raise d clsWarning ASM_EVENT.SHORT_SET)
    |> onlyIf (!short && was) (raise d clsInfo ASM_EVENT.SHORT_CLEAR) |> onlyIf (sec && !wasSec) (raise d clsWarning ASM_EVENT.SECTOR_SLACK)
    |> forAll (List.range n) (fun s => wrI d ASM_SEC.SLACK0 s (f64to32 (slack0 p x s)))

/-- The window [lo, hi] of at most 180° that the firmware chooses outside a forbidden sector [a1, a2] (R171). -/
def sectorWindow (a1 a2 theta : Nat) : Nat × Nat :=
  let w := fsub f360 (wrap360 (fsub a2 a1))
  if fle w f180 then (a2, fadd a2 w)
  else
    let d := wrap360 (fsub theta a2)
    let d := if flt w d then (if fle (fsub d w) (fsub f360 d) then w else 0) else d
    let lo := fadd a2 (b64.min (b64.max (fsub d (fint 90)) 0) (fsub w f180))
    (lo, fadd lo f180)

/-- The components the assembly takes as f of step -1 (R167, R168): the command in force, or the measured thrust. -/
def prevCommand (p : Pkg) (x : Side) (fromFb : Bool) : List Nat :=
  let l := (p.layouts.get x).thrusters
  let cmd := (p.lanes.get x).sol.cmd
  (List.range l.length).flatMap (fun i =>
    match l[i]? with
    | some t =>
      let m := measuredThrust p x t
      let c := compAt cmd i
      if fromFb || bit (rd p x.helm I_ASM.CHANGED) i || !(available p x i) then [m.1, m.2] else [c.1, c.2]
    | none => [])

/-- The linearisation point of a thruster at a step (R167, R168): the last result's, or f of step -1. -/
def linPoint (p : Pkg) (x : Side) (fromFb : Bool) (k i : Nat) : Nat × Nat :=
  let s := (p.lanes.get x).sol
  if fromFb || bit (rd p x.helm I_ASM.CHANGED) i || s.result.isEmpty then compAt s.prev i else stepThrust p x s.result k i

/-- The linearisation point lies below 1 % of T_max: its direction is the measured one (R167, R173). -/
def linSmall (p : Pkg) (x : Side) (fromFb : Bool) (k i : Nat) (t : Thruster) : Bool :=
  flt (magn (linPoint p x fromFb k i)) (fmul (frat 1 100) t.rated)

/-- Direction θ of R167 and R171 at step `k`: of the linearisation point, or the measured azimuth where it is below 1 % of T_max. -/
def linCourse (p : Pkg) (x : Side) (fromFb : Bool) (k i : Nat) (t : Thruster) : Nat :=
  if linSmall p x fromFb k i t then wrap360 (slotFeedback p x t.angSlot) else course (linPoint p x fromFb k i)

/-- Unit direction û of R173 at step `k`: of the linearisation point, or where it is below 1 % of rated thrust the measured azimuth's,
a tunnel's 90° (R176) and a main propeller's 0° (DESIGN CHOICE: no azimuth of these two is measured). -/
def linUnit (p : Pkg) (x : Side) (fromFb : Bool) (k i : Nat) (t : Thruster) : Nat × Nat :=
  if linSmall p x fromFb k i t then
    match t.kind with
    | 0 => (0, fone)
    | 1 =>
      let a := toRad (slotFeedback p x t.angSlot)
      (Config.fcos a, Config.fsin a)
    | _ => (fone, 0)
  else
    let f := linPoint p x fromFb k i
    (fdiv f.1 (magn f), fdiv f.2 (magn f))

/-- Slope of a table of points at an argument (P_i′ of R173): of the segment it lies in, at the table's ends of the outer segments; at
an inner point and beyond the ends the spec states no slope, which is a free value. -/
def tableSlope (t : List (Nat × Nat)) (x : Nat) : Nat :=
  let seg (j : Nat) : Nat × Nat × Nat × Nat := let a := t.getD j (0, 0); let b := t.getD (j + 1) (0, 0); (a.1, a.2, b.1, b.2)
  let inside (j : Nat) : Bool :=
    let s := seg j
    let low := flt s.1 x || (j == 0 && fle s.1 x)
    let high := flt x s.2.2.1 || (j + 2 == t.length && fle x s.2.2.1)
    low && high
  match (List.range (t.length - 1)).find? inside with
  | some j => let s := seg j; fdiv (fsub s.2.2.2 s.2.1) (fsub s.2.2.1 s.1)
  | none => Config.slopeOpen t x

/-- The sector of a thruster is active: it has one, and the thruster it depends on, if any, is available (chapter 06). -/
def sectorActive (p : Pkg) (x : Side) (t : Thruster) : Bool :=
  t.sector.isSome && (match t.sectorWhile with | some k => available p x k | none => true)

/-- RUDDER_REGION (R166): the region of a main propeller for this cycle: true ASTERN. It changes when the last result's F_x of step 0
stood at 0 with a multiplier on the row that holds it there. -/
def rudderAstern (p : Pkg) (x : Side) (i : Nat) (t : Thruster) : Bool :=
  let was := bit (rdI p x.helm ASM_THR.STATE i) 6
  let s := (p.lanes.get x).sol
  match s.warm with
  | some it =>
    let fx := (stepThrust p x s.result 0 i).1
    if !s.result.isEmpty && fabs fx == 0 && fabs (vget it.y t.regionRow) != 0 then !was else was
  | none => was

/-- Sections that closed bus-ties join: for each section the lowest of its group (R172). -/
def tieGroups (p : Pkg) (x : Side) : List Nat :=
  (p.layouts.get x).ties.foldl (fun g t =>
    if topoInput p x t.input then
      let a := g.getD t.one 0
      let b := g.getD t.two 0
      g.map (fun k => if k = a ∨ k = b then min a b else k)
    else g) (List.range (sectionsOf p x))

/-- A generator set is online (R172): its breaker is closed, or without a breaker input its power exceeds 2 % of its rated power. -/
def setOnline (p : Pkg) (x : Side) (g : GenSet) : Bool :=
  match g.breaker with
  | some n => topoInput p x n
  | none => flt (fmul (frat 2 100) g.rated) (rdI p x.helm I_CFL.SCALAR g.source)

/-- Electrical power of a thruster at its feedback. -/
def thrPower (p : Pkg) (x : Side) (t : Thruster) : Nat := tableAt t.power (magn (measuredThrust p x t))

/-- CAP, HOTEL and AVAIL of the sections of a list, and the rated power of their online sets (R172). -/
def powerOf (p : Pkg) (x : Side) (secs : List Nat) : Nat × Nat × Nat × Nat :=
  let l := p.layouts.get x
  let on := l.sets.filter (fun g => secs.contains g.sect && setOnline p x g)
  let rated := fsum (on.map (fun g => g.rated))
  let cap := fmul (f32 p x.helm ASM_AVAIL_FRAC.V 0) rated
  let made := fsum (on.map (fun g => rdI p x.helm I_CFL.SCALAR g.source))
  let used := fsum ((l.thrusters.filter (fun t => secs.contains t.sect)).map (thrPower p x))
  let hotel := b64.max (fsub made used) 0
  (cap, hotel, b64.max (fsub cap hotel) 0, rated)

/-- The online sets of a section as bits (Table 06-9). -/
def onlineBits (p : Pkg) (x : Side) (s : Nat) : Nat :=
  let sets := (p.layouts.get x).sets.filter (fun g => g.sect == s)
  (List.range sets.length).foldl (fun a j => match sets[j]? with | some g => a + 2 ^ j * b2n (setOnline p x g) | none => a) 0

/-- The sections of the tie group whose lowest section is `s`. -/
def groupOf (p : Pkg) (x : Side) (s : Nat) : List Nat :=
  let g := tieGroups p x
  (List.range g.length).filter (fun k => g.getD k 0 == s)

/-- CAP, HOTEL, AVAIL and online rated power of the tie group whose lowest section is `s`: R172's figures over the sets and thrusters of
the whole group, as Table 06-7 forms them (DEDUCED). -/
def groupPower (p : Pkg) (x : Side) (s : Nat) : Nat × Nat × Nat × Nat := powerOf p x (groupOf p x s)

/-- A two-sided bound on a F_x + b F_y of one thruster. -/
structure Edge where
  a : Nat
  b : Nat
  lo : Nat
  hi : Nat

/-- The value of an edge at a point. -/
def Edge.at (e : Edge) (f : Nat × Nat) : Nat := fadd (fmul e.a f.1) (fmul e.b f.2)

/-- The bounds widened just enough to contain a point (R169). -/
def Edge.widen (e : Edge) (f : Nat × Nat) : Edge := { e with lo := b64.min e.lo (e.at f), hi := b64.max e.hi (e.at f) }

/-- Widening for a point changes a bound. -/
def Edge.moved (e : Edge) (f : Nat × Nat) : Bool := flt (e.at f) e.lo || flt e.hi (e.at f)

/-- The rows of a thruster's region (chapter 06, thrust region; R166): every bound 0 while it is unavailable (R170). -/
def regionRows (t : Thruster) (avail astern : Bool) : List Edge :=
  let on (v : Nat) : Nat := if avail then v else 0
  let inf := b64.inf true
  match t.kind with
  | 0 => [⟨0, fone, on (fneg t.least), on t.most⟩]
  | 1 =>
    let r := fmul t.rated (Config.fcos (fdiv fpi (fint t.poly)))
    (List.range (t.poly / 2)).map (fun (e : Nat) =>
      let a := fdiv (fmul (fmul ftwo fpi) (fint e)) (fint t.poly)
      ⟨Config.fcos a, Config.fsin a, on (fneg r), on r⟩)
  | _ =>
    if astern then [⟨fone, 0, on (fneg t.least), 0⟩, ⟨0, fone, on inf, 0⟩, ⟨0, fneg fone, on inf, 0⟩]
    else [⟨fone, 0, 0, on t.most⟩, ⟨fneg t.lift, fone, on inf, 0⟩, ⟨fneg t.lift, fneg fone, on inf, 0⟩]

/-- The rows of an active sector with the window [lo, hi] (R171). -/
def sectorRows (lo hi : Nat) : List Edge :=
  let s (a : Nat) := Config.fsin (toRad a)
  let c (a : Nat) := Config.fcos (toRad a)
  [⟨fneg (s lo), c lo, 0, b64.inf false⟩, ⟨s hi, fneg (c hi), 0, b64.inf false⟩]

/-- The point p_k of R169: f of step -1 reduced radially at the rated rate over k + 1 steps. -/
def reachPoint (p : Pkg) (x : Side) (k i : Nat) (t : Thruster) : Nat × Nat :=
  let f := compAt (p.lanes.get x).sol.prev i
  let m := magn f
  let dt := frat (rd p x.helm ASM_HORIZON.STEP_MS) 1000
  let s := if fabs m == 0 then 0 else b64.max 0 (fsub fone (fdiv (fmul (fmul (fint (k + 1)) t.rate) dt) m))
  (fmul f.1 s, fmul f.2 s)

/-- R169 widens a bound of the thruster at some step of the horizon. -/
def reachWidens (p : Pkg) (x : Side) (i : Nat) (t : Thruster) (rows : List Edge) : Bool :=
  (List.range (rd p x.helm ASM_HORIZON.STEPS)).any (fun k => rows.any (fun e => e.moved (reachPoint p x k i t)))

/-- The firmware's selections for one thruster (R166, R169, R171) and its readouts (Table 06-8). -/
def selectThruster (x : Side) (fromFb : Bool) (i : Nat) (t : Thruster) (p : Pkg) : Pkg :=
  let d := x.helm
  let astern := t.kind == 2 && rudderAstern p x i t
  let act := sectorActive p x t
  let w := match t.sector with
    | some (a1, a2) => sectorWindow a1 a2 (linCourse p x fromFb 0 i t)
    | none => (0, 0)
  let rows := regionRows t (available p x i) astern ++ (if act then sectorRows w.1 w.2 else [])
  let wide := reachWidens p x i t rows
  let m := measuredThrust p x t
  p |> wrI d ASM_THR.STATE i (rdI p d ASM_THR.STATE i % 32 + 32 * b2n wide + 64 * b2n astern + 128 * b2n act)
    |> onlyIf act (fun q => q |> wrI d ASM_THR.SEC_LO i (f64to32 w.1) |> wrI d ASM_THR.SEC_HI i (f64to32 w.2))
    |> wrI d ASM_THR.P_EST i (f64to32 (thrPower p x t)) |> wrI d ASM_THR.FB_FX i (f64to32 m.1) |> wrI d ASM_THR.FB_FY i (f64to32 m.2)

/-- The firmware's selections for the switchboard (R172) and its readouts (Table 06-9). -/
def selectPower (x : Side) (p : Pkg) : Pkg :=
  let d := x.helm
  let g := tieGroups p x
  let moved := (List.range g.length).any (fun s => rdI p d ASM_SEC.GROUP s != g.getD s 0)
  forAll (List.range g.length) (fun s q =>
      let f := powerOf p x [s]
      q |> wrI d ASM_SEC.CAP s (f64to32 f.1) |> wrI d ASM_SEC.HOTEL s (f64to32 f.2.1) |> wrI d ASM_SEC.AVAIL s (f64to32 f.2.2.1)
        |> wrI d ASM_SEC.ONLINE s (onlineBits p x s) |> wrI d ASM_SEC.GROUP s (g.getD s 0)) p
    |> onlyIf moved (raise d clsInfo ASM_EVENT.TIE_CHANGED)

/-- The firmware's selections of a cycle, in order: f of step -1, then each thruster, then the switchboard. -/
def asmSelect (x : Side) (p : Pkg) : Pkg :=
  let d := x.helm
  let l := (p.layouts.get x).thrusters
  let fromFb := flag p d I_SOL.FROM_FB
  let p := onSol x (fun s => { s with prev := prevCommand p x fromFb }) p
  let p := (List.range l.length).foldl (fun q (i : Nat) => match l[i]? with | some t => selectThruster x fromFb i t q | none => q) p
  let wide := (List.range l.length).any (fun i => bit (rdI p d ASM_THR.STATE i) 5)
  let was := flag p d ASM_STATUS.REACH_WIDENED
  p |> selectPower x |> wr d ASM_STATUS.FROM_FEEDBACK (b2n (fromFb || rd p d I_ASM.CHANGED != 0))
    |> wr d I_SOL.FROM_FB 0 |> wr d ASM_STATUS.REACH_WIDENED (b2n wide)
    |> onlyIf (wide && !was) (raise d clsInfo ASM_EVENT.REACH_WIDENED)

end Sys2Proof.Machine
end

