-- ==== Sys2Proof/Machine/Problem.lean ====
section
/-! DEFINITION. Chapter 06: the problem of a cycle as R160 to R174 state it: its variables, its cost, its rows in the order of Table
06-3, each value in binary64 in the order in which the rule writes it. -/

namespace Sys2Proof.Machine

/-- A variable of a step (Table 06-1): F_x or, `lateral`, F_y of a thruster, a section's power slack, the sector slack, a state. -/
inductive Var where
  | thrust (i : Nat) (lateral : Bool)
  | slack (s : Nat)
  | sector
  | state (j : Nat)
  deriving DecidableEq, Repr

/-- The thrust components a thruster has. -/
def Thruster.vars (t : Thruster) (i : Nat) : List Var := if t.kind = 0 then [.thrust i true] else [.thrust i false, .thrust i true]

/-- The thrust variables of a step in the compiler's order. -/
def thrustVars (l : List Thruster) : List Var :=
  (placedThrusters l).flatMap (fun i => match l[i]? with | some t => t.vars i | none => [])

/-- The variables of a step in the order of Table 06-1. -/
def stepVars (p : Pkg) (x : Side) : List Var :=
  let l := (p.layouts.get x).thrusters
  thrustVars l ++ (List.range (sectionsOf p x)).map .slack ++ (if hasSector l then [.sector] else []) ++ (List.range 6).map .state

/-- Column of a variable of step `k`; the state of step k is x_{k+1}. -/
def column (p : Pkg) (x : Side) (k : Nat) (v : Var) : Nat := k * blockWidth p x + (stepVars p x).idxOf v

/-- What a thrust component adds to (X, Y, N): a column of T (chapter 06). -/
def thrustColumn (l : List Thruster) : Var → List Nat
  | .thrust i lateral =>
    match l[i]? with
    | some t => if lateral then [0, fone, t.x] else [fone, 0, fneg t.y]
    | none => [0, 0, 0]
  | _ => [0, 0, 0]

/-- Δ in s. -/
def stepSec (p : Pkg) (x : Side) : Nat := frat (rd p x.helm ASM_HORIZON.STEP_MS) 1000

/-- The instant at which step `k` begins: the release tick of the cycle and k × Δ (R160). -/
def stepStart (p : Pkg) (x : Side) (k : Nat) : Int :=
  rd p x.helm I_TIME.BOUND_AT + rd p x.helm SOL_CFG.RELEASE_MS * 1000000 + k * (rd p x.helm ASM_HORIZON.STEP_MS * 1000000 : Int)

/-- x_0 (R163): the state of the boundary frame after two Heun sub-steps to the release tick under the bias, the wind force of the frame
and the vessel force of the commands in force; with a heading axis its heading moved to within π of ψ_ref there. -/
def startState (p : Pkg) (x : Side) : List Nat :=
  let lane := p.lanes.get x
  let lay := p.layouts.get x
  let m := estModel lay (frameSet p x)
  let tau := vadd (vesselForce lay.thrusters lane.sol.cmd) lane.wind
  let h := frat (rd p x.helm SOL_CFG.RELEASE_MS) 2000
  let f := heun (estDeriv m lane.est.omega tau) h
  let s := (f (f lane.est.x)).take 6
  if hasH (modeOf p x) then s.set 2 (nearAngle (lane.ramp.h.eval (stepStart p x 0)).p (vget s 2)) else s

/-- The reference (n, e, ψ, u, v, r) of step `k` (R164). Without a heading axis the heading is that of x_0; without position axes the
velocity is that of x_0. -/
def stepRef (p : Pkg) (x : Side) (x0 : List Nat) (k : Nat) : List Nat :=
  let t := stepStart p x k
  let m := modeOf p x
  let h := (p.lanes.get x).ramp.h.eval t
  let psi := if hasH m then h.p else vget x0 2
  let turn := if hasH m then h.v else vget x0 5
  if hasLC m then
    let r := refPoint p x t
    let c := Config.fcos psi
    let s := Config.fsin psi
    [vget r 0, vget r 1, psi, fadd (fmul c (vget r 2)) (fmul s (vget r 3)), fsub (fmul c (vget r 3)) (fmul s (vget r 2)), turn]
  else [vget x0 0, vget x0 1, psi, vget x0 3, vget x0 4, turn]

/-- The linear dynamics of a step (R165): Φ, Γ and Γ w. -/
structure StepLin where
  phi : List (List Nat)
  gam : List (List Nat)
  load : List Nat

/-- The dynamics linearised at the reference of a step (R165); the remainder of the linearisation, f(r) − F r, enters the state
equations through I Δ + F Δ² / 2. -/
def stepLin (p : Pkg) (x : Side) (ref : List Nat) : StepLin :=
  let lane := p.lanes.get x
  let m := estModel (p.layouts.get x) (frameSet p x)
  let dl := stepSec p x
  let s := ref ++ List.replicate 18 0
  let f := mgen 6 6 (mget (estJacobian m lane.est.omega s))
  let half := fmul (fmul dl dl) fhalf
  let int := madd (mscale dl (mone 6)) (mscale half f)
  let g := List.replicate 3 [0, 0, 0] ++ m.minv
  let gam := mmul 3 int g
  let rest := vsub ((estDeriv m lane.est.omega [0, 0, 0] s).take 6) (mvec f ref)
  let force := vadd (biasBody (ref ++ (lane.est.x.drop 6).take 3)) lane.wind
  { phi := madd (madd (mone 6) (mscale dl f)) (mscale half (mmul 6 f f)), gam := gam, load := vadd (mvec gam force) (mvec int rest) }

/-- A row of A with its bounds (R160). -/
structure ProbRow where
  coefs : List (Nat × Nat)
  lo : Nat
  hi : Nat

/-- Six dynamics rows of step `k` (R165). -/
def dynamicsRows (p : Pkg) (x : Side) (x0 : List Nat) (k : Nat) : List ProbRow :=
  let l := (p.layouts.get x).thrusters
  let lin := stepLin p x (stepRef p x x0 k)
  (List.range 6).map (fun j =>
    let past := if k = 0 then [] else (List.range 6).map (fun i => (column p x (k - 1) (.state i), fneg (mget lin.phi j i)))
    let own := (thrustVars l).map (fun v => (column p x k v, fneg (vdot (lin.gam.getD j []) (thrustColumn l v))))
    let rhs := if k = 0 then fadd (vget lin.load j) (vdot (lin.phi.getD j []) x0) else vget lin.load j
    ⟨(column p x k (.state j), fone) :: past ++ own, rhs, rhs⟩)

/-- The coefficients a F_x + b F_y of a thruster at step `k`. -/
def edgeCoefs (p : Pkg) (x : Side) (k i : Nat) (t : Thruster) (a b : Nat) : List (Nat × Nat) :=
  if t.kind = 0 then [(column p x k (.thrust i true), b)] else [(column p x k (.thrust i false), a), (column p x k (.thrust i true), b)]

/-- Region rows of a thruster at step `k` with R169's widening (R166, R170). -/
def regionProbRows (p : Pkg) (x : Side) (k i : Nat) (t : Thruster) : List ProbRow :=
  let pt := reachPoint p x k i t
  (regionRows t (available p x i) (bit (rdI p x.helm ASM_THR.STATE i) 6)).map (fun e =>
    let w := e.widen pt
    ⟨edgeCoefs p x k i t e.a e.b, w.lo, w.hi⟩)

/-- The limits on the change of a thruster's command in a step (R167). -/
def rateEdges (p : Pkg) (x : Side) (fromFb : Bool) (k i : Nat) (t : Thruster) : List Edge :=
  let dl := stepSec p x
  let r := fmul t.rate dl
  let both (a b lim : Nat) : Edge := ⟨a, b, fneg lim, lim⟩
  match t.kind with
  | 0 => [both 0 fone r]
  | 1 =>
    let th := toRad (linCourse p x fromFb k i t)
    let c := Config.fcos th
    let s := Config.fsin th
    let tan := fmul (fmul (toRad t.azRate) dl) (b64.max (magn (linPoint p x fromFb k i)) (fmul (frat 5 100) t.rated))
    let root := fsqrt ftwo
    let diag := fdiv (fadd r tan) root
    [both c s r, both (fneg s) c tan, both (fdiv (fsub c s) root) (fdiv (fadd s c) root) diag,
      both (fdiv (fadd c s) root) (fdiv (fsub s c) root) diag]
  | _ => [both fone 0 r]

/-- Rate rows of a thruster at step `k` (R167): on f_k − f_{k−1}, f_{−1} in the bounds of step 0. -/
def rateProbRows (p : Pkg) (x : Side) (fromFb : Bool) (k i : Nat) (t : Thruster) : List ProbRow :=
  let pr := compAt (p.lanes.get x).sol.prev i
  (rateEdges p x fromFb k i t).map (fun e =>
    let at0 := fadd (fmul e.a pr.1) (fmul e.b pr.2)
    if k = 0 then ⟨edgeCoefs p x 0 i t e.a e.b, fadd e.lo at0, fadd e.hi at0⟩
    else ⟨edgeCoefs p x k i t e.a e.b ++ edgeCoefs p x (k - 1) i t (fneg e.a) (fneg e.b), e.lo, e.hi⟩)

/-- Sector rows of an azimuth at step `k` with R169's widening (R171); an inactive sector has 0 on both thrust components. -/
def sectorProbRows (p : Pkg) (x : Side) (fromFb : Bool) (k i : Nat) (t : Thruster) : List ProbRow :=
  match t.sector with
  | some (a1, a2) =>
    let w := sectorWindow a1 a2 (linCourse p x fromFb 0 i t)
    let act := sectorActive p x t
    let pt := reachPoint p x k i t
    (sectorRows w.1 w.2).map (fun e =>
      let e := if act then e else { e with a := 0, b := 0 }
      let u := e.widen pt
      ⟨edgeCoefs p x k i t e.a e.b ++ [(column p x k .sector, fone)], u.lo, u.hi⟩)
  | none => []

/-- g_i of a thruster at step `k` and P_i − P_i′ |f̄| there (R173). -/
def powerLin (p : Pkg) (x : Side) (fromFb : Bool) (k i : Nat) (t : Thruster) : (Nat × Nat) × Nat :=
  let f := linPoint p x fromFb k i
  let m := magn f
  let u := linUnit p x fromFb k i t
  let sl := tableSlope t.power m
  ((fmul sl u.1, fmul sl u.2), fsub (tableAt t.power m) (fmul sl m))

/-- The thrusters of a section's group, by number, when the section is the group's lowest (R172). -/
def groupThrusters (p : Pkg) (x : Side) (s : Nat) : List (Nat × Thruster) :=
  let l := (p.layouts.get x).thrusters
  let g := tieGroups p x
  if g.getD s 0 = s then
    (placedThrusters l).filterMap (fun i => match l[i]? with | some t => if g.getD t.sect 0 = s then some (i, t) else none | none => none)
  else []

/-- The power row of a section at step `k` (R172, R173): that of a group's other section binds nothing. -/
def powerProbRow (p : Pkg) (x : Side) (fromFb : Bool) (k s : Nat) : ProbRow :=
  let ts := groupThrusters p x s
  let lin (e : Nat × Thruster) := powerLin p x fromFb k e.1 e.2
  let co := ts.flatMap (fun e => edgeCoefs p x k e.1 e.2 (lin e).1.1 (lin e).1.2)
  let hi := if (tieGroups p x).getD s 0 = s then fsub (groupPower p x s).2.2.1 (fsum (ts.map (fun e => (lin e).2))) else b64.inf false
  ⟨co ++ [(column p x k (.slack s), fneg fone)], b64.inf true, hi⟩

/-- The load-acceptance row of a section at step `k` (R174). -/
def loadProbRow (p : Pkg) (x : Side) (fromFb : Bool) (k s : Nat) : ProbRow :=
  let ts := groupThrusters p x s
  let g (e : Nat × Thruster) := (powerLin p x fromFb k e.1 e.2).1
  let own := ts.flatMap (fun e => edgeCoefs p x k e.1 e.2 (g e).1 (g e).2)
  let past := ts.flatMap (fun e => edgeCoefs p x (k - 1) e.1 e.2 (fneg (g e).1) (fneg (g e).2))
  let at0 := fsum (ts.map (fun e => let f := compAt (p.lanes.get x).sol.prev e.1; fadd (fmul (g e).1 f.1) (fmul (g e).2 f.2)))
  let lim := fmul (fmul (f32 p x.helm ASM_LOAD_RATE.V 0) (stepSec p x)) (groupPower p x s).2.2.2
  let hi := if (tieGroups p x).getD s 0 = s then lim else b64.inf false
  if k = 0 then ⟨own, b64.inf true, fadd hi at0⟩ else ⟨own ++ past, b64.inf true, hi⟩

/-- The rows of step `k` in the order of Table 06-3; load-acceptance rows follow the power rows of the first LOAD_STEPS steps. -/
def stepRows (p : Pkg) (x : Side) (fromFb : Bool) (x0 : List Nat) (k : Nat) : List ProbRow :=
  let l := (p.layouts.get x).thrusters
  let each (f : Nat → Thruster → List ProbRow) : List ProbRow :=
    (placedThrusters l).flatMap (fun i => match l[i]? with | some t => f i t | none => [])
  let secs := List.range (sectionsOf p x)
  let bound (v : Var) : ProbRow := ⟨[(column p x k v, fone)], 0, b64.inf false⟩
  dynamicsRows p x x0 k ++ each (regionProbRows p x k) ++ each (rateProbRows p x fromFb k) ++ each (sectorProbRows p x fromFb k)
    ++ secs.map (powerProbRow p x fromFb k)
    ++ (if k < rd p x.helm ASM_HORIZON.LOAD_STEPS then secs.map (loadProbRow p x fromFb k) else [])
    ++ secs.map (fun s => bound (.slack s)) ++ (if hasSector l then [bound .sector] else [])

/-- Every row of the problem, in row order. -/
def problemRows (p : Pkg) (x : Side) (fromFb : Bool) : List ProbRow :=
  let x0 := startState p x
  (List.range (rd p x.helm ASM_HORIZON.STEPS)).flatMap (stepRows p x fromFb x0)

/-- Weights of the current mode (Table 06-2): Q of the six states, Q of the joystick's three axes. -/
def modeWeights (p : Pkg) (x : Side) : List Nat :=
  let d := x.helm
  let m := modeOf p x
  let on (c : Bool) (F : Fld) : Nat := if c then f32 p d F 0 else 0
  let pos := hasLC m
  [on pos ASM_Q_N.V, on pos ASM_Q_E.V, on (m != 2) ASM_Q_PSI.V, on pos ASM_Q_U.V, on pos ASM_Q_V.V, on (m != 2) ASM_Q_R.V,
    on (m == 2 || m == 3) ASM_QT_X.V, on (m == 2 || m == 3) ASM_QT_Y.V, on (m == 2) ASM_QT_N.V]

/-- Q_k of a state at step `k` of 1 to N (the cost of R161). -/
def stateWeight (p : Pkg) (x : Side) (k j : Nat) : Nat :=
  let q := vget (modeWeights p x) j
  if k = rd p x.helm ASM_HORIZON.STEPS then fmul q (f32 p x.helm ASM_QN_SCALE.V 0) else q

/-- aᵀ Q_τ b for two lists of three. -/
def tauWeighted (p : Pkg) (x : Side) (a b : List Nat) : Nat :=
  fsum ((List.range 3).map (fun i => fmul (vget (modeWeights p x) (6 + i)) (fmul (vget a i) (vget b i))))

/-- The coefficient of P between two variables of the steps `k` and `j`, `k` ≤ `j` (the cost of R161; P is twice the quadratic form). -/
def costQuad (p : Pkg) (x : Side) (k j : Nat) (a b : Var) : Nat :=
  let d := x.helm
  let l := (p.layouts.get x).thrusters
  let two (v : Nat) := fmul ftwo v
  match a, b with
  | .thrust i _, .thrust _ _ =>
    let wr := f32 p d ASM_THR.W_RATE i
    if k = j then
      let own := if a = b then
          fadd (fadd (two (f32 p d ASM_THR.W_THR i)) (two wr)) (if k + 1 < rd p d ASM_HORIZON.STEPS then two wr else 0)
        else 0
      fadd own (two (tauWeighted p x (thrustColumn l a) (thrustColumn l b)))
    else if j = k + 1 ∧ a = b then fneg (two wr) else 0
  | .slack s, .slack u => if k = j ∧ s = u then two (f32 p d ASM_RHO_QUAD.V 0) else 0
  | .state i, .state e => if k = j ∧ i = e then two (stateWeight p x (k + 1) i) else 0
  | _, _ => 0

/-- The coefficient of q of a variable of step `k` (the cost of R161). -/
def costLin (p : Pkg) (x : Side) (x0 : List Nat) (k : Nat) (v : Var) : Nat :=
  let d := x.helm
  let l := (p.layouts.get x).thrusters
  let less (v : Nat) := fsub 0 (fmul ftwo v)
  match v with
  | .thrust i lateral =>
    let f := compAt (p.lanes.get x).sol.prev i
    let joy := less (tauWeighted p x (thrustColumn l v) (p.lanes.get x).joy)
    if k = 0 then fadd joy (less (fmul (f32 p d ASM_THR.W_RATE i) (if lateral then f.2 else f.1))) else joy
  | .slack _ => f32 p d ASM_RHO_LIN.V 0
  | .sector => f32 p d ASM_RHO_SEC.V 0
  | .state j => less (fmul (stateWeight p x (k + 1) j) (vget (stepRef p x x0 (k + 1)) j))

/-- The variable of a column with its step. -/
def varAt (p : Pkg) (x : Side) (c : Nat) : Option (Nat × Var) :=
  let w := blockWidth p x
  ((stepVars p x)[c % w]?).map (fun v => (c / w, v))

/-- The value that the rules give a value slot: of P, q, A, l or u by `arr` 0 to 4, its slot in the layout's structure (R160). -/
def problemValue (p : Pkg) (x : Side) (fromFb : Bool) : Nat → Nat → Nat :=
  let lay := p.layouts.get x
  let x0 := startState p x
  let rows := problemRows p x fromFb
  fun arr k =>
    match arr with
    | 0 => match lay.patternP[k]? with
      | some (r, c) => match varAt p x (min r c), varAt p x (max r c) with
        | some (i, a), some (j, b) => costQuad p x i j a b
        | _, _ => 0
      | none => 0
    | 1 => match varAt p x k with | some (i, v) => costLin p x x0 i v | none => 0
    | 2 => match lay.patternA[k]? with
      | some (r, c) => match rows[r]? with
        | some row => match row.coefs.find? (fun e => e.1 == c) with | some e => e.2 | none => 0
        | none => 0
      | none => 0
    | 3 => match rows[k]? with | some row => row.lo | none => 0
    | _ => match rows[k]? with | some row => row.hi | none => 0

end Sys2Proof.Machine
end

