-- ==== Sys2Proof/Machine/Assembly.lean ====
section
/-! DEFINITION. Chapter 06: the input table, the operations of the assembly program and the status of a run. -/

namespace Sys2Proof.Machine

/-- What the firmware writes to the input table (chapter 06, the assembly stage): the boundary frame's state, bias and wind force, the
vessel force of the commands in force, the ramp evaluations of R154, joystick demand, weights and settings, f of step -1 and the
linearisation points, the feedback, availability, regions, windows, groups and their figures. -/
def asmInputs (p : Pkg) (x : Side) (fromFb : Bool) : List (List Nat) :=
  let d := x.helm
  let lay := p.layouts.get x
  let lane := p.lanes.get x
  let l := lay.thrusters
  let n := rd p d ASM_HORIZON.STEPS
  let g := tieGroups p x
  [lane.est.x, lane.wind, vesselForce l lane.sol.cmd, lane.joy, modeWeights p x,
    [f32 p d ASM_QN_SCALE.V 0, f32 p d ASM_RHO_LIN.V 0, f32 p d ASM_RHO_QUAD.V 0, f32 p d ASM_RHO_SEC.V 0, f32 p d ASM_LOAD_RATE.V 0],
    (List.range l.length).flatMap (fun i => [f32 p d ASM_THR.W_THR i, f32 p d ASM_THR.W_RATE i]),
    lane.sol.prev,
    (List.range n).flatMap (fun k => (List.range l.length).flatMap (fun i =>
      let f := linPoint p x fromFb k i
      [f.1, f.2])),
    (List.range l.length).map (fun i => match l[i]? with | some t => wrap360 (slotFeedback p x t.angSlot) | none => 0),
    measuredAll p x,
    (List.range l.length).map (fun i => fint (rdI p d ASM_THR.STATE i)),
    (List.range l.length).flatMap (fun i => [f32 p d ASM_THR.SEC_LO i, f32 p d ASM_THR.SEC_HI i]),
    g.map (fun (s : Nat) => fint s),
    (List.range g.length).map (fun s => if g.getD s 0 = s then (groupPower p x s).2.2.1 else b64.inf false),
    (List.range g.length).map (fun s => (groupPower p x s).2.2.2),
    (List.range (n + 1)).flatMap (fun (k : Nat) =>
      let h := lane.ramp.h.eval (stepStart p x k)
      refPoint p x (stepStart p x k) ++ [h.p, h.v])]

/-- The assembly stage in the course of a run: scratch, BANK and STRIDE, the value slots, the written flags of the five arrays, the
failing store, and the value that the rules give each slot of (array, slot) when the layout is the layout compiler's. -/
structure AsmRun where
  s : Cells
  bank : Nat
  stride : Int
  vals : List Cells
  wrote : List Cells
  fail : Option (Nat × Nat)
  rule : Option (Nat → Nat → Nat)

/-- Read an operand address (R179). -/
def AsmRun.read (m : AsmRun) (inp con : List Nat) (a : Int) : Nat :=
  let k := (a % 65536).toNat
  if k < 0x1000 then vget inp k else if k < 0x3000 then cellsGet m.s (k - 0x1000) else vget con (k - 0x3000)

/-- Write an operand address: arithmetic operations write to the scratch only (R179). -/
def AsmRun.put (m : AsmRun) (a : Int) (v : Nat) : AsmRun :=
  let k := (a % 65536).toNat
  if 0x1000 ≤ k ∧ k < 0x3000 then { m with s := cellsPut m.s (k - 0x1000) v } else m

/-- TAB: the piecewise-linear table at a constant address (count, x₀, step, values); beyond its ends the value is open. -/
def asmTab (con : List Nat) (b : Int) (a : Nat) : Nat :=
  let o := (b % 65536).toNat - 0x3000
  let n := (b64.toInt (vget con o)).toNat
  let v (j : Nat) := vget con (o + 3 + j)
  let f := fdiv (fsub a (vget con (o + 1))) (vget con (o + 2))
  if flt f 0 || flt (fint ((n : Int) - 1)) f then Config.tableBeyond ((List.range n).map (fun j => (j, v j))) a
  else
    let j := (b64.floor f).toNat
    if j + 1 = n then v j else fadd (v j) (fmul (fsub (v (j + 1)) (v j)) (fsub f (fint j)))

/-- A store to a value slot (R182): a non-finite P, q or A, or a NaN bound, is the failing store. The program of a compiled layout
stores what R160 to R174 give the slot, in the rounding order of Problem.lean (DESIGN CHOICE: the order and the polynomials inside
the program are the compiler's); another program stores what it computes. -/
def AsmRun.store (m : AsmRun) (arr : Nat) (i : Int) (v : Nat) : AsmRun :=
  let k := m.bank * 65536 + (i % 65536).toNat
  let v := match m.rule with | some f => f arr k | none => v
  if (arr < 3 ∧ !(b64.finite v)) ∨ (3 ≤ arr ∧ b64.isNan v) then { m with fail := some (arr, k) }
  else { m with vals := m.vals.set arr (cellsPut (m.vals.getD arr []) k v), wrote := m.wrote.set arr (cellsPut (m.wrote.getD arr []) k 1) }

/-- Element `i` of an operation (Table 06-5). -/
def asmElem (inp con : List Nat) (op : Nat) (d a b : Int) (m : AsmRun) : AsmRun :=
  let ra := m.read inp con a
  let rb := m.read inp con b
  let rdv := m.read inp con d
  let nan2 := b64.isNan ra || b64.isNan rb
  match op with
  | 0x01 => m.put d ra
  | 0x02 => m.put d (fadd ra rb)
  | 0x03 => m.put d (fsub ra rb)
  | 0x04 => m.put d (fmul ra rb)
  | 0x05 => m.put d (b64.fma ra rb rdv)
  | 0x06 => m.put d (fdiv ra rb)
  | 0x07 => m.put d (fsqrt ra)
  | 0x08 => m.put d (if nan2 then b64.nan else b64.min ra rb)
  | 0x09 => m.put d (if nan2 then b64.nan else b64.max ra rb)
  | 0x0A => m.put d (fabs ra)
  | 0x0B => m.put d (fneg ra)
  | 0x0C => m.put d (b64.rint ra)
  | 0x0D => if fle 0 rb then m.put d ra else m
  | 0x0E => m.put d (asmTab con b ra)
  | 0x20 => m.store 0 d ra
  | 0x21 => m.store 1 d ra
  | 0x22 => m.store 2 d ra
  | 0x23 => m.store 3 d ra
  | 0x24 => m.store 4 d ra
  | _ => m

/-- A stride field (Table 06-4); the reserved code is open. -/
def AsmRun.strideOf (m : AsmRun) : Nat → Int
  | 0 => 0
  | 1 => 1
  | 2 => m.stride
  | _ => Config.reservedStride

/-- One operation word (Table 06-4). -/
def asmWord (inp con : List Nat) (w : Nat) (m : AsmRun) : AsmRun :=
  let op := bitsAt w 58 6
  let d := bitsAt w 36 16
  match op with
  | 0x10 => { m with bank := d % 256 }
  | 0x11 => { m with stride := toSigned 16 d }
  | _ =>
    (List.range (bitsAt w 52 6 + 1)).foldl (fun m (i : Nat) =>
      if m.fail.isSome then m
      else asmElem inp con op (d + i) (bitsAt w 20 16 + i * m.strideOf (bitsAt w 2 2)) (bitsAt w 4 16 + i * m.strideOf (bitsAt w 0 2)) m) m

/-- A program runs to END or to its first failing store (R182). -/
def asmExec (inp con : List Nat) : List Nat → AsmRun → AsmRun
  | [], m => m
  | w :: r, m => if m.fail.isSome ∨ bitsAt w 58 6 = 0 then m else asmExec inp con r (asmWord inp con w m)

/-- The status of a run and the slot or row concerned (R182): 0 ASM_OK, 2 ASM_NONFINITE, 3 ASM_BOUND_CROSSED, 4 ASM_UNWRITTEN. -/
def asmStatus (nP n nA m : Nat) (r : AsmRun) : Nat × Option (Nat × Nat) :=
  match r.fail with
  | some f => (2, some f)
  | none =>
    let gap (arr size : Nat) : Option (Nat × Nat) :=
      ((List.range size).find? (fun k => cellsGet (r.wrote.getD arr []) k == 0)).map (fun k => (arr, k))
    match [gap 0 nP, gap 1 n, gap 2 nA, gap 3 m, gap 4 m].findSome? id with
    | some f => (4, some f)
    | none =>
      match (List.range m).find? (fun k => flt (cellsGet (r.vals.getD 4 []) k) (cellsGet (r.vals.getD 3 []) k)) with
      | some k => (3, some (Config.crossedArray k, k))
      | none => (0, none)

/-- ASSEMBLY_RUN (R162, R179 to R183): in modes 2 to 6 the selections and the program; in STANDBY and MANUAL nothing but the report. -/
def assemblyRun (x : Side) (p : Pkg) : Pkg :=
  let d := x.helm
  if !(running p d) || laneState p x < 2 || !(flag p d I_LANE.LAYOUT_APPLIED) then p
  else if modeOf p x < 2 then wr d ASM_STATUS.RESULT 1 p
  else
    let fromFb := flag p d I_SOL.FROM_FB
    let p := asmSelect x (inc d ASM_RUNS.V p)
    let lay := p.layouts.get x
    let s := (p.lanes.get x).sol
    let inp := Config.inputTable (asmInputs p x fromFb)
    let m := asmExec inp lay.constants lay.program
      ⟨s.scratch, rd p d I_ASM.BANK, rdS p d I_ASM.STRIDE, [s.p, s.q, s.a, s.l, s.u], [[], [], [], [], []], none, if lay.compiled then some (problemValue p x fromFb) else none⟩
    let v (k : Nat) : Cells := m.vals.getD k []
    let st := asmStatus lay.patternP.length (rd p d ASM_SIZE.NVARS) lay.patternA.length (rd p d ASM_SIZE.NROWS) m
    let p := onSol x (fun s => { s with scratch := m.s, p := v 0, q := v 1, a := v 2, l := v 3, u := v 4 }) p
    let p := p |> wr d I_ASM.BANK m.bank |> wrSI d I_ASM.STRIDE 0 m.stride |> wr d ASM_STATUS.RESULT st.1
    match st.2 with
    | some f => p |> wr d ASM_FAIL.ARRAY f.1 |> wr d ASM_FAIL.INDEX f.2 |> inc d ASM_FAILS.V |> raise d clsWarning ASM_EVENT.ASM_FAIL
    | none => p

/-! The commands of the table: one meaning each. -/

/-- ASSEMBLY_RUN (R182). -/
def execAssemblyRun (x : Side) (s : State) : Host.Outcome State Fault Refusal := nextPk s (assemblyRun x)

end Sys2Proof.Machine
end

