-- ==== Sys2Proof/Machine/Furrow.lean ====
section
/-! DEFINITION. Chapter 07: the furrow schedule. The words of Tables 07-4 and 07-5 over the fronts of the supernodes, the staging areas
of the physical engines, and the vectors of a solve, each in schedule order (R204). Inside a dense block, inside a row of K₀ and inside
a sum of NORM the spec fixes no order: they run in ascending position with one rounding a multiply-add (DESIGN CHOICE, log entry 54). -/

namespace Sys2Proof.Machine

/-- The settings of a run. -/
structure SolSet where
  iterMax : Nat
  refine : Nat
  epsP : Nat
  epsD : Nat
  epsGap : Nat
  deltaP : Nat
  deltaD : Nat
  pivMin : Nat
  pivRepl : Nat
  tau : Nat
  push : Nat

/-- The settings in force in a helm. -/
def solSet (p : Pkg) (x : Side) : SolSet :=
  let g (F : Fld) : Nat := f32 p x.helm F 0
  ⟨rd p x.helm SOL_ITER.ITER_MAX, rd p x.helm SOL_REFINE.REFINE_BASE, g SOL_EPS_P.V, g SOL_EPS_D.V, g SOL_EPS_GAP.V, g SOL_DELTA_P.V,
    g SOL_DELTA_D.V, g SOL_PIV_MIN.V, g SOL_PIV_REPL.V, g SOL_TAU.V, g SOL_WS_PUSH.V⟩

/-- Every value of a list is finite. -/
def allFinite (l : List Nat) : Bool := l.all b64.finite

/-! The schedule of a layout. -/

/-- OP of a furrow word. -/
def furrowOp (w : Nat) : Nat := bitsAt w 58 6

/-- The words of phase F: GATHER to REDUCE, up to the first word of a solve. -/
def factorWords (l : List Nat) : List Nat := (l.takeWhile (fun w => furrowOp w != 6)).filter (fun w => decide (1 ≤ furrowOp w) && decide (furrowOp w ≤ 5))

/-- The words of one kind of pass over the supernodes, each supernode once an operation: the solves and refinements of a run are passes
of one shape. -/
def passWords (ops : List Nat) (l : List Nat) : List Nat :=
  (l.filter (fun w => ops.contains (furrowOp w))).foldl (fun acc w =>
    if acc.any (fun u => furrowOp u == furrowOp w && bitsAt u 42 12 == bitsAt w 42 12) then acc else acc ++ [w]) []

/-- What holds a pass of words: the operations left until the place at which it is to stop, if there is one, and how it stopped: 0 not,
1 at a flag (R190), 2 at that place. -/
structure Gate where
  left : Option Nat
  stop : Nat
  deriving DecidableEq, Repr

/-- Raise a flag. -/
def Gate.flagIf (g : Gate) (b : Bool) : Gate := if g.stop = 0 ∧ b then { g with stop := 1 } else g

/-- A flag for a value that is not finite. -/
def Gate.check (g : Gate) (l : List Nat) : Gate := g.flagIf (!(allFinite l))

/-- Run the words of a pass in order; a flag or the stopping place ends it at an operation boundary (R190, R195). -/
def sweep {α : Type} (f : Nat → α → α) (fin : α → Bool) : List Nat → α → Gate → α × Gate
  | [], v, g => (v, if g.stop = 0 ∧ g.left = some 0 then { g with stop := 2 } else g)
  | w :: r, v, g =>
    if g.stop ≠ 0 then (v, g)
    else if g.left = some 0 then (v, { g with stop := 2 })
    else sweep f fin r (f w v) (Gate.flagIf { g with left := g.left.map (· - 1) } (!(fin (f w v))))

/-! Phase F. -/

/-- A factored diagonal block: the pivots with the columns of L below them, pivots replaced, and a flag. -/
structure Ldl where
  cols : List (Nat × List Nat)
  replaced : Nat
  bad : Bool

/-- Dense LDLᵀ of a block with the pivot rule of R188; `signs` gives each position's block (true primal) and block scale. -/
def ldl (c : SolSet) : List (Bool × Nat) → List (List Nat) → Ldl
  | [], _ => ⟨[], 0, false⟩
  | _ :: _, [] => ⟨[], 0, false⟩
  | (primal, scale) :: ps, r0 :: rest =>
    let d := vget r0 0
    if !(b64.finite d) then ⟨[], 0, true⟩
    else
      let wrong := flt (fabs d) (fmul c.pivMin scale) || !(if primal then flt 0 d else flt d 0)
      let piv := if wrong then (if primal then c.pivRepl else fneg c.pivRepl) else d
      let col := rest.map (fun r => vget r 0)
      let lcol := col.map (fun v => fdiv v piv)
      let below := List.zipWith (fun r li => List.zipWith (fun v cj => b64.fma (fneg li) cj v) r.tail col) rest lcol
      let f := ldl c ps below
      ⟨(piv, lcol) :: f.cols, f.replaced + b2n wrong, f.bad || !(allFinite lcol)⟩

/-- The front of a supernode: a row for each of its columns and of its rows, a column for each of its columns; and its pivots. -/
structure Front where
  m : List (List Nat)
  piv : List Nat

/-- Phase F in progress: the fronts, the staged contributions as (physical engine, target, values in the target's shape), the pivots
replaced, and a flag. -/
structure Furrow where
  fronts : List Front
  staged : List (Nat × Nat × List (List Nat))
  replaced : Nat
  bad : Bool

/-- What phase F works on: the supernodes, the physical engine of each logical one, the regularised matrix by position, and the block
and block scale of each position. -/
structure FactorIn where
  set : SolSet
  sns : List Supernode
  phys : List Nat
  mat : List (List Nat)
  signs : List (Bool × Nat)

/-- A supernode of the layout. -/
def FactorIn.sn (k : FactorIn) (i : Nat) : Supernode := k.sns.getD i ⟨[], []⟩

/-- The rows of a supernode's front, as positions. -/
def Supernode.front (s : Supernode) : List Nat := s.cols ++ s.rows

/-- The front of a supernode. -/
def Furrow.at (f : Furrow) (i : Nat) : Front := f.fronts.getD i ⟨[], []⟩

/-- Replace a front; a value that is not finite is a flag. -/
def Furrow.put (f : Furrow) (i : Nat) (fr : Front) : Furrow := { f with fronts := f.fronts.set i fr, bad := f.bad || !(fr.m.all allFinite) }

/-- The rows of a factored diagonal block: L with ones on its diagonal. -/
def ldlRows (cols : List (Nat × List Nat)) : List (List Nat) :=
  mgen cols.length cols.length (fun i j => if j < i then vget (cols.getD j (0, [])).2 (i - j - 1) else if i = j then fone else 0)

/-- A row below a factored block solved against it: l D Lᵀ = a, in ascending columns. -/
def panelRow (blk : List (List Nat)) (piv a : List Nat) : List Nat :=
  let w := (List.range piv.length).foldl (fun w j =>
    w ++ [(List.range j).foldl (fun acc k => b64.fma (fneg (vget w k)) (mget blk j k) acc) (vget a j)]) []
  List.zipWith fdiv w piv

/-- GATHER (Table 07-5): the values of a supernode. -/
def furrowGather (k : FactorIn) (i : Nat) (f : Furrow) : Furrow :=
  let s := k.sn i
  f.put i ⟨s.front.map (fun r => s.cols.map (mget k.mat r)), []⟩

/-- FACTOR: the diagonal block, pivots under R188. -/
def furrowFactor (k : FactorIn) (i : Nat) (f : Furrow) : Furrow :=
  let s := k.sn i
  let fr := f.at i
  let c := s.cols.length
  let r := ldl k.set (s.cols.map (fun q => k.signs.getD q (true, fone))) (mgen c c (fun a b => mget fr.m (max a b) (min a b)))
  let g := f.put i ⟨ldlRows r.cols ++ fr.m.drop c, r.cols.map (fun e => e.1)⟩
  { g with replaced := g.replaced + r.replaced, bad := g.bad || r.bad }

/-- PANEL: `n` rows of the front from `row0`. -/
def furrowPanel (k : FactorIn) (i row0 n : Nat) (f : Furrow) : Furrow :=
  let fr := f.at i
  let blk := fr.m.take (k.sn i).cols.length
  f.put i { fr with m := (List.range fr.m.length).map (fun r =>
    let a := fr.m.getD r []
    if row0 ≤ r ∧ r < row0 + n then panelRow blk fr.piv a else a) }

/-- UPDATE: the Schur contribution of the rows of a front from `row0` on to a target, added to what the engine has staged for it. -/
def furrowUpdate (k : FactorIn) (e i tgt row0 : Nat) (f : Furrow) : Furrow :=
  let s := k.sn i
  let t := k.sn tgt
  let fr := f.at i
  let c := s.cols.length
  let term (a b : Nat) : Nat :=
    (List.range c).foldl (fun acc j => b64.fma (fneg (fmul (mget fr.m a j) (vget fr.piv j))) (mget fr.m b j) acc) 0
  let one (r q : Nat) : Nat :=
    let a := s.front.idxOf r
    let b := s.front.idxOf q
    if q ≤ r ∧ s.rows.contains r ∧ s.rows.contains q ∧ row0 ≤ a then term a b else 0
  let v := t.front.map (fun r => t.cols.map (one r))
  let bad := f.bad || !(v.all allFinite)
  match f.staged.find? (fun g => g.1 == e && g.2.1 == tgt) with
  | some g => { f with staged := (f.staged.filter (fun h => !(h.1 == e && h.2.1 == tgt))) ++ [(e, tgt, madd g.2.2 v)], bad := bad }
  | none => { f with staged := f.staged ++ [(e, tgt, v)], bad := bad }

/-- REDUCE (R204): the staged contributions for a target enter it in the order of the reduction chain: physical engines 0 to 8. -/
def furrowReduce (tgt : Nat) (f : Furrow) : Furrow :=
  let add (f : Furrow) (e : Nat) : Furrow :=
    match f.staged.find? (fun g => g.1 == e && g.2.1 == tgt) with
    | some g => let fr := f.at tgt; f.put tgt { fr with m := madd fr.m g.2.2 }
    | none => f
  let f := (List.range 9).foldl add f
  { f with staged := f.staged.filter (fun g => !(g.2.1 == tgt)) }

/-- A word of phase F (Table 07-5). -/
def furrowWord (k : FactorIn) (w : Nat) (f : Furrow) : Furrow :=
  let sn := bitsAt w 42 12
  let tgt := bitsAt w 30 12
  let row0 := bitsAt w 16 14
  match furrowOp w with
  | 1 => furrowGather k sn f
  | 2 => furrowFactor k sn f
  | 3 => furrowPanel k sn row0 (bitsAt w 0 16) f
  | 4 => furrowUpdate k (vget k.phys (bitsAt w 55 3)) sn tgt row0 f
  | 5 => furrowReduce tgt f
  | _ => f

/-! The solves. -/

/-- A factor with what its solves need: the words of a solve and of a residual, the supernodes, the unregularised matrix by position,
and the pivot order. -/
structure Factor where
  f : Furrow
  sns : List Supernode
  solveWords : List Nat
  residWords : List Nat
  k0 : List (List Nat)
  order : List Nat

/-- A word of a solve over a vector by position (Table 07-5): FWD, DIAGS, BWD. -/
def Factor.solveWord (k : Factor) (w : Nat) (v : List Nat) : List Nat :=
  let i := bitsAt w 42 12
  let s := k.sns.getD i ⟨[], []⟩
  let fr := k.f.at i
  let c := s.cols.length
  let pos (r : Nat) : Nat := s.front.getD r 0
  let less (a b : Nat) (acc e : Nat) : Nat := b64.fma (fneg (mget fr.m a b)) e acc
  match furrowOp w with
  | 6 =>
    (List.range s.front.length).foldl (fun v r =>
      v.set (pos r) ((List.range (min r c)).foldl (fun acc j => less r j acc (vget v (pos j))) (vget v (pos r)))) v
  | 7 => (List.range c).foldl (fun v j => v.set (pos j) (fdiv (vget v (pos j)) (vget fr.piv j))) v
  | 8 =>
    (List.range c).reverse.foldl (fun v j =>
      v.set (pos j) (((List.range s.front.length).drop (j + 1)).foldl (fun acc r => less r j acc (vget v (pos r))) (vget v (pos j)))) v
  | _ => v

/-- A word of a residual: the rows of a supernode's columns in b − K₀ v. -/
def Factor.residWord (k : Factor) (b v : List Nat) (w : Nat) (r : List Nat) : List Nat :=
  (k.sns.getD (bitsAt w 42 12) ⟨[], []⟩).cols.foldl (fun r q =>
    r.set q ((List.range v.length).foldl (fun acc j => b64.fma (fneg (mget k.k0 q j)) (vget v j) acc) (vget b q))) r

/-- The solve of a right-hand side by position. -/
def Factor.tri (k : Factor) (b : List Nat) (g : Gate) : List Nat × Gate := sweep k.solveWord allFinite k.solveWords b g

/-- The residual b − K₀ v by position. -/
def Factor.resid (k : Factor) (b v : List Nat) (g : Gate) : List Nat × Gate :=
  sweep (k.residWord b v) allFinite k.residWords (List.replicate b.length 0) g

/-- The correction of a solution by the solve of its residual (R189). -/
def Factor.correct (k : Factor) (v r : List Nat) (g : Gate) : List Nat × Gate :=
  let e := k.tri r g
  let u := vadd v e.1
  (u, e.2.check u)

/-- Refinement steps (R189). -/
def Factor.refine (k : Factor) (b : List Nat) : Nat → List Nat → Gate → List Nat × Gate
  | 0, v, g => (v, g)
  | n + 1, v, g =>
    let r := k.resid b v g
    let u := k.correct v r.1 r.2
    k.refine b n u.1 u.2

/-- Largest magnitude of a list. -/
def normInf (l : List Nat) : Nat := l.foldl (fun a v => b64.max a (fabs v)) 0

/-- One solve with its refinement (R189): the solution in natural order, whether it was extended to four steps, and the gate. -/
def Factor.solve (k : Factor) (base : Nat) (b : List Nat) (g : Gate) : List Nat × Bool × Gate :=
  let pb := k.order.map (vget b)
  let back (v : List Nat) : List Nat := (List.range k.order.length).map (fun i => vget v (k.order.idxOf i))
  let v0 := k.tri pb g
  if k.f.replaced = 0 then
    let v := k.refine pb base v0.1 v0.2
    (back v.1, false, v.2)
  else
    let r0 := k.resid pb v0.1 v0.2
    let v1 := k.correct v0.1 r0.1 r0.2
    let v2 := k.refine pb 1 v1.1 v1.2
    let r2 := k.resid pb v2.1 v2.2
    if r2.2.stop = 0 ∧ flt (fdiv (normInf r0.1) (fint 10)) (normInf r2.1) then
      let v3 := k.correct v2.1 r2.1 r2.2
      let v4 := k.refine pb 1 v3.1 v3.2
      (back v4.1, true, v4.2)
    else (back v2.1, false, r2.2)

end Sys2Proof.Machine
end

