-- ==== Sys2Proof/Machine/Solver.lean ====
section
/-! DEFINITION. Chapter 07: the interior-point run over the furrow schedule, its finishing step, what it returns, and the furrow engines. -/

namespace Sys2Proof.Machine

/-- A quadratic program with its bounds (R160): P by its upper triangle and A as (row, column, value), in slot order. -/
structure Qp where
  n : Nat
  m : Nat
  p : List (Nat × Nat × Nat)
  q : List Nat
  a : List (Nat × Nat × Nat)
  l : List Nat
  u : List Nat

/-- The problem that the assembly stage has left in the value slots. -/
def qpOf (p : Pkg) (x : Side) : Qp :=
  let lay := p.layouts.get x
  let s := (p.lanes.get x).sol
  let n := rd p x.helm ASM_SIZE.NVARS
  let m := rd p x.helm ASM_SIZE.NROWS
  let tri (pat : List (Nat × Nat)) (c : Cells) := (List.range pat.length).filterMap (fun k => (pat[k]?).map (fun e => (e.1, e.2, cellsGet c k)))
  ⟨n, m, tri lay.patternP s.p, (List.range n).map (cellsGet s.q), tri lay.patternA s.a, (List.range m).map (cellsGet s.l),
    (List.range m).map (cellsGet s.u)⟩

/-- Row `i` is an equality row (R184). -/
def Qp.eqRow (k : Qp) (i : Nat) : Bool := fle (vget k.l i) (vget k.u i) && fle (vget k.u i) (vget k.l i)

/-- Row `i` is free: both bounds infinite (R184). -/
def Qp.freeRow (k : Qp) (i : Nat) : Bool := !(k.eqRow i) && !(b64.finite (vget k.l i)) && !(b64.finite (vget k.u i))

/-- The lower bound of row `i` carries a slack and a dual. -/
def Qp.hasL (k : Qp) (i : Nat) : Bool := !(k.eqRow i) && b64.finite (vget k.l i)

/-- The upper bound of row `i` carries a slack and a dual. -/
def Qp.hasU (k : Qp) (i : Nat) : Bool := !(k.eqRow i) && b64.finite (vget k.u i)

/-- Coefficients of row `i` in use: none in a free row (R184). -/
def Qp.row (k : Qp) (i : Nat) : List (Nat × Nat) :=
  if k.freeRow i then [] else (k.a.filter (fun e => e.1 == i)).map (fun e => e.2)

/-- A sparse row times a vector. -/
def rowDot (r : List (Nat × Nat)) (z : List Nat) : Nat := r.foldl (fun acc e => b64.fma e.2 (vget z e.1) acc) 0

/-- A z. -/
def Qp.az (k : Qp) (z : List Nat) : List Nat := (List.range k.m).map (fun i => rowDot (k.row i) z)

/-- P z. -/
def Qp.pz (k : Qp) (z : List Nat) : List Nat :=
  (List.range k.n).map (fun r => k.p.foldl (fun acc e =>
    if e.1 = r then b64.fma e.2.2 (vget z e.2.1) acc
    else if e.2.1 = r then b64.fma e.2.2 (vget z e.1) acc else acc) 0)

/-- Aᵀ y. -/
def Qp.aty (k : Qp) (y : List Nat) : List Nat :=
  (List.range k.n).map (fun c => (List.range k.m).foldl (fun acc i =>
    (k.row i).foldl (fun acc e => if e.1 = c then b64.fma e.2 (vget y i) acc else acc) acc) 0)

/-- The row multipliers of an iterate (R184): free in equality rows, λᵘ − λˡ in inequality rows, 0 in free rows. -/
def Qp.mult (k : Qp) (it : Iterate) : List Nat :=
  (List.range k.m).map (fun i =>
    if k.eqRow i then vget it.y i
    else if k.freeRow i then 0
    else fsub (if k.hasU i then vget it.lu i else 0) (if k.hasL i then vget it.ll i else 0))

/-- Products s λ over the finite bounds of inequality rows, in row order. -/
def Qp.products (k : Qp) (it : Iterate) : List Nat :=
  (List.range k.m).flatMap (fun i =>
    (if k.hasL i then [fmul (vget it.sl i) (vget it.ll i)] else []) ++ (if k.hasU i then [fmul (vget it.su i) (vget it.lu i)] else []))

/-- The gap μ (R185). -/
def Qp.gap (k : Qp) (it : Iterate) : Nat :=
  let l := k.products it
  if l.isEmpty then 0 else fdiv (fsum l) (fint l.length)

/-- The dual residual vector P z + q + Aᵀ y. -/
def Qp.dualRes (k : Qp) (it : Iterate) : List Nat := vadd (vadd (k.pz it.z) k.q) (k.aty (k.mult it))

/-- Residual of the lower bound of a row: a z − l − s. -/
def Qp.resL (k : Qp) (it : Iterate) (az : List Nat) (i : Nat) : Nat := fsub (fsub (vget az i) (vget k.l i)) (vget it.sl i)

/-- Residual of the upper bound of a row: u − a z − s. -/
def Qp.resU (k : Qp) (it : Iterate) (az : List Nat) (i : Nat) : Nat := fsub (fsub (vget k.u i) (vget az i)) (vget it.su i)

/-- The primal residual r_p (R185). -/
def Qp.primRes (k : Qp) (it : Iterate) : Nat :=
  let az := k.az it.z
  normInf ((List.range k.m).flatMap (fun i =>
    if k.eqRow i then [fsub (vget az i) (vget k.l i)]
    else (if k.hasL i then [k.resL it az i] else []) ++ (if k.hasU i then [k.resU it az i] else [])))

/-- What R185 measures at an iterate: r_p, r_d, μ, and the scales 1 + b, 1 + ‖q‖∞, 1 + |J|. -/
structure Measure where
  rp : Nat
  rd : Nat
  mu : Nat
  sp : Nat
  sd : Nat
  sg : Nat

/-- Measure an iterate (R185). -/
def Qp.measure (k : Qp) (it : Iterate) : Measure :=
  let b := normInf ((k.l ++ k.u).filter b64.finite)
  let j := fadd (fmul fhalf (vdot it.z (k.pz it.z))) (vdot k.q it.z)
  ⟨k.primRes it, normInf (k.dualRes it), k.gap it, fadd fone b, fadd fone (normInf k.q), fadd fone (fabs j)⟩

/-- The merit φ (R185). -/
def Measure.merit (m : Measure) : Nat := b64.max (b64.max (fdiv m.rp m.sp) (fdiv m.rd m.sd)) (fdiv m.mu m.sg)

/-- The iterate is optimal (R186). -/
def Measure.optimal (c : SolSet) (m : Measure) : Bool :=
  fle m.rp (fmul c.epsP m.sp) && fle m.rd (fmul c.epsD m.sd) && fle m.mu (fmul c.epsGap m.sg)

/-- Θ of a row at an iterate. -/
def Qp.theta (k : Qp) (it : Iterate) (i : Nat) : Nat :=
  if k.eqRow i then 0
  else if k.freeRow i then fone
  else
    let a := if k.hasL i then fdiv (vget it.ll i) (vget it.sl i) else 0
    let b := if k.hasU i then fdiv (vget it.lu i) (vget it.su i) else 0
    fdiv fone (fadd a b)

/-- The matrix [P + δ_p I, Aᵀ; A, −(Θ + δ_d I)] (chapter 07). -/
def Qp.kkt (k : Qp) (it : Iterate) (dp dd : Nat) : List (List Nat) :=
  let pAt (i j : Nat) : Nat :=
    match k.p.find? (fun e => (e.1 == i && e.2.1 == j) || (e.1 == j && e.2.1 == i)) with | some e => e.2.2 | none => 0
  let aAt (r c : Nat) : Nat := match (k.row r).find? (fun e => e.1 == c) with | some e => e.2 | none => 0
  mgen (k.n + k.m) (k.n + k.m) (fun i j =>
    if i < k.n ∧ j < k.n then (if i = j then fadd (pAt i j) dp else pAt i j)
    else if i < k.n then aAt (j - k.n) i
    else if j < k.n then aAt (i - k.n) j
    else if i = j then fneg (fadd (k.theta it (i - k.n)) dd) else 0)

/-- The furrow schedule of a run (R204, R205): the layout's words and supernodes, its pivot order, and the engine map. -/
structure Sched where
  words : List Nat
  sns : List Supernode
  order : List Nat
  phys : List Nat

/-- Phase F of an iteration (R187, R188): the factor and the gate. -/
def Qp.factor (k : Qp) (c : SolSet) (sc : Sched) (it : Iterate) (dp dd : Nat) (g : Gate) : Factor × Gate :=
  let reg := k.kkt it dp dd
  let diag (i : Nat) : Nat := fabs (mget reg i i)
  let big (l : List Nat) : Nat := l.foldl (fun a i => b64.max a (diag i)) fone
  let sP := big (List.range k.n)
  let sD := big ((List.range k.m).map (fun i => k.n + i))
  let perm (a : List (List Nat)) := sc.order.map (fun i => sc.order.map (mget a i))
  let inp : FactorIn := ⟨c, sc.sns, sc.phys, perm reg, sc.order.map (fun i => (decide (i < k.n), if i < k.n then sP else sD))⟩
  let f := sweep (furrowWord inp) (fun (f : Furrow) => !f.bad) (factorWords sc.words) ⟨sc.sns.map (fun _ => ⟨[], []⟩), [], 0, false⟩
    (reg.foldl Gate.check g)
  (⟨f.1, sc.sns, passWords [6, 7, 8] sc.words, passWords [9] sc.words, perm (k.kkt it 0 0), sc.order⟩, f.2)

/-- The right-hand side for complementarity targets `cl`, `cu` (chapter 07, the KKT system). -/
def Qp.rhs (k : Qp) (it : Iterate) (cl cu : List Nat) : List Nat :=
  let az := k.az it.z
  (k.dualRes it).map fneg ++ (List.range k.m).map (fun i =>
    if k.eqRow i then fneg (fsub (vget az i) (vget k.l i))
    else if k.freeRow i then 0
    else
      let up := if k.hasU i then fdiv (fsub (vget cu i) (fmul (vget it.lu i) (k.resU it az i))) (vget it.su i) else 0
      let lo := if k.hasL i then fdiv (fsub (vget cl i) (fmul (vget it.ll i) (k.resL it az i))) (vget it.sl i) else 0
      fneg (fmul (k.theta it i) (fsub up lo)))

/-- The step of every variable from the solution of the Newton system. -/
def Qp.direction (k : Qp) (it : Iterate) (cl cu v : List Nat) : Iterate :=
  let dz := v.take k.n
  let az := k.az it.z
  let adz := k.az dz
  let on (b : Bool) (e : Nat) : Nat := if b then e else 0
  let dsl := (List.range k.m).map (fun i => on (k.hasL i) (fadd (vget adz i) (k.resL it az i)))
  let dsu := (List.range k.m).map (fun i => on (k.hasU i) (fsub (k.resU it az i) (vget adz i)))
  { z := dz, y := v.drop k.n, sl := dsl, su := dsu
    ll := (List.range k.m).map (fun i => on (k.hasL i) (fdiv (fsub (vget cl i) (fmul (vget it.ll i) (vget dsl i))) (vget it.sl i)))
    lu := (List.range k.m).map (fun i => on (k.hasU i) (fdiv (fsub (vget cu i) (fmul (vget it.lu i) (vget dsu i))) (vget it.su i))) }

/-- An iterate moved along a direction. -/
def Iterate.move (it d : Iterate) (a : Nat) : Iterate :=
  let f (u v : List Nat) : List Nat := List.zipWith (fun e g => b64.fma a g e) u v
  ⟨f it.z d.z, f it.y d.y, f it.sl d.sl, f it.su d.su, f it.ll d.ll, f it.lu d.lu⟩

/-- The steps at which a slack or a dual reaches 1 − τ times its value (R192). -/
def Qp.ratios (k : Qp) (it d : Iterate) (tau : Nat) : List Nat :=
  let lim (v dv : Nat) : List Nat := if flt dv 0 then [fdiv (fneg (fmul tau v)) dv] else []
  (List.range k.m).flatMap (fun i =>
    (if k.hasL i then lim (vget it.sl i) (vget d.sl i) ++ lim (vget it.ll i) (vget d.ll i) else []) ++
      (if k.hasU i then lim (vget it.su i) (vget d.su i) ++ lim (vget it.lu i) (vget d.lu i) else []))

/-- The largest step in (0, 1] that keeps every slack and dual at or above 1 − τ times its value (R192). -/
def Qp.toBoundary (k : Qp) (it d : Iterate) (tau : Nat) : Nat := (k.ratios it d tau).foldl b64.min fone

/-- Every value of an iterate or a direction. -/
def Iterate.all (it : Iterate) : List Nat := it.z ++ it.y ++ it.sl ++ it.su ++ it.ll ++ it.lu

/-- What one attempt at an iteration gives: the next iterate, the step, the centring, pivots replaced, solves extended, and how it
ended: 0 complete, 1 at a flag, 2 at the place of a deadline or of a parity error. -/
structure Attempt where
  next : Iterate
  alpha : Nat
  sigma : Nat
  pivots : Nat
  ext : Nat
  stop : Nat

/-- One attempt at an iteration with the given regularisations (R192), up to a flag (R190) or, after `left` operations, a place to stop. -/
def Qp.attempt (k : Qp) (c : SolSet) (sc : Sched) (it : Iterate) (dp dd : Nat) (left : Option Nat) : Attempt :=
  let f := k.factor c sc it dp dd ⟨left, 0⟩
  let piv := f.1.f.replaced
  let neg (u v : List Nat) : List Nat := List.zipWith (fun e g => fneg (fmul e g)) u v
  let cl0 := neg it.sl it.ll
  let cu0 := neg it.su it.lu
  let b1 := k.rhs it cl0 cu0
  let s1 := f.1.solve c.refine b1 (f.2.check b1)
  let aff := k.direction it cl0 cu0 s1.1
  let mu := k.gap it
  let muAff := k.gap (it.move aff (k.toBoundary it aff fone))
  let r := fdiv muAff mu
  let sigma := if fabs mu = 0 then 0 else fmul (fmul r r) r
  let target (c0 ds dl : List Nat) : List Nat :=
    (List.range k.m).map (fun i => fsub (fadd (fmul sigma mu) (vget c0 i)) (fmul (vget ds i) (vget dl i)))
  let cl := target cl0 aff.sl aff.ll
  let cu := target cu0 aff.su aff.lu
  let b2 := k.rhs it cl cu
  let g1 := s1.2.2.check (aff.all ++ k.ratios it aff fone ++ [muAff, sigma] ++ b2)
  let s2 := f.1.solve c.refine b2 g1
  let d := k.direction it cl cu s2.1
  let a := k.toBoundary it d c.tau
  let nx := it.move d a
  let nx := { nx with y := k.mult nx }
  ⟨nx, a, sigma, piv, b2n s1.2.1 + b2n s2.2.1, (s2.2.2.check (d.all ++ k.ratios it d c.tau ++ nx.all)).stop⟩

/-- An attempt at iteration `k`, the retry or not, with the parity errors that meet it, which act as flags (R190), and the deadline, if
it falls in it (R195): the earlier operation decides, the deadline before a flag at the same boundary. -/
def Qp.attemptAt (q : Qp) (c : SolSet) (sc : Sched) (hits : List SolPlace) (cut : Option SolPlace) (k : Nat) (retry : Bool)
    (it : Iterate) (dp dd : Nat) : Attempt :=
  let mine := (hits.filter (fun h => h.iter == k && h.retry == retry)).filterMap (fun h => h.ops)
  let hit : Option Nat := mine.foldl (fun a n => some (match a with | some m => min m n | none => n)) none
  let dead : Option Nat := cut.bind (fun h => if h.iter = k ∧ h.retry = retry then h.ops else none)
  match hit, dead with
  | none, left => q.attempt c sc it dp dd left
  | some n, some m => if m ≤ n then q.attempt c sc it dp dd (some m) else { q.attempt c sc it dp dd (some n) with stop := 1 }
  | some n, none => { q.attempt c sc it dp dd (some n) with stop := 1 }

/-- The row of the trace for an iterate (Table 07-9). -/
def traceRow (m : Measure) (alpha sigma pivots flags : Nat) : TraceRow := ⟨m.rp, m.rd, m.mu, m.merit, alpha, sigma, pivots, flags⟩

/-- The iterations of a run: completed iterates newest first with their merits, the trace, totals, and the status at the end. -/
structure Progress where
  it : Iterate
  done : List (Iterate × Nat)
  trace : List TraceRow
  pivots : Nat
  ext : Nat
  retry : Bool
  status : Nat

/-- The loop of R192, with the retry of R190 and the deadline of R195: `left` iterations left, `k` the number of the next. -/
def Qp.loop (q : Qp) (c : SolSet) (sc : Sched) (hits : List SolPlace) (cut : Option SolPlace) : Nat → Nat → Progress → Progress
  | 0, _, g => { g with status := 1 }
  | left + 1, k, g =>
    let a := q.attemptAt c sc hits cut k false g.it c.deltaP c.deltaD
    let again := a.stop == 1
    let b := if again then q.attemptAt c sc hits cut k true g.it (fmul c.deltaP (fint 100)) (fmul c.deltaD (fint 100)) else a
    let piv := if again then a.pivots + b.pivots else a.pivots
    let ext := if again then a.ext + b.ext else a.ext
    let g := { g with pivots := g.pivots + piv, ext := g.ext + ext, retry := g.retry || again }
    if b.stop = 2 then { g with status := 2 }
    else if b.stop = 1 then { g with status := 4 }
    else
      let m := q.measure b.next
      let g := { g with
        it := b.next, done := (b.next, m.merit) :: g.done
        trace := g.trace ++ [traceRow m b.alpha b.sigma piv (b2n again + 2 * b2n (ext != 0) + 4)] }
      if m.optimal c then { g with status := 0 }
      else if cut.any (fun h => h.iter == k && h.ops.isNone) then { g with status := 2 }
      else q.loop c sc hits cut left (k + 1) g

/-- The completed iterate of least merit, the later one of equals (R192); the list runs newest first. -/
def leastMerit : List (Iterate × Nat) → Option (Iterate × Nat)
  | [] => none
  | e :: r =>
    match leastMerit r with
    | some b => if flt b.2 e.2 then some b else some e
    | none => some e

/-- The result vector shifted one horizon step: a block takes the next block's values, the last keeps its own (R191, R197). -/
def shiftBlocks (w : Nat) (z : List Nat) : List Nat :=
  (List.range z.length).map (fun j => if j + w < z.length then vget z (j + w) else vget z j)

/-- The fallback vector before clipping (R197). -/
def fallbackVector (p : Pkg) (x : Side) : List Nat :=
  let s := (p.lanes.get x).sol
  let l := (p.layouts.get x).thrusters
  let w := blockWidth p x
  if flag p x.helm I_SOL.HAVE_PREV && !s.result.isEmpty then shiftBlocks w s.result
  else
    let one (i : Nat) : List Nat :=
      match l[i]? with | some t => (if t.kind = 0 then [(compAt s.prev i).2] else [(compAt s.prev i).1, (compAt s.prev i).2]) | none => []
    let f := (placedThrusters l).flatMap one
    (List.range (rd p x.helm ASM_SIZE.NVARS)).map (fun j => if j % w < f.length then vget f (j % w) else Config.fallbackOther j)

/-- Step 1 of R196: each variable into every row that has exactly one non-zero coefficient and finite bounds, in row order. -/
def clipBounds (q : Qp) (z : List Nat) : List Nat :=
  (List.range q.m).foldl (fun z i =>
    match ((q.a.filter (fun e => e.1 == i)).filter (fun e => fabs e.2.2 != 0)) with
    | [e] =>
      let a := e.2.2
      let l := vget q.l i
      let u := vget q.u i
      let v := vget z e.2.1
      let lo := if flt 0 a then fdiv l a else fdiv u a
      let hi := if flt 0 a then fdiv u a else fdiv l a
      let v := if b64.finite lo && flt v lo then lo else v
      z.set e.2.1 (if b64.finite hi && flt hi v then hi else v)
    | _ => z) z

/-- Step 2 of R196 for one thruster: its step-0 command moves toward f of step -1 as far as its rate rows ask. -/
def clipRate (p : Pkg) (x : Side) (q : Qp) (i : Nat) (t : Thruster) (z : List Nat) : List Nat :=
  let off := thrOff (p.layouts.get x).thrusters i
  let pr := compAt (p.lanes.get x).sol.prev i
  let f := stepThrust p x z 0 i
  let d := (fsub f.1 pr.1, fsub f.2 pr.2)
  let coef (r c : Nat) : Nat := match (q.a.find? (fun e => e.1 == r && e.2.1 == c)) with | some e => e.2.2 | none => 0
  let ab (r : Nat) : Nat × Nat := if t.kind = 0 then (0, coef r off) else (coef r off, coef r (off + 1))
  let alpha := t.rateRows.foldl (fun a r =>
    let c := ab r
    let base := fadd (fmul c.1 pr.1) (fmul c.2 pr.2)
    let v := fadd (fmul c.1 d.1) (fmul c.2 d.2)
    if flt 0 v then b64.min a (b64.max 0 (fdiv (fsub (vget q.u r) base) v))
    else if flt v 0 then b64.min a (b64.max 0 (fdiv (fsub (vget q.l r) base) v)) else a) fone
  if fle fone alpha then z
  else
    let g (b e : Nat) : Nat := b64.fma alpha e b
    if t.kind = 0 then z.set off (g pr.2 d.2) else (z.set off (g pr.1 d.1)).set (off + 1) (g pr.2 d.2)

/-- The finishing step (R196). -/
def finishClip (p : Pkg) (x : Side) (q : Qp) (z : List Nat) : List Nat :=
  let l := (p.layouts.get x).thrusters
  (List.range l.length).foldl (fun z i => match l[i]? with | some t => clipRate p x q i t z | none => z) (clipBounds q z)

/-- The starting point of a run (R191): the previous iterate shifted and pushed, or the cold start. -/
def startPoint (p : Pkg) (x : Side) : Iterate × Bool :=
  let d := x.helm
  let q := qpOf p x
  let s := (p.lanes.get x).sol
  let cold : Iterate := ⟨List.replicate q.n 0, List.replicate q.m 0, List.replicate q.m fone, List.replicate q.m fone,
    List.replicate q.m fone, List.replicate q.m fone⟩
  let push := f32 p d SOL_WS_PUSH.V 0
  let next (v : List Nat) : List Nat := (List.range q.m).map (fun i => vget v ((p.layouts.get x).rowNext.getD i i))
  match s.warm with
  | some w =>
    if flag p d I_SOL.COLD || flag p d ASM_STATUS.FROM_FEEDBACK || flag p d SOL_STATUS.SOLVER_LOST then (cold, false)
    else
      let up (v : List Nat) : List Nat := (next v).map (fun e => b64.max push e)
      (⟨shiftBlocks (blockWidth p x) w.z, next w.y, up w.sl, up w.su, up w.ll, up w.lu⟩, true)
  | none => (cold, false)

/-- Physical engine that serves a logical one. -/
def furrowPhys (p : Pkg) (d : Die) : List Nat :=
  [rd p d SOL_FURROW_MAP.PHYS0, rd p d SOL_FURROW_MAP.PHYS1, rd p d SOL_FURROW_MAP.PHYS2, rd p d SOL_FURROW_MAP.PHYS3,
    rd p d SOL_FURROW_MAP.PHYS4, rd p d SOL_FURROW_MAP.PHYS5, rd p d SOL_FURROW_MAP.PHYS6, rd p d SOL_FURROW_MAP.PHYS7]

/-- The furrow schedule in force in a lane (R204, R205). -/
def schedOf (p : Pkg) (x : Side) : Sched :=
  let l := p.layouts.get x
  ⟨l.furrows, l.supernodes, l.order, furrowPhys p x.helm⟩

/-- Carry out a run from its start (R192, R195 to R197): what it returns. -/
def solveRun (p : Pkg) (x : Side) (r : SolRun) : SolRun :=
  let q := qpOf p x
  let c := solSet p x
  let fb := fallbackVector p x
  let stale (r : SolRun) : SolRun :=
    let z := finishClip p x q fb
    { r with status := 3, clipped := z != fb, merit := 0, iterate := none, result := z }
  if r.stale then stale { r with iters := 0, pivots := 0, extended := 0, retry := false, trace := [] }
  else
    let t0 := traceRow (q.measure r.start) 0 0 0 0
    let g := q.loop c (schedOf p x) r.hits r.cut c.iterMax 1 ⟨r.start, [], [t0], 0, 0, false, 1⟩
    let r := { r with iters := g.done.length, pivots := g.pivots, extended := g.ext, retry := g.retry, trace := g.trace }
    let atU := r.cut.any (fun h => h.ops.isNone)
    let pick : Option (Iterate × Nat) :=
      if g.status = 1 ∨ (g.status = 2 ∧ atU) then leastMerit g.done else g.done.head?
    match pick with
    | some (it, m) =>
      let z := finishClip p x q it.z
      { r with status := g.status, clipped := z != it.z, merit := m, iterate := some it, result := z }
    | none =>
      let s := stale r
      { s with status := if g.status = 4 then 4 else 3 }

/-- Modes in which the solver runs, in a lane that computes. -/
def solverOn (p : Pkg) (x : Side) : Bool :=
  running p x.helm && decide (2 ≤ laneState p x) && flag p x.helm I_LANE.LAYOUT_APPLIED

/-- The built-in test of one engine in rotation (R206), `pass` its outcome; without `room`, 30 µs of budget, the turn passes without a
test. The next cycle's turn is the next engine's. -/
def furrowBist (x : Side) (room pass : Bool) (p : Pkg) : Pkg :=
  let d := x.helm
  let e := rd p d SOL_FURROW_STATE.BIST_NEXT
  p |> onlyIf (room && !pass) (fun q => q |> incI d SOL_ENG.BIST_FAIL e |> occurrence d 2 e true)
    |> wr d SOL_FURROW_STATE.BIST_NEXT ((e + 1) % 9)

/-- The run of a cycle at t_S in modes 2 to 6 (R191 to R193). The result is held until the release tick. -/
def solverStart (x : Side) (p : Pkg) : Pkg :=
  let d := x.helm
  let st := startPoint p x
  let stale := rd p d ASM_STATUS.RESULT != 0 || flag p d SOL_STATUS.SOLVER_LOST
  let r := solveRun p x ⟨st.1, st.2 && !stale, stale, [], none, 3, 0, 0, 0, false, false, 0, none, [], []⟩
  p |> onSol x (fun s => { s with run := some r }) |> onlyIf (rd p d CLK_STATUS.SOURCE == 2) (raise d clsWarning SOL_EVENT.TIME_DEADLINE)

/-- SOLVER_RUN (R191 to R193, R206): the run of this cycle, nothing to run in STANDBY and MANUAL (R138), and after it the built-in test;
`room` says that at least 30 µs of budget remain, `pass` that the engine whose turn it is passes. -/
def solverRun (x : Side) (room pass : Bool) (p : Pkg) : Pkg :=
  if !(solverOn p x) then p
  else if modeOf p x < 2 then p |> onSol x (fun s => { s with run := none }) |> furrowBist x room pass
  else p |> solverStart x |> furrowBist x room pass

/-- Where the deadline falls in a run (R193 to R195, R208). By the core-cycle count the place follows from the budget, the schedule's
timing and what the run does, so that two lanes with one run stop at one operation; the cycles of an operation are the layout's and are
open. A lane on its internal oscillator checks device time: the place is the event's. -/
def deadlinePlace (p : Pkg) (x : Side) (r : SolRun) (at' : SolPlace) : SolPlace :=
  if rd p x.helm CLK_STATUS.SOURCE = 2 then at'
  else
    let e := Config.deadlinePlace (rd p x.helm SOL_BUDGET.CYCLES) (p.layouts.get x).furrows (r.trace.flatMap (fun t => [t.pivots, t.flags]))
    ⟨e.1, e.2.1, e.2.2⟩

/-- SOLVER_DEADLINE (R193 to R195): the budget runs out in an iteration, at the end of phase U or after some furrow operations of the
first attempt or of the retry. A run that has ended by then, or does not come to that place, keeps its outcome. -/
def solverDeadline (x : Side) (at' : FurrowAt) (phaseU : Bool) (p : Pkg) : Pkg :=
  match (p.lanes.get x).sol.run with
  | some r =>
    if r.stale then p
    else
      let c := deadlinePlace p x r ⟨at'.iter, at'.retry, if phaseU then none else some at'.ops⟩
      onSol x (fun s => { s with run := some (solveRun p x { r with cut := some c }) }) p
  | none => p

/-- FURROW_PARITY_ERROR (R190, R205): counted against the physical engine; in a run that comes to the place at which
it meets it, a flag after the furrow operations done there. -/
def furrowParity (x : Side) (e : Nat) (at' : FurrowAt) (p : Pkg) : Pkg :=
  let d := x.helm
  if !(running p d) || !(decide (e < 9)) then p
  else
    let p := p |> incI d SOL_ENG.PARITY e |> occurrence d 2 e false
    match (p.lanes.get x).sol.run with
    | some r =>
      if r.stale then p else onSol x (fun s => { s with run := some (solveRun p x { r with hits := ⟨at'.iter, at'.retry, some at'.ops⟩ :: r.hits }) }) p
    | none => p

/-- The field of a logical engine's map entry. -/
def furrowMapFld : Nat → Fld
  | 0 => SOL_FURROW_MAP.PHYS0 | 1 => SOL_FURROW_MAP.PHYS1 | 2 => SOL_FURROW_MAP.PHYS2 | 3 => SOL_FURROW_MAP.PHYS3
  | 4 => SOL_FURROW_MAP.PHYS4 | 5 => SOL_FURROW_MAP.PHYS5 | 6 => SOL_FURROW_MAP.PHYS6 | _ => SOL_FURROW_MAP.PHYS7

/-- A physical engine is retired in a lane (R205, R207): its logical engine moves to engine 8, or the lane sets SOLVER_LOST; `quiet`
leaves out the events (the mirror and a start). Answers whether the spare took over. -/
def retireFurrow (x : Side) (e : Nat) (p : Pkg) : Pkg × Bool :=
  let d := x.helm
  if bit (rd p d SOL_FURROW_STATE.RETIRED) e then (p, false)
  else
    let spareFree := !(flag p d SOL_FURROW_STATE.SPARE_USED) && !(bit (rd p d SOL_FURROW_STATE.RETIRED) 8)
    let p := p |> wr d SOL_FURROW_STATE.RETIRED (rd p d SOL_FURROW_STATE.RETIRED + 2 ^ e) |> raise d clsPermanent SOL_EVENT.ENGINE_RETIRED
    match (List.range 8).find? (fun k => (furrowPhys p d).getD k 9 == e) with
    | some k =>
      if spareFree then (p |> wr d (furrowMapFld k) 8 |> wr d SOL_FURROW_STATE.SPARE_USED 1, true)
      else (p |> wr d SOL_FURROW_STATE.SOLVER_LOST 1 |> wr d SOL_STATUS.SOLVER_LOST 1 |> raise d clsNme SOL_EVENT.SOLVER_LOST, false)
    | none => (p, false)

/-- SOL_TRACE_FREEZE (R58): a write of SOL_TRACE_CTRL.FREEZE in one helm. -/
def solTraceFreeze (x : Side) (on : Bool) (p : Pkg) : Pkg :=
  if running p x.helm then wr x.helm SOL_TRACE_CTRL.FREEZE (b2n on) p else p

/-! The commands of the table: one meaning each. -/

/-- SOLVER_RUN (R192). -/
def execSolverRun (x : Side) (room pass : Bool) (s : State) : Host.Outcome State Fault Refusal := nextPk s (solverRun x room pass)

/-- SOLVER_DEADLINE (R195). -/
def execSolverDeadline (x : Side) (at' : FurrowAt) (phaseU : Bool) (s : State) : Host.Outcome State Fault Refusal := nextPk s (solverDeadline x at' phaseU)

/-- FURROW_PARITY_ERROR (R190). -/
def execFurrowParityError (x : Side) (e : Nat) (at' : FurrowAt) (s : State) : Host.Outcome State Fault Refusal := nextPk s (furrowParity x e at')

/-- SOL_TRACE_FREEZE (R58). -/
def execSolTraceFreeze (x : Side) (on : Bool) (s : State) : Host.Outcome State Fault Refusal := nextPk s (solTraceFreeze x on)

end Sys2Proof.Machine
end

