-- ==== Sys2Proof/Machine/LoopTick.lean ====
section
/-! DEFINITION. Chapter 08: the slots of a lane in a tick, retirement of slots and pipelines, the fallback allocation; and the
package's tick edge, with R40, R47, R51, R69, R77 and R511 of chapter 02. -/

namespace Sys2Proof.Machine

/-- Replace a slot's record. -/
def setSlot (x : Side) (i : Nat) (r : SlotRec) (p : Pkg) : Pkg := onLane x (fun l => { l with slots := l.slots.set i r }) p

/-- A logical slot is defined (Table 08-8). -/
def slotDefined (p : Pkg) (d : Die) (i : Nat) : Bool := rdI p d LOOP_DESC.ROLE i != 0

/-- The defined logical slots of a helm, ascending. -/
def definedSlots (p : Pkg) (d : Die) : List Nat := (List.range 256).filter (slotDefined p d)

/-- The tick edge of a lane. -/
def tickEdge (p : Pkg) (x : Side) : Nat := rd p x.helm I_LANE.TICK_EDGE

/-- The pulse input a repetitive controller follows: port die and pin. -/
def rcPin (p : Pkg) (x : Side) (i : Nat) : Die × Nat :=
  let n := rdI p x.helm LOOP_DESC.RC_SRC_INDEX i
  ((sideOf (n / 24)).port, n % 24)

/-- A feedback word as the last tick delivered it to a lane (R211). -/
def fbWord (p : Pkg) (x : Side) (f : Nat) : Int := rdSI p x.helm I_LANE.FB f

/-- Phase and increment of a slot's repetitive controller at the tick whose edge is `t`, after a tick with phase `ph` and increment
`inc` (R230, R231). -/
def rcAdvance (p : Pkg) (x : Side) (i t ph inc : Nat) : Nat × Nat :=
  let d := x.helm
  let pin := rcPin p x i
  match rdI p d LOOP_DESC.RC_SRC i with
  | 0 =>
    let n := 2 ^ 32 * 1000 / rdI p d LOOP_DESC.RC_PERIOD_US i
    (trunc 32 (ph + n), trunc 32 n)
  | 1 =>
    let per := rdI p pin.1 I_DIO.TICK_PERIOD pin.2
    if flagI p pin.1 I_DIO.TICK_NEW pin.2 ∧ 2 ≤ rdI p pin.1 I_DIO.TICK_COUNT pin.2 ∧ per ≠ 0 then
      (trunc 32 ((t - rdI p pin.1 I_DIO.TICK_EDGE pin.2) * 2 ^ 32 / per), trunc 32 (2 ^ 32 * 1000000 / per))
    else (trunc 32 (ph + inc), inc)
  | _ => (trunc 32 (ph + inc), inc)

/-- The increment of a RATE source, from the tick's feedback word (R230). -/
def rcRate (p : Pkg) (x : Side) (i : Nat) : Nat :=
  trunc 32 (b64.toInt (fdiv (fmul (Config.rateHz (fbWord p x (rdI p x.helm LOOP_DESC.RC_SRC_INDEX i))) (fint 4294967296)) (fint 1000))).toNat

/-- The period lies outside its range, or a pulse source has been silent for RC_PER_MAX_US (R232). -/
def rcOut (p : Pkg) (x : Side) (i t : Nat) : Bool :=
  let d := x.helm
  let lo := rdI p d LOOP_DESC.RC_PER_MIN_US i
  let hi := rdI p d LOOP_DESC.RC_PER_MAX_US i
  let pin := rcPin p x i
  match rdI p d LOOP_DESC.RC_SRC i with
  | 0 =>
    let per := rdI p d LOOP_DESC.RC_PERIOD_US i
    decide (per < lo) || decide (hi < per)
  | 1 =>
    let per := rdI p pin.1 I_DIO.TICK_PERIOD pin.2
    decide (rdI p pin.1 I_DIO.TICK_COUNT pin.2 < 2) || decide (per < lo * 1000) || decide (hi * 1000 < per) ||
      decide (rdI p pin.1 I_DIO.TICK_EDGE pin.2 + hi * 1000 ≤ t)
  | _ =>
    let per := fdiv (fint 1000000) (Config.rateHz (fbWord p x (rdI p d LOOP_DESC.RC_SRC_INDEX i)))
    !(fle (fint lo) per && fle per (fint hi))

/-- The bin of a phase, and the bin it updates, as places in the pool (R230, R233). -/
def rcBins (p : Pkg) (x : Side) (i ph : Nat) : Nat × Nat :=
  let d := x.helm
  let n := rdI p d LOOP_DESC.RC_LOG2N i
  let b := ph / 2 ^ (32 - n)
  let base := rdI p d LOOP_DESC.RC_BASE i
  (base + b, base + (b + 2 ^ n - rdI p d LOOP_DESC.RC_LEAD i % 2 ^ n) % 2 ^ n)

/-- A bin of the lane's pool; an unwritten one reads 0 (R234). -/
def binAt (l : List (Nat × Int)) (k : Nat) : Int := match l.find? (fun e => e.1 == k) with | some e => e.2 | none => 0

/-- Write a bin. -/
def putBin (x : Side) (k : Nat) (v : Int) (p : Pkg) : Pkg :=
  onLane x (fun l => { l with bins := (k, v) :: l.bins.filter (fun e => e.1 != k) }) p

/-- RC_PARTIAL: a bin of the slot has not been written (R234). -/
def rcPartial (p : Pkg) (x : Side) (i : Nat) : Bool :=
  let n := 2 ^ rdI p x.helm LOOP_DESC.RC_LOG2N i
  let b := rdI p x.helm LOOP_DESC.RC_BASE i
  decide (((p.lanes.get x).bins.filter (fun e => decide (b ≤ e.1) && decide (e.1 < b + n))).length < n)

/-- RC_HOLD as the conditions of R232 stand; the event when it is set. -/
def rcHoldStep (x : Side) (i t : Nat) (p : Pkg) : Pkg :=
  let r := slotRec p x i
  let h := (slotCfg p x.helm i).rcEn && rcOut p x i t
  setSlot x i { r with rcHold := h } p |> onlyIf (h && !r.rcHold) (raiseWith x.helm clsWarning LOOP_EVENT.RC_HOLD (.words [i]))

/-- The repetitive controller moves to a tick (R230 to R234): phase, hold, and in a standby the two bins of the copy into the pool. -/
def rcTickStart (x : Side) (i : Nat) (p : Pkg) : Pkg :=
  let d := x.helm
  if !((slotCfg p d i).rcEn) then p
  else
    let r := slotRec p x i
    let a := rcAdvance p x i (tickEdge p x) r.rcPhase r.rcInc
    let p := p |> setSlot x i { r with rcPhase := a.1, rcInc := a.2 } |> rcHoldStep x i (tickEdge p x)
    let b := rcBins p x i a.1
    if flag p d I_LANE.TICK_COPY_APPLIED && !(slotRec p x i).rcHold then p |> putBin x b.1 r.rcRead |> putBin x b.2 r.rcUpd else p

/-- An input of a slot by kind: a lane value, a slot output, a feedback word. -/
def laneVal (p : Pkg) (x : Side) (n : Nat) : Nat := vget (p.lanes.get x).vals n

/-- The four inputs of a slot (R213, Table 08-8): set-point, feedback, feed-forward, scheduling variable, and the stale mark. -/
def slotCodes (p : Pkg) (x : Side) (i : Nat) : Int × Int × Int × Int × Bool :=
  let d := x.helm
  let w := (slotCfg p d i).wrap
  let spI := rdI p d LOOP_DESC.SP_INDEX i
  let fbI := rdI p d LOOP_DESC.FB_INDEX i
  let ffI := rdI p d LOOP_DESC.FF_INDEX i
  let scI := rdI p d LOOP_DESC.SCHED_INDEX i
  let out (k : Nat) : Int := (slotRec p x k).out
  let r := match rdI p d LOOP_DESC.SP_KIND i with
    | 0 => toCode w (codeScale (rdI p d LOOP_DESC.FS i)) (laneVal p x spI)
    | 1 => out spI
    | _ => 0
  let y := match rdI p d LOOP_DESC.FB_KIND i with
    | 1 => fbWord p x fbI
    | 2 => out fbI
    | _ => 0
  let ff := match rdI p d LOOP_DESC.FF_KIND i with
    | 1 => r
    | 2 => fbWord p x ffI
    | 3 => out ffI
    | 4 => toCode w (codeScale (rdI p d LOOP_DESC.FS_FF i)) (laneVal p x ffI)
    | _ => 0
  let g := match rdI p d LOOP_DESC.SCHED_KIND i with
    | 1 => r
    | 2 => y
    | 3 => fbWord p x scI
    | 4 => out scI
    | _ => 0
  (r, y, ff, g, rdI p d LOOP_DESC.FB_KIND i == 1 && flagI p d I_LANE.FB_STALE fbI)

/-- The output a slot restarts from: OUT_A, or OUT_B where OUT_A is absent (R229). -/
def restartOutput (p : Pkg) (x : Side) (i : Nat) : Option (Side × OutKind × Nat) :=
  match outRef (rdI p x.helm LOOP_DESC.OUT_A i) with
  | some o => some o
  | none => outRef (rdI p x.helm LOOP_DESC.OUT_B i)

/-- The outputs a slot drives (R224). -/
def slotOutputs (p : Pkg) (x : Side) (i : Nat) : List (Side × OutKind × Nat) :=
  [rdI p x.helm LOOP_DESC.OUT_A i, rdI p x.helm LOOP_DESC.OUT_B i].filterMap outRef

/-- The fallback law is in force. -/
def fallbackOn (p : Pkg) (x : Side) : Bool := flag p x.helm SOL_STATUS.FALLBACK

/-- The output's port die reported TRIPPED at this tick, or the lane restarts every slot (R229, R431, R482). -/
def slotTripped (p : Pkg) (x : Side) (o : Side × OutKind × Nat) : Bool :=
  flagI p x.helm I_LANE.TRIP o.1.num || flag p x.helm I_LANE.RESTART_ALL

/-- The lower boundaries of a slot's regions 1 and up. -/
def regionLos (p : Pkg) (d : Die) (c : SlotCfg) : List Int := (List.range (c.nreg - 1)).map (fun j => rdSI p d LOOP_REG.LO (c.base + j + 1))

/-- What a slot's tick takes from outside (R211 to R240). -/
def slotIn (p : Pkg) (x : Side) (i : Nat) : SlotIn :=
  let d := x.helm
  let c := slotCfg p d i
  let k := slotCodes p x i
  let r := slotRec p x i
  let o := restartOutput p x i
  let trip := o.any (slotTripped p x)
  let track := i < 3 && flag p d LOOP_CFG.FALLBACK_RES && !(fallbackOn p x)
  let force := vesselForce (p.layouts.get x).thrusters (p.lanes.get x).sol.cmd
  let b := rcBins p x i r.rcPhase
  let bins := (p.lanes.get x).bins
  let copied := flag p d I_LANE.TICK_COPY_APPLIED
  { r := k.1, y := k.2.1, w := k.2.2.1, g := k.2.2.2.1, stale := k.2.2.2.2
    restart := if trip then o.map (fun o => readBack p o.1 o.2.1 o.2.2) else none
    track := if track then some (toCode c.wrap (codeScale (rdI p d LOOP_DESC.OUT_FS i)) (vget force i)) else none
    rc := if c.rcEn && !r.rcHold then (if copied then some (r.rcRead, r.rcUpd) else some (binAt bins b.1, binAt bins b.2)) else none
    ms := tickEdge p x / 1000000
    monReset := trip || r.monReset }

/-- What a slot logs in its tick, and the counters of the block. -/
def slotEvents (x : Side) (i : Nat) (old : SlotRec) (o : SlotOut) (p : Pkg) : Pkg :=
  let d := x.helm
  let pl : Payload := .words [i]
  p |> onlyIf o.swapped (fun q => q |> inc d LOOP_SWAPS.V |> incI d LOOP_SLOT.SWAPS i |> raiseWith d clsInfo LOOP_EVENT.REGION_SWAP pl)
    |> onlyIf o.clampOnSwap (fun q => q |> inc d LOOP_CLAMP_SWAPS.V |> raiseWith d clsInfo LOOP_EVENT.CLAMP_ON_SWAP pl)
    |> wr d LOOP_BFP_RAISES.V (rd p d LOOP_BFP_RAISES.V + o.raises)
    |> onlyIf o.bfpEnter (raiseWith d clsInfo LOOP_EVENT.BFP_ENTER pl) |> onlyIf o.bfpExit (raiseWith d clsInfo LOOP_EVENT.BFP_EXIT pl)
    |> onlyIf o.r.stateSat (inc d LOOP_STATE_SAT.V) |> onlyIf o.r.outSat (inc d LOOP_OUT_SAT.V)
    |> onlyIf (o.r.stateSat && !old.stateSat) (raiseWith d clsWarning LOOP_EVENT.STATE_SAT pl)
    |> onlyIf (o.r.stale && !old.stale) (raiseWith d clsWarning LOOP_EVENT.FB_STALE pl)
    |> onlyIf o.plaus (raiseWith d clsWarning LOOP_EVENT.PLAUS_FAULT (.words [ofSigned 32 o.r.modRes, i]))

/-- The record of a lost logical slot (R243): from now on its output, and what a dependent slot takes from it, is RETIRE_VALUE. -/
def lostRec (p : Pkg) (x : Side) (i : Nat) : SlotRec := { slotRec p x i with lost := true, out := rdSI p x.helm LOOP_DESC.RETIRE_VALUE i }

/-- SLOT_COMPUTE (R219 to R238): one logical slot in a tick. -/
def slotCompute (x : Side) (i : Nat) (p : Pkg) : Pkg :=
  let d := x.helm
  let r0 := slotRec p x i
  if r0.lost then setSlot x i (lostRec p x i) p
  else
    let c := slotCfg p d i
    let n := slotIn p x i
    let sel := selectRegion c (regionLos p d c) n.g r0
    let g := regionAt p d (c.base + sel.1.region)
    let o := slotTick c g (sel.2 || r0.pendSwap) sel.2 n sel.1
    let trip := n.restart.isSome
    let r := { o.r with tripped := trip }
    let b := rcBins p x i r0.rcPhase
    let p := match o.bin with
      | some v => putBin x b.2 v p
      | none => p
    p |> setSlot x i r |> slotEvents x i r0 o |> onlyIf (trip && !r0.tripped) (raiseWith d clsInfo LOOP_EVENT.RESTART (.words [i]))

/-- The two bins of the next tick stand in the record (R234). -/
def rcTickEnd (x : Side) (i : Nat) (p : Pkg) : Pkg :=
  if !((slotCfg p x.helm i).rcEn) then p
  else
    let r := slotRec p x i
    let r := if rdI p x.helm LOOP_DESC.RC_SRC i = 2 then { r with rcInc := rcRate p x i } else r
    let a := rcAdvance p x i (tickEdge p x + 1000000) r.rcPhase r.rcInc
    let b := rcBins p x i a.1
    let bins := (p.lanes.get x).bins
    setSlot x i { r with rcRead := binAt bins b.1, rcUpd := binAt bins b.2 } p

/-- The set-points of a thruster from its components (R199): thrust, and the angle where the conversion gives one. -/
def setPoints (p : Pkg) (x : Side) (i : Nat) (t : Thruster) (f : Nat × Nat) : Nat × Option Nat :=
  match t.kind with
  | 0 => (f.2, none)
  | 1 => (magn f, if flt (magn f) (fmul (frat 1 100) t.rated) then none else some (course f))
  | _ =>
    let astern := bit (rdI p x.helm ASM_THR.STATE i) 6
    (f.1, some (if astern || fabs f.1 == 0 then 0 else liftAngle t.liftTable (fdiv f.2 f.1)))
where
  /-- Segments from the angle 0 outward on one side; the first whose end values enclose the ratio, else the greatest lift (R199). -/
  search (ratio best : Nat) : List (Nat × Nat) → Nat
    | [] => best
    | [_] => best
    | (a0, r0) :: (a1, r1) :: rest =>
      if (fle r0 ratio && fle ratio r1) || (fle r1 ratio && fle ratio r0) then
        (if fle r0 r1 && fle r1 r0 then a0 else fadd a0 (fmul (fsub a1 a0) (fdiv (fsub ratio r0) (fsub r1 r0))))
      else search ratio best ((a1, r1) :: rest)
  /-- The inverse of the rudder-lift table (R199). -/
  liftAngle (tab : List (Nat × Nat)) (ratio : Nat) : Nat :=
    if fabs ratio == 0 then 0
    else
      let zero := (0, tableAt tab 0)
      let pos := zero :: tab.filter (fun e => flt 0 e.1)
      let neg := zero :: (tab.filter (fun e => flt e.1 0)).reverse
      let sameSign (e : Nat × Nat) : Bool := flt 0 (fmul e.2 ratio)
      let side := if pos.any sameSign then pos else neg
      let best := (side.filter sameSign).foldl (fun (b : Nat × Nat) e => if flt (fabs b.2) (fabs e.2) then e else b) (0, 0)
      search ratio best.1 side

/-- The thruster lane values take a command (R199, R241); an unavailable thruster receives thrust 0 and keeps its angle. -/
def commandThruster (x : Side) (i : Nat) (t : Thruster) (f : Nat × Nat) (p : Pkg) : Pkg :=
  let ok := available p x i
  let s := setPoints p x i t f
  let c := if ok then f else (0, 0)
  onLane x (fun l =>
    let v := l.vals.set (2 * i) (if ok then s.1 else 0)
    let v := match s.2 with
      | some a => if ok then v.set (2 * i + 1) a else v
      | none => v
    { l with vals := v, sol := { l.sol with cmd := (if l.sol.cmd.length < 64 then List.replicate 64 0 else l.sol.cmd) |>.set (2 * i) c.1 |>.set (2 * i + 1) c.2 } }) p

/-- Every thruster takes the components of a list. -/
def commandAll (x : Side) (f : Nat → Nat × Nat) (p : Pkg) : Pkg :=
  let l := (p.layouts.get x).thrusters
  (List.range l.length).foldl (fun q (i : Nat) => match l[i]? with | some t => commandThruster x i t (f i) q | none => q) p

/-- FALLBACK_ALLOCATE (R241): forces of the three fallback slots through the layout's matrix. -/
def fallbackAllocate (x : Side) (p : Pkg) : Pkg :=
  let d := x.helm
  let tau := (List.range 3).map (fun k => codeValue (rdI p d LOOP_DESC.OUT_FS k) (slotRec p x k).out)
  let l := (p.layouts.get x).thrusters
  commandAll x (fun i =>
    let ax := [rdI p d LOOP_ALLOC.AX_X i, rdI p d LOOP_ALLOC.AX_Y i, rdI p d LOOP_ALLOC.AX_N i]
    let ay := [rdI p d LOOP_ALLOC.AY_X i, rdI p d LOOP_ALLOC.AY_Y i, rdI p d LOOP_ALLOC.AY_N i]
    (if (l[i]?).any (fun t => t.kind == 0) then 0 else vdot ax tau, vdot ay tau)) p

/-- The slots of a lane at its start or a layout apply: every monitor is reset (R238), a lost slot outputs RETIRE_VALUE (R243). -/
def slotsStart (x : Side) (p : Pkg) : Pkg :=
  forAll (List.range 256) (fun i q => setSlot x i { (if (slotRec q x i).lost then lostRec q x i else slotRec q x i) with monReset := true } q) p

/-- A physical slot is retired at a tick edge (R242, R243): its logical slot moves to the lowest-numbered free spare, or is lost. -/
def retireSlot (x : Side) (ph : Nat) (selftest : Bool) (p : Pkg) : Pkg :=
  let d := x.helm
  if flagI p d LOOP_PHYS.RETIRED ph || !(decide (ph < 272)) then p
  else
    let lg := rdI p d LOOP_PHYS.LOGICAL ph
    let free := (List.range 16).find? (fun k => !(flagI p d LOOP_PHYS.RETIRED (256 + k)) && rdI p d LOOP_PHYS.LOGICAL (256 + k) == 0xFFFF)
    let left (q : Pkg) : Pkg := wr d LOOP_STATUS.SPARES_LEFT
      (((List.range 16).filter (fun k => !(flagI q d LOOP_PHYS.RETIRED (256 + k)) && rdI q d LOOP_PHYS.LOGICAL (256 + k) == 0xFFFF)).length) q
    let p := p |> wrI d LOOP_PHYS.RETIRED ph 1 |> wrI d LOOP_PHYS.LOGICAL ph 0xFFFF |> raiseWith d clsPermanent LOOP_EVENT.SLOT_RETIRED (.words [ph, lg])
    if lg = 0xFFFF then p |> left |> recordRetired d 1 ph false selftest
    else match free with
      | some k => p |> wrI d LOOP_PHYS.LOGICAL (256 + k) lg |> wrI d LOOP_SLOT.PHYS lg (256 + k) |> left |> recordRetired d 1 ph true selftest
      | none => p |> wrI d LOOP_SLOT.PHYS lg 0xFFFF |> setSlot x lg (lostRec p x lg) |> wr d LOOP_STATUS.SLOT_LOST 1
          |> raiseWith d clsNme LOOP_EVENT.SLOT_LOST (.words [lg]) |> recordRetired d 1 ph false selftest

/-- Slots of this helm that wait for their retirement: one a tick edge, the lowest first. -/
def retireSlots (x : Side) (p : Pkg) : Pkg :=
  let due := p.retiring.filter (fun r => r.die == x.helm.num && r.kind == 1)
  match due.foldl (fun (b : Option Retire) r => match b with | some c => if r.index < c.index then some r else b | none => some r) none with
  | some r => retireSlot x r.index r.selftest { p with retiring := p.retiring.filter (fun s => s != r) }
  | none => p

/-- A pipeline that failed its built-in test goes out of use (R244). -/
def pipeFails (x : Side) (p : Pkg) : Pkg :=
  let d := x.helm
  let n := min 4 (rd p d I_LOOP.PIPES_OUT + 1)
  p |> wr d I_LOOP.PIPES_OUT n |> wr d LOOP_STATUS.PIPE_DEGRADED 1 |> raise d clsWarning LOOP_EVENT.PIPE_DEGRADED
    |> onlyIf (n == 4 && !(flag p d I_LOOP.DEAD_LOGGED)) (fun q => q |> wr d I_LOOP.DEAD_LOGGED 1 |> logAt d (eventCode clsNme 0x17 10) .unstated)

/-- A sensor of the helm is in its TEMP_CRIT condition, which ends 2 °C below the threshold (R443). -/
def helmHot (p : Pkg) (x : Side) : Bool := (List.range 3).any (flagI p x.helm I_DIE.HOT)

/-- RELEASE_ON_READY (R511). -/
def releaseOnReady (x : Side) (p : Pkg) : Pkg :=
  let d := x.helm
  if isActive p x && laneState p x.other == 3 &&
      (flag p d SOL_STATUS.SOLVER_LOST || flag p d LOOP_STATUS.SLOT_LOST || flag p d LOOP_STATUS.PIPE_DEGRADED || helmHot p x) then
    laneFault x 1 p
  else p

/-- The lane computes its slots: it runs, has an applied layout and is ACTIVE or in the standby role. -/
def laneComputes (p : Pkg) (x : Side) : Bool :=
  running p x.helm && flag p x.helm I_LANE.LAYOUT_APPLIED && decide (2 ≤ laneState p x) && decide (laneState p x ≤ 5) && decide (rd p x.helm I_LOOP.PIPES_OUT < 4)

/-- Outputs of the layout that the lanes write: those of the slots and the digital outputs with USER slot (R51, R77). -/
def dioOutputs (p : Pkg) (y : Side) : List Nat :=
  let d := y.port
  (List.range 24).filter (fun n => rdI p d SIG_OUT.USER (16 + n) == 1 && (rdI p d SIG_DIO.FUNC n == 2 || rdI p d SIG_DIO.FUNC n == 3))

/-- The digital-output bitmap of a lane for a port die (R51). -/
def laneBitmap (p : Pkg) (x y : Side) : Nat :=
  (dioOutputs p y).foldl (fun a n => a + 2 ^ n * b2n (bit (rdI p x.helm I_LANE.DIO_MAP y.num) n)) 0

/-- TICK_DIGEST (R51). -/
def tickDigest (x : Side) (p : Pkg) : Pkg :=
  let d := x.helm
  let usable := (definedSlots p d).filter (fun i => !(slotRec p x i).lost)
  let bytes := leBytes 4 (trunc 32 (tickEdge p x / 1000000)) ++ usable.flatMap (fun i => leBytes 4 (ofSigned 32 (slotRec p x i).out)) ++
    leBytes 4 (laneBitmap p x .a) ++ leBytes 4 (laneBitmap p x .b)
  p |> wr d I_LANE.TICK_DIGEST (crc32c bytes) |> wr d I_LANE.TICK_DIGEST_VALID 1

/-- The flags of a slot's status entry (chapter 08). -/
def slotFlags (p : Pkg) (x : Side) (i : Nat) : Nat :=
  let r := slotRec p x i
  b2n r.limited + 2 * b2n r.engaged + 4 * b2n r.swapHold + 8 * b2n r.plaus + 16 * b2n r.rcHold + 32 * b2n r.stale + 64 * b2n r.outSat +
    128 * b2n r.stateSat + 256 * b2n r.tracking + 512 * b2n r.lost + 1024 * b2n ((slotCfg p x.helm i).rcEn && rcPartial p x i)

/-- The fields of the delay line's readout, newest first. -/
def delayFlds : List Fld :=
  [LOOP_REC.MOD_DELAY0, LOOP_REC.MOD_DELAY1, LOOP_REC.MOD_DELAY2, LOOP_REC.MOD_DELAY3, LOOP_REC.MOD_DELAY4, LOOP_REC.MOD_DELAY5,
    LOOP_REC.MOD_DELAY6, LOOP_REC.MOD_DELAY7, LOOP_REC.MOD_DELAY8, LOOP_REC.MOD_DELAY9, LOOP_REC.MOD_DELAY10, LOOP_REC.MOD_DELAY11]

/-- The readouts of a slot: status entry and state record (Table 08-10). -/
def slotReadout (x : Side) (i : Nat) (p : Pkg) : Pkg :=
  let d := x.helm
  let r := slotRec p x i
  let st := b2n r.engaged + 2 * b2n r.swapHold + 4 * b2n r.swapNeg + 8 * b2n r.rcHold + 16 * b2n r.plaus + 32 * b2n r.tracking + 64 * b2n r.limited
  let s (F : Fld) (v : Int) (q : Pkg) : Pkg := wrSI d F i v q
  let q := p |> wrI d LOOP_SLOT.REGION i r.region |> wrI d LOOP_SLOT.BX i r.bx |> wrI d LOOP_SLOT.FLAGS i (slotFlags p x i)
    |> s LOOP_SLOT.OUT r.out |> s LOOP_SLOT.U_PRE r.uPre |> s LOOP_REC.OUT r.out |> s LOOP_REC.INTEG r.integ
    |> s LOOP_REC.BQ1_S1 r.b1s1 |> s LOOP_REC.BQ1_S2 r.b1s2 |> s LOOP_REC.BQ2_S1 r.b2s1 |> s LOOP_REC.BQ2_S2 r.b2s2
    |> s LOOP_REC.D_STATE r.dState |> s LOOP_REC.D_XPREV r.dPrev |> s LOOP_REC.Y_PREV r.yPrev
    |> wrI d LOOP_REC.RC_PHASE i r.rcPhase |> wrI d LOOP_REC.RC_INC i r.rcInc |> s LOOP_REC.RC_NEXT_READ r.rcRead |> s LOOP_REC.RC_NEXT_UPD r.rcUpd
    |> s LOOP_REC.MOD_Y r.modY |> s LOOP_REC.MOD_RES r.modRes
    |> wrI d LOOP_REC.REGION i r.region |> wrI d LOOP_REC.CAND i r.cand |> wrI d LOOP_REC.DWELL_CNT i r.dwell |> wrI d LOOP_REC.BX i r.bx
    |> wrI d LOOP_REC.STFLAGS i st |> wrI d LOOP_REC.PL_CNT i r.plCnt |> wrI d LOOP_REC.BFP_CNT i r.bfpCnt
  (List.zip delayFlds r.delay).foldl (fun q e => wrSI d e.1 i e.2 q) q

/-- The block's status and, unless frozen, its readouts at the end of a tick. -/
def loopReadouts (x : Side) (p : Pkg) : Pkg :=
  let d := x.helm
  let l := definedSlots p d
  let any (f : SlotRec → Bool) : Nat := b2n (l.any (fun i => f (slotRec p x i)))
  p |> wr d LOOP_STATUS.DEFINED l.length |> wr d LOOP_STATUS.FALLBACK (b2n (fallbackOn p x)) |> wr d LOOP_STATUS.BFP_ANY (any (fun r => decide (0 < r.bx)))
    |> wr d LOOP_STATUS.PLAUS_ANY (any (fun r => r.plaus)) |> wr d LOOP_STATUS.RC_HOLD_ANY (any (fun r => r.rcHold))
    |> onlyIf (!(flag p d LOOP_TRACE_CTRL.FREEZE)) (forAll l (slotReadout x))

/-- The slots of a lane in a tick (R210 to R245): fallback slots first, their allocation, then the others in ascending order. -/
def laneTick (x : Side) (late : Bool) (p : Pkg) : Pkg :=
  let d := x.helm
  let p := p |> wr d I_LANE.TICK_DONE 0 |> wr d I_LANE.TICK_DIGEST_VALID 0
  if !(laneComputes p x) || late then p |> wr d I_LANE.TICKS_RUN 0 |> wr d I_LANE.ELIGIBLE 0
  else
    let l := definedSlots p d
    let n := rd p d LOOP_TICKS.V + 1
    p |> forAll (l.filter (fun i => decide (i < 3))) (slotCompute x) |> onlyIf (fallbackOn p x) (fallbackAllocate x)
      |> forAll (l.filter (fun i => decide (3 ≤ i))) (slotCompute x) |> forAll l (rcTickEnd x)
      |> wr d LOOP_TICKS.V n |> wr d LOOP_PASS_MAX.V (max (rd p d LOOP_PASS_MAX.V) (Config.passEnd n))
      |> wr d I_LOOP.BIST_NEXT ((rd p d I_LOOP.BIST_NEXT + 1) % 272) |> wr d I_LANE.RESTART_ALL 0
      |> wr d I_LANE.TICK_DONE 1 |> wr d I_LANE.MISSED_TICKS 0 |> incSat d I_LANE.TICKS_RUN
      |> tickDigest x |> loopReadouts x |> tauTick x |> electionKept x

/-- The words a lane writes in a tick: each slot's outputs, then the digital outputs (R224, R51). -/
def laneWrites (p : Pkg) (x : Side) : List (Side × OutKind × Nat × Nat) :=
  (definedSlots p x.helm).flatMap (fun i => (slotOutputs p x i).map (fun o => (o.1, o.2.1, o.2.2, ofSigned 32 (slotRec p x i).out))) ++
    bothSides.flatMap (fun y => (dioOutputs p y).map (fun n => (y, OutKind.dio, n, b2n (bit (rdI p x.helm I_LANE.DIO_MAP y.num) n))))

/-- The lane issues its writes and its refresh to both port dies (R44, R81, R484). -/
def issueWrites (x : Side) (p : Pkg) : Pkg :=
  forAll (laneWrites p x) (fun (y, k, i, w) => sluiceWrite x y k i w) p |> deadHandRefresh x .a |> deadHandRefresh x .b

/-- A written word that its read-back does not show. -/
def writeMissed (p : Pkg) (y : Side) (k : OutKind) (i w : Nat) : Bool := ofSigned 32 (readBack p y k i) != w

/-- The number of an output in a log record: AOUT from 0, DIO from 16, CAN signals from 64. -/
def outNumber : OutKind → Nat → Nat
  | .dac, i => i
  | .dio, i => 16 + i
  | .can, i => 64 + i
  | .uart, i => 192 + i

/-- WRITE_PATH (R69): for its first three ticks a new active lane compares its writes with the read-back. -/
def writePath (x : Side) (ws : List (Side × OutKind × Nat × Nat)) (p : Pkg) : Pkg :=
  let d := x.helm
  let n := rd p d I_LANE.WRITE_PATH_LEFT
  if n = 0 then p
  else
    let bad := ws.filter (fun (y, k, i, w) => writeMissed p y k i w)
    p |> wr d I_LANE.WRITE_PATH_LEFT (n - 1)
      |> onlyIf (!bad.isEmpty) (raiseWith d clsWarning HG_EVENT.WRITE_PATH (.words (bad.flatMap (fun (y, k, i, _) => [y.port.num, outNumber k i]))))

/-- The outputs of a port die that the layout assigns to the lanes (R77): DAC outputs, transmit signals, digital outputs with USER slot. -/
def laneOutputs (p : Pkg) (y : Side) : List (OutKind × Nat) :=
  let d := y.port
  (((List.range 16).filter (fun o => rdI p d SIG_OUT.USER o == 1)).map (fun o => (OutKind.dac, o))) ++
    (((List.range 128).filter (fun s => rdI p d CAN_TXS.LEN s != 0)).map (fun s => (OutKind.can, s))) ++ (dioOutputs p y).map (fun n => (OutKind.dio, n))

/-- An output has received a write in the present tick. -/
def outputWritten (p : Pkg) (y : Side) : OutKind → Nat → Bool
  | .dac, i => flagI p y.port I_OUT.TICK i
  | .dio, i => flagI p y.port I_OUT.TICK (16 + i)
  | .can, i => flagI p y.port I_TXS.TICK i
  | .uart, _ => false

/-- The comparisons of a drill's dwell in a tick (R77): read-backs against the lane's writes, and outputs that received none. -/
def drillCompare (x : Side) (ws : List (Side × OutKind × Nat × Nat)) (p : Pkg) : Pkg :=
  if drilledLane p = x ∧ (rd p .sw I_PKG.DRILL_PHASE = 2 ∨ rd p .sw I_PKG.DRILL_PHASE = 3) then
    let none' := bothSides.flatMap (fun y => ((laneOutputs p y).filter (fun o => !(outputWritten p y o.1 o.2))).map (fun o => (y, o.1, o.2)))
    p |> forAll (ws.filter (fun (y, k, i, w) => writeMissed p y k i w))
        (fun (y, k, i, w) q => drillMiss y (outNumber k i) 0 w (ofSigned 32 (readBack q y k i)) q)
      |> forAll none' (fun (y, k, i) q => drillMiss y (outNumber k i) 1 0 (ofSigned 32 (readBack q y k i)) q)
  else p

/-- The active lane's writes of a tick, with the checks on them; a tick without writes fails a drill (R77). -/
def activeWrites (x : Side) (p : Pkg) : Pkg :=
  if !(isActive p x) then p
  else if flag p x.helm I_LANE.TICK_DONE && !(flag p x.helm I_MODE.OUT_HELD) then
    let ws := laneWrites p x
    p |> issueWrites x |> writePath x ws |> drillCompare x ws
  else drillCompare x [] p

/-- PER_TICK_COPY and PER_CYCLE_COPY (R47, R48): what the active lane sends at the end of a tick. -/
def sendCopies (x : Side) (p : Pkg) : Pkg :=
  let d := x.helm
  let y := x.other
  if !(isActive p x) || !(flag p d I_LANE.TICK_DONE) || !(leatCarries p) then p
  else
    let words := 24 * ((definedSlots p d).filter (fun i => !(slotRec p x i).lost)).length
    let ms := tickEdge p x / 1000000
    let p := p |> leatSend x words |> wr d LEAT_LAST_COPY.TICK_WORDS words
      |> onlyIf (takesCopies p y) (onStage y (fun s => { s with tick := some (p.lanes.get x).slots }))
    if lastTick p x then
      let kib := min 2048 (Config.cycleKib (ms / max 1 (cycleMs p x)))
      p |> leatSend x (256 * kib) |> wr d LEAT_LAST_COPY.CYCLE_KIB kib
        |> onlyIf (takesCopies p y) (onStage y (fun s => { s with cycle := some (cellsOf' cyclePick d p, p.lanes.get x) }))
    else p

/-- A pulse edge enters the tick whose edge is the first at least 50 µs after its stamp (R211). -/
def admitEdges (y : Side) (t : Nat) (p : Pkg) : Pkg :=
  let d := y.port
  let q := p.ports.get y
  let now' := q.edges.filter (fun e => decide (e.2 + 50000 ≤ t))
  let p := { p with ports := p.ports.set y { q with edges := q.edges.filter (fun e => !(decide (e.2 + 50000 ≤ t))) } }
  let p := forAll (List.range 24) (fun n => wrI d I_DIO.TICK_NEW n 0) p
  forAll now' (fun (n, s) r =>
    let k := rdI r d I_DIO.TICK_COUNT n
    r |> onlyIf (k != 0) (wrI d I_DIO.TICK_PERIOD n (s - rdI r d I_DIO.TICK_EDGE n)) |> wrI d I_DIO.TICK_EDGE n s
      |> wrI d I_DIO.TICK_COUNT n (min 2 (k + 1)) |> wrI d I_DIO.TICK_NEW n 1) p

/-- What a port die latches at a tick edge (R211, R294, R296, R81), and its part of the tick's bookkeeping. -/
def portLatch (y : Side) (p : Pkg) : Pkg :=
  let d := y.port
  if !(running p d) then p
  else
    p |> forAll (List.range 24) (fun n q => wrI d SIG_DIO.LEVEL n (rdI q d I_DIO.LEVEL n) q) |> admitEdges y (now p d)
      |> forAll ((List.range 128).filter (fun f => rdI p d SIG_FB.SRC f != 0)) (feedbackLatch d)
      |> incSat d HG_DH_STATUS.SINCE_REFRESH |> wr d I_PORT.TICK_OWNER (rd p d HG_OWNER.OWNER)
      |> forAll (List.range 40) (fun o => wrI d I_OUT.TICK o 0) |> forAll (List.range 128) (fun s => wrI d I_TXS.TICK s 0)
      |> wr d I_PORT.RAMP_DUE 1 |> onPort y (fun q => { q with done := [], uart := [] })

/-- What a port die's latches come to in a helm (R211): a die that does not reach it leaves its words and marks them stale. -/
def portDeliver (y x : Side) (p : Pkg) : Pkg :=
  let d := x.helm
  let e := y.port
  if !(running p d) then p
  else if running p e && reaches p e d then
    let fs := (List.range 128).filter (fun f => rdI p e SIG_FB.SRC f != 0)
    p |> forAll fs (fun f q => q |> wrI d I_LANE.FB (128 * y.num + f) (rdI q e SIG_FB.VALUE f) |> wrI d I_LANE.FB_STALE (128 * y.num + f) (rdI q e SIG_FB.STALE f))
      |> wrI d I_LANE.TRIP y.num (rd p e HG_DH_STATUS.TRIPPED)
  else forAll ((List.range 128).filter (fun f => rdI p e SIG_FB.SRC f != 0)) (fun f => wrI d I_LANE.FB_STALE (128 * y.num + f) 1) p

/-- SPLIT (R40): the port dies exchange their arbiter states; while they differ each evaluates again, and the first tick of a
disagreement raises the event. A die to which no peer has reported shows no agreement. -/
def splitStep (p : Pkg) : Pkg :=
  if running p .pa && running p .pb && reaches p .pa .pb then
    let diff := rd p .pa HG_OWNER.OWNER != rd p .pb HG_OWNER.OWNER
    let mark (y : Side) (q : Pkg) : Pkg :=
      q |> wr y.port HG_OWNER.PEER_AGREE (b2n (!diff)) |> onlyIf (diff && !(flag q y.port I_PORT.DIFF)) (raise y.port clsWarning HG_ARB_EVENT.SPLIT)
        |> wr y.port I_PORT.DIFF (b2n diff)
    p |> mark .a |> mark .b |> onlyIf diff (fun q => q |> arbiterStep .a |> arbiterStep .b |> authorityStep)
  else forAll ([Die.pa, .pb].filter (running p)) (fun d => wr d HG_OWNER.PEER_AGREE 0) p

/-- The standby role in a tick (R60, R61): the ticks since a limit was reached count on, and the claim driver follows the conditions. -/
def standbyTick (x : Side) (p : Pkg) : Pkg :=
  if running p x.helm then p |> wr x.helm I_LANE.LIMIT_AGE (min 1000 (rd p x.helm I_LANE.LIMIT_AGE + 1)) |> keepArmed x else p

/-- The reversion holdoff of the primary lane (R72, R73). -/
def holdoffStep (x : Side) (p : Pkg) : Pkg :=
  let d := x.helm
  if isPrimary p x && laneState p x == 3 then
    if inhibited p x || drillInProgress p || lytInProgress p || updInProgress p then holdoffZero x p
    else
      let n := rd p d I_LANE.HOLDOFF_MS + 1
      p |> wr d I_LANE.HOLDOFF_MS n |> wr d HG_STATUS.HOLDOFF_LEFT ((rd p d HG_POLICY.REVERT_HOLDOFF * 1000 - n + 999) / 1000)
  else p

/-- The next tick edge after a device time: the first millisecond boundary at least 0.5 ms away (R29, R368). -/
def nextEdge (t : Nat) : Nat :=
  let e := (t / 1000000 + 1) * 1000000
  if e - t < 500000 then e + 1000000 else e

/-- The slew in force adds its share of a millisecond (R364). -/
def slewTick (p : Pkg) : Pkg :=
  let r := rdS p .sw I_TIM.SLEW_LEFT
  let k : Int := rd p .sw TIM_LIMITS.SLEW_RATE
  let r' := if 0 ≤ r then max 0 (r - k) else min 0 (r + k)
  if r = 0 then p
  else p |> wrSI .sw I_TIM.SLEW_LEFT 0 r' |> forAll allDies (fun d q => if flag q d TIM_STATUS.SPINE_MASTER then wrSI d TIM_SLEW.REMAIN 0 (Int.tdiv r' 1000) q else q)

/-- What the gates of a die have replayed by a tick (R390): none with every gate held open (R391). -/
def gateReplays (d : Die) (p : Pkg) : Pkg :=
  if flag p d CLK_GATE_CFG.DISABLE then p else wr d CLK_GATE_REPLAY.COUNT (rd p d CLK_GATE_REPLAY.COUNT + Config.gateReplays d.num (now p d)) p

/-- Device time of every running die moves to its next tick edge (R29, R353). -/
def advanceTime (p : Pkg) : Pkg :=
  forAll (allDies.filter (clocked p)) (fun d q => q |> setNow d (nextEdge (now q d)) |> gateReplays d) p |> slewTick |> inc .sw I_PKG.OPERATING_MS

/-- The idle timer of an open transaction stands still during a long operation and a structural change (R411, R434): its start moves on
with the steward's clock, from what it read `before`. -/
def txnStands (before : Nat) (p : Pkg) : Pkg :=
  if running p .sw && rd p .sw TXN_STATUS.STATE == 1 && (flag p .sw HST_STATUS.MGMT_BUSY || lytInProgress p) then
    wr .sw I_TXN.AT (rd p .sw I_TXN.AT + (now p .sw - before)) p
  else p

/-- The release tick's distance from the boundary in ms: the first tick at or after DEADLINE_PCT of the vessel cycle (R31, R209). -/
def releaseMs (p : Pkg) (x : Side) : Nat := (cycleMs p x * rd p x.helm SOL_CFG.DEADLINE_PCT + 99) / 100

/-- The tick edge at `t` is the first at or after the last boundary plus the solver deadline (R31). -/
def releaseAt (p : Pkg) (x : Side) (t : Nat) : Bool :=
  !(flag p x.helm I_TIME.RELEASED) && decide (rd p x.helm I_TIME.BOUND_AT + releaseMs p x * 1000000 ≤ t)

/-- A helm at its tick edge, by its own tally: the edge's instant, the frame that is due at it, whether it is a vessel-cycle boundary or
the release tick (R28 to R31, R90). -/
def helmEdge (x : Side) (p : Pkg) : Pkg :=
  let d := x.helm
  if !(running p d) then p
  else
    let t := now p d
    let fr := max 1 (rd p d CFL_STATUS.FRAME_MS)
    let up := flag p d I_LANE.LAYOUT_APPLIED
    let rel := up && releaseAt p x t
    p |> wr d I_LANE.TICK_EDGE t |> wr d I_TIME.BOUND_DUE (b2n (up && boundaryAt p x t)) |> wr d I_TIME.RELEASE_DUE (b2n rel)
      |> onlyIf rel (wr d I_TIME.RELEASED 1)
      |> onlyIf (flag p d I_LANE.LAYOUT_APPLIED && t / 1000000 % fr == 0) (fun q => q |> wr d I_CFL.FRAME_T t |> wr d I_CFL.FRAME_OPEN 1)

/-- LOOP_TICK (R211): the tick edge and the lanes' pass. `failA`, `failB`: a pipeline of the lane fails its built-in test; `lateA`, `lateB`:
the lane's loop engine does not complete the tick (R63 cause code 3). -/
def loopTick (failA failB lateA lateB : Bool) (p : Pkg) : Pkg :=
  let lanes (f : Side → Pkg → Pkg) (q : Pkg) : Pkg := q |> f .a |> f .b
  let rc (x : Side) (q : Pkg) : Pkg := if laneComputes q x then forAll (definedSlots q x.helm) (rcTickStart x) q else q
  p |> advanceTime |> txnStands (now p .sw) |> networkTick |> splitStep |> lanes helmEdge |> lanes takeTickCopy |> lanes rc
    |> lanes portLatch |> lanes (fun x q => q |> portDeliver .a x |> portDeliver .b x)
    |> lanes retireSlots |> onlyIf failA (pipeFails .a) |> onlyIf failB (pipeFails .b) |> lanes releaseOnReady
    |> laneTick .a lateA |> laneTick .b lateB |> lanes activeWrites |> lanes sendCopies |> lanes standbyTick |> lanes holdoffStep

/-- REGION_SWAP (R225, R226): the slot's dwell count has reached DWELL with a candidate other than its region; it swaps in the present
tick, from the inputs of that tick. -/
def regionSwap (x : Side) (i : Nat) (p : Pkg) : Pkg :=
  let d := x.helm
  let c := slotCfg p d i
  let r := slotRec p x i
  if laneComputes p x && slotDefined p d i && decide (i < 256) && decide (1 < c.nreg) && r.cand != r.region && decide (max 1 c.dwell ≤ r.dwell) && !r.lost then
    let r1 := { r with region := r.cand }
    let o := slotTick c (regionAt p d (c.base + r1.region)) true true (slotIn p x i) r1
    p |> setSlot x i o.r |> slotEvents x i r o
  else p

/-- BFP_EXIT (R218): BFP_CNT has reached BFP_DWELL. -/
def bfpExit (x : Side) (i : Nat) (p : Pkg) : Pkg :=
  let d := x.helm
  if laneComputes p x && slotDefined p d i && decide (i < 256) then
    let o := bfpLower (slotCfg p d i) (slotRec p x i)
    p |> setSlot x i o.1 |> onlyIf o.2 (raiseWith d clsInfo LOOP_EVENT.BFP_EXIT (.words [i]))
  else p

/-- RC_HOLD (R232): the period is out of range or the pulse source silent. -/
def rcHold (x : Side) (i : Nat) (p : Pkg) : Pkg :=
  if laneComputes p x && slotDefined p x.helm i && decide (i < 256) && !(slotRec p x i).rcHold then rcHoldStep x i (tickEdge p x) p else p

/-- PLAUS_FAULT (R236): PL_CNT has reached PL_TIME. -/
def plausFault (x : Side) (i : Nat) (p : Pkg) : Pkg :=
  let d := x.helm
  let c := slotCfg p d i
  let r := slotRec p x i
  if laneComputes p x && slotDefined p d i && decide (i < 256) && c.plausEn && decide (max 1 c.plTime ≤ r.plCnt) && !r.plaus then
    p |> setSlot x i { r with plaus := true } |> raiseWith d clsWarning LOOP_EVENT.PLAUS_FAULT (.words [ofSigned 32 r.modRes, i])
  else p

/-- A committed LOOP_PLAUS_ACK bit (R237, R238): the fault clears and the monitor is reset. -/
def plausAck (x : Side) (i : Nat) (p : Pkg) : Pkg :=
  let d := x.helm
  let r := slotRec p x i
  if running p d && slotDefined p d i && decide (i < 256) then
    p |> setSlot x i { r with plaus := false, monReset := true } |> onlyIf r.plaus (raiseWith d clsInfo LOOP_EVENT.PLAUS_CLEARED (.words [i]))
  else p

/-- LOOP_TRACE_FREEZE (R58): a write of LOOP_TRACE_CTRL.FREEZE in one helm. -/
def loopTraceFreeze (x : Side) (on : Bool) (p : Pkg) : Pkg :=
  if running p x.helm then wr x.helm LOOP_TRACE_CTRL.FREEZE (b2n on) p else p

/-! The commands of the table: one meaning each. -/

/-- LOOP_TICK (R211). -/
def execLoopTick (a b : LaneTick) (s : State) : Host.Outcome State Fault Refusal := nextPk s (loopTick a.fail b.fail a.late b.late)

/-- REGION_SWAP (R225). -/
def execRegionSwap (x : Side) (i : Nat) (s : State) : Host.Outcome State Fault Refusal := nextPk s (regionSwap x i)

/-- BFP_EXIT (R218). -/
def execBfpExit (x : Side) (i : Nat) (s : State) : Host.Outcome State Fault Refusal := nextPk s (bfpExit x i)

/-- RC_HOLD (R232). -/
def execRcHold (x : Side) (i : Nat) (s : State) : Host.Outcome State Fault Refusal := nextPk s (rcHold x i)

/-- PLAUS_FAULT (R236). -/
def execPlausFault (x : Side) (i : Nat) (s : State) : Host.Outcome State Fault Refusal := nextPk s (plausFault x i)

/-- PLAUS_ACK (R237). -/
def execPlausAck (x : Side) (i : Nat) (s : State) : Host.Outcome State Fault Refusal := nextPk s (plausAck x i)

/-- LOOP_TRACE_FREEZE (R58). -/
def execLoopTraceFreeze (x : Side) (on : Bool) (s : State) : Host.Outcome State Fault Refusal := nextPk s (loopTraceFreeze x on)

end Sys2Proof.Machine
end

