-- ==== Sys2Proof/Machine/Boundary.lean ====
section
/-! DEFINITION. Chapters 01, 02, 05, 07 and 15: the vessel-cycle boundary, the commands of the flumes, the release tick and the
frame record. -/

namespace Sys2Proof.Machine

/-- The lane runs on an applied layout in a state from the standby role up. -/
def laneUp (p : Pkg) (x : Side) : Bool :=
  running p x.helm && flag p x.helm I_LANE.LAYOUT_APPLIED && decide (2 ≤ laneState p x)

/-! Retirement at a boundary (R205, R330, R445, R59). -/

/-- The waiting resource of a die and kind with the lowest index (R445). -/
def nextRetire (p : Pkg) (d : Die) (kind : Nat) : Option Retire :=
  (p.retiring.filter (fun r => r.die == d.num && r.kind == kind)).foldl
    (fun (b : Option Retire) r => match b with | some c => if r.index < c.index then some r else b | none => some r) none

/-- A culvert link is marked down for good (R17, Table 17-3): link `i / 2`, plane `i % 2`. -/
def linkRetire (i : Nat) (p : Pkg) : Pkg :=
  let st := rdI p .sw STW_LINK.STATE (i / 2)
  let up := 2 ^ (i % 2)
  p |> wrI .sw I_PKG.CULVERT_DOWN i 1 |> wrI .sw STW_LINK.STATE (i / 2) (Nat.lor (if bit st (i % 2) then st - up else st) (4 * up))

/-- A furrow engine is retired in a lane; when its work has moved to the spare, the partner mirrors it at the next boundary (R59,
R205, R207). -/
def furrowRetire (x : Side) (e : Nat) (p : Pkg) : Pkg × Bool :=
  let r := retireFurrow x e p
  if r.2 then
    let y := x.other.num
    (wrI .sw I_PKG.MIRROR y (Nat.lor (rdI r.1 .sw I_PKG.MIRROR y) (2 ^ e)) r.1, true)
  else r

/-- Take a resource out of use; answers whether a spare took over (Table 17-3). -/
def retireResource (d : Die) (kind i : Nat) (p : Pkg) : Pkg × Bool :=
  match kind with
  | 0 => retirePage d i p
  | 2 => furrowRetire (Die.side d) i p
  | 4 => (canRetire (Die.side d) i p, i != 4 && !(flag p d CAN_DIE_STATUS.SPARE_USED) && !(bit (rd p d CAN_DIE_STATUS.RETIRED) 4))
  | 5 => (wrI d I_PORT.AIN_RETIRED i 1 p, false)
  | _ => (linkRetire i p, true)

/-- A die retires at most one resource of a kind (R445). -/
def retireOne (d : Die) (kind : Nat) (p : Pkg) : Pkg :=
  match nextRetire p d kind with
  | none => p
  | some r =>
    let p := { p with retiring := p.retiring.filter (fun s => s != r) }
    if !(running p d) || resourceRetired p d kind r.index then p
    else
      let q := retireResource d kind r.index p
      recordRetired d kind r.index q.2 r.selftest q.1

/-- FURROW_MIRROR (R59): a lane retires the engines whose work its partner has moved to the spare. -/
def mirrorFurrows (x : Side) (p : Pkg) : Pkg :=
  let d := x.helm
  let m := rdI p .sw I_PKG.MIRROR x.num
  if m = 0 || !(running p d) then p
  else
    let step (e : Nat) (q : Pkg) : Pkg :=
      if bit m e && !(bit (rd q d SOL_FURROW_STATE.RETIRED) e) then
        let r := retireFurrow x e q
        recordRetired d 2 e r.2 false r.1
      else q
    p |> forAll (List.range 9) step |> wrI .sw I_PKG.MIRROR x.num 0

/-- The retirements of a boundary (R445): the mirrored engines first, then one resource of each kind a die. -/
def boundaryRetire (p : Pkg) : Pkg :=
  let ma := rdI p .sw I_PKG.MIRROR 0 != 0
  let mb := rdI p .sw I_PKG.MIRROR 1 != 0
  p |> mirrorFurrows .a |> mirrorFurrows .b
    |> forAll allDies (fun d q => forAll [0, 4, 5, 6] (retireOne d) q)
    |> onlyIf (!ma) (retireOne .ha 2) |> onlyIf (!mb) (retireOne .hb 2)

/-! Set-points in STANDBY and MANUAL (R138, R485). -/

/-- The components that a thrust and an angle stand for (R176). -/
def compsOf (t : Thruster) (f a : Nat) : Nat × Nat :=
  match t.kind with
  | 0 => (0, f)
  | 1 => (fmul f (Config.fcos (toRad a)), fmul f (Config.fsin (toRad a)))
  | _ => (f, if flt f 0 then 0 else fmul f (tableAt t.liftTable a))

/-- Write a thruster's set-points; the angle stays without a new one. -/
def setThruster (x : Side) (i : Nat) (t : Thruster) (f : Nat) (a : Option Nat) (p : Pkg) : Pkg :=
  onLane x (fun l =>
    let v := l.vals.set (2 * i) f
    let v := match a with
      | some b => v.set (2 * i + 1) b
      | none => v
    let c := compsOf t f (vget v (2 * i + 1))
    let cmd := if l.sol.cmd.length < 64 then List.replicate 64 0 else l.sol.cmd
    { l with vals := v, sol := { l.sol with cmd := (cmd.set (2 * i) c.1).set (2 * i + 1) c.2 } }) p

/-- A thruster in MANUAL (R138, R485): its command, or thrust 0 at the angle measured when MANUAL was entered. -/
def manualThruster (x : Side) (i : Nat) (t : Thruster) (p : Pkg) : Pkg :=
  let l := p.lanes.get x
  match l.thrMan.find? (fun m => m.1 == i) with
  | some m => setThruster x i t (fmul (f32to64 m.2.1) t.rated) (if t.kind = 0 then none else some (f32to64 m.2.2)) p
  | none =>
    if t.kind = 0 then setThruster x i t 0 none p
    else match l.thrAngleHeld.find? (fun h => h.1 == i) with
      | some h => setThruster x i t 0 (some h.2) p
      | none =>
        let a := if rdI p x.helm LOOP_DESC.FB_KIND t.angSlot = 1 then slotFeedback p x t.angSlot else vget l.vals (2 * i + 1)
        p |> onLane x (fun l => { l with thrAngleHeld := l.thrAngleHeld ++ [(i, a)] }) |> setThruster x i t 0 (some a)

/-- The set-points a boundary writes in STANDBY and in MANUAL (R138). -/
def handSetPoints (x : Side) (p : Pkg) : Pkg :=
  let l := (p.layouts.get x).thrusters
  let m := modeOf p x
  let one (i : Nat) (t : Thruster) (q : Pkg) : Pkg :=
    if m = 0 then setThruster x i t 0 none q else if m = 1 then manualThruster x i t q else q
  (List.range l.length).foldl (fun q (i : Nat) => match l[i]? with | some t => one i t q | none => q) p

/-! The commands of the flumes (R144 to R149, R397, R482). -/

/-- The first ACCEPTED MODE command releases the outputs: at that boundary tick an ACTIVE lane issues its first writes and refresh
(R482). -/
def releaseOutputs (x : Side) (held : Bool) (p : Pkg) : Pkg :=
  if held && !(flag p x.helm I_MODE.OUT_HELD) && isActive p x then issueWrites x p else p

/-- One command admitted at a boundary in one lane; the second of two with equal slot and counter is only counted (R397). -/
def admitCommand (x : Side) (tb : Int) (code : Nat) (c : Cmd) (p : Pkg) : Pkg :=
  if (p.lanes.get x).seen.contains (c.slot, c.counter) then onlyIf (isActive p x) (inc .sw HST_DUP.V) p
  else
    let held := flag p x.helm I_MODE.OUT_HELD
    p |> onLane x (fun l => { l with seen := ((c.slot, c.counter) :: l.seen).take 1024 }) |> applyCommand x tb code c |> releaseOutputs x held

/-- The command that a boundary has applied last (R144). -/
def noteApplied (d : Die) (c : Cmd) (p : Pkg) : Pkg :=
  p |> wr d I_SP.LAST_STAMP c.stamp |> wr d I_SP.LAST_DIE c.die |> wr d I_SP.LAST_CNT c.counter

/-- A command comes at or after the last one of the boundary in the order of R144. -/
def inOrder (p : Pkg) (d : Die) (c : Cmd) : Bool :=
  let s := rd p d I_SP.LAST_STAMP
  let e := rd p d I_SP.LAST_DIE
  decide (s < c.stamp) || (s == c.stamp && (decide (e < c.die) || (e == c.die && decide (rd p d I_SP.LAST_CNT ≤ c.counter))))

/-- A boundary still admits a command: the lane stands at it, the command's stamp is not after it, and it comes in order (R57, R144). -/
def rowAdmits (p : Pkg) (x : Side) (c : Cmd) : Bool :=
  laneUp p x && standsAtBoundary p x && decide (c.stamp ≤ now p x.helm) && inOrder p x.helm c

/-- What a boundary's status shows after a command that it has applied (R138, R141, R152, R153). -/
def afterCommand (x : Side) (tb : Int) (p : Pkg) : Pkg := p |> estDegraded x |> rampStatus x tb |> handSetPoints x

/-- A command's row (R144): a lane that stands at its boundary applies it there; else it waits in the lane's flume for the boundary that
admits it. -/
def flumeCommand (code : Nat) (c : Cmd) (p : Pkg) : Pkg :=
  let lane (x : Side) (q : Pkg) : Pkg :=
    if rowAdmits q x c then q |> noteApplied x.helm c |> admitCommand x (now q x.helm) code c |> afterCommand x (now q x.helm)
    else if laneUp q x then onLane x (fun l => { l with flume := l.flume ++ [⟨code, c, false⟩] }) q
    else q
  p |> lane .a |> lane .b

/-- Ascending order of stamp, then die, then sequence number (R144). -/
def flumeBefore (a b : FlumeEntry) : Bool :=
  decide (a.cmd.stamp < b.cmd.stamp) || (a.cmd.stamp == b.cmd.stamp && (decide (a.cmd.die < b.cmd.die) ||
    (a.cmd.die == b.cmd.die && decide (a.cmd.counter ≤ b.cmd.counter))))

/-- The entries that a boundary admits, in their order; their space returns later (R144, R406). -/
def applyAdmitted (x : Side) (tb : Nat) (p : Pkg) : Pkg :=
  let due (e : FlumeEntry) : Bool := !e.used && decide (e.cmd.stamp ≤ tb)
  let l := ((p.lanes.get x).flume.filter due).mergeSort flumeBefore
  p |> onLane x (fun l => { l with flume := l.flume.map (fun e => if due e then { e with used := true } else e) })
    |> forAll l (fun e q => q |> noteApplied x.helm e.cmd |> admitCommand x tb e.code e.cmd)

/-! The paired fields (R58) and the CYCLE entry (Table 15-7). -/

/-- Fields named unpaired: the trace controls. -/
def unpaired : List Fld := [SOL_TRACE_CTRL.FREEZE, LOOP_TRACE_CTRL.FREEZE]

/-- The rows of the CFL_, EST_, SP_, ASM_, SOL_ and LOOP_ blocks with paired fields, in address order. -/
def pairedRows : List RegRow :=
  ((regRowsLane.filter (fun r => decide (0x200000 ≤ r.off) && decide (r.off < 0x380000))).map (fun r =>
      { r with flds := r.flds.filter (fun F => (F.acc == .rw || F.acc == .tx) && !(unpaired.contains F)) })).filter (fun r => !r.flds.isEmpty)
    |>.mergeSort (fun a b => decide (a.off ≤ b.off))

/-- HG_PAIR_HASH (R58): CRC-32C over the applied values, each as little-endian words of 32 bits. -/
def pairHash (p : Pkg) (x : Side) : Nat :=
  crc32c (pairedRows.flatMap (fun r => (List.range r.count).flatMap (fun i =>
    r.flds.flatMap (fun F => leBytes (if F.w ≤ 32 then 4 else 8) (rdI p x.helm F i)))))

/-- Lane state as Table 02-1 codes it, from the steward's point of view: a lane whose die does not run is DOWN. -/
def shownLane (p : Pkg) (x : Side) : Nat := if running p x.helm then laneState p x else 0

/-- The content of a CYCLE entry (Table 15-7). -/
def cycleEntry (p : Pkg) (x : Side) (tb : Nat) : List Nat :=
  let d := x.helm
  leBytes 8 tb ++ [shownLane p .a, shownLane p .b, modeOf p x, rd p d SP_STATUS.CMD_SLOT, rd p d SOL_STATUS.RESULT, rd p d EST_STATUS.PHASE,
    rd p d TIM_STATUS.STATE, rd p .sw HST_STATUS.MGMT_BUSY + 2 * rd p .sw HST_STATUS.BUSY_OP + 16 * rd p .sw TXN_STATUS.STATE,
    rd p .sw HST_STATUS.PROGRESS] ++ List.replicate 7 0

/-- CYCLE_TELEMETRY (R408): the active lane writes the entry for every session that subscribes to it. -/
def cycleTelemetry (x : Side) (tb : Nat) (p : Pkg) : Pkg :=
  if isActive p x then
    forAll (List.range 8) (fun s q => if bit (rdI p x.helm I_TEL.MASK s) 1 then telPut x s (.cycle (cycleEntry p x tb)) q else q) p
  else p

/-- The boundary's own frame is closed, so that its output stands (Table 01-10: the mode logic follows the record of the boundary frame). -/
def frameClosed (p : Pkg) (x : Side) : Bool := !(flag p x.helm I_CFL.FRAME_OPEN)

/-- The lane runs, its own tally stands at a vessel-cycle boundary that it has not yet run, committed values have taken effect, and the
boundary's frame is closed (R28 to R30, R143, R421). -/
def atBoundary (p : Pkg) (x : Side) : Bool :=
  laneUp p x && flag p x.helm I_TIME.BOUND_DUE && !(applyDue p (now p x.helm)) && frameClosed p x

/-- A vessel-cycle boundary of the package: a lane stands at one, or no lane runs that could. -/
def pkgBoundary (p : Pkg) : Bool := atBoundary p .a || atBoundary p .b || (!(laneUp p .a) && !(laneUp p .b))

/-- What a lane does at its boundary after the committed values and the retirements (R28, R421): estimator, datum, commands, track,
targets, availability, power, stores, set-points, hash and telemetry. -/
def laneBoundary (x : Side) (p : Pkg) : Pkg :=
  let d := x.helm
  if !(atBoundary p x) then p
  else
    let tb := now p d
    p |> wr d I_TIME.BOUND_DUE 0 |> wr d I_TIME.BOUND_AT tb |> wr d I_TIME.RELEASED 0 |> noteApplied d ⟨0, 0, 0, 0, 0, []⟩ |> boundarySources x |> waveAdapt x |> datumBoundary x |> navBoundary x tb |> applyAdmitted x tb
      |> trackBoundary x tb |> weathervane x tb |> estDegraded x |> rampStatus x tb |> availability x |> powerBoundary x |> handSetPoints x
      |> (fun q => wr d HG_PAIR_HASH.HASH (pairHash q x) q)
      |> wr d I_LANE.CYCLE_DIGEST_VALID 0 |> wr d I_CFL.SAW_STEP 0 |> cycleTelemetry x tb

/-- VESSEL_CYCLE_BOUNDARY (R28, R29): each lane whose own tally stands at a boundary runs it. -/
def vesselCycleBoundary (p : Pkg) : Pkg :=
  let a := atBoundary p .a
  let b := atBoundary p .b
  let stand (x : Side) (q : Pkg) : Pkg := if atBoundary q x then takeCycleCopy x q else q
  let hw (x : Side) (q : Pkg) : Pkg := onlyIf (followed q == x) (fun q => q |> hwBoundary .a (modeOf q x) |> hwBoundary .b (modeOf q x)) q
  p |> stand .a |> stand .b |> onlyIf (pkgBoundary p) boundaryRetire |> laneBoundary .a |> laneBoundary .b |> onlyIf a (hw .a) |> onlyIf b (hw .b)

/-! The release tick (R31, R52, R198 to R202). -/

/-- The solver status word (R198). -/
def statusWord (p : Pkg) (d : Die) : Nat :=
  [SOL_STATUS.RESULT, SOL_STATUS.ITERS, SOL_STATUS.WARM, SOL_STATUS.PIV_REPLACED, SOL_STATUS.REFINE_EXT, SOL_STATUS.RETRY, SOL_STATUS.CLIPPED,
    SOL_STATUS.FALLBACK, SOL_STATUS.SOLVER_LOST, SOL_STATUS.PIV_COUNT].foldl (fun a F => a + 2 ^ F.lo * rd p d F) 0

/-- CYCLE_DIGEST (R52): over the frame records since the last one, the result vector and the status word. -/
def cycleDigest (x : Side) (p : Pkg) : Pkg :=
  let d := x.helm
  let l := p.lanes.get x
  let bytes := l.records.flatMap id ++ l.sol.result.flatMap (leBytes 8) ++ leBytes 4 (statusWord p d)
  p |> wr d I_LANE.CYCLE_DIGEST (crc32c bytes) |> wr d I_LANE.CYCLE_DIGEST_VALID 1 |> onLane x (fun l => { l with records := [] })

/-- The status fields take the values of a cycle's run (R198). -/
def showRun (d : Die) (status iters pivots : Nat) (warm ext retry clipped : Bool) (merit : Nat) (p : Pkg) : Pkg :=
  p |> wr d SOL_STATUS.RESULT status |> wr d SOL_STATUS.ITERS iters |> wr d SOL_STATUS.WARM (b2n warm) |> wr d SOL_STATUS.PIV_REPLACED (b2n (pivots != 0))
    |> wr d SOL_STATUS.REFINE_EXT (b2n ext) |> wr d SOL_STATUS.RETRY (b2n retry) |> wr d SOL_STATUS.CLIPPED (b2n clipped)
    |> wr d SOL_STATUS.PIV_COUNT (min pivots 65535) |> wr d SOL_MERIT.MERIT (f64to32 merit)

/-- The counter of a status (Table 07-2). -/
def statusCounter : Nat → Fld
  | 0 => SOL_OPTIMAL.V | 1 => SOL_ITER_LIMIT.V | 2 => SOL_DEADLINE.V | 3 => SOL_STALE.V | _ => SOL_NONFINITE.V

/-- Counters and events of a run. -/
def countRun (d : Die) (r : SolRun) (p : Pkg) : Pkg :=
  p |> inc d SOL_RUNS.V |> inc d (statusCounter r.status) |> wr d SOL_PIV_REPL_CNT.V (rd p d SOL_PIV_REPL_CNT.V + r.pivots)
    |> wr d SOL_REFINE_EXT.V (rd p d SOL_REFINE_EXT.V + r.extended)
    |> onlyIf (r.status != 0) (raise d clsWarning SOL_EVENT.NOT_OPTIMAL) |> onlyIf (r.status == 4) (raise d clsWarning SOL_EVENT.NONFINITE)
    |> onlyIf (r.status == 2) (raise d clsWarning SOL_EVENT.DEADLINE) |> onlyIf (r.status == 3) (raise d clsWarning SOL_EVENT.STALE)
    |> onlyIf (r.pivots != 0) (raise d clsInfo SOL_EVENT.PIV_REPLACED) |> onlyIf (r.extended != 0) (raise d clsInfo SOL_EVENT.REFINE_EXT)

/-- The readouts of blocks 0x032 and 0x033 at a release tick (Table 07-9). -/
def showResult (d : Die) (r : SolRun) (p : Pkg) : Pkg :=
  let one (i : Nat) (q : Pkg) : Pkg :=
    let t := (r.trace[i]?).getD ⟨0, 0, 0, 0, 0, 0, 0, 0⟩
    q |> wrI d SOL_TRACE.R_P i (f64to32 t.rp) |> wrI d SOL_TRACE.R_D i (f64to32 t.rd) |> wrI d SOL_TRACE.MU i (f64to32 t.mu)
      |> wrI d SOL_TRACE.MERIT i (f64to32 t.merit) |> wrI d SOL_TRACE.ALPHA i (f64to32 t.alpha) |> wrI d SOL_TRACE.SIGMA i (f64to32 t.sigma)
      |> wrI d SOL_TRACE.PIVOTS i (min t.pivots 65535) |> wrI d SOL_TRACE.FLAGS i t.flags
  p |> forAll (List.range (min 4096 (rd p d ASM_SIZE.NVARS))) (fun j => wrI d SOL_RES.V j (vget r.result j)) |> forAll (List.range 41) one

/-- The step-0 commands of a result become the set-points (R199). -/
def applyResult (x : Side) (z : List Nat) (p : Pkg) : Pkg := commandAll x (fun i => stepThrust p x z 0 i) p

/-- The axes whose error Table 08-5 fixes at 0 start with an empty integrator (R240). -/
def fallbackEnter (x : Side) (p : Pkg) : Pkg :=
  let d := x.helm
  let zero := if modeOf p x = 2 then [0, 1, 2] else if modeOf p x = 3 then [0, 1] else []
  p |> wr d SOL_STATUS.FALLBACK 1 |> wr d LOOP_STATUS.FALLBACK 1 |> raise d clsWarning SOL_EVENT.FALLBACK_ENTER
    |> forAll zero (fun i q => setSlot x i { slotRec q x i with integ := 0 } q)

/-- R200 to R202: count the status, and let the result, or the fallback law, command the thrusters. -/
def fallbackStep (x : Side) (r : SolRun) (p : Pkg) : Pkg :=
  let d := x.helm
  let ok := r.status == 0
  let p := if ok then p |> incSat d SOL_CONSEC.OPT_RUN |> wr d SOL_CONSEC.NOT_OPT_RUN 0
    else p |> incSat d SOL_CONSEC.NOT_OPT_RUN |> wr d SOL_CONSEC.OPT_RUN 0
  if flag p d SOL_STATUS.FALLBACK then
    if ok && decide (rd p d SOL_ITER.RETURN_N ≤ rd p d SOL_CONSEC.OPT_RUN) then
      p |> wr d SOL_STATUS.FALLBACK 0 |> wr d LOOP_STATUS.FALLBACK 0 |> wr d I_SOL.FROM_FB 1 |> raise d clsInfo SOL_EVENT.FALLBACK_EXIT
        |> applyResult x r.result
    else p
  else if !ok && decide (rd p d SOL_ITER.FALLBACK_N ≤ rd p d SOL_CONSEC.NOT_OPT_RUN) then fallbackEnter x p
  else applyResult x r.result p

/-- The held run takes effect at the release tick (R191, R197, R198). -/
def releaseRun (x : Side) (r : SolRun) (p : Pkg) : Pkg :=
  let d := x.helm
  let p := p |> showRun d r.status r.iters r.pivots r.warm (r.extended != 0) r.retry r.clipped r.merit |> countRun d r
    |> onlyIf (!(flag p d SOL_TRACE_CTRL.FREEZE)) (showResult d r)
  let n := rd p d SOL_RUNS.V
  p |> forAll (List.range 9) (fun e => wrI d SOL_ENG.BUSY e (if r.stale then 0 else Config.engineBusy e n))
    |> onSol x (fun s => { s with warm := r.iterate, result := r.result, run := none })
    |> wr d I_SOL.COLD (b2n (r.status == 3 || r.status == 4)) |> wr d I_SOL.HAVE_PREV 1 |> fallbackStep x r

/-- A lane at its release tick, by its own tally (R31). -/
def laneRelease (x : Side) (p : Pkg) : Pkg :=
  let d := x.helm
  if !(laneUp p x) || !(flag p d I_TIME.RELEASE_DUE) then p
  else let p := wr d I_TIME.RELEASE_DUE 0 p
  if modeOf p x < 2 then
    p |> showRun d 5 0 0 false false false false 0 |> onSol x (fun s => { s with run := none }) |> cycleDigest x
  else match (p.lanes.get x).sol.run with
    | some r => p |> releaseRun x r |> cycleDigest x
    | none => cycleDigest x p

/-- RELEASE_TICK (R31). -/
def releaseTick (p : Pkg) : Pkg := p |> laneRelease .a |> laneRelease .b

/-! The frame record (R111, R137, R408). -/

/-- The fallback law's inputs (Table 08-5): errors and feed-forward from the frame's low-frequency fields. -/
def fallbackInputs (x : Side) (t : Int) (p : Pkg) : Pkg :=
  let m := modeOf p x
  let l := p.lanes.get x
  let g := vget l.est.x
  let ref := refPoint p x t
  let dn := fsub (vget ref 0) (g 0)
  let de := fsub (vget ref 1) (g 1)
  let co := Config.fcos (g 2)
  let si := Config.fsin (g 2)
  let pos := decide (4 ≤ m) && decide (m ≤ 6)
  let hdg := m == 3 || pos
  let e := [if pos then fadd (fmul co dn) (fmul si de) else 0, if pos then fsub (fmul co de) (fmul si dn) else 0,
    if hdg then wrap180 (toDeg (fsub (l.ramp.h.eval t).p (g 2))) else 0]
  let joy := m == 2 || m == 3
  let f := [if joy then vget l.joy 0 else if pos then fneg (vget l.wind 0) else 0, if joy then vget l.joy 1 else if pos then fneg (vget l.wind 1) else 0,
    if m == 2 then vget l.joy 2 else if hdg then fneg (vget l.wind 2) else 0]
  onLane x (fun l => { l with vals := (List.range 6).foldl (fun v (k : Nat) => v.set (64 + k) (vget (e ++ f) k)) l.vals }) p

/-- FRAME_RECORD_EMIT (R111): the record of the last closed frame goes to the lane's consumers and to the sessions that subscribe. -/
def frameRecordEmit (x : Side) (p : Pkg) : Pkg :=
  let d := x.helm
  let t := rd p d I_CFL.PREV_T
  if !(running p d) || !(flag p d I_LANE.LAYOUT_APPLIED) || t == rd p d I_CFL.EMITTED then p
  else
    let b := frameRecord p x
    let n := rd p d I_TEL.FRAMES + 1
    let wants (s : Nat) : Bool := bit (rdI p d I_TEL.MASK s) 0 && rdI p d I_TEL.DIV s != 0 && n % max 1 (rdI p d I_TEL.DIV s) == 0
    p |> wr d I_CFL.EMITTED t |> onLane x (fun l => { l with record := b, records := l.records ++ [b] }) |> wr d I_TEL.FRAMES n
      |> fallbackInputs x t |> gnssUpdate x |> forAll ((List.range 8).filter wants) (fun s => telPut x s (.frame b))

/-! The commands of the table: one meaning each. -/

/-- FRAME_RECORD_EMIT (R111). -/
def execFrameRecordEmit (x : Side) (s : State) : Host.Outcome State Fault Refusal := nextPk s (frameRecordEmit x)

/-- MODE (R140). -/
def execModeCmd (c : Cmd) (s : State) : Host.Outcome State Fault Refusal := nextPk s (flumeCommand 1 c)

/-- TARGET_POS (R147). -/
def execTargetPos (c : Cmd) (s : State) : Host.Outcome State Fault Refusal := nextPk s (flumeCommand 2 c)

/-- MOVE_REL (R147). -/
def execMoveRel (c : Cmd) (s : State) : Host.Outcome State Fault Refusal := nextPk s (flumeCommand 3 c)

/-- TARGET_HDG (R146). -/
def execTargetHdg (c : Cmd) (s : State) : Host.Outcome State Fault Refusal := nextPk s (flumeCommand 4 c)

/-- JOYSTICK (R148). -/
def execJoystick (c : Cmd) (s : State) : Host.Outcome State Fault Refusal := nextPk s (flumeCommand 5 c)

/-- THRUSTER_MANUAL (R138). -/
def execThrusterManual (c : Cmd) (s : State) : Host.Outcome State Fault Refusal := nextPk s (flumeCommand 6 c)

/-- WAYPOINTS (R155). -/
def execWaypoints (c : Cmd) (s : State) : Host.Outcome State Fault Refusal := nextPk s (flumeCommand 7 c)

/-- TAKE_COMMAND (R145). -/
def execTakeCommand (c : Cmd) (s : State) : Host.Outcome State Fault Refusal := nextPk s (flumeCommand 8 c)

/-- STOP (R149). -/
def execStopCmd (c : Cmd) (s : State) : Host.Outcome State Fault Refusal := nextPk s (flumeCommand 9 c)

/-- TEL_SUB (R408). -/
def execTelSub (c : Cmd) (s : State) : Host.Outcome State Fault Refusal := nextPk s (flumeCommand 0x80 c)

/-- RELEASE_TICK (R31). -/
def execReleaseTick (s : State) : Host.Outcome State Fault Refusal := nextPk s releaseTick

end Sys2Proof.Machine
end

