-- ==== Sys2Proof/Machine/Time.lean ====
section
/-! DEFINITION. Chapter 13: the time spine, the states of device time, the servo, steps, UTC and the time pulses. -/

namespace Sys2Proof.Machine

/-- The spine master (R355): the port die whose TIM_STATUS says that it drives the spine. -/
def spineMaster (p : Pkg) : Side := if flag p .pb TIM_STATUS.SPINE_MASTER then .b else .a

/-- The die of the spine master. -/
def masterDie (p : Pkg) : Die := (spineMaster p).port

/-- Device time state as the master's spine word carries it (Table 13-1). -/
def timeState (p : Pkg) : Nat := rd p (masterDie p) TIM_STATUS.STATE

/-- LOCK_OUT pins follow the device time state (R374). -/
def lockOutPins (y : Side) (p : Pkg) : Pkg :=
  let d := y.port
  forAll ((List.range 4).filter (fun k => rdI p d TIM_TP.MODE k == 3))
    (fun k q => wrI d I_TP.LEVEL k (b2n ((rd q d TIM_STATUS.STATE == 3) != flagI q d TIM_TP.POLARITY k)) q) p

/-- clockClass of a device time state (Table 13-1). -/
def clockClass (p : Pkg) (v : Nat) : Nat := if v = 3 ∧ timeRef p = 1 then 6 else if v = 4 then 7 else 248

/-- A die takes the device time state (R355); LOCK_OUT pins and the announced clockClass follow in a port die (R348, R374). -/
def takeState (d : Die) (v : Nat) (p : Pkg) : Pkg :=
  let p := wr d TIM_STATUS.STATE v p
  let port (y : Side) (q : Pkg) : Pkg := q |> lockOutPins y |> wr y.port PTP_OC_STATUS.CLOCK_CLASS (clockClass q v)
  if d = .pa then port .a p else if d = .pb then port .b p else p

/-- The device time state changes: the steward and the master hold it at once, the other dies from the next mark. -/
def setTimeState (v : Nat) (p : Pkg) : Pkg := p |> takeState (masterDie p) v |> onlyIf (running p .sw) (takeState .sw v)

/-- The die that raises the events of device time: the steward while it runs, else the master. -/
def timeDie (p : Pkg) : Die := if running p .sw then .sw else masterDie p

/-- HOLDOVER (R361), entered from LOCKING or LOCKED. -/
def enterHoldover (p : Pkg) : Pkg :=
  if timeState p = 2 ∨ timeState p = 3 then p |> setTimeState 4 |> wr .sw I_TIM.IN_LOCK 0 |> raise (timeDie p) clsWarning TIM_EVENT.HOLDOVER_ENTER
  else p

/-- HOLDOVER_DEGRADED while the spine master runs on its internal oscillator (R360). -/
def degradeCheck (p : Pkg) : Pkg :=
  let m := masterDie p
  let st := timeState p
  if running p m && onFallback p m then
    if st = 5 then p else p |> wr .sw I_TIM.PRIOR st |> setTimeState 5 |> raise m clsWarning TIM_EVENT.DEGRADED
  else if st = 5 then setTimeState (if rd p .sw I_TIM.PRIOR ≤ 1 then rd p .sw I_TIM.PRIOR else 4) p
  else p

/-- The nominal increment, 32.32 ns (R352). -/
def incrNom : Nat := 0x3D89D89D9

/-- Add to a die's increment a share of an error in 1/16 ns: an eighth of it spread over the ticks of a millisecond, within 2 %
of the nominal increment (R356). -/
def trimIncr (d : Die) (e16 : Int) (p : Pkg) : Pkg :=
  let v := (rd p d TIM_INCR.INCR : Int) + divRne (-(e16 * 33554432)) 260000
  wr d TIM_INCR.INCR (clampInt v (incrNom * 98 / 100 : Nat) (incrNom * 102 / 100 : Nat)).toNat p

/-- SPINE_MARK (R355 to R357): a die that is not the master latches its tally; `e16` is its error in 1/16 ns. -/
def spineMark (d : Die) (e16 : Int) (p : Pkg) : Pkg :=
  let m := masterDie p
  if !(running p d) || d == m || !(running p m) then p
  else
    let a := e16.natAbs
    let p := p |> wr d TIM_STATUS.SPINE_LOST 0 |> wr d I_TIM.MISSED 0 |> takeState d (timeState p)
      |> wr d TIM_STATUS.MASTER_DIE m.num |> wrSI d TIM_SPINE.ERR 0 (clampInt e16 (-32768) 32767)
    if flag p d I_TIM.ALIGN_DUE then
      p |> setNow d (now p m) |> wr d TIM_STATUS.STEP_EPOCH (rd p m TIM_STATUS.STEP_EPOCH) |> wr d I_TIM.ALIGN_DUE 0 |> wr d I_TIM.FRESH 0
        |> incSat d TIM_SPINE.ALIGNS |> logOpen d clsInfo 0x03 8 .unstated
    else if flag p d I_TIM.FRESH && decide (16000 < a) then wr d I_TIM.ALIGN_DUE 1 p
    else
      let p := p |> onlyIf (flag p d I_TIM.FRESH) (wr d TIM_STATUS.STEP_EPOCH (rd p m TIM_STATUS.STEP_EPOCH)) |> wr d I_TIM.FRESH 0 |> trimIncr d e16
      let was := flag p d TIM_STATUS.SPINE_LOCKED
      let run := if a ≤ 64 then min 16 (rd p d I_TIM.GOOD_RUN + 1) else 0
      let lock := if was then decide (a ≤ 128) else decide (16 ≤ run)
      p |> wr d I_TIM.GOOD_RUN run |> wr d TIM_STATUS.SPINE_LOCKED (b2n lock)
        |> wr d TIM_SPINE.MAX_ERR (if lock && !was then min 255 ((a + 15) / 16) else max (rd p d TIM_SPINE.MAX_ERR) (min 255 ((a + 15) / 16)))

/-- SPINE_MARK_MISSING (R357 to R359): no mark within 1.25 ms of the die's millisecond boundary. -/
def spineMissing (d : Die) (p : Pkg) : Pkg :=
  if !(running p d) || d == masterDie p then p
  else p |> onlyIf (!(flag p d TIM_STATUS.SPINE_LOST)) (raise d clsWarning TIM_EVENT.SPINE_LOST) |> wr d TIM_STATUS.SPINE_LOST 1
    |> wr d TIM_STATUS.SPINE_LOCKED 0 |> wr d I_TIM.GOOD_RUN 0 |> incSat d I_TIM.MISSED

/-- SPINE_MASTER_TAKEOVER (R359): the backup takes the spine after two missing marks, or when the master reports its switch to
its internal oscillator. -/
def spineTakeover (y : Side) (p : Pkg) : Pkg :=
  let d := y.port
  let m := masterDie p
  if !(running p d) || d == m then p
  else if 2 ≤ rd p d I_TIM.MISSED ∨ (running p m ∧ onFallback p m ∧ ¬ onFallback p d) then
    p |> wr m TIM_STATUS.SPINE_MASTER 0 |> wr d TIM_STATUS.SPINE_MASTER 1 |> wr d TIM_STATUS.MASTER_DIE d.num |> wr d TIM_STATUS.SPINE_LOST 0
      |> wr d I_TIM.MISSED 0 |> wr d I_TIM.FRESH 0 |> wr d I_TIM.ALIGN_DUE 0 |> wr d I_TIM.INCR_AT (now p d) |> wrSI d TIM_SLEW.REMAIN 0 (rdS p m TIM_SLEW.REMAIN)
      |> wr d TIM_STATUS.SLEWING (rd p m TIM_STATUS.SLEWING) |> wrSI m TIM_SLEW.REMAIN 0 0 |> wr m TIM_STATUS.SLEWING 0
      |> raise d clsInfo TIM_EVENT.MASTER_CHANGED |> degradeCheck
  else p

/-- The increment written in the master (R363). -/
def writeIncr (v : Nat) (p : Pkg) : Pkg :=
  let m := masterDie p
  p |> wr m TIM_INCR.INCR v |> wr m I_TIM.INCR_AT (now p m)

/-- A slew starts and replaces the remainder of the old one (R364). -/
def startSlew (v : Int) (p : Pkg) : Pkg :=
  let m := masterDie p
  p |> wrSI m TIM_SLEW.REMAIN 0 v |> wr m TIM_STATUS.SLEWING (b2n (v != 0)) |> wrSI .sw I_TIM.SLEW_LEFT 0 (v * 1000)

/-- The master announces a step, which every die applies at the next mark (R367, R368). -/
def announceStep (v : Int) (p : Pkg) : Pkg := p |> wrSI .sw I_TIM.STEP 0 v |> wr .sw I_TIM.STEP_DUE 1 |> wr .sw I_TIM.STEP_AT (now p .sw)

/-- A step that the reference calls for is refused (R366): the state is HOLDOVER. -/
def refuseStep (v : Int) (p : Pkg) : Pkg :=
  let was := flag p .sw TIM_STATUS.STEP_PENDING
  p |> enterHoldover |> onlyIf (timeState p == 1) (setTimeState 4) |> wr .sw TIM_STATUS.STEP_PENDING 1 |> wr (masterDie p) TIM_STATUS.STEP_PENDING 1 |> wrSI .sw TIM_STEP_PENDING.PENDING 0 v
    |> wr .sw I_TIM.IN_LOCK 0 |> onlyIf (!was) (raise .sw clsWarning TIM_EVENT.STEP_REFUSED)

/-- The pending step is gone. -/
def clearPending (p : Pkg) : Pkg :=
  p |> wr .sw TIM_STATUS.STEP_PENDING 0 |> wr (masterDie p) TIM_STATUS.STEP_PENDING 0 |> wrSI .sw TIM_STEP_PENDING.PENDING 0 0

/-- One part in 10^9. -/
def fppb : Nat := frat 1 1000000000

/-- The servo's new increment and whether it was clamped (R363). -/
def servoIncr (p : Pkg) (fmeas : Nat) : Nat × Bool :=
  let gain := frat (rd p .sw TIM_SERVO_CFG.FREQ_GAIN) 256
  let v := fmul (fint (rd p (masterDie p) TIM_INCR.INCR)) (fsub fone (fmul (fmul gain fmeas) fppb))
  let adj := fmul (fint (rd p .sw TIM_SERVO_CFG2.ADJ_MAX)) fppb
  let lo := fmul (fint incrNom) (fsub fone adj)
  let hi := fmul (fint incrNom) (fadd fone adj)
  let w := b64.clamp v lo hi
  ((b64.toInt w).toNat, w != v)

/-- The lock test of an accepted update (R361). -/
def lockTest (theta : Int) (p : Pkg) : Pkg :=
  let inside := decide (theta.natAbs ≤ rd p .sw TIM_SERVO_CFG.LOCK_THRESH)
  let was := flag p .sw I_TIM.IN_LOCK
  p |> wr .sw I_TIM.IN_LOCK (b2n inside) |> onlyIf (inside && !was) (wr .sw I_TIM.LOCK_SINCE (now p .sw))
    |> onlyIf (timeState p == 1 || timeState p == 4 || (timeState p == 3 && !inside)) (setTimeState 2)

/-! UTC (R370, R371). -/

/-- The UTC day at the steward's device time, with the offset in force. -/
def utcDay (p : Pkg) : Int := ((now p .sw : Int) - rdS p .sw TIM_UTC.UTC_OFFSET * 1000000000) / dayNs

/-- A leap flag that has just been set announces the end of the current UTC day. -/
def leapNote (was : Bool) (p : Pkg) : Pkg :=
  if (flag p .sw TIM_UTC.LEAP61 || flag p .sw TIM_UTC.LEAP59) && !was then wr .sw I_TIM.LEAP_DAY (utcDay p).toNat p else p

/-- UTC as the reference gives it (R370): the offset, the leap flags. A changed offset waits for the end of the UTC day that a leap flag in
force announces (R371). -/
def utcTake (u : Int) (up down : Bool) (p : Pkg) : Pkg :=
  let leap := flag p .sw TIM_UTC.LEAP61 || flag p .sw TIM_UTC.LEAP59
  let new := rdS p .sw TIM_UTC.UTC_OFFSET != u
  if leap && new then p |> wrSI .sw I_TIM.UTC_NEW 0 u |> wr .sw I_TIM.UTC_DUE 1
  else
    p |> wrSI .sw TIM_UTC.UTC_OFFSET 0 u |> wr .sw TIM_UTC.LEAP61 (b2n up) |> wr .sw TIM_UTC.LEAP59 (b2n down) |> wr .sw TIM_UTC.VALID 1
      |> leapNote leap |> onlyIf new (raise .sw clsInfo TIM_EVENT.UTC_CHANGED)

/-- UTC from the GPS parameters in the active lane's navigation store, 19 s added, with reference GNSS (R370). -/
def utcFromGps (p : Pkg) : Pkg :=
  match (if timeRef p = 1 then activeLane p else none) with
  | none => p
  | some x => match Config.gpsUtc (navWords (p.lanes.get x) false) (utcDay p) with
    | some u => utcTake (u.1 + 19) u.2.1 u.2.2 p
    | none => p

/-- The announced UTC day has ended (R371). -/
def leapDayOver (p : Pkg) : Bool :=
  let secs : Int := rdS p .sw TIM_UTC.UTC_OFFSET + (if flag p .sw TIM_UTC.LEAP61 then 1 else -1)
  decide (((rd p .sw I_TIM.LEAP_DAY : Int) + 1) * dayNs + secs * 1000000000 ≤ (now p .sw : Int))

/-- The package stands at a vessel-cycle boundary: a lane does, or no lane runs that could. -/
def atSomeBoundary (p : Pkg) : Bool :=
  (laneUp p .a && standsAtBoundary p .a) || (laneUp p .b && standsAtBoundary p .b) || (!(laneUp p .a) && !(laneUp p .b))

/-! The servo. -/

/-- The rate of the slew in force, ppb, with its sign (R364). -/
def slewRate (p : Pkg) : Int :=
  let r := rdS p .sw I_TIM.SLEW_LEFT
  let k : Int := rd p .sw TIM_LIMITS.SLEW_RATE
  if r = 0 then 0 else if r < 0 then -k else k

/-- The reference update that the servo is to take: the offset in ns and the measured frequency error of the one that waits (R363). -/
def updateWaits (theta : Int) (fmeas : Nat) (p : Pkg) : Bool :=
  running p .sw && timeRef p != 0 && flag p .sw I_TIM.REF_DUE && rdS p .sw I_TIM.REF_THETA == theta && rd p .sw I_TIM.REF_F == fmeas

/-- SERVO_UPDATE (R363, R366): the reference update that waits; its frequency error is taken less the rate of the slew in force. -/
def servoUpdate (theta : Int) (meas : Nat) (p : Pkg) : Pkg :=
  if !(updateWaits theta meas p) then p
  else
    let fmeas := fsub meas (fint (slewRate p))
    let p := p |> wr .sw I_TIM.REF_DUE 0 |> utcFromGps |> wrSI .sw TIM_REF_OFFSET.THETA 0 theta |> wr .sw TIM_REF_FREQ.F_MEAS (f64to32 fmeas) |> wr .sw I_TIM.REF_AT (now p .sw)
    let st := timeState p
    if st = 0 then announceStep (-theta) p
    else if st = 5 then p
    else if rd p .sw TIM_LIMITS.STEP_LIMIT < theta.natAbs then refuseStep (-theta) p
    else
      let i := servoIncr p fmeas
      p |> clearPending |> lockTest theta |> writeIncr i.1 |> onlyIf i.2 (raise .sw clsInfo TIM_EVENT.INCR_CLAMPED) |> startSlew (-theta)

/-- REF_TIMEOUT (R361), by the steward's clock. -/
def refTimeout (p : Pkg) : Pkg :=
  if running p .sw ∧ timeRef p ≠ 0 ∧ rd p .sw I_TIM.REF_AT + rd p .sw TIM_SERVO_CFG2.REF_TIMEOUT * 1000000 ≤ now p .sw then enterHoldover p else p

/-- INCR_TIMEOUT (R361): the master has received no increment. -/
def incrTimeout (p : Pkg) : Pkg :=
  let m := masterDie p
  if running p m ∧ rd p m I_TIM.INCR_AT + rd p .sw TIM_SERVO_CFG2.REF_TIMEOUT * 1000000 ≤ now p m then enterHoldover p else p

/-- TIME_LOCKED (R361): the offset has stayed within LOCK_THRESH for LOCK_HOLD. -/
def timeLocked (p : Pkg) : Pkg :=
  if timeState p = 2 ∧ flag p .sw I_TIM.IN_LOCK ∧
      rd p .sw I_TIM.LOCK_SINCE + rd p .sw TIM_SERVO_CFG.LOCK_HOLD * 1000000000 ≤ now p .sw then
    p |> setTimeState 3 |> raise .sw clsInfo TIM_EVENT.LOCKED
  else p

/-- A committed STEP_ACCEPT (R367). -/
def acceptStep (p : Pkg) : Pkg :=
  if flag p .sw TIM_STATUS.STEP_PENDING then announceStep (rdS p .sw TIM_STEP_PENDING.PENDING) p
  else if timeRef p = 0 ∧ rd p .sw TIM_STEP_VALUE.VALUE ≠ 0 then announceStep (rdS p .sw TIM_STEP_VALUE.VALUE) p
  else p

/-- STEP_ACCEPT (R367): a SERVICE session's commit. -/
def stepAccept (slot : Nat) (p : Pkg) : Pkg := if sessionHolds p slot 3 then acceptStep p else p

/-! Time pulses (R372, R373). -/

/-- The first edge time of a PERIODIC pin at or after an instant. -/
def pulseAfter (start period t : Nat) : Nat := if t ≤ start then start else start + (t - start + period - 1) / period * period

/-- A pin's settings have been applied, or START committed: it is armed again (R372, R373). -/
def pulseArm (y : Side) (k : Nat) (p : Pkg) : Pkg :=
  let d := y.port
  let start := rdI p d TIM_TP.START k
  let period := rdI p d TIM_TP.PERIOD k
  let p := wrI d I_TP.LEVEL k (rdI p d TIM_TP.POLARITY k) p
  match rdI p d TIM_TP.MODE k with
  | 1 =>
    if start < now p d then p |> wrI d TIM_TP.MISSED k 1 |> wrI d TIM_TP.FIRED k 0 |> wrI d TIM_TP.RUNNING k 0 |> raise d clsWarning TIM_EVENT.PULSE_MISSED
    else p |> wrI d TIM_TP.MISSED k 0 |> wrI d TIM_TP.FIRED k 0 |> wrI d TIM_TP.RUNNING k 1 |> wrI d I_TP.NEXT k start
  | 2 =>
    if period = 0 then wrI d TIM_TP.RUNNING k 0 p
    else p |> wrI d TIM_TP.RUNNING k 1 |> wrI d I_TP.NEXT k (pulseAfter start period (now p d))
  | 3 => p |> wrI d TIM_TP.RUNNING k 0 |> lockOutPins y
  | _ => wrI d TIM_TP.RUNNING k 0 p

/-- The pin's next edge, placed at its edge time less PIN_DLY, comes before the die's next tick edge (R372). -/
def pulseDue (p : Pkg) (d : Die) (k : Nat) : Bool :=
  decide ((rdI p d I_TP.NEXT k : Int) * 1000 - rdSI p d TIM_TP.PIN_DLY k < ((now p d : Int) + 1000000) * 1000)

/-- TIME_PULSE_EDGE (R372): the pin emits the pulse of its next edge time. -/
def timePulseEdge (y : Side) (k : Nat) (p : Pkg) : Pkg :=
  let d := y.port
  if !(running p d) || !(flagI p d TIM_TP.RUNNING k) || !(pulseDue p d k) then p
  else
    let e := rdI p d I_TP.NEXT k
    let p := p |> incI d TIM_TP.EDGES k |> wrI d I_TP.LAST k e
    if rdI p d TIM_TP.MODE k = 1 then p |> wrI d TIM_TP.FIRED k 1 |> wrI d TIM_TP.RUNNING k 0
    else wrI d I_TP.NEXT k (e + rdI p d TIM_TP.PERIOD k) p

/-- A step passes over edge times of a pin, or puts them off (R373). -/
def pulseStep (y : Side) (k : Nat) (p : Pkg) : Pkg :=
  let d := y.port
  if !(flagI p d TIM_TP.RUNNING k) || decide (now p d ≤ rdI p d I_TP.NEXT k) then p
  else if rdI p d TIM_TP.MODE k = 1 then p |> wrI d TIM_TP.MISSED k 1 |> wrI d TIM_TP.RUNNING k 0 |> raise d clsWarning TIM_EVENT.PULSE_MISSED
  else wrI d I_TP.NEXT k (pulseAfter (rdI p d I_TP.NEXT k) (max 1 (rdI p d TIM_TP.PERIOD k)) (now p d)) p

/-! Steps (R30, R98, R107, R117, R368, R369). -/

/-- The stored times of a die from which intervals run, with their number of entries: intervals are those that have passed, so a step moves
the times with device time. -/
def timersOf : Die → List (Fld × Nat)
  | .ha | .hb => [(I_SP.JOY_AT, 1), (I_SP.DWELL_AT, 1), (I_LANE.ELIG_AT, 1), (I_CLK.BAD_AT, 1)]
  | .ga | .gb => [(I_GNS.OFF_AT, 1), (I_GNS.WATCH_AT, 1), (I_GNS.HOLD_AT, 1), (I_GNS.TRIG_AT, 1), (I_GNS.REFLECT_AT, 1), (I_GWEIR.SINCE, 4),
      (I_CHAN.REACQ_AT, 160), (I_CHAN.AT, 160), (I_CHAN.LOCK_AT, 160), (I_CLK.BAD_AT, 1)]
  | .pa | .pb => [(I_RXS.AT, 128), (I_HST.LAST, 8), (I_ETH.STORM_AT, 3), (I_PORT.BEAT_AT, 1), (I_PORT.ANNOUNCED_AT, 1), (I_TIM.INCR_AT, 1),
      (I_CLK.BAD_AT, 1)]
  | .sw => [(I_TIM.REF_AT, 1), (I_TIM.LOCK_SINCE, 1), (I_HST.IDLE_LAST, 8), (I_TXN.AT, 1), (I_LYT.AT, 1), (I_CLK.BAD_AT, 1)]
  | .ld => [(I_CLK.BAD_AT, 1)]

/-- The stored times of a die move with a step. -/
def moveTimers (ns : Int) (d : Die) (p : Pkg) : Pkg :=
  forAll (timersOf d) (fun e q => forAll (List.range e.2) (fun i => wrI d e.1 i (movedBy ns (rdI q d e.1 i))) q) p

/-- The times that stand in the package's lists move with a step: first parts, transfers, learned addresses, foreign masters. -/
def moveLists (ns : Int) (p : Pkg) : Pkg :=
  let m := movedBy ns
  let eth (e : Eth) : Eth := { e with mac := e.mac.map (fun a => { a with at' := m a.at' }) }
  { p with
    nhp := { p.nhp with parts := p.nhp.parts.map (fun x => { x with at' := m x.at' }) }
    xfers := p.xfers.map (fun x => { x with ackAt := m x.ackAt, progAt := m x.progAt })
    eth := ⟨eth p.eth.a, eth p.eth.b⟩
    oc := { p.oc with annAt := m p.oc.annAt, foreign := p.oc.foreign.map (fun f => { f with times := f.times.map m }) } }

/-- A die adds the step to its tally and calendar, and counts it. -/
def dieStep (ns : Int) (d : Die) (p : Pkg) : Pkg :=
  p |> moveTimers ns d |> setNow d ((now p d : Int) + ns).toNat |> inc d TIM_STATUS.STEP_EPOCH |> wr d TIM_STATUS.SLEWING 0 |> wrSI d TIM_SLEW.REMAIN 0 0
    |> raiseWith d clsInfo TIM_EVENT.STEP_APPLIED (.words [ofSigned 64 ns])

/-- A lane meets the step: the clock models, the replay and the estimator's clock, and the cycle that it stretches or shortens. -/
def stepLane (ns : Int) (x : Side) (p : Pkg) : Pkg :=
  if laneUp p x then p |> laneStep x ns |> logOpen x.helm clsInfo 0x13 9 .unstated else p

/-- A port die meets the step: pairing latches and pulse pins (R369, R373). -/
def stepPort (y : Side) (p : Pkg) : Pkg :=
  if running p y.port then p |> onPort y (fun q => { q with latches := [] }) |> forAll (List.range 4) (pulseStep y) else p

/-- The state after a step: LOCKING with a reference, FREE without one (R368); while the master runs on its internal oscillator
HOLDOVER_DEGRADED stands before it (R360). -/
def stateAfterStep (p : Pkg) : Pkg :=
  let v := if timeRef p = 0 then 1 else 2
  if timeState p = 5 then wr .sw I_TIM.PRIOR v p else setTimeState v p

/-- STEP_MARK (R368): at the mark after the announcement every die applies the step. -/
def stepMark (p : Pkg) : Pkg :=
  if !(flag p .sw I_TIM.STEP_DUE) || decide (now p .sw ≤ rd p .sw I_TIM.STEP_AT) then p
  else
    let ns := rdS p .sw I_TIM.STEP
    p |> wr .sw I_TIM.STEP_DUE 0 |> wrSI .sw I_TIM.STEP 0 0 |> wrSI .sw I_TIM.SLEW_LEFT 0 0 |> clearPending |> wr .sw I_TIM.IN_LOCK 0
      |> moveLists ns |> forAll (allDies.filter (running p)) (dieStep ns) |> stepLane ns .a |> stepLane ns .b |> stepPort .a |> stepPort .b
      |> stateAfterStep

/-- UTC_LEAP (R371): at a vessel-cycle boundary after the end of the day that LEAP61 or LEAP59 announced, the offset that waits, or one
second more or less. -/
def utcLeap (p : Pkg) : Pkg :=
  let up := flag p .sw TIM_UTC.LEAP61
  let down := flag p .sw TIM_UTC.LEAP59
  let new := if flag p .sw I_TIM.UTC_DUE then rdS p .sw I_TIM.UTC_NEW else rdS p .sw TIM_UTC.UTC_OFFSET + (if up then 1 else -1)
  if (!up && !down) || !(running p .sw) || !(leapDayOver p) || !(atSomeBoundary p) then p
  else p |> wrSI .sw TIM_UTC.UTC_OFFSET 0 new |> wr .sw I_TIM.UTC_DUE 0 |> wr .sw TIM_UTC.LEAP61 0 |> wr .sw TIM_UTC.LEAP59 0
    |> raise .sw clsInfo TIM_EVENT.UTC_CHANGED

/-- TIM_INCR_WRITE (R363): the steward firmware's write in the master; a host's is ignored and logged. -/
def timIncrWrite (d : Die) (host : Option Nat) (v : Nat) (p : Pkg) : Pkg :=
  match host with
  | some slot => accessFault d slot (rdI p .sw HST_SLOT.KEY_ID slot) TIM_INCR.INCR.off p
  | none => if running p .sw && reaches p .sw d && running p d && d == masterDie p then writeIncr v p else p

/-- TIM_SLEW_WRITE (R364): the steward firmware's write; a host's is ignored and logged. -/
def timSlewWrite (d : Die) (host : Option Nat) (v : Int) (p : Pkg) : Pkg :=
  match host with
  | some slot => accessFault d slot (rdI p .sw HST_SLOT.KEY_ID slot) TIM_SLEW.REMAIN.off p
  | none => if running p .sw && reaches p .sw d && running p d && d == masterDie p then startSlew v p else p

/-- SLEW_DONE (R364): the slew has been added. -/
def slewDone (p : Pkg) : Pkg := if rdS p .sw I_TIM.SLEW_LEFT = 0 then startSlew 0 p else p

/-! The commands of the table: one meaning each. -/

/-- SPINE_MARK (R356). -/
def execSpineMark (d : Die) (e16 : Int) (s : State) : Host.Outcome State Fault Refusal := nextPk s (spineMark d e16)

/-- SPINE_MARK_MISSING (R358). -/
def execSpineMarkMissing (d : Die) (s : State) : Host.Outcome State Fault Refusal := nextPk s (spineMissing d)

/-- SPINE_MASTER_TAKEOVER (R359). -/
def execSpineMasterTakeover (y : Side) (s : State) : Host.Outcome State Fault Refusal := nextPk s (spineTakeover y)

/-- STEP_ACCEPT (R367). -/
def execStepAccept (slot : Nat) (s : State) : Host.Outcome State Fault Refusal := nextPk s (stepAccept slot)

/-- TIME_PULSE_EDGE (R372). -/
def execTimePulseEdge (y : Side) (k : Nat) (s : State) : Host.Outcome State Fault Refusal := nextPk s (timePulseEdge y k)

/-- TIM_INCR_WRITE (R363). -/
def execTimIncrWrite (d : Die) (host : Option Nat) (v : Nat) (s : State) : Host.Outcome State Fault Refusal := nextPk s (timIncrWrite d host v)

/-- TIM_SLEW_WRITE (R364). -/
def execTimSlewWrite (d : Die) (host : Option Nat) (v : Int) (s : State) : Host.Outcome State Fault Refusal := nextPk s (timSlewWrite d host v)

/-- SERVO_UPDATE (R363). -/
def execServoUpdate (theta : Int) (fmeas : Nat) (s : State) : Host.Outcome State Fault Refusal := nextPk s (servoUpdate theta fmeas)

/-- REF_TIMEOUT (R361). -/
def execRefTimeout (s : State) : Host.Outcome State Fault Refusal := nextPk s refTimeout

/-- INCR_TIMEOUT (R361). -/
def execIncrTimeout (s : State) : Host.Outcome State Fault Refusal := nextPk s incrTimeout

/-- TIME_LOCKED (R361). -/
def execTimeLocked (s : State) : Host.Outcome State Fault Refusal := nextPk s timeLocked

/-- STEP_MARK (R368). -/
def execStepMark (s : State) : Host.Outcome State Fault Refusal := nextPk s stepMark

/-- UTC_LEAP (R371). -/
def execUtcLeap (s : State) : Host.Outcome State Fault Refusal := nextPk s utcLeap

/-- SLEW_DONE (R364). -/
def execSlewDone (s : State) : Host.Outcome State Fault Refusal := nextPk s slewDone

end Sys2Proof.Machine
end

