-- ==== Sys2Proof/Machine/Clocks.lean ====
section
/-! DEFINITION. Chapter 14: the clock monitor, the fall to the internal oscillator and its effects, the moves between roots. -/

namespace Sys2Proof.Machine

/-- The root a source number stands for in a die: true REFCLK_B. Source 0 is the home root, 1 the other. -/
def rootB (p : Pkg) (d : Die) (src : Nat) : Bool := (flag p d CLK_STATUS.HOME_B) != (src == 1)

/-- The qualified bit of a root. -/
def qualFld : Bool → Fld
  | true => CLK_STATUS.QUAL_B
  | false => CLK_STATUS.QUAL_A

/-- The root of a source number is qualified. -/
def rootOk (p : Pkg) (d : Die) (src : Nat) : Bool := flag p d (qualFld (rootB p d src))

/-- What running on the internal oscillator does to a die (Table 14-5). -/
def fallEffects (d : Die) (p : Pkg) : Pkg :=
  let p := p |> wr d TIM_STATUS.DIE_DEGRADED 1 |> wr d TIM_STATUS.SPINE_LOCKED 0 |> wr d I_TIM.GOOD_RUN 0 |> raise d clsWarning TIM_EVENT.DEGRADED
  let x := Die.side d
  match d with
  | .ha | .hb => dropReady x p
  | .ga | .gb => gnssClockLost x p
  | .pa | .pb => p |> canClockLost x |> firstStageRestart x |> portOk x |> wr d PTP_OC_STATUS.TC_DEGRADED 1 |> raise d clsWarning PTP_EVENT.TC_DEGRADED |> degradeCheck
  | _ => p

/-- What the return to a qualified root does (Table 14-5). -/
def backEffects (d : Die) (p : Pkg) : Pkg :=
  let p := wr d TIM_STATUS.DIE_DEGRADED 0 p
  let x := Die.side d
  match d with
  | .ha | .hb => wr d HG_CMP.CLEAN_RUN 0 p
  | .ga | .gb => gnssClockBack x p
  | .pa | .pb => p |> canClockBack x |> firstStageRestart x |> portOk x |> wr d PTP_OC_STATUS.TC_DEGRADED 0 |> degradeCheck
  | _ => p

/-- The die's clock tree switches, with a pause whose length CLOCK_RESUME brings (R384, R388, R389). -/
def pauseBegins (d : Die) (p : Pkg) : Pkg := wr d I_CLK.PAUSES (min 3 (rd p d I_CLK.PAUSES + 1)) p

/-- CLKFAIL (R384): the serving root has failed; the die switches to its fallback PLL. A helm's release is a pad action that does
not wait (Table 02-5, cause code 4). -/
def clkFail (d : Die) (trip : Fld) (p : Pkg) : Pkg :=
  let src := rd p d CLK_STATUS.SOURCE
  let p := p |> raise d clsNme CLK_EVENT.CLKFAIL |> raise d clsWarning trip
    |> (if src = 0 then incSat d CLK_FAILS.HOME else incSat d CLK_FAILS.OTHER) |> wr d (qualFld (rootB p d src)) 0 |> wr d CLK_STATUS.SOURCE 2
    |> pauseBegins d |> wr d CLK_STATUS.PLL_LOCK 0 |> wr d CLK_STATUS.ROOT_DISAGREE 0 |> wr d I_CLK.BAD_RUN 0 |> wr d I_CLK.BAD_AT (now p d)
  match d with
  | .ha | .hb => p |> fallEffects d |> laneFault (Die.side d) 4
  | _ => fallEffects d p

/-- The other root has failed (R386). -/
def otherLost (d : Die) (p : Pkg) : Pkg :=
  let src := rd p d CLK_STATUS.SOURCE
  let o := 1 - src
  p |> wr d I_CLK.BAD_RUN 0 |> wr d I_CLK.BAD_AT (now p d) |> wr d (qualFld (rootB p d o)) 0
    |> onlyIf (!(flag p d CLK_STATUS.OTHER_LOST))
        (fun q => q |> wr d CLK_STATUS.OTHER_LOST 1 |> raise d clsWarning CLK_EVENT.OTHER_LOST |> (if o = 0 then incSat d CLK_FAILS.HOME else incSat d CLK_FAILS.OTHER))

/-- The attribution after two bad windows (R382): `own` and `other` are the roots' deviations from their baselines in ppm. -/
def attribution (d : Die) (own other : Nat) (p : Pkg) : Pkg :=
  if other + 100 ≤ own then clkFail d CLK_EVENT.FREQ_TRIP p
  else if own + 100 ≤ other then otherLost d p
  else p |> wr d I_CLK.BAD_RUN 0
    |> onlyIf (!(flag p d CLK_STATUS.ROOT_DISAGREE)) (fun q => q |> wr d CLK_STATUS.ROOT_DISAGREE 1 |> raise d clsWarning CLK_EVENT.ROOT_DISAGREE)

/-- CLOCK_MONITOR_WINDOW (R382, R386): the count of a window; none when the window input shows no edges. -/
def clockWindow (d : Die) (count : Option Nat) (own other : Nat) (p : Pkg) : Pkg :=
  if !(running p d) then p
  else match count with
    | none => if rd p d CLK_STATUS.SOURCE = 2 then wr d I_CLK.BAD_AT (now p d) p else otherLost d p
    | some n =>
      let dev : Int := (n : Int) - 208000
      let bad := decide (rd p d CLK_CFG.MON_TOL * 2080 / 1000 < dev.natAbs)
      let p := p |> wrSI d CLK_MON.DEV 0 (clampInt dev (-32768) 32767) |> wr d CLK_MON.DEV_MAX (max (rd p d CLK_MON.DEV_MAX) (min 65535 dev.natAbs))
      if rd p d CLK_STATUS.SOURCE = 2 ∨ flag p d CLK_STATUS.OTHER_LOST then onlyIf bad (wr d I_CLK.BAD_AT (now p d)) p
      else if !bad then p |> wr d I_CLK.BAD_RUN 0 |> wr d CLK_STATUS.ROOT_DISAGREE 0
      else
        let p := wr d I_CLK.BAD_AT (now p d) p
        if rd p d I_CLK.BAD_RUN = 0 then wr d I_CLK.BAD_RUN 1 p else attribution d own other p

/-- FAST_DETECTOR_TRIP (R383) in a die that runs; one that has not yet qualified its IOSC is held, STAT shows it, and its qualification
restarts at the next retry (R381). -/
def fastTrip (d : Die) (p : Pkg) : Pkg :=
  if rd p d I_DIE.RUN = 1 ∧ ¬ flag p d CLK_STATUS.QUAL_IOSC then p |> wr d I_CLK.STAT 2 |> wr d I_CLK.RESTART 1 else
  if running p d && rd p d CLK_STATUS.SOURCE != 2 then clkFail d CLK_EVENT.FAST_TRIP p else p

/-- CLOCK_RESUME (R384): after a switch of the clock tree the pause in IOSC periods is added to the tally at 10 ns each. -/
def clockResume (d : Die) (periods : Nat) (p : Pkg) : Pkg :=
  let n := rd p d I_CLK.PAUSES
  if running p d && n != 0 then p |> wr d I_CLK.PAUSES (n - 1) |> setNow d (now p d + 10 * periods) else p

/-- FALLBACK_TRIM (R385): on a qualified root the fallback PLL is trimmed to it every 100 ms; `iosc` and `watch` as CLK_IOSC shows them. -/
def fallbackTrim (d : Die) (iosc watch : Int) (p : Pkg) : Pkg :=
  if running p d && rd p d CLK_STATUS.SOURCE != 2 && periodDue p d I_CLK.TRIM_DUE 0 100000000 then
    p |> periodNext d I_CLK.TRIM_DUE 0 100000000 |> wrSI d CLK_IOSC.IOSC_PPM 0 (clampInt iosc (-32768) 32767) |> wrSI d CLK_IOSC.WATCH_PPM 0 (clampInt watch (-32768) 32767)
      |> wrSI d I_CLK.TRIM 0 (clampInt (-iosc) (-32768) 32767)
  else p

/-- The other root meets the conditions of a move (R388). -/
def moveReady (p : Pkg) (d : Die) : Bool := rootOk p d 1 && decide (rd p d I_CLK.BAD_AT + 1000000 ≤ now p d)

/-- The root PLL begins to relock to the other root (R388). -/
def moveStart (d : Die) (p : Pkg) : Pkg := p |> wr d I_CLK.PENDING 0 |> wr d CLK_STATUS.MOVE_BUSY 1 |> wr d I_CLK.TO_HOME 0

/-- MOVE_OTHER (R388): a die on its fallback clock moves or keeps the move pending; any other refuses. -/
def moveOther (d : Die) (p : Pkg) : Pkg :=
  if !(running p d) then p
  else if rd p d CLK_STATUS.SOURCE ≠ 2 then raise d clsWarning CLK_EVENT.MOVE_REFUSED p
  else if moveReady p d then moveStart d p else p |> wr d I_CLK.PENDING 1 |> periodNext d I_CLK.RETRY_DUE 0 10000000

/-- MOVE_RETRY (R388): a pending move tries again, every 10 ms. -/
def moveRetry (d : Die) (p : Pkg) : Pkg :=
  if !(running p d) || !(flag p d I_CLK.PENDING) then p
  else if rd p d CLK_STATUS.SOURCE ≠ 2 then wr d I_CLK.PENDING 0 p
  else if !(periodDue p d I_CLK.RETRY_DUE 0 10000000) then p
  else if moveReady p d then moveStart d p else periodNext d I_CLK.RETRY_DUE 0 10000000 p

/-- MOVE_RELOCK_DONE (R388, R389): the root PLL has relocked, and the die switches to the new root. -/
def moveRelockDone (d : Die) (p : Pkg) : Pkg :=
  if !(running p d) || !(flag p d CLK_STATUS.MOVE_BUSY) then p
  else p |> wr d CLK_STATUS.SOURCE (if flag p d I_CLK.TO_HOME then 0 else 1) |> wr d CLK_STATUS.MOVE_BUSY 0 |> wr d I_CLK.TO_HOME 0
    |> wr d CLK_STATUS.PLL_LOCK 1 |> pauseBegins d |> raise d clsInfo CLK_EVENT.MOVED |> backEffects d

/-- The conditions of R389 for a MOVE_HOME: the home root is qualified, the die is not on it, and no ACTIVE helm moves. -/
def mayMoveHome (p : Pkg) (d : Die) : Bool :=
  rd p d CLK_STATUS.SOURCE != 0 && rootOk p d 0 && !((d == .ha && isActive p .a) || (d == .hb && isActive p .b))

/-- MOVE_HOME (R389): through the fallback clock. -/
def moveHome (d : Die) (p : Pkg) : Pkg :=
  if !(running p d) then p
  else if mayMoveHome p d then
    let was := rd p d CLK_STATUS.SOURCE
    p |> wr d I_CLK.PENDING 0 |> wr d CLK_STATUS.SOURCE 2 |> wr d CLK_STATUS.MOVE_BUSY 1 |> wr d I_CLK.TO_HOME 1 |> wr d CLK_STATUS.PLL_LOCK 0
      |> onlyIf (was != 2) (fun q => q |> pauseBegins d |> fallEffects d)
  else p |> wr d I_CLK.PENDING 0 |> raise d clsWarning CLK_EVENT.MOVE_REFUSED

/-- REQUALIFIED (R389): a failed root has had good windows for 1 s against the serving root. -/
def requalified (d : Die) (b : Bool) (p : Pkg) : Pkg :=
  if running p d && rd p d CLK_STATUS.SOURCE != 2 && !(flag p d (qualFld b)) && rd p d I_CLK.BAD_AT + 1000000000 ≤ now p d then
    p |> wr d (qualFld b) 1 |> wr d CLK_STATUS.OTHER_LOST 0 |> raise d clsInfo CLK_EVENT.REQUALIFIED
  else p

/-- CLK_NME_ACK (R439): this die's CLKFAIL is acknowledged. -/
def clkNmeAck (d : Die) (p : Pkg) : Pkg := if running p d then p |> wr d I_DIE.CLKFAIL 0 |> onlyIf (running p .sw) nmeShow else p

/-- GATE_DISABLE (R391): a write of CLK_GATE_CFG.DISABLE. -/
def gateDisable (d : Die) (on : Bool) (p : Pkg) : Pkg := if running p d then wr d CLK_GATE_CFG.DISABLE (b2n on) p else p

/-! The commands of the table: one meaning each. -/

/-- CLOCK_MONITOR_WINDOW (R382). -/
def execClockMonitorWindow (d : Die) (count : Option Nat) (own other : Nat) (s : State) : Host.Outcome State Fault Refusal := nextPk s (clockWindow d count own other)

/-- FAST_DETECTOR_TRIP (R383). -/
def execFastDetectorTrip (d : Die) (s : State) : Host.Outcome State Fault Refusal := nextPk s (fastTrip d)

/-- CLOCK_RESUME (R384). -/
def execClockResume (d : Die) (periods : Nat) (s : State) : Host.Outcome State Fault Refusal := nextPk s (clockResume d periods)

/-- FALLBACK_TRIM (R385). -/
def execFallbackTrim (d : Die) (iosc watch : Int) (s : State) : Host.Outcome State Fault Refusal := nextPk s (fallbackTrim d iosc watch)

/-- MOVE_OTHER (R388). -/
def execMoveOther (d : Die) (s : State) : Host.Outcome State Fault Refusal := nextPk s (moveOther d)

/-- MOVE_RETRY (R388). -/
def execMoveRetry (d : Die) (s : State) : Host.Outcome State Fault Refusal := nextPk s (moveRetry d)

/-- MOVE_RELOCK_DONE (R388). -/
def execMoveRelockDone (d : Die) (s : State) : Host.Outcome State Fault Refusal := nextPk s (moveRelockDone d)

/-- MOVE_HOME (R389). -/
def execMoveHome (d : Die) (s : State) : Host.Outcome State Fault Refusal := nextPk s (moveHome d)

/-- REQUALIFIED (R389). -/
def execRequalified (d : Die) (b : Bool) (s : State) : Host.Outcome State Fault Refusal := nextPk s (requalified d b)

/-- CLK_NME_ACK (R439). -/
def execClkNmeAck (d : Die) (s : State) : Host.Outcome State Fault Refusal := nextPk s (clkNmeAck d)

/-- GATE_DISABLE (R391). -/
def execGateDisable (d : Die) (on : Bool) (s : State) : Host.Outcome State Fault Refusal := nextPk s (gateDisable d on)

end Sys2Proof.Machine
end

