-- ==== Sys2Proof/Machine/Eth.lean ====
section
/-! DEFINITION. Chapter 12: the Ethernet switch, the sensor datagrams, the transparent clock and the ordinary clock. Ports 0 to 5 are
ETH0 to ETH5; port 6 of a learned address is the trunk. -/

namespace Sys2Proof.Machine

/-- Change the switch half of a side. -/
def onEth (y : Side) (f : Eth → Eth) (p : Pkg) : Pkg := { p with eth := p.eth.set y (f (p.eth.get y)) }

/-- The half that serves a port (R331). -/
def ethSide (k : Nat) : Side := if k < 3 then .a else .b

/-- The ports of a half. -/
def ethPorts (y : Side) : List Nat := (List.range 3).map (fun j => 3 * y.num + j)

/-- The trunk joins the halves. -/
def trunkUp (p : Pkg) : Bool := running p .pa && running p .pb && reaches p .pa .pb

/-- TRUNK_UP follows the culvert. -/
def trunkShow (p : Pkg) : Pkg := p |> wr .pa ETH_SW_STATUS.TRUNK_UP (b2n (trunkUp p)) |> wr .pb ETH_SW_STATUS.TRUNK_UP (b2n (trunkUp p))

/-- The compensated ingress timestamp of a stamp at a port, ps (R341). -/
def ingressPs (p : Pkg) (k stamp : Nat) : Int := (stamp : Int) * 1000 - rdSI p (ethSide k).port PTP_PORT.ING_ASYM (k % 3)

/-- The compensated egress timestamp, ps. -/
def egressPs (p : Pkg) (k stamp : Nat) : Int := (stamp : Int) * 1000 + rdSI p (ethSide k).port PTP_PORT.EGR_ASYM (k % 3)

/-- Picoseconds as whole nanoseconds of device time. -/
def psToNs (x : Int) : Nat := (x / 1000).toNat

/-- Picoseconds in units of 2^-16 ns. -/
def psToScaled (x : Int) : Int := divRne (x * 65536) 1000

/-! Frames (R331, R334). -/

/-- A received frame: addresses, type, the VLAN tag's control information, the payload. -/
structure FrameIn where
  dst : Nat
  src : Nat
  etype : Nat
  tci : Option Nat
  pay : List Nat
  deriving DecidableEq, Repr

/-- Read a frame's header; the bytes have no FCS. -/
def parseFrame (b : List Nat) : FrameIn :=
  let dst := beNat (b.take 6)
  let src := beNat ((b.drop 6).take 6)
  let t := beNat ((b.drop 12).take 2)
  if t = 0x8100 then ⟨dst, src, beNat ((b.drop 16).take 2), some (beNat ((b.drop 14).take 2)), b.drop 18⟩
  else ⟨dst, src, t, none, b.drop 14⟩

/-- The frame's bytes without a VLAN tag. -/
def FrameIn.plain (f : FrameIn) : List Nat := beBytes 6 f.dst ++ beBytes 6 f.src ++ beBytes 2 f.etype ++ f.pay

/-- A group address. -/
def isGroup (mac : Nat) : Bool := bit mac 40

/-- The broadcast address. -/
def broadcastMac : Nat := 2 ^ 48 - 1

/-- The entry of the VLAN table with a VID. -/
def vlanOf (p : Pkg) (d : Die) (vid : Nat) : Option Nat :=
  if vid = 0 then none else (List.range 64).find? (fun v => rdI p d ETH_VLAN.VID v == vid)

/-- A port (or 6, the internal port) is a member of a VLAN. -/
def isMember (p : Pkg) (d : Die) (vid k : Nat) : Bool :=
  match vlanOf p d vid with
  | some v => bit (rdI p d ETH_VLAN.MEMBER v) k
  | none => false

/-- The port is in use and its link is up. -/
def portUsable (p : Pkg) (k : Nat) : Bool :=
  let d := (ethSide k).port
  running p d && rdI p d ETH_PORT_CFG.MODE (k % 3) != 0 && flagI p d ETH_PORT_STATUS.LINK (k % 3)

/-! PTP messages in frames (R343 to R345). -/

/-- Where the PTP message of a frame without tag starts, if it is one: Annexes E, C and D. -/
def ptpAt (b : List Nat) : Option Nat :=
  let t := beNat ((b.drop 12).take 2)
  let ported (o : Nat) : Bool := let q := beNat ((b.drop (o + 2)).take 2); q == 319 || q == 320
  if t = 0x88F7 then some 14
  else if t = 0x0800 ∧ b.getD 23 0 = 17 then
    let o := 14 + b.getD 14 0 % 16 * 4
    if ported o then some (o + 8) else none
  else if t = 0x86DD ∧ b.getD 20 0 = 17 then if ported 54 then some 62 else none
  else none

/-- The PTP message of a frame of version 2. -/
def ptpBody (b : List Nat) : Option (List Nat) :=
  (ptpAt b).bind (fun o => let m := b.drop o; if m.getD 1 0 % 16 = 2 ∧ 34 ≤ m.length then some m else none)

/-- messageType of a PTP message. -/
def ptpType (m : List Nat) : Nat := m.getD 0 0 % 16

/-- An event message: Sync, Delay_Req, Pdelay_Req, Pdelay_Resp. -/
def ptpEvent (b : List Nat) : Bool := (ptpBody b).any (fun m => decide (ptpType m < 4))

/-- Put bytes over a list at an offset. -/
def putBytes (b : List Nat) (o : Nat) (new : List Nat) : List Nat := b.take o ++ new ++ b.drop (o + new.length)

/-- The ones-complement sum of a checksum with changed words, folded (R343). -/
def fold16 (x : Nat) : Nat := let y := x % 65536 + x / 65536; y % 65536 + y / 65536

/-- The incremental update of a UDP checksum. -/
def checksumUpdate (hc : Nat) (old new : List Nat) : Nat :=
  let words (l : List Nat) : List Nat := (chunks 2 l.length l).map beNat
  let s := fold16 ((65535 - hc) + ((words old).map (fun w => 65535 - w)).foldl (· + ·) 0 + (words new).foldl (· + ·) 0)
  if s = 65535 then 65535 else 65535 - s

/-- Add to the correctionField of the PTP message in a frame and bring its UDP checksum up to date; a zero IPv4 checksum stays. -/
def correctFrame (b : List Nat) (add : Int) : List Nat :=
  match ptpAt b with
  | none => b
  | some o =>
    let old := (b.drop (o + 8)).take 8
    let new := beBytes 8 (ofSigned 64 (toSigned 64 (beNat old) + add))
    let c := putBytes b (o + 8) new
    let t := beNat ((b.drop 12).take 2)
    let hc := beNat ((b.drop (o - 2)).take 2)
    if t = 0x88F7 ∨ (t = 0x0800 ∧ hc = 0) then c else putBytes c (o - 2) (beBytes 2 (checksumUpdate hc old new))

/-! Egress queues (R335). -/

/-- Bytes waiting in a queue of a port. -/
def queueBytes (e : Eth) (port q : Nat) : Nat :=
  ((e.queues.filter (fun f => f.port == port && f.queue == q)).map (fun f => f.bytes.length)).foldl (· + ·) 0

/-- Put a frame into its queue of 96 KiB, or drop it and count it. -/
def ethQueue (y : Side) (f : TxFrame) (p : Pkg) : Pkg :=
  if queueBytes (p.eth.get y) f.port f.queue + f.bytes.length ≤ 98304 then onEth y (fun e => { e with queues := e.queues ++ [f] }) p
  else
    let v := rdI p y.port ETH_CNT.QDROP f.port
    let n := bitsAt v (8 * f.queue) 8
    p |> wrI y.port ETH_CNT.QDROP f.port (if n < 255 then v + 2 ^ (8 * f.queue) else v) |> raise y.port clsWarning ETH_EVENT.QUEUE_DROP

/-- The tag a frame of a VLAN leaves a port with. -/
def egressTag (p : Pkg) (k vid pcp : Nat) : Option Nat :=
  let d := (ethSide k).port
  match vlanOf p d vid with
  | some v => if bit (rdI p d ETH_VLAN.UNTAG v) k then none else some (pcp * 8192 + vid)
  | none => none

/-- Queue a forwarded frame at a port. -/
def forwardTo (k vid pcp ingress : Nat) (at' : Int) (b : List Nat) (p : Pkg) : Pkg :=
  ethQueue (ethSide k) ⟨k % 3, if ptpEvent b then 3 else pcp / 2, b, egressTag p k vid pcp, ingress, at', .forwarded⟩ p

/-- Queue a frame of the device at a port. -/
def sendOwn (k vid : Nat) (what : FrameOf) (at' : Int) (b : List Nat) (p : Pkg) : Pkg :=
  let q := match what with
    | .device => 0
    | _ => 3
  ethQueue (ethSide k) ⟨k % 3, q, b, egressTag p k vid 0, 6, at', what⟩ p

/-! The address table (R333). -/

/-- The learned port of an address in a half; an entry older than AGE_S is no entry (R333). -/
def macPort (p : Pkg) (y : Side) (vid mac : Nat) : Option Nat :=
  ((p.eth.get y).mac.find? (fun e => e.vid == vid && e.mac == mac &&
    decide (now p y.port < e.at' + rd p y.port ETH_SW_CFG.AGE_S * 1000000000))).map (fun e => e.port)

/-- Learn a source address, or use it again; a full table learns none. -/
def macLearn (y : Side) (vid mac port : Nat) (p : Pkg) : Pkg :=
  let t := (p.eth.get y).mac
  let rest := t.filter (fun e => !(e.vid == vid && e.mac == mac))
  if isGroup mac then p
  else if rest.length < 1024 then
    p |> onEth y (fun e => { e with mac := rest ++ [⟨vid, mac, port, now p y.port⟩] }) |> wr y.port ETH_SW_STATUS.MAC_ENTRIES (rest.length + 1)
  else raise y.port clsWarning ETH_EVENT.MAC_FULL p

/-- MAC_AGE (R333): an address unused for AGE_S leaves the table. -/
def macAge (y : Side) (vid mac : Nat) (p : Pkg) : Pkg :=
  let d := y.port
  if !(running p d) then p
  else
    let keep := (p.eth.get y).mac.filter
      (fun e => !(e.vid == vid && e.mac == mac && decide (e.at' + rd p d ETH_SW_CFG.AGE_S * 1000000000 ≤ now p d)))
    p |> onEth y (fun e => { e with mac := keep }) |> wr d ETH_SW_STATUS.MAC_ENTRIES keep.length

/-- The ports of a half to which a frame of a VLAN goes: the learned one, or all members. -/
def forwardPorts (p : Pkg) (y : Side) (vid dst ingress : Nat) : List Nat :=
  let l := (ethPorts y).filter (fun k => k != ingress && portUsable p k && isMember p y.port vid k)
  match (if isGroup dst then none else macPort p y vid dst) with
  | some j => l.filter (· == j)
  | none => l

/-- The frame crosses the trunk: its address is learned there, or it is flooded and the other half has members. -/
def crosses (p : Pkg) (y : Side) (vid dst : Nat) : Bool :=
  let o := y.other
  trunkUp p && (ethPorts o).any (isMember p o.port vid) &&
    (match (if isGroup dst then none else macPort p y vid dst) with
      | some j => j == 6
      | none => true)

/-- Forward a frame under R333. -/
def forwardFrame (y : Side) (k vid pcp : Nat) (at' : Int) (f : FrameIn) (p : Pkg) : Pkg :=
  let b := f.plain
  let full := (p.eth.get y).mac.length ≥ 1024 && !(isGroup f.dst) && (macPort p y vid f.dst).isNone
  let send (h : Side) (q : Pkg) : Pkg := forAll (forwardPorts q h vid f.dst k) (fun j r => forwardTo j vid pcp k at' b r) q
  if f.dst = Config.macAddress then p
  else
    let p := p |> onlyIf full (inc y.port I_ETH.FULL_DROP) |> send y
    if crosses p y vid f.dst then p |> macLearn y.other vid f.src 6 |> send y.other else p

/-! The storm limits (R336). -/

/-- STORM is raised once per second at most. -/
def stormRaise (d : Die) (j : Nat) (p : Pkg) : Pkg :=
  if rdI p d I_ETH.STORM_AT j ≤ now p d then p |> raise d clsWarning ETH_EVENT.STORM |> wrI d I_ETH.STORM_AT j (now p d + 1000000000) else p

/-- Count a broadcast or multicast frame in its millisecond; none when it is over the limit. -/
def stormAdmit (d : Die) (j ms dst : Nat) (p : Pkg) : Option Pkg :=
  let p := if rdI p d I_ETH.STORM_MS j = ms then p else p |> wrI d I_ETH.STORM_MS j ms |> wrI d I_ETH.BC j 0 |> wrI d I_ETH.MC j 0
  let c := if dst = broadcastMac then (I_ETH.BC, rdI p d ETH_PORT_STORM.BC_LIMIT j) else (I_ETH.MC, rdI p d ETH_PORT_STORM.MC_LIMIT j)
  if !(isGroup dst) then some p
  else if c.2 ≠ 0 ∧ c.2 ≤ rdI p d c.1 j then none
  else some (incI d c.1 j p)

/-! Pdelay (R344, R345). -/

/-- The Pdelay exchange of a port. -/
def pdelayOf (p : Pkg) (k : Nat) : Pdelay := (p.eth.get (ethSide k)).pdelay.getD (k % 3) Pdelay.none

/-- Replace it. -/
def setPdelay (k : Nat) (x : Pdelay) (p : Pkg) : Pkg := onEth (ethSide k) (fun e => { e with pdelay := e.pdelay.set (k % 3) x }) p

/-- A PTP timestamp of ten bytes, ps. -/
def ptpTime (l : List Nat) : Int := ((beNat (l.take 6) * 1000000000 + beNat ((l.drop 6).take 4)) * 1000 : Nat)

/-- A correctionField in ps. -/
def ptpCorr (m : List Nat) : Int := divRne (toSigned 64 (beNat ((m.drop 8).take 8)) * 1000) 65536

/-- A message answers the port's own request: its requestingPortIdentity. -/
def answersPort (m : List Nat) (k : Nat) : Bool :=
  beNat ((m.drop 44).take 8) == Config.clockIdentity && beNat ((m.drop 52).take 2) == k + 1

/-- An exchange is complete: the mean of the last eight delays (R344). -/
def pdelayDone (k : Nat) (twice : Int) (p : Pkg) : Pkg :=
  let x := pdelayOf p k
  let l := (divRne twice 2 :: x.delays).take 8
  let mean := divRne (l.foldl (· + ·) 0) (max 1 l.length)
  p |> setPdelay k { x with waiting := false, t1 := none, resp := none, delays := l, fails := 0 }
    |> wrI (ethSide k).port PTP_PORT.LINK_DELAY (k % 3) (clampInt mean 0 4294967295).toNat

/-- A peer's Pdelay_Resp. -/
def pdelayResp (k : Nat) (t4 : Int) (m : List Nat) (p : Pkg) : Pkg :=
  let x := pdelayOf p k
  let seq := beNat ((m.drop 30).take 2)
  match x.t1 with
  | none => p
  | some t1 =>
    if !x.waiting || seq != x.seq || !(answersPort m k) then p
    else if bit (m.getD 6 0) 1 then setPdelay k { x with resp := some (t4 - t1 - ptpCorr m + ptpTime ((m.drop 34).take 10)) } p
    else pdelayDone k (t4 - t1 - ptpCorr m) p

/-- A peer's Pdelay_Resp_Follow_Up. -/
def pdelayFollow (k : Nat) (m : List Nat) (p : Pkg) : Pkg :=
  let x := pdelayOf p k
  match x.resp with
  | none => p
  | some r =>
    if !x.waiting || beNat ((m.drop 30).take 2) != x.seq || !(answersPort m k) then p
    else pdelayDone k (r - ptpTime ((m.drop 34).take 10) - ptpCorr m) p

/-- A Pdelay message at ingress; answers whether it goes no further. -/
def pdelayIngress (k : Nat) (at' : Int) (m : List Nat) (p : Pkg) : Option Pkg :=
  let d := (ethSide k).port
  let j := k % 3
  let t := ptpType m
  if t ≠ 2 ∧ t ≠ 3 ∧ t ≠ 10 then none
  else match rd p d PTP_CFG.TC_MODE with
    | 1 =>
      let seen := flagI p d I_ETH.PDELAY_SEEN j
      some (p |> incI d PTP_PORT.PDELAY_DROP j |> wrI d I_ETH.PDELAY_SEEN j 1 |> onlyIf (!seen) (raise d clsWarning PTP_EVENT.PDELAY_DROPPED))
    | 2 =>
      some (if t = 2 then sendOwn k (rdI p d ETH_PORT_CFG.PVID j) .pdelayResp at' (Config.ptpFrame 3 (beNat ((m.drop 30).take 2)) 0 [k + 1] m) p
        else if t = 3 then pdelayResp k at' m p else pdelayFollow k m p)
    | _ => none

/-- 2 to the power of a signed log interval, in ns. -/
def logNs (l : Int) : Nat := if 0 ≤ l then 1000000000 * 2 ^ l.toNat else 1000000000 / 2 ^ (-l).toNat

/-- PDELAY_REQ_TIMER (R344): every 2^LOG_PDELAY s, over a link that is up: the last exchange has failed if it still waits; a new
request. -/
def pdelayTimer (k : Nat) (p : Pkg) : Pkg :=
  let d := (ethSide k).port
  let j := k % 3
  let every := logNs (rdS p d PTP_OC_INTERVALS.LOG_PDELAY)
  if !(decide (k < 6)) || !(portUsable p k) || rd p d PTP_CFG.TC_MODE != 2 || !(periodDue p d I_ETH.PDELAY_DUE j every) then p
  else
    let x := pdelayOf p k
    let fails := if x.waiting then min 3 (x.fails + 1) else x.fails
    let seq := trunc 16 (x.seq + 1)
    p |> periodNext d I_ETH.PDELAY_DUE j every |> onlyIf (x.waiting && x.fails == 2) (raise d clsWarning PTP_EVENT.PDELAY_FAIL)
      |> setPdelay k { x with seq := seq, waiting := true, t1 := none, resp := none, fails := fails }
      |> sendOwn k (rdI p d ETH_PORT_CFG.PVID j) .pdelayReq 0 (Config.ptpFrame 2 seq 0 [k + 1] [])

/-! What a port's partner sends in PTP (R351). -/

/-- Note a received PTP message in the partner window of its port. -/
def partnerNote (k : Nat) (b : List Nat) (p : Pkg) : Pkg :=
  let d := (ethSide k).port
  let j := k % 3
  match ptpAt b with
  | none => p
  | some o =>
    let m := b.drop o
    let p := wrI d I_PW.VERSION j (m.getD 1 0 % 16) p
    if m.getD 1 0 % 16 ≠ 2 then p
    else
      let p := wrI d I_PW.DOMAIN j (m.getD 4 0) p
      match ptpType m with
      | 0 => p |> wrI d I_PW.SYNC j 1 |> wrI d I_PW.TWO_STEP j (b2n (bit (m.getD 6 0) 1))
      | 11 => wrI d I_PW.ANNOUNCE j 1 p
      | 1 => wrI d I_PW.DELAY_REQ j 1 p
      | 2 => wrI d I_PW.PDELAY_REQ j 1 p
      | _ => p

/-- The fields of the window and where they are shown. -/
def partnerFlds : List (Fld × Fld) :=
  [(I_PW.DOMAIN, ETH_PORT_PTP_SEEN.DOMAIN), (I_PW.TWO_STEP, ETH_PORT_PTP_SEEN.TWO_STEP), (I_PW.SYNC, ETH_PORT_PTP_SEEN.SYNC),
    (I_PW.ANNOUNCE, ETH_PORT_PTP_SEEN.ANNOUNCE), (I_PW.DELAY_REQ, ETH_PORT_PTP_SEEN.DELAY_REQ),
    (I_PW.PDELAY_REQ, ETH_PORT_PTP_SEEN.PDELAY_REQ), (I_PW.VERSION, ETH_PORT_PTP_SEEN.VERSION)]

/-- PTP_PARTNER_WINDOW (R351): the ten seconds of the port's window have passed. -/
def partnerWindow (k : Nat) (p : Pkg) : Pkg :=
  let d := (ethSide k).port
  let j := k % 3
  if !(decide (k < 6)) || !(running p d) || !(periodDue p d I_PW.DUE j 10000000000) then p
  else
    let changed := partnerFlds.any (fun (x : Fld × Fld) => rdI p d x.1 j != rdI p d x.2 j)
    p |> periodNext d I_PW.DUE j 10000000000 |> forAll partnerFlds (fun (x : Fld × Fld) q => q |> wrI d x.2 j (rdI q d x.1 j) |> wrI d x.1 j 0)
      |> onlyIf changed (fun q => q |> raise d clsInfo ETH_EVENT.PARTNER_CHANGED |> surrChanged d)

/-! The device's own addresses and the listeners (R337, R338). -/

/-- The interfaces of a VLAN. -/
def ifacesOf (p : Pkg) (d : Die) (vid : Nat) : List Nat := (List.range 4).filter (fun i => rdI p d ETH_IF.VID i == vid && vid != 0)

/-- The bytes of an interface's IPv6 address, in the order of its register bytes. -/
def ifaceV6 (p : Pkg) (d : Die) (i : Nat) : List Nat :=
  [ETH_IF.IPV6_0, ETH_IF.IPV6_1, ETH_IF.IPV6_2, ETH_IF.IPV6_3].flatMap (fun F => leBytes 4 (rdI p d F i))

/-- Listener `j` of a die matches a datagram (R338). -/
def listens (p : Pkg) (d : Die) (g : Dgram) (j : Nat) : Bool :=
  rdI p d ETH_LIS.KIND j != 0 && rdI p d ETH_LIS.VID j == g.vid && rdI p d ETH_LIS.DEST j == g.dst && rdI p d ETH_LIS.UDP_PORT j == g.udp &&
    bit (rdI p d ETH_LIS.PORTS j) g.port && (rdI p d ETH_LIS.SRC_IP j == 0 || rdI p d ETH_LIS.SRC_IP j == g.src)

/-- The listeners of a kind that a datagram reaches, with their dies. -/
def listenersOf (p : Pkg) (g : Dgram) : List (Side × Nat) :=
  bothSides.flatMap (fun y =>
    if running p y.port && reaches p (ethSide g.port).port y.port then ((List.range 32).filter (listens p y.port g)).map (fun j => (y, j)) else [])

/-- A UDP datagram for one of the device's addresses (R337): the dispatcher, the ordinary clock and the listeners take theirs. -/
def deliverUdp (k : Nat) (at' : Int) (srcAddr : Nat) (v6 heard : Bool) (udp : List Nat) (p : Pkg) : Pkg :=
  let d := (ethSide k).port
  let port := beNat ((udp.drop 2).take 2)
  let len := beNat ((udp.drop 4).take 2)
  if port = rd p d I_HST.UDP_PORT then nhpDatagram d (psToNs at') srcAddr (beNat (udp.take 2)) v6 ((udp.take len).drop 8) p
  else if port = 319 ∨ port = 320 ∨ heard then p
  else inc d I_ETH.DEV_DROP p

/-- A frame for the device (R337). -/
def deliverFrame (k vid : Nat) (stamp : Nat) (at' : Int) (f : FrameIn) (p : Pkg) : Pkg :=
  let d := (ethSide k).port
  let b := f.plain
  let ifs := ifacesOf p d vid
  let reply := ifs.findSome? (fun i => Config.stackReply ([rdI p d ETH_IF.FLAGS i, rdI p d ETH_IF.PREFIX i, rdI p d ETH_IF.IPV4 i] ++ ifaceV6 p d i) b)
  match reply with
  | some r => sendOwn k vid .device at' r p
  | none =>
    if f.etype = 0x0800 ∧ f.pay.getD 9 0 = 17 then
      let dst := beNat ((f.pay.drop 16).take 4)
      let udp := f.pay.drop (f.pay.getD 0 0 % 16 * 4)
      let g : Dgram := ⟨k, vid, dst, beNat ((f.pay.drop 12).take 4), beNat ((udp.drop 2).take 2), stamp, []⟩
      if ifs.any (fun i => bit (rdI p d ETH_IF.FLAGS i) 0 && rdI p d ETH_IF.IPV4 i == dst) then
        deliverUdp k at' g.src false (!(listenersOf p g).isEmpty) udp p
      else p
    else if f.etype = 0x86DD ∧ f.pay.getD 6 0 = 17 then
      if ifs.any (fun i => bit (rdI p d ETH_IF.FLAGS i) 1 && ifaceV6 p d i == (f.pay.drop 24).take 16) then
        deliverUdp k at' (beNat ((f.pay.drop 8).take 16)) true false (f.pay.drop 40) p
      else p
    else p

/-- A frame that has passed the checks of its VLAN and the storm limits. -/
def switchFrame (k vid pcp stamp : Nat) (f : FrameIn) (p : Pkg) : Pkg :=
  let y := ethSide k
  let at' := ingressPs p k stamp
  let b := f.plain
  let p := p |> macLearn y vid f.src k |> partnerNote k b
  match (ptpBody b).bind (fun m => pdelayIngress k at' m p) with
  | some q => q
  | none =>
    p |> onlyIf (isMember p y.port vid 6 && (f.dst == Config.macAddress || isGroup f.dst)) (deliverFrame k vid stamp at' f)
      |> forwardFrame y k vid pcp at' f

/-- ETH_FRAME_RECEIVE (R331 to R338): a frame without its FCS, its stamp in ns, and whether FCS and symbols were good. -/
def ethReceive (k stamp : Nat) (ok : Bool) (b : List Nat) (p : Pkg) : Pkg :=
  let d := (ethSide k).port
  let j := k % 3
  let f := parseFrame b
  if !(decide (k < 6)) || !(portUsable p k) then p
  else if !ok then incI d ETH_CNT.RX_ERR j p
  else
    let p := incI d ETH_CNT.RX_FRAMES j p
    if 1522 < b.length + 4 then incI d ETH_CNT.OVERSIZE j p
    else if f.etype = 0x8808 ∧ beNat (f.pay.take 2) = 1 then incI d ETH_CNT.PAUSE_RX j p
    else
      let vid := match f.tci with
        | some t => if t % 4096 = 0 then rdI p d ETH_PORT_CFG.PVID j else t % 4096
        | none => rdI p d ETH_PORT_CFG.PVID j
      let pcp := match f.tci with
        | some t => if t % 4096 = 0 then rdI p d ETH_PORT_CFG.DEF_PCP j else t / 8192
        | none => rdI p d ETH_PORT_CFG.DEF_PCP j
      if !(isMember p d vid k) then incI d I_ETH.VLAN_DROP j p
      else match stormAdmit d j (stamp / 1000000) f.dst p with
        | none => p |> incI d ETH_CNT.STORM_DROP j |> stormRaise d j
        | some q => switchFrame k vid pcp stamp f q

/-! Transmission (R341, R343, R349). -/

/-- The oldest transmit timestamp of a port is shown in its queue's key (R349). -/
def txqShow (k : Nat) (p : Pkg) : Pkg :=
  let y := ethSide k
  let d := y.port
  let j := k % 3
  let l := (p.eth.get y).txq.filter (fun x => x.1 == k)
  let p := wrI d PTP_PORT.TXQ_DEPTH j l.length p
  match l with
  | [] => wrI d PTP_TXQ.VALID j 0 p
  | x :: _ => p |> wrI d PTP_TXQ.SEQ_ID j x.2.1 |> wrI d PTP_TXQ.MSG_TYPE j x.2.2.1 |> wrI d PTP_TXQ.PORT j k |> wrI d PTP_TXQ.VALID j 1

/-- An event message of the ordinary clock leaves its timestamp in the queue of 16, or drops it. -/
def txqPush (k kind seq : Nat) (ts : Int) (p : Pkg) : Pkg :=
  let y := ethSide k
  if 16 ≤ ((p.eth.get y).txq.filter (fun x => x.1 == k)).length then p |> inc y.port PTP_TXQ_OVF.COUNT |> raise y.port clsWarning PTP_EVENT.TXQ_OVF
  else p |> onEth y (fun e => { e with txq := e.txq ++ [(k, seq, kind, ts)] }) |> txqShow k

/-- What the sending port adds to the correctionField of a frame: the residence time, and for a Sync in P2P the link delay of its
ingress port; in 2^-16 ns. -/
def residence (p : Pkg) (k : Nat) (f : TxFrame) (egress : Int) : Option Int :=
  let mode := rd p (ethSide k).port PTP_CFG.TC_MODE
  let t := ((ptpBody f.bytes).map ptpType).getD 15
  let delay : Int := rdI p (ethSide f.ingress).port PTP_PORT.LINK_DELAY (f.ingress % 3)
  match f.what with
  | .forwarded =>
    if (mode = 1 ∨ mode = 2) ∧ t < 4 then some (psToScaled (egress - f.at' + (if mode = 2 ∧ t = 0 then delay else 0))) else none
  | .pdelayResp => some (psToScaled (egress - f.at'))
  | _ => none

/-- The first waiting frame of the highest queue of a port. -/
def nextFrame (e : Eth) (port : Nat) : Option TxFrame :=
  [3, 2, 1, 0].findSome? (fun q => e.queues.find? (fun f => f.port == port && f.queue == q))

/-- ETH_FRAME_TRANSMIT (R341, R343): the port sends the next frame; `stamp` is its egress stamp in ns. -/
def ethTransmit (k stamp : Nat) (p : Pkg) : Pkg :=
  let y := ethSide k
  let d := y.port
  let j := k % 3
  match (if decide (k < 6) && portUsable p k then nextFrame (p.eth.get y) j else none) with
  | none => p
  | some f =>
    let e := egressPs p k stamp
    let add := residence p k f e
    let body := match add with
      | some a => correctFrame f.bytes a
      | none => f.bytes
    let wire := match f.tag with
      | some t => body.take 12 ++ [0x81, 0x00] ++ beBytes 2 t ++ body.drop 12
      | none => body
    let p := p |> onEth y (fun h => { h with queues := h.queues.erase f, last := h.last.set j wire }) |> incI d ETH_CNT.TX_FRAMES j
      |> onlyIf (f.what == .forwarded && add.isSome) (incI d PTP_PORT.TC_CORRECTED j)
    match f.what with
    | .ocEvent kind seq => txqPush k kind seq (e / 1000) p
    | .pdelayReq => setPdelay k { pdelayOf p k with t1 := some e } p
    | _ => p

/-- ETH_LINK_CHANGE (R351): the link comes up or goes down, with what its partner advertises; 1000BASE-X runs at 1,000 Mbit/s only
(R331). -/
def ethLinkChange (k : Nat) (up : Bool) (speed : Nat) (an pause : Bool) (p : Pkg) : Pkg :=
  let d := (ethSide k).port
  let j := k % 3
  let speed := if rdI p d ETH_PORT_CFG.MODE j = 2 then 2 else speed
  if !(decide (k < 6)) || !(running p d) || rdI p d ETH_PORT_CFG.MODE j == 0 then p
  else
    let was := flagI p d ETH_PORT_STATUS.LINK j
    let changed := rdI p d ETH_PORT_STATUS.SPEED j != speed || flagI p d ETH_PORT_STATUS.PARTNER_AN j != an || flagI p d ETH_PORT_STATUS.PARTNER_PAUSE j != pause
    let links := rd p d ETH_SW_STATUS.LINK
    p |> wrI d ETH_PORT_STATUS.LINK j (b2n up) |> wrI d ETH_PORT_STATUS.SPEED j speed |> wrI d ETH_PORT_STATUS.PARTNER_AN j (b2n an)
      |> wrI d ETH_PORT_STATUS.PARTNER_PAUSE j (b2n pause)
      |> wr d ETH_SW_STATUS.LINK (links - 2 ^ j * b2n (bit links j) + 2 ^ j * b2n up)
      |> onlyIf (up && !was) (raise d clsInfo ETH_EVENT.LINK_UP) |> onlyIf (!up && was) (raise d clsWarning ETH_EVENT.LINK_DOWN)
      |> onlyIf changed (fun q => q |> raise d clsInfo ETH_EVENT.PARTNER_CHANGED |> surrChanged d)

/-! Sensor datagrams (R338 to R340). -/

/-- The arrival stamp of a datagram: its compensated ingress timestamp, ns. -/
def dgramArrival (g : Dgram) (p : Pkg) : Nat := psToNs (ingressPs p g.port g.stamp)

/-- Split a datagram's text into lines, each with its TAG block's content if it has one: from a backslash to the next, then to the
line feed. `fuel` bounds the lines. -/
def tagLines : Nat → List Nat → List (Option (List Nat) × List Nat)
  | 0, _ => []
  | _ + 1, [] => []
  | n + 1, c :: r =>
    let tag := if c = 0x5C then some (r.takeWhile (· != 0x5C)) else none
    let rest := match tag with
      | some t => r.drop (t.length + 1)
      | none => c :: r
    let line := rest.takeWhile (· != 0x0A)
    (tag, line ++ (rest.drop line.length).take 1) :: tagLines n (rest.drop (line.length + 1))

/-- A TAG block's own checksum: the exclusive or of what stands before "*". -/
def tagGood (t : List Nat) : Bool :=
  let body := t.takeWhile (· != 0x2A)
  let rest := t.drop body.length
  match hexDigit (rest.getD 1 0), hexDigit (rest.getD 2 0) with
  | some h, some l => rest.length == 3 && h * 16 + l == body.foldl Nat.xor 0
  | _, _ => false

/-- A sentence under the rules of R291. -/
def lineGood (l : List Nat) : Bool :=
  match frameChars l none with
  | (0, [s]) => s == l && sentenceGood false s
  | _ => false

/-- Cut a list at a separator. -/
def cutAt (sep : Nat) : Nat → List Nat → List (List Nat)
  | 0, _ => []
  | n + 1, l => let h := l.takeWhile (· != sep); if h.length < l.length then h :: cutAt sep n (l.drop (h.length + 1)) else [h]

/-- The value of a parameter (s or n) in the first TAG block that has it. -/
def tagParam (c : Nat) (tags : List (List Nat)) : Option (List Nat) :=
  (tags.flatMap (fun t => cutAt 0x2C t.length (t.takeWhile (· != 0x2A)))).findSome? (fun q => if q.take 2 = [c, 0x3A] then some (q.drop 2) else none)

/-- A decimal number. -/
def decimal (l : List Nat) : Nat := l.foldl (fun a c => a * 10 + (c - 0x30)) 0

/-- A datagram that a listener has found wrong. -/
def listenErr (y : Side) (j : Nat) (p : Pkg) : Pkg := p |> incI y.port ETH_LIS.ERR j |> raise y.port clsWarning ETH_EVENT.LISTEN_ERR

/-- IEC_61162_450_DATAGRAM at one listener (R339). -/
def take450 (y : Side) (j arrival : Nat) (b : List Nat) (p : Pkg) : Pkg :=
  let text := b.drop 6
  let lines := tagLines text.length text
  let tags := lines.filterMap (fun l => l.1)
  let good := b.take 6 == [0x55, 0x64, 0x50, 0x62, 0x43, 0] && !lines.isEmpty && tags.all tagGood && lines.all (fun l => lineGood l.2)
  let key := (tagParam 0x73 tags).bind (fun s => (tagParam 0x6E tags).map (fun n => (s, decimal n)))
  if !good then listenErr y j p
  else if key.any (fun k => (p.eth.get y).lines.contains k) then incI y.port ETH_LIS.DUP j p
  else
    p |> incI y.port ETH_LIS.ACCEPTED j
      |> (match key with
        | some k => onEth y (fun e => { e with lines := (k :: e.lines.filter (fun x => x.1 != k.1)).take 1024 })
        | none => id)
      |> forAll lines (fun l q => takeSentence y.port 3 j arrival l.2 q)

/-- IEC_61162_450_DATAGRAM (R338, R339). -/
def datagram450 (g : Dgram) (p : Pkg) : Pkg :=
  if !(decide (g.port < 6)) || !(portUsable p g.port) then p
  else forAll ((listenersOf p g).filter (fun l => rdI p l.1.port ETH_LIS.KIND l.2 == 1)) (fun l q => take450 l.1 l.2 (dgramArrival g q) g.payload q) p

/-- The stamp a stream's sender gives (Table 12-1). -/
def streamStamp (b : List Nat) : Option Int :=
  match b.getD 2 0 with
  | 1 => some (leNat ((b.drop 16).take 8) : Int)
  | 2 => some ((leNat ((b.drop 16).take 6) * 1000000000 + leNat ((b.drop 24).take 4) : Nat) : Int)
  | _ => none

/-- A stream's stamp kind fits the source's STAMP mode (R340). -/
def stampFits (kind mode : Nat) : Bool := mode == 0 || (mode == 1 && kind == 1) || (mode == 2 && kind == 2)

/-- UDP_SENSOR_DATAGRAM at one listener (R340). -/
def takeStream (y : Side) (j arrival : Nat) (b : List Nat) (p : Pkg) : Pkg :=
  let d := y.port
  let n := b.getD 3 0
  let r : RawSample := ⟨d, 4, j, leNat ((b.drop 4).take 4), arrival, 0, streamStamp b, ((chunks 4 8 (b.drop 32)).map leNat).map f32to64⟩
  let seq := leNat ((b.drop 8).take 4)
  let m := matchSource p r
  if leNat (b.take 2) ≠ 1 ∨ b.length ≠ 32 + 4 * n ∨ n = 0 ∨ 8 < n ∨ !(bit (b.getD 12 0) 0) ∨ m.any (fun s => !(stampFits (b.getD 2 0) s.stampMode)) then
    listenErr y j p
  else match m with
    | none => p |> incI d ETH_LIS.ACCEPTED j |> receiveSample r
    | some s =>
      if (p.eth.get y).streams.contains (s.src, seq) then incI d ETH_LIS.DUP j p
      else p |> incI d ETH_LIS.ACCEPTED j |> onEth y (fun e => { e with streams := (s.src, seq) :: e.streams.filter (fun x => x.1 != s.src) })
        |> receiveMarked (bit (b.getD 12 0) 1) r

/-- UDP_SENSOR_DATAGRAM (R338, R340). -/
def streamDatagram (g : Dgram) (p : Pkg) : Pkg :=
  if !(decide (g.port < 6)) || !(portUsable p g.port) then p
  else forAll ((listenersOf p g).filter (fun l => rdI p l.1.port ETH_LIS.KIND l.2 == 2)) (fun l q => takeStream l.1 l.2 (dgramArrival g q) g.payload q) p

/-! The ordinary clock (R348 to R350). -/

/-- The die of the ordinary clock's port. -/
def ocDie (p : Pkg) : Die := if rd p .pa PTP_CFG.OC_PORT < 3 then .pa else .pb

/-- The ordinary clock's port. -/
def ocPort (p : Pkg) : Nat := rd p .pa PTP_CFG.OC_PORT

/-- The ordinary clock takes part: the steward serves it, its port works (R350). -/
def ocOn (p : Pkg) : Bool :=
  let d := ocDie p
  running p .sw && running p d && rd p d PTP_CFG.OC_MODE != 0 && portUsable p (ocPort p) && reaches p .sw d

/-- portState of the ordinary clock. -/
def ocState (p : Pkg) : Nat := rd p (ocDie p) PTP_OC_STATUS.PORT_STATE

/-- Change portState. -/
def setOcState (v : Nat) (p : Pkg) : Pkg :=
  let d := ocDie p
  if ocState p = v then p
  else p |> wr d PTP_OC_STATUS.PORT_STATE v |> raise d clsInfo PTP_EVENT.STATE_CHANGED |> onlyIf (v != 9) (wr d PTP_OC_STATUS.SERVO_LOCKED 0)

/-- Change the grandmaster. -/
def setGm (g : Nat) (p : Pkg) : Pkg :=
  let d := ocDie p
  if rd p d PTP_GM_ID.VALUE = g then p else p |> wr d PTP_GM_ID.VALUE g |> raise d clsInfo PTP_EVENT.GM_CHANGED

/-- The VLAN of the ordinary clock's messages: its interface's, or its port's over Ethernet. -/
def ocVid (p : Pkg) : Nat :=
  let d := ocDie p
  if rd p d PTP_CFG.TRANSPORT = 2 then rdI p d ETH_PORT_CFG.PVID (ocPort p % 3) else rdI p d ETH_IF.VID (rd p d PTP_CFG.OC_IF)

/-- The clockAccuracy announced (R348): 0x21 with class 6, 0xFE with class 248; none is stated for holdover. -/
def ocAccuracy (cls : Nat) : Nat := if cls = 6 then 0x21 else if cls = 7 then Config.holdoverAccuracy else 0xFE

/-- The device's own data set. -/
def ownData (p : Pkg) : Announce :=
  let d := ocDie p
  let cls := rd p d PTP_OC_STATUS.CLOCK_CLASS
  ⟨Config.clockIdentity, 1, rd p d PTP_OC_PRIO.PRIORITY1, cls, ocAccuracy cls, Config.clockVariance, rd p d PTP_OC_PRIO.PRIORITY2,
    Config.clockIdentity, 0, rdS p .sw TIM_UTC.UTC_OFFSET, flag p .sw TIM_UTC.VALID, flag p .sw TIM_UTC.LEAP61, flag p .sw TIM_UTC.LEAP59⟩

/-- The words by which data sets are compared, the first difference deciding. -/
def annRank (a : Announce) : List Nat := [a.prio1, a.cls, a.accuracy, a.variance, a.prio2, a.gm, a.steps, a.src, a.srcPort]

/-- Lexicographic order. -/
def lexLess : List Nat → List Nat → Bool
  | a :: r, b :: s => decide (a < b) || (a == b && lexLess r s)
  | [], _ :: _ => true
  | _, [] => false

/-- The qualified foreign master of the best data set: two Announces within four announce intervals. -/
def bestForeign (p : Pkg) : Option Announce :=
  let w := 4 * logNs (rd p (ocDie p) PTP_OC_INTERVALS.LOG_ANNOUNCE)
  let ok := p.oc.foreign.filter (fun f => decide (2 ≤ (f.times.filter (fun t => decide (now p .sw ≤ t + w))).length) && decide (f.ann.steps < 255))
  (ok.map (fun f => f.ann)).foldl (fun (a : Option Announce) b => match a with
    | some c => if lexLess (annRank b) (annRank c) then some b else a
    | none => some b) none

/-- Become the slave of a master. -/
def followMaster (a : Announce) (p : Pkg) : Pkg :=
  let same := p.oc.parent == some (a.src, a.srcPort) && (ocState p == 8 || ocState p == 9)
  let p := setGm a.gm p
  if same then p
  else { p with oc := { p.oc with parent := some (a.src, a.srcPort), sync := none, lastSync := none, delay := none, mean := none, offsets := [] } }
    |> setOcState 8

/-- The best master clock algorithm decides portState. -/
def bmca (p : Pkg) : Pkg :=
  let own := ownData p
  match bestForeign p with
  | none => p
  | some a =>
    if rd p (ocDie p) PTP_CFG.OC_MODE = 1 then followMaster a p
    else if lexLess (annRank own) (annRank a) then p |> setGm own.gm |> setOcState 6
    else if own.cls ≤ 127 then p |> setGm a.gm |> setOcState 7
    else followMaster a p

/-- UTC from the parent's Announce when PTP is the reference (R370). -/
def utcFromAnnounce (a : Announce) (p : Pkg) : Pkg :=
  if timeRef p = 2 ∧ a.utcValid ∧ p.oc.parent = some (a.src, a.srcPort) then utcTake a.utc a.leap61 a.leap59 p else p

/-- An Announce. -/
def ocAnnounce (m : PtpMsg) (p : Pkg) : Pkg :=
  let t := now p .sw
  let same (f : Foreign) : Bool := f.ann.src == m.ann.src && f.ann.srcPort == m.ann.srcPort
  let times := ((p.oc.foreign.find? same).map (fun f => f.times)).getD []
  let p := { p with oc := { p.oc with foreign := ((⟨m.ann, (t :: times).take 4⟩ : Foreign) :: p.oc.foreign.filter (fun f => !(same f))).take 5 } }
  let heard (q : Pkg) : Pkg := { q with oc := { q.oc with annAt := t } }
  let p : Pkg := onlyIf (p.oc.parent == some (m.ann.src, m.ann.srcPort)) heard p
  let before := p.oc.parent
  let p := bmca p
  let p : Pkg := onlyIf (p.oc.parent != before) heard p
  utcFromAnnounce m.ann p

/-- The mean delay in 2^-16 ns: of the link in P2P, of the path else. -/
def ocMean (p : Pkg) : Option Int :=
  let d := ocDie p
  if rd p d PTP_CFG.TC_MODE = 2 then some (psToScaled (rdI p d PTP_PORT.LINK_DELAY (ocPort p % 3))) else p.oc.mean

/-- f_meas of the last offsets, ppb in binary64: their least-squares slope over the Sync messages' ingress times (R363); 0 from one
offset. -/
def offsetSlope (l : List (Int × Int)) : Nat :=
  let n : Int := l.length
  let sx := l.foldl (fun a e => a + e.2) 0
  let sy := l.foldl (fun a e => a + e.1) 0
  let sxx := l.foldl (fun a e => a + e.2 * e.2) 0
  let sxy := l.foldl (fun a e => a + e.1 * e.2) 0
  let den := n * sxx - sx * sx
  if den ≤ 0 then 0 else frat ((n * sxy - sx * sy) * 1000000000) den.toNat

/-- The servo forms offsetFromMaster (R350); with PTP as the reference it is a reference update (R363). -/
def ocOffset (p : Pkg) : Pkg :=
  let d := ocDie p
  match p.oc.lastSync, ocMean p with
  | some (t1, t2), some m =>
    let off := t2 - t1 - m
    let l := ((off, t2) :: p.oc.offsets).take 16
    { p with oc := { p.oc with offsets := l } } |> wrSI d PTP_OFFSET.VALUE 0 off |> wrSI d PTP_MEAN_DELAY.VALUE 0 m |> setOcState 9
      |> wr d PTP_OC_STATUS.SERVO_LOCKED (b2n (timeRef p == 2))
      |> onlyIf (timeRef p == 2) (referenceUpdate (divRne off 65536) (offsetSlope l))
  | _, _ => p

/-- A message of the parent. -/
def fromParent (m : PtpMsg) (p : Pkg) : Bool := p.oc.parent == some (m.src, m.srcPort) && (ocState p == 8 || ocState p == 9)

/-- Send a message of the ordinary clock. -/
def ocSend (kind seq : Nat) (ts : Int) (answers : List Nat) (p : Pkg) : Pkg :=
  let k := ocPort p
  let what : FrameOf := if kind < 4 then .ocEvent kind seq else .device
  sendOwn k (ocVid p) what 0 (Config.ptpFrame kind seq ts (annRank (ownData p)) answers) p

/-- PTP_MESSAGE_RECEIVE (R348, R350). -/
def ptpReceive (m : PtpMsg) (p : Pkg) : Pkg :=
  if !(ocOn p) || m.port != ocPort p || m.version != 2 || m.domain != rd p (ocDie p) PTP_CFG.DOMAIN || m.src == Config.clockIdentity then p
  else match m.kind with
    | 11 => ocAnnounce m p
    | 0 =>
      if !(fromParent m p) then p
      else if m.twoStep then { p with oc := { p.oc with sync := some (m.seq, m.arrival, m.corr) } }
      else ocOffset { p with oc := { p.oc with lastSync := some (m.origin * 65536 + m.corr, m.arrival) } }
    | 8 =>
      match p.oc.sync with
      | some (seq, t2, c) =>
        if fromParent m p && seq == m.seq then
          ocOffset { p with oc := { p.oc with sync := none, lastSync := some (m.origin * 65536 + c + m.corr, t2) } }
        else p
      | none => p
    | 9 =>
      match p.oc.delay, p.oc.lastSync with
      | some (seq, some t3), some (t1, t2) =>
        if fromParent m p && seq == m.seq && m.req == (Config.clockIdentity, 1) then
          ocOffset { p with oc := { p.oc with delay := none, mean := some (divRne ((t2 - t1) + (m.origin * 65536 - m.corr - t3)) 2) } }
        else p
      | _, _ => p
    | 1 => if ocState p = 6 then ocSend 9 m.seq (m.arrival / 65536) [m.src, m.srcPort, ofSigned 64 m.corr] p else p
    | _ => p

/-- The interval of a message type of the ordinary clock (R348): Sync, Announce, Delay_Req. -/
def ptpEvery (p : Pkg) (i : Nat) : Nat :=
  let d := ocDie p
  logNs (match i with | 0 => rdS p d PTP_OC_INTERVALS.LOG_SYNC | 1 => rd p d PTP_OC_INTERVALS.LOG_ANNOUNCE | _ => rdS p d PTP_OC_INTERVALS.LOG_DELAY_REQ)

/-- PTP_MESSAGE_TIMER (R348): a message of a type is due by PTP_OC_INTERVALS, 0 Sync, 1 Delay_Req, 11 Announce. -/
def ptpTimer (kind : Nat) (p : Pkg) : Pkg :=
  let st := ocState p
  let i := if kind = 0 then 0 else if kind = 11 then 1 else 2
  let every := ptpEvery p i
  let seq := trunc 16 (p.oc.seqs.getD i 0 + 1)
  let due := if kind = 0 ∨ kind = 11 then st == 6 else if kind = 1 then (st == 8 || st == 9) && rd p (ocDie p) PTP_CFG.TC_MODE != 2 else false
  if !(ocOn p) || !due || !(periodDue p .sw I_PTP.DUE i every) then p
  else
    let p := periodNext .sw I_PTP.DUE i every p
    let p := { p with oc := { p.oc with seqs := p.oc.seqs.set i seq, delay := if kind = 1 then some (seq, none) else p.oc.delay } }
    ocSend kind seq 0 [] p

/-- ANNOUNCE_TIMEOUT (R348, R361). -/
def announceTimeout (p : Pkg) : Pkg :=
  let d := ocDie p
  let st := ocState p
  let limit := rd p d PTP_OC_PRIO.ANN_TIMEOUT * logNs (rd p d PTP_OC_INTERVALS.LOG_ANNOUNCE)
  if !(ocOn p) || !(st == 4 || st == 7 || st == 8 || st == 9) || !(decide (p.oc.annAt + limit ≤ now p .sw)) then p
  else
    let p := { p with oc := { p.oc with foreign := [], parent := none, sync := none, lastSync := none, delay := none, mean := none, offsets := [] } }
    p |> raise d clsWarning PTP_EVENT.ANNOUNCE_TIMEOUT |> (if rd p d PTP_CFG.OC_MODE = 2 then fun q => q |> setGm Config.clockIdentity |> setOcState 6 else setOcState 4)
      |> onlyIf (timeRef p == 2 && (st == 8 || st == 9)) enterHoldover

/-- PTP_TXQ_KEY_READ (R349): the steward firmware's read takes the entry, and the clock goes on with its timestamp; a host's read
removes nothing. -/
def txqKeyRead (k : Nat) (host : Bool) (p : Pkg) : Pkg :=
  let y := ethSide k
  let d := y.port
  match (p.eth.get y).txq.find? (fun x => x.1 == k) with
  | none => p
  | some e =>
    if host || !(decide (k < 6)) || !(running p d) || !(running p .sw) then p
    else
      let p := p |> onEth y (fun h => { h with txq := h.txq.erase e }) |> wrSI d PTP_TXQ.TS (k % 3) e.2.2.2 |> txqShow k
      if e.2.2.1 = 0 then if ocOn p && ocState p == 6 then ocSend 8 e.2.1 e.2.2.2 [] p else p
      else match p.oc.delay with
        | some (seq, _) => if seq = e.2.1 then { p with oc := { p.oc with delay := some (seq, some (e.2.2.2 * 65536)) } } else p
        | none => p

/-! The commands of the table: one meaning each. -/

/-- ETH_FRAME_RECEIVE (R333). -/
def execEthFrameReceive (k stamp : Nat) (ok : Bool) (bytes : List Nat) (s : State) : Host.Outcome State Fault Refusal := nextPk s (ethReceive k stamp ok bytes)

/-- MAC_AGE (R333). -/
def execMacAge (y : Side) (vid mac : Nat) (s : State) : Host.Outcome State Fault Refusal := nextPk s (macAge y vid mac)

/-- IEC_61162_450_DATAGRAM (R339). -/
def execIec61162450Datagram (g : Dgram) (s : State) : Host.Outcome State Fault Refusal := nextPk s (datagram450 g)

/-- UDP_SENSOR_DATAGRAM (R340). -/
def execUdpSensorDatagram (g : Dgram) (s : State) : Host.Outcome State Fault Refusal := nextPk s (streamDatagram g)

/-- ETH_FRAME_TRANSMIT (R343). -/
def execEthFrameTransmit (k stamp : Nat) (s : State) : Host.Outcome State Fault Refusal := nextPk s (ethTransmit k stamp)

/-- PDELAY_REQ_TIMER (R344). -/
def execPdelayReqTimer (k : Nat) (s : State) : Host.Outcome State Fault Refusal := nextPk s (pdelayTimer k)

/-- PTP_MESSAGE_TIMER (R348). -/
def execPtpMessageTimer (kind : Nat) (s : State) : Host.Outcome State Fault Refusal := nextPk s (ptpTimer kind)

/-- PTP_MESSAGE_RECEIVE (R350). -/
def execPtpMessageReceive (m : PtpMsg) (s : State) : Host.Outcome State Fault Refusal := nextPk s (ptpReceive m)

/-- PTP_TXQ_KEY_READ (R349). -/
def execPtpTxqKeyRead (k : Nat) (host : Bool) (s : State) : Host.Outcome State Fault Refusal := nextPk s (txqKeyRead k host)

/-- PTP_PARTNER_WINDOW (R351). -/
def execPtpPartnerWindow (k : Nat) (s : State) : Host.Outcome State Fault Refusal := nextPk s (partnerWindow k)

/-- ETH_LINK_CHANGE (R351). -/
def execEthLinkChange (k : Nat) (up : Bool) (speed : Nat) (an pause : Bool) (s : State) : Host.Outcome State Fault Refusal := nextPk s (ethLinkChange k up speed an pause)

/-- ANNOUNCE_TIMEOUT (R361). -/
def execAnnounceTimeout (s : State) : Host.Outcome State Fault Refusal := nextPk s announceTimeout

end Sys2Proof.Machine
end

