-- ==== Sys2Proof/Machine/Access.lean ====
section
/-! DEFINITION. Chapters 00 and 01: the management address map, reading and writing register words, and 64-bit pairs. -/

namespace Sys2Proof.Machine

/-! The register map (R20, R21, R26). -/

/-- Every row of the register map. -/
def regRows : List RegRow := regRowsLane ++ regRowsPort ++ regRowsSys

/-- Bits of a field beyond the start of its first word. -/
def Fld.top (F : Fld) : Nat := F.lo + F.w

/-- The word at `w`, an offset of entry 0, holds a part of the field. -/
def Fld.covers (F : Fld) (w : Nat) : Bool := decide (F.off ≤ w) && decide (w < F.off + (F.top + 31) / 32 * 4)

/-- The access code of a word of entry 0 that is reserved whole. -/
def RegRow.reserved (r : RegRow) (w : Nat) : Option Acc := (r.resv.find? (fun e => e.1 == w)).map (fun e => e.2)

/-- The word of entry 0 at `w` is defined: it holds a field, or it is reserved. -/
def RegRow.defines (r : RegRow) (w : Nat) : Bool := r.flds.any (fun F => F.covers w) || (r.reserved w).isSome

/-- The entry of a row and the offset in entry 0 that an offset names, if the row defines a word there. -/
def RegRow.locate (r : RegRow) (d : Die) (off : Nat) : Option (Nat × Nat) :=
  let i := if r.stride = 0 then 0 else (off - r.off) / r.stride
  let rel := off - r.off - i * r.stride
  if r.off ≤ off ∧ i < r.count ∧ rel < r.size ∧ r.dies.contains d.num ∧ r.defines (r.off + rel) = true then some (i, r.off + rel) else none

/-- The row of a word, its entry and its offset in entry 0. -/
def wordAt (d : Die) (off : Nat) : Option (RegRow × Nat × Nat) :=
  if off % 4 ≠ 0 then none
  else regRows.findSome? (fun r => (r.locate d off).map (fun x => (r, x.1, x.2)))

/-- The fields of a word. -/
def wordFlds (h : RegRow × Nat × Nat) : List Fld := h.1.flds.filter (fun F => F.covers h.2.2)

/-- What a value of a field shows in the word at `w`. -/
def Fld.part (F : Fld) (w v : Nat) : Nat := v * 2 ^ F.lo / 2 ^ (32 * ((w - F.off) / 4)) % 2 ^ 32

/-- The bits of the word at `w` that belong to the field. -/
def Fld.mask (F : Fld) (w : Nat) : Nat := F.part w (2 ^ F.w - 1)

/-- A field's value after its part of the word at `w` has been written. -/
def Fld.merge (F : Fld) (w old word : Nat) : Nat :=
  let k := 32 * ((w - F.off) / 4)
  let full := old * 2 ^ F.lo
  (full - full / 2 ^ k % 2 ^ 32 * 2 ^ k + word % 2 ^ 32 * 2 ^ k) / 2 ^ F.lo % 2 ^ F.w

/-- A field as a read shows it: a WO field reads 0. -/
def Fld.shown (F : Fld) (p : Pkg) (d : Die) (i : Nat) : Nat :=
  match F.acc with
  | .wo => 0
  | _ => rdI p d F i

/-- The word at an offset of a die; none where none is implemented (R21). Reserved fields read 0 (R8). -/
def readAt (p : Pkg) (d : Die) (off : Nat) : Option Nat :=
  (wordAt d off).map (fun h => (wordFlds h).foldl (fun a F => a + F.part h.2.2 (F.shown p d h.2.1)) 0)

/-- The word holds a TX field. -/
def holdsTx (h : RegRow × Nat × Nat) : Bool := (wordFlds h).any (fun F => F.acc == .tx) || h.1.reserved h.2.2 == some .tx

/-- The bits of a word's TX fields. -/
def txMask (h : RegRow × Nat × Nat) : Nat := ((wordFlds h).filter (fun F => F.acc == .tx)).foldl (fun a F => a + F.mask h.2.2) 0

/-- Write the TX fields of a word (R7). -/
def applyTx (d : Die) (off word : Nat) (p : Pkg) : Pkg :=
  match wordAt d off with
  | none => p
  | some h => forAll ((wordFlds h).filter (fun F => F.acc == .tx)) (fun F q => wrI d F h.2.1 (F.merge h.2.2 (rdI q d F h.2.1) word) q) p

/-- Registers whose chapter names a die's own firmware as the only writer (R6, R314; chapters 02, 13, 14). -/
def firmwareOnly : List Fld :=
  [HG_CTRL.RELEASE, HG_CTRL.ARM, HG_CTRL.DISARM, TIM_INCR.INCR, TIM_SLEW.REMAIN, CLK_CTRL.MOVE_OTHER, CLK_CTRL.MOVE_HOME, CLK_CTRL.NME_ACK,
    CAN_TX_CTRL.TAG, CAN_TX_CTRL.PUSH, CAN_TX_CTRL.CANCEL, CAN_RAW.ID, CAN_RAW.IDE, CAN_RAW.FDF, CAN_RAW.BRS, CAN_RAW.DLC, CAN_RAW.DEMOTE,
    CAN_RAW.DATA0, CAN_RAW.DATA1, CAN_RAW.DATA2, CAN_RAW.DATA3, CAN_RAW.DATA4, CAN_RAW.DATA5, CAN_RAW.DATA6, CAN_RAW.DATA7,
    CAN_RAW.DATA8, CAN_RAW.DATA9, CAN_RAW.DATA10, CAN_RAW.DATA11, CAN_RAW.DATA12, CAN_RAW.DATA13, CAN_RAW.DATA14, CAN_RAW.DATA15]

/-- The slot of a writer in a record: 0xFF for none. -/
def bySlot : By → Nat
  | .host s => s
  | .helm _ => 0xFF
  | .firmware => 0xFF

/-- The key ID of a writer. -/
def byKey (p : Pkg) : By → Nat
  | .host s => rdI p .sw HST_SLOT.KEY_ID s
  | .helm _ => 0
  | .firmware => 0

/-- The writer is a host. -/
def byHost : By → Bool
  | .host _ => true
  | .helm _ => false
  | .firmware => false

/-- ACCESS_FAULT of a writer's access. -/
def faultBy (d : Die) (by' : By) (off : Nat) (p : Pkg) : Pkg := accessFault d (bySlot by') (byKey p by') off p

/-! Writes (R6 to R9). -/

/-- A word written field by field: RW takes the bits, W1C clears, the others are ignored, with at most one ACCESS_FAULT (R6). -/
def writeFields (by' : By) (d : Die) (off word : Nat) (h : RegRow × Nat × Nat) (p : Pkg) : Pkg :=
  let fs := wordFlds h
  let fault := fs.any (fun F => F.acc == .ly || (byHost by' && firmwareOnly.contains F)) || h.1.reserved h.2.2 == some .ly
  let one (F : Fld) (q : Pkg) : Pkg :=
    let v := rdI q d F h.2.1
    match F.acc with
    | .rw => wrI d F h.2.1 (F.merge h.2.2 v word) q
    | .w1c => wrI d F h.2.1 (Nat.xor v (Nat.land v (F.merge h.2.2 0 word))) q
    | .wo => if byHost by' && firmwareOnly.contains F then q else wrI d F h.2.1 (F.merge h.2.2 v word) q
    | _ => q
  p |> forAll fs one |> onlyIf fault (faultBy d by' off)

/-- The lane of a helm die. -/
def helmSide (d : Die) : Side := if d = .hb then .b else .a

/-- A write of HG_REQ: the active lane's own requests, anything else an ACCESS_FAULT (chapter 02). -/
def writeHgReq (by' : By) (d : Die) (word : Nat) (p : Pkg) : Pkg :=
  let x := helmSide d
  if !(isActive p x) then faultBy d by' HG_REQ.SWAP.off p
  else
    p |> onlyIf (bit word 0) (requestSwap x 7) |> (fun q => if bit word 1 && drillMayStart q x then drillStart x q else q)
      |> onlyIf (bit word 2) drillAbortLane

/-- A write of HG_CTRL by the lane's own sequencer (chapter 02). -/
def writeHgCtrl (by' : By) (d : Die) (word : Nat) (p : Pkg) : Pkg :=
  let x := helmSide d
  if by' = .helm x then p |> onlyIf (bit word 0) (release x) |> onlyIf (bit word 1) (arm x) |> onlyIf (bit word 2) (disarm x)
  else faultBy d by' HG_CTRL.RELEASE.off p

/-- A write of CLK_CTRL by the die's own processor or the steward (R388). -/
def writeClkCtrl (by' : By) (d : Die) (word : Nat) (p : Pkg) : Pkg :=
  if byHost by' then faultBy d by' CLK_CTRL.MOVE_OTHER.off p
  else p |> onlyIf (bit word 0) (moveOther d) |> onlyIf (bit word 1) (moveHome d) |> onlyIf (bit word 2) (clkNmeAck d)

/-- A write of CAN_TX_CTRL by a lane (R314, R318). -/
def writeCanCtrl (by' : By) (y : Side) (k word : Nat) (onBus : Bool) (p : Pkg) : Pkg :=
  match by' with
  | .helm x => p |> onlyIf (bit word 8) (canPush x y k (word % 256)) |> onlyIf (bit word 9) (canCancel x y k (word % 256) onBus)
  | _ => faultBy y.port by' CAN_TX_CTRL.TAG.off p

/-- The effect of a write on a word that has an operation of its own; none for any other word. `env` is what lies outside: whether a
training succeeds, whether a CAN frame is past its start. -/
def writeSpecial (by' : By) (env : Bool) (d : Die) (i w word : Nat) (p : Pkg) : Option Pkg :=
  let x := (Die.side d)
  if w = HG_REQ.SWAP.off then some (writeHgReq by' d word p)
  else if w = HG_CTRL.RELEASE.off then some (writeHgCtrl by' d word p)
  else if w = HG_LOCKOUT.CLEAR.off then
    some (p |> onlyIf (bit word 1) (clearLockout (bySlot by') (helmSide d)) |> onlyIf (bit word 2) (clearDrill (bySlot by') (helmSide d)))
  else if w = LEAT_CTRL.RETRAIN.off then some (p |> onlyIf (bit word 0) (retrain (helmSide d) env) |> loopback (helmSide d) (bit word 1))
  else if w = EST_SNAP.FREEZE.off then some (estFreeze (helmSide d) (bit word 0) p)
  else if w = SOL_TRACE_CTRL.FREEZE.off then some (solTraceFreeze (helmSide d) (bit word 0) p)
  else if w = LOOP_TRACE_CTRL.FREEZE.off then some (loopTraceFreeze (helmSide d) (bit word 0) p)
  else if w = GNS_CTRL.SNAP_TRIGGER.off then
    some (p |> onlyIf (bit word 0) (snapTrigger x 0) |> onlyIf (bit word 1) (snapRelease x) |> onlyIf (bit word 2) (reflectStart x)
      |> onlyIf (bit word 3) (antRetry x))
  else if w = SIG_SYNC.SYNC.off then some (sigSync x word p)
  else if w = SIG_TEST.OUTPUT.off then some (sigTest x word p)
  else if w = CAN_TX_CTRL.TAG.off then some (writeCanCtrl by' x i word env p)
  else if w = CLK_CTRL.MOVE_OTHER.off then some (writeClkCtrl by' d word p)
  else if w = CLK_GATE_CFG.DISABLE.off then some (gateDisable d (bit word 0) p)
  else if w = TIM_SLEW.REMAIN.off then
    some (match by' with
      | .host s => timSlewWrite d (some s) 0 p
      | _ => timSlewWrite d none (toSigned 32 word) p)
  else none

/-- The word is half of a pair that is written directly: an RW or WO pair, or the increment, which the steward's firmware writes. -/
def directPair (h : RegRow × Nat × Nat) : Option Fld :=
  (wordFlds h).find? (fun F => decide (32 < F.top) && (F.acc == .rw || F.acc == .wo || F == TIM_INCR.INCR))

/-- The low word of a directly written pair is only staged (R11). -/
def stageLow (by' : By) (d : Die) (off word : Nat) (p : Pkg) : Pkg :=
  let s := min 8 (bySlot by')
  { p with nhp := { p.nhp with staged := (⟨s, off + 4, d.num, word⟩ : Half) :: p.nhp.staged.filter (fun x => !(x.slot == s && x.addr == off + 4 && x.die == d.num)) } }

/-- The high word applies both halves together; without a staged low word that half keeps its value. -/
def applyHigh (by' : By) (d : Die) (i off : Nat) (F : Fld) (word : Nat) (p : Pkg) : Pkg :=
  let s := min 8 (bySlot by')
  let low := match p.nhp.staged.find? (fun x => x.slot == s && x.addr == off && x.die == d.num) with
    | some x => x.word
    | none => rdI p d F i % 2 ^ 32
  let v := low + word * 2 ^ 32
  let p := { p with nhp := { p.nhp with staged := p.nhp.staged.filter (fun x => !(x.slot == s && x.addr == off && x.die == d.num)) } }
  if F = TIM_INCR.INCR then timIncrWrite d none v p else wrI d F i v p

/-- A direct write of a word of a die (R6, R7, R11, R21): the status and what it does. -/
def writeAt (by' : By) (env : Bool) (d : Die) (off word : Nat) (p : Pkg) : Status × Pkg :=
  match wordAt d off with
  | none => (.ok, faultBy d by' off p)
  | some h =>
    if holdsTx h then (.txnNone, faultBy d by' off p)
    else match directPair h with
      | some F =>
        if byHost by' && firmwareOnly.contains F then (.ok, faultBy d by' off p)
        else if h.2.2 = F.off then (.ok, stageLow by' d off word p) else (.ok, applyHigh by' d h.2.1 off F word p)
      | none =>
        match writeSpecial by' env d h.2.1 h.2.2 word p with
        | some q => (.ok, q)
        | none => (.ok, writeFields by' d off word h p)

/-- A request that a resource's holder turns away (R437): a TEST drive of another user's output, a reflectometer run, a move home of
the active helm. -/
def heldFrom (d : Die) (off word : Nat) (p : Pkg) : Bool :=
  let x := (Die.side d)
  match wordAt d off with
  | none => false
  | some h =>
    if h.2.2 = SIG_TEST.OUTPUT.off then
      bit word 6 && (match testOutput (word / 32 % 2) (word % 32) with
        | some o => rdI p d SIG_OUT.USER o != 2
        | none => true)
    else h.2.2 == GNS_CTRL.SNAP_TRIGGER.off && bit word 2 && reflectRefused p x

/-! Addresses (R20 to R24). -/

/-- What an address names. -/
inductive Target
  | at' (d : Die) (off : Nat)
  | unimplemented (off : Nat)
  | laneNone (off : Nat)
  deriving DecidableEq, Repr

/-- Resolve an address with the headgate state now (R20 to R23). -/
def resolve (p : Pkg) (addr : Nat) : Target :=
  let off := addr % 2 ^ 28
  match addr / 2 ^ 28 % 16 with
  | 8 => match activeLane p with
    | some x => .at' x.helm off
    | none => .laneNone off
  | 9 => match activeLane p with
    | some x => .at' x.other.helm off
    | none => .laneNone off
  | n => match dieOf n with
    | some d => .at' d off
    | none => .unimplemented off

/-- The address goes through an alias window. -/
def isAlias (addr : Nat) : Bool := addr / 2 ^ 28 % 16 == 8 || addr / 2 ^ 28 % 16 == 9

/-- The steward reaches a die. -/
def stewardReaches (p : Pkg) (d : Die) : Bool := d == .sw || (running p d && reaches p .sw d)

/-- The word at an offset is the low word of a 64-bit pair; CFL_ENABLE is one field of two halves (spec/03). -/
def isPairLow (d : Die) (off : Nat) : Bool :=
  match wordAt d off with
  | some h => (wordFlds h).any (fun F => (F.off == h.2.2 && decide (32 < F.top)) || F == CFL_ENABLE_LO.ENABLE)
  | none => false

/-- The words, by their distance, that a read of the word at an offset latches: the high half of a pair; with CAN_PAIR_CNT both halves of
the matching CAN_PAIR_TIME, with TIM_NOW_LO also TIM_NOW_FRAC, with TIM_CAL_NS both seconds words (R11, spec/11, spec/13). -/
def latchedWords (d : Die) (off : Nat) : List Nat :=
  if (d == .pa || d == .pb) && off == CAN_PAIR_CNT.COUNT.off then [4, 8]
  else if off == TIM_NOW.NOW.off || off == TIM_CAL_NS.NS.off then [4, 8] else if isPairLow d off then [4] else []

/-- What such a read latches for the word `k` on: the word as it stands then; for TIM_NOW_FRAC the tally fraction of that instant. -/
def latchedWord (p : Pkg) (d : Die) (off k : Nat) : Nat :=
  if off = TIM_NOW.NOW.off ∧ k = 8 then Config.tallyFraction d.num (now p d) else (readAt p d (off + k)).getD 0

/-- A word as a host reads it: the key of a transmit-timestamp queue reads VALID = 0 (spec/12, Transmit queues). -/
def hostView (d : Die) (off w : Nat) : Nat :=
  match wordAt d off with
  | some h => if (wordFlds h).contains PTP_TXQ.VALID && bit w 23 then w - 2 ^ 23 else w
  | none => w

/-- One word of a READ by a session: its value, its status, the die that served it (R11, R17, R21 to R24). -/
structure ReadOut where
  word : Nat
  status : Status
  die : Nat
  pkg : Pkg

/-- Read one word for a session. -/
def readFor (slot addr : Nat) (p : Pkg) : ReadOut :=
  let key := rdI p .sw HST_SLOT.KEY_ID slot
  match p.nhp.latched.find? (fun x => x.slot == slot && x.addr == addr) with
  | some x => ⟨x.word, .ok, x.die, { p with nhp := { p.nhp with latched := p.nhp.latched.erase x } }⟩
  | none =>
    match resolve p addr with
    | .laneNone off => ⟨0, .laneNone, 0, accessFault .sw slot key off p⟩
    | .unimplemented off => ⟨0, .ok, 0, accessFault .sw slot key off p⟩
    | .at' d off =>
      if !(stewardReaches p d) then ⟨0, .dieDown, d.num, accessFault .sw slot key off p⟩
      else match readAt p d off with
        | none => ⟨0, .ok, d.num, accessFault d slot key off p⟩
        | some w =>
          let v := hostView d off w
          let half (k : Nat) : Half := ⟨slot, addr + k, d.num, latchedWord p d off k⟩
          let rest := p.nhp.latched.filter (fun x => !(x.slot == slot && (latchedWords d off).any (fun k => x.addr == addr + k)))
          ⟨v, .ok, d.num, { p with nhp := { p.nhp with latched := (latchedWords d off).map half ++ rest } }⟩

/-- The die that sends a writer's access: the steward for a host, the lane's own helm, a die's own firmware for the die itself. -/
def byDie (d : Die) : By → Die
  | .host _ => .sw
  | .helm x => x.helm
  | .firmware => d

/-- REGISTER_WRITE (R6): a direct write. It acts in a die that it reaches; else the sender logs ACCESS_FAULT (R17). -/
def registerWrite (by' : By) (d : Die) (off word : Nat) (env : Bool) (p : Pkg) : Pkg :=
  let src := byDie d by'
  if !(running p src) then p
  else if running p d && reaches p src d then (writeAt by' env d off word p).2
  else faultBy src by' off p

/-- PAIR_LOW_READ (R11). -/
def pairLowRead (slot addr : Nat) (p : Pkg) : Pkg := if slot < 8 then (readFor slot addr p).pkg else p

/-- PAIR_LOW_WRITE (R11): the low word of a directly written pair is staged; any other word is written as it stands. -/
def pairLowWrite (by' : By) (d : Die) (off word : Nat) (p : Pkg) : Pkg := registerWrite by' d off word false p

/-- PAIR_HIGH_WRITE (R11): both halves together. -/
def pairHighWrite (by' : By) (d : Die) (off word : Nat) (p : Pkg) : Pkg := registerWrite by' d off word false p

/-! The culvert (R14 to R17). -/

/-- A link's state changed: the trunk's and the readiness that rests on the culvert follow. -/
def linkShow (p : Pkg) : Pkg := p |> trunkShow |> checkReady .a |> checkReady .b

/-! The commands of the table: one meaning each. -/

/-- REGISTER_WRITE (R6). -/
def execRegisterWrite (by' : By) (d : Die) (off word : Nat) (env : Bool) (s : State) : Host.Outcome State Fault Refusal := nextPk s (registerWrite by' d off word env)

/-- PAIR_LOW_READ (R11). -/
def execPairLowRead (slot addr : Nat) (s : State) : Host.Outcome State Fault Refusal := nextPk s (pairLowRead slot addr)

/-- PAIR_LOW_WRITE (R11). -/
def execPairLowWrite (by' : By) (d : Die) (off word : Nat) (s : State) : Host.Outcome State Fault Refusal := nextPk s (pairLowWrite by' d off word)

/-- PAIR_HIGH_WRITE (R11). -/
def execPairHighWrite (by' : By) (d : Die) (off word : Nat) (s : State) : Host.Outcome State Fault Refusal := nextPk s (pairHighWrite by' d off word)

end Sys2Proof.Machine
end

