-- ==== Sys2Proof/Machine/Ranges.lean ====
section
/-! DEFINITION. The ranges that the field tables give the TX fields, which a commit checks (spec/15, R417). -/

namespace Sys2Proof.Machine

/-- The range of a field: unsigned, signed, binary32 between two patterns (R417: the binary32 values nearest to the decimal bounds),
binary32 from 0, above 0; a coefficient word (Table 08-4), one from 0 to 1.0, one up to 1.0. -/
inductive Rng
  | u (lo hi : Nat)
  | s (lo hi : Int)
  | f (lo hi : Nat)
  | fge | fgt
  | coef | coefUnit | coefTop
  deriving DecidableEq, Repr

/-- Ranges, part 0. -/
def ranges0 : List (Fld × Rng) := [
  (HG_POLICY.REVERT_HOLDOFF, .u 10 1800), (HG_POLICY.DIGEST_MISS_LIMIT, .u 1 15), (HG_POLICY.READY_COUNT, .u 100 4095), (HG_POLICY2.DRILL_DWELL, .u 2 600),
  (HG_POLICY2.LOCKOUT_COUNT, .u 1 15), (HG_POLICY2.LOCKOUT_WINDOW, .u 1 255), (CFL_EXTRAP_MAX.EXTRAP_MAX, .u 10 1000), (EST_GATE.GATE, .u 20 100),
  (EST_GATE.REJECT_EXCL, .u 4 64), (EST_GATE.RETURN_RUN, .u 16 255), (EST_POSLOST.POS_LOST_FRAMES, .u 10 10000), (EST_WAVE.OMEGA_MIN, .u 10 200),
  (EST_WAVE.OMEGA_MAX, .u 0 250), (EST_WAVE.ZETA, .u 1 50), (EST_WAVE.WAVE_WIN, .u 30 255), (EST_BIAS_TC.T_B, .u 100 10000),
  (EST_GNSS.FIX_RATIO, .u 15 100), (EST_GNSS.ELEV_MASK, .u 0 30), (SP_CFG.JOY_TIMEOUT, .u 10 255), (SP_CFG.TRACK_TURN_MAX, .u 1 90)]

/-- Ranges, part 1. -/
def ranges1 : List (Fld × Rng) := [
  (SP_CFG.WV_DEADBAND, .u 5 200), (SP_CFG.WV_TC, .u 1 255), (SP_CFG2.MOVE_MAX, .u 1 1000), (SP_CFG2.TRACK_VMAX, .u 5 255),
  (SOL_ITER.ITER_MAX, .u 5 40), (SOL_ITER.FALLBACK_N, .u 1 10), (SOL_ITER.RETURN_N, .u 3 100), (SOL_REFINE.REFINE_BASE, .u 0 2),
  (LOOP_DESC.RC_PERIOD_US, .u 2000 60000000), (LOOP_DESC.DT_DIV, .u 1 16), (LOOP_DESC.DT_TAPS, .u 0 12), (LOOP_DESC.PL_TIME, .u 1 65535),
  (LOOP_DESC.BFP_MAX, .u 0 7), (LOOP_DESC.BFP_DWELL, .u 1 65535), (GNS_ANT_CFG.OPEN_MA, .u 1 20), (GNS_ANT_CFG.SHORT_MA, .u 0 110),
  (GNS_ANT_CFG.RETRY_S, .u 1 255), (GNS_TRACK_CFG.PLL_BW, .u 5 25), (GNS_TRACK_CFG.DLL_BW, .u 5 200), (GNS_TRACK_CFG.REACQ_S, .u 1 60)]

/-- Ranges, part 2. -/
def ranges2 : List (Fld × Rng) := [
  (GNS_CORR_CFG.DN_L1, .u 3 16), (GNS_CORR_CFG.DN_L5, .u 6 16), (GNS_CORR_CFG.MP_L1, .u 0 2), (GNS_CORR_CFG.MP_L5, .u 0 2),
  (GNS_CORR_CFG.VE_OFF, .u 16 96), (GNS_HARBOUR.HW_INTERVAL, .u 1 1440), (GNS_HARBOUR.HW_WAKE_MAX, .u 30 600), (GNS_SNAP_CFG.LENGTH_MS, .u 2 64),
  (GNS_SNAP_CFG.HOLD_MAX, .u 10 3600), (GNS_REFLECT_CFG.VF, .u 500 1000), (SIG_AIN.S, .u 1 4), (SIG_AIN.L, .u 1 4096),
  (SIG_AIN.D, .u 1 4096), (SIG_WEIR.CFG, .u 0 127), (PTP_OC_PRIO.ANN_TIMEOUT, .u 2 10), (PTP_OC_INTERVALS.LOG_ANNOUNCE, .u 0 3),
  (TIM_LIMITS.STEP_LIMIT, .u 100 65535), (TIM_LIMITS.SLEW_RATE, .u 10 10000), (TIM_SERVO_CFG.FREQ_GAIN, .u 1 255), (TIM_SERVO_CFG.LOCK_HOLD, .u 10 255)]

/-- Ranges, part 3. -/
def ranges3 : List (Fld × Rng) := [
  (TIM_SERVO_CFG.LOCK_THRESH, .u 10 10000), (TIM_SERVO_CFG2.REF_TIMEOUT, .u 100 60000), (TIM_SERVO_CFG2.ADJ_MAX, .u 100 60000), (TIM_TP.PERIOD, .u 100 4294967295),
  (TIM_TP.WIDTH, .u 10 4294967295), (HST_CFG.IDLE_S, .u 5 255), (TXN_CFG.TXN_IDLE, .u 10 255), (LYT_CFG.LYT_SETTLE, .u 10 1000),
  (LYT_CFG.LYT_CONV_MAX, .u 60 3600), (STW_FAULT_CFG.PERM_COUNT, .u 2 15), (STW_FAULT_CFG.PERM_WINDOW, .u 1 1440), (STW_FAULT_CFG.TEMP_WARN, .u 60 110),
  (STW_FAULT_CFG.TEMP_CRIT, .u 0 120), (PWR_CFG.RAIL_WARN, .u 1 4), (UPD_CFG.CONFIRM_MIN, .u 5 240), (UPD_CFG.UPD_SETTLE, .u 10 1000),
  (GNS_CABLE_DELAY.DELAY, .s (-20000) (20000)), (PTP_OC_INTERVALS.LOG_SYNC, .s (-3) (1)), (PTP_OC_INTERVALS.LOG_DELAY_REQ, .s (-3) (3)), (PTP_OC_INTERVALS.LOG_PDELAY, .s (-3) (3))]

/-- Ranges, part 4. -/
def ranges4 : List (Fld × Rng) := [
  (PTP_PORT.ING_ASYM, .s (-1000000) (1000000)), (PTP_PORT.EGR_ASYM, .s (-1000000) (1000000)), (TIM_TP.PIN_DLY, .s (-100000) (100000)), (LOOP_DESC.PL_THRESH, .s (1) (2147483647)),
  (LOOP_DESC.HYST, .s (0) (2147483647)), (SIG_WEIR.HYST, .s (0) (2147483647)), (LOOP_REG.RATE_UP, .s (1) (2147483647)), (LOOP_REG.RATE_DN, .s (1) (2147483647)),
  (EST_SRC.W_BASE, .f 0x00000000 0x3F800000), (SP_V_L.V, .f 0x3D4CCCCD 0x40400000), (SP_A_L.V, .f 0x3BA3D70A 0x3F000000), (SP_J_L.V, .f 0x3A83126F 0x3F000000),
  (SP_V_H.V, .f 0x3DCCCCCD 0x41200000), (SP_A_H.V, .f 0x3C23D70A 0x40A00000), (SP_J_H.V, .f 0x3C23D70A 0x40A00000), (SP_WV_FMIN.V, .f 0x3F800000 0x447A0000),
  (ASM_QN_SCALE.V, .f 0x3F800000 0x447A0000), (ASM_AVAIL_FRAC.V, .f 0x3F000000 0x3F800000), (ASM_LOAD_RATE.V, .f 0x3C23D70A 0x3F800000), (ASM_WIND_GAIN.V, .f 0x00000000 0x3F800000)]

/-- Ranges, part 5. -/
def ranges5 : List (Fld × Rng) := [
  (ASM_WIND_HOLD.V, .f 0x00000000 0x42700000), (SOL_EPS_P.V, .f 0x2EDBE6FF 0x3A83126F), (SOL_EPS_D.V, .f 0x2EDBE6FF 0x3A83126F), (SOL_EPS_GAP.V, .f 0x2B8CBCCC 0x38D1B717),
  (SOL_DELTA_P.V, .f 0x2B8CBCCC 0x358637BD), (SOL_DELTA_D.V, .f 0x2B8CBCCC 0x358637BD), (SOL_PIV_MIN.V, .f 0x24E69595 0x322BCC77), (SOL_PIV_REPL.V, .f 0x2B8CBCCC 0x38D1B717),
  (SOL_TAU.V, .f 0x3F666666 0x3F7FBE77), (SOL_WS_PUSH.V, .f 0x358637BD 0x3F800000), (ASM_Q_N.V, .fge), (ASM_Q_E.V, .fge),
  (ASM_Q_PSI.V, .fge), (ASM_Q_U.V, .fge), (ASM_Q_V.V, .fge), (ASM_Q_R.V, .fge),
  (ASM_QT_X.V, .fge), (ASM_QT_Y.V, .fge), (ASM_QT_N.V, .fge), (ASM_RHO_LIN.V, .fge)]

/-- Ranges, part 6. -/
def ranges6 : List (Fld × Rng) := [
  (ASM_THR.W_THR, .fge), (ASM_THR.W_RATE, .fge), (ASM_RHO_QUAD.V, .fgt), (ASM_RHO_SEC.V, .fgt),
  (LOOP_REG.KP, .coef), (LOOP_REG.KI, .coef), (LOOP_REG.KD, .coef), (LOOP_REG.AD, .coef),
  (LOOP_REG.KT, .coef), (LOOP_REG.KF, .coef), (LOOP_REG.BQ1_B0, .coef), (LOOP_REG.BQ1_B1, .coef),
  (LOOP_REG.BQ1_B2, .coef), (LOOP_REG.BQ1_A1, .coef), (LOOP_REG.BQ1_A2, .coef), (LOOP_REG.BQ2_B0, .coef),
  (LOOP_REG.BQ2_B1, .coef), (LOOP_REG.BQ2_B2, .coef), (LOOP_REG.BQ2_A1, .coef), (LOOP_REG.BQ2_A2, .coef)]

/-- Ranges, part 7. -/
def ranges7 : List (Fld × Rng) := [
  (LOOP_REG.RC_L, .coef), (LOOP_DESC.MOD_K, .coef), (LOOP_DESC.MOD_ALPHA, .coefUnit), (LOOP_DESC.RES_BETA, .coefUnit),
  (LOOP_REG.RC_Q, .coefTop)]

/-- The fields that have a range of their own. -/
def ranges : List (Fld × Rng) := ranges0 ++ ranges1 ++ ranges2 ++ ranges3 ++ ranges4 ++ ranges5 ++ ranges6 ++ ranges7

end Sys2Proof.Machine
end

