-- ==== Sys2Proof/Machine/Cistern.lean ====
section
/-! DEFINITION. Chapters 01 and 17: the ledger's MRAM, the cistern's ring, log intake, the audit holds, and the culvert's links. -/

namespace Sys2Proof.Machine

/-! The MRAM (Table 01-14): cells of an address below 16 MiB and a byte; an address that is not listed reads 0. -/

/-- Size of the MRAM in bytes. -/
def mramSize : Nat := 0x1000000

/-- The canonical form: addresses strictly rising and inside the MRAM, no byte 0. -/
def Memory.wf : List Host.Cell → Bool
  | [] => true
  | [(a, b)] => decide (a < mramSize) && b != 0
  | (a, b) :: (a', b') :: r => decide (a < a') && b != 0 && Memory.wf ((a', b') :: r)

/-- The byte at an address. -/
def mramGet : List Host.Cell → Nat → Nat
  | [], _ => 0
  | (a, b) :: r, x => if a = x then b.toNat else mramGet r x

/-- The cells of some bytes from an address on. -/
def cellsOf : Nat → List Nat → List Host.Cell
  | _, [] => []
  | a, b :: r =>
    let v := BitVec.ofNat 8 b
    if v = 0 then cellsOf (a + 1) r else (a, v) :: cellsOf (a + 1) r

/-- Write bytes from an address on; what lies beyond the MRAM is not written. -/
def mramPut (m : List Host.Cell) (lo : Nat) (bytes : List Nat) : List Host.Cell :=
  let l := bytes.take (mramSize - lo)
  m.filter (fun c => decide (c.1 < lo)) ++ cellsOf lo l ++ m.filter (fun c => decide (lo + l.length ≤ c.1))

/-- The bytes of some cells in order, from an address on; an address without a cell gives 0. -/
def fillBytes : Nat → Nat → List Host.Cell → List Nat
  | 0, _, _ => []
  | n + 1, a, [] => 0 :: fillBytes n (a + 1) []
  | n + 1, a, (k, b) :: r => if k = a then b.toNat :: fillBytes n (a + 1) r else 0 :: fillBytes n (a + 1) ((k, b) :: r)

/-- Read bytes from an address on. -/
def mramRead (m : List Host.Cell) (lo n : Nat) : List Nat := fillBytes n lo (m.filter (fun c => decide (lo ≤ c.1)))

/-- Clear a region: its bytes read 0. -/
def mramClear (m : List Host.Cell) (lo n : Nat) : List Host.Cell :=
  m.filter (fun c => decide (c.1 < lo)) ++ m.filter (fun c => decide (lo + n ≤ c.1))

/-- Change the MRAM. -/
def onMram (f : List Host.Cell → List Host.Cell) (lp : Ledger × Pkg) : Ledger × Pkg := ({ lp.1 with mram := f lp.1.mram }, lp.2)

/-- Do something to the package beside the ledger. -/
def onPkg (f : Pkg → Pkg) (lp : Ledger × Pkg) : Ledger × Pkg := (lp.1, f lp.2)

/-- Base of an image region (Table 01-14): 0 lane A, 1 lane B, 2 the steward. -/
def imageBase : Nat → Nat
  | 0 => 0 | 1 => 0x380000 | _ => 0x700000

/-- Base of the block table of an image (Table 18-2). -/
def blockTable (t : Nat) : Nat := 0xB02000 + 0x1000 * t

/-- Base of the current layout image. -/
def layoutBase : Nat := 0x800000

/-- Base of the staged layout image. -/
def stagedBase : Nat := 0x900000

/-- Base of the log ring. -/
def ringBase : Nat := 0xB40000

/-- Records the ring holds (R451). -/
def ringSize : Nat := 77824

/-- The ledger can be reached from a die. -/
def ledgerFrom (p : Pkg) (d : Die) : Bool := running p .ld && reaches p d .ld

/-- The steward reaches the ledger. -/
def ledgerUp (p : Pkg) : Bool := running p .sw && ledgerFrom p .sw

/-! Records as bytes (R448, Tables 15-9, 17-7a, 17-8). -/

/-- The 32 payload bytes. -/
def Payload.bytes (code : Nat) : Payload → List Nat
  | .unstated => padTo 32 (Config.recordPayload code [])
  | .words l => padTo 32 (Config.recordPayload code l)
  | .audit a o n t g s k c =>
    leBytes 4 a ++ leBytes 4 o ++ leBytes 4 n ++ leBytes 4 t ++ [g % 256, s % 256] ++ leBytes 2 k ++ leBytes 8 c ++ List.replicate 4 0
  | .spill c d n f l => leBytes 2 c ++ [d % 256, 0] ++ leBytes 4 n ++ leBytes 8 f ++ leBytes 8 l ++ List.replicate 8 0

/-- Bytes 0 to 59 of a record. -/
def LogRec.body (r : LogRec) : List Nat :=
  leBytes 8 r.stamp ++ leBytes 4 r.seq ++ [r.die, r.epoch] ++ leBytes 2 r.code ++ [r.origin, r.slot] ++ leBytes 2 r.keyId ++
    [b2n r.late + 2 * b2n r.isLocal] ++ List.replicate 7 0 ++ r.payload.bytes r.code

/-- The 64 bytes of a record, with its CRC-32C. -/
def LogRec.bytes (r : LogRec) : List Nat := r.body ++ leBytes 4 (crc32c r.body)

/-- The order of records (R375): step epoch, stamp, die ID, the die's sequence number. -/
def LogRec.key (r : LogRec) : List Nat := [r.epoch, r.stamp, r.die, r.seq]

/-- The key of the last record, in that order, that the ring has taken. -/
def lastKey (p : Pkg) : List Nat := [rd p .sw I_LOG.EPOCH, rd p .sw I_LOG.STAMP, rd p .sw I_LOG.DIE, rd p .sw I_LOG.SEQ]

/-- A record that stands for audit records: a change audit, or the spill record of class AUDIT (R510). -/
def LogRec.isAudit (r : LogRec) : Bool :=
  codeClass r.code == clsAudit || (match r.payload with
    | .spill c _ _ _ _ => codeClass c == clsAudit
    | _ => false)

/-- The spill record of a key (R449): a class count has block 0x3F and its class in the payload. -/
def spillRecord (k : SpillKey) : Nat × Payload :=
  let blk := k.code / 64 % 64
  (eventCode clsSpill blk 34, .spill (if blk = 0x3F then codeClass k.code * 4096 else k.code) k.die k.count k.first k.last)

/-- When an entry of a full hold has freed, the count of audit records the die could not keep goes into it (R510). -/
def auditSpillPlace (d : Die) (p : Pkg) : Pkg :=
  let l := p.log.get d
  match l.classSpill.find? (fun k => codeClass k.code == clsAudit) with
  | none => p
  | some k =>
    if 64 ≤ l.hold.length then p
    else
      let c := spillRecord k
      let r := mkRec p d c.1 0 0xFF 0 c.2
      p |> onLog d (fun l => { l with hold := l.hold ++ [r], classSpill := l.classSpill.filter (fun x => x != k) }) |> inc d I_DIE.SEQ

/-- The steward reports a record written: its die's audit hold lets it go. -/
def holdRelease (r : LogRec) (p : Pkg) : Pkg :=
  match dieOf r.die with
  | none => p
  | some d => p |> onLog d (fun l => { l with hold := l.hold.filter (fun x => x.seq != r.seq) }) |> auditSpillPlace d

/-! The ring (R451, R452, R514). -/

/-- Records written after LOG_MARK. -/
def afterMark (p : Pkg) : Nat := rd p .sw LOG_NEXT.NEXT - rd p .sw LOG_MARK.MARK

/-- Write a record at the next record number. -/
def ringWrite (r : LogRec) (lp : Ledger × Pkg) : Ledger × Pkg :=
  let p := lp.2
  let k := rd p .sw LOG_NEXT.NEXT
  let before := lexLess r.key (lastKey p)
  let p := p |> onlyIf (decide (ringSize ≤ k) && decide (rd p .sw LOG_MARK.MARK ≤ k - ringSize)) (fun q => q |> inc .sw LOG_LOST.V |> wr .sw LOG_EVENT.LOST 1)
    |> wr .sw LOG_NEXT.NEXT (k + 1) |> inc .sw LOG_WRITTEN.V |> onlyIf r.late (wr .sw LOG_EVENT.LATE 1)
    |> onlyIf (codeClass r.code == clsSpill) (fun q => q |> inc .sw LOG_SPILLS.V |> wr .sw LOG_EVENT.SPILLED 1)
    |> onlyIf (!before) (fun q => q |> wr .sw I_LOG.EPOCH r.epoch |> wr .sw I_LOG.STAMP r.stamp |> wr .sw I_LOG.DIE r.die |> wr .sw I_LOG.SEQ r.seq)
    |> onlyIf r.isAudit (holdRelease r)
  let n := afterMark p
  (lp.1, onlyIf (decide (58368 ≤ n) && (n - 58368) % 1000 == 0) (raise .sw clsWarning LOG_EVENT.NEAR_WRAP) p)
    |> onMram (fun m => mramPut m (ringBase + 64 * (k % ringSize)) r.bytes)

/-- The steward's own audit records go straight to the ring, when it reaches the ledger (R424, R510). -/
def ownAudits (lp : Ledger × Pkg) : Ledger × Pkg :=
  if ledgerUp lp.2 then (lp.2.log.get .sw).hold.foldl (fun q r => ringWrite { r with late := lexLess r.key (lastKey q.2) } q) lp else lp

/-- The cistern can be reached (STW_STATUS.LOG_PATH). -/
def logPathShow (p : Pkg) : Pkg := if running p .sw then wr .sw STW_STATUS.LOG_PATH (b2n (ledgerUp p)) p else p

/-! Intake (R449, R451, R510). -/

/-- Audit records in intake. -/
def intakeAudit (p : Pkg) : Nat := (p.intake.recs.filter (fun e => e.2.isAudit)).length

/-- General entries in use: every other record, and the audit records that the 64 reserved entries do not hold. -/
def intakeGeneral (p : Pkg) : Nat := p.intake.recs.length - min 64 (intakeAudit p)

/-- LOG_STATUS follows intake. -/
def intakeShow (p : Pkg) : Pkg :=
  p |> wr .sw LOG_STATUS.INTAKE p.intake.recs.length |> wr .sw LOG_STATUS.AUDIT (min 64 (intakeAudit p)) |> wr .sw LOG_STATUS.SPILL_KEYS p.intake.spill.length

/-- A record enters intake. -/
def intakeAdd (r : LogRec) (p : Pkg) : Pkg :=
  { p with intake := { p.intake with recs := p.intake.recs ++ [(rd p .sw I_PKG.OPERATING_MS, { r with late := lexLess r.key (lastKey p) })] } } |> intakeShow

/-- An event that finds the general entries full is counted (R449). -/
def intakeSpill (r : LogRec) (p : Pkg) : Pkg :=
  let k := match spillAdd 64 r.code r.die r.stamp p.intake.spill with
    | some s => { p.intake with spill := s }
    | none => { p.intake with classSpill := spillClass (codeClass r.code) r.die r.stamp p.intake.classSpill }
  intakeShow { p with intake := k }

/-- LOG_RECORD_RECEIVE (R449): the next record of a die on its way arrives; a die that has lost its path keeps it (R14). -/
def logReceive (d : Die) (p : Pkg) : Pkg :=
  match (p.log.get d).out with
  | [] => p
  | r :: rest =>
    if !(logPath p d) then onLog d (fun l => { l with out := rest }.place false r) p
    else
      let p := onLog d (fun l => { l with out := rest }) p
      if intakeGeneral p < 192 ∧ p.intake.recs.length < 256 then intakeAdd r p else intakeSpill r p

/-- Insert a record by its place in the order. -/
def insertRec (r : LogRec) : List LogRec → List LogRec
  | [] => [r]
  | x :: l => if lexLess r.key x.key then r :: x :: l else x :: insertRec r l

/-- LOG_RECORD_WRITE (R451): the records that have stood in intake for 2 ms are written in their order, while the ledger is reached. -/
def logWrite (lp : Ledger × Pkg) : Ledger × Pkg :=
  let p := lp.2
  if !(ledgerUp p) then lp
  else
    let t := rd p .sw I_PKG.OPERATING_MS
    let due := p.intake.recs.filter (fun e => decide (e.1 + 2 ≤ t))
    let p := intakeShow { p with intake := { p.intake with recs := p.intake.recs.filter (fun e => !(decide (e.1 + 2 ≤ t))) } }
    (due.foldl (fun l e => insertRec e.2 l) []).foldl (fun q r => ringWrite r q) (lp.1, p)

/-- Write one spill record for each key of a list at a die. -/
def spillOut (d : Die) (l : List SpillKey) (p : Pkg) : Pkg := forAll l (fun k q => logAt d (spillRecord k).1 (spillRecord k).2 q) p

/-- SPILL_FLUSH (R449): fewer than 96 general entries are in use, and the table is written out and cleared. -/
def spillFlush (p : Pkg) : Pkg :=
  if running p .sw ∧ intakeGeneral p < 96 then
    let l := p.intake.spill ++ p.intake.classSpill
    { p with intake := { p.intake with spill := [], classSpill := [] } } |> spillOut .sw l |> intakeShow
  else p

/-- AUDIT_HOLD_SEND (R510): the first record of a die's hold that is not in intake goes there when an entry is free; the steward's own
go to the ring. -/
def auditHoldSend (d : Die) (lp : Ledger × Pkg) : Ledger × Pkg :=
  let p := lp.2
  if d = .sw then ownAudits lp
  else if !(logPath p d) then lp
  else
    match (p.log.get d).hold.find? (fun r => !(p.intake.recs.any (fun e => e.2.die == r.die && e.2.seq == r.seq && e.2.isAudit))) with
    | none => lp
    | some r =>
      if intakeAudit p < 64 ∨ (p.intake.recs.length < 256 ∧ intakeGeneral p < 192) then (lp.1, intakeAdd r p) else lp

/-- LOG_PATH_RETURN (R14): the local ring is delivered, and one spill record a key and a class is written. -/
def logPathReturn (d : Die) (p : Pkg) : Pkg :=
  if !(logPath p d) then p
  else
    let l := p.log.get d
    let counts := l.spill ++ l.classSpill.filter (fun k => codeClass k.code != clsAudit)
    p |> onLog d (fun l => { l with out := l.out ++ l.ring, ring := [], spill := [], classSpill := l.classSpill.filter (fun k => codeClass k.code == clsAudit) })
      |> spillOut d counts |> nmeShow

/-! The culvert's links (R16, R17, Table 17-3). -/

/-- The die a link's faults are counted at: the die it serves, PA for the bridge. -/
def linkDie (l : Nat) : Die := (dieOf l).getD .pa

/-- CULVERT_CRC_ERROR (R16): the packet is sent again, and the link's occurrence is counted. -/
def culvertCrcError (l : Nat) (b : Bool) (p : Pkg) : Pkg :=
  if !(decide (l < 9)) || (l == 8 && b) || !(linkUp p l b) then p
  else p |> (if b then incI .sw STW_LINK.CRC_B l else incI .sw STW_LINK.CRC_A l) |> incI .sw STW_LINK.RETX l
    |> occurrence (linkDie l) 6 (2 * l + b2n b) false

/-- What a link's change brings with it: the trunk, the readiness of the lanes, the way to the cistern. -/
def linkChanged (p : Pkg) : Pkg := p |> linkShow |> logPathShow

/-- LINK_DOWN (R17): senders route around the link; a die that is lost on both planes is an NME event of the steward. -/
def linkDown (l : Nat) (b : Bool) (p : Pkg) : Pkg :=
  if !(decide (l < 9)) || (l == 8 && b) || !(linkUp p l b) then p
  else
    let st := rdI p .sw STW_LINK.STATE l
    let d := linkDie l
    let was := reaches p .sw d
    let p := p |> wrI .sw I_PKG.CULVERT_DOWN (2 * l + b2n b) 1 |> wrI .sw STW_LINK.STATE l (if bit st (b2n b) then st - 2 ^ b2n b else st) |> linkChanged
    p |> onlyIf (running p .sw) (logOpen .sw clsWarning 0x30 12 (.words [l, b2n b]))
      |> onlyIf (running p .sw && running p d && was && !(reaches p .sw d)) (logOpen .sw clsNme 0x30 11 (.words [l]))

/-- CULVERT_LINK_UP (R17): a link that is not retired carries valid flits again. -/
def culvertLinkUp (l : Nat) (b : Bool) (p : Pkg) : Pkg :=
  let st := rdI p .sw STW_LINK.STATE l
  if !(decide (l < 9)) || (l == 8 && b) || linkUp p l b || bit st (2 + b2n b) then p
  else
    let p := p |> wrI .sw I_PKG.CULVERT_DOWN (2 * l + b2n b) 0 |> wrI .sw STW_LINK.STATE l (Nat.lor st (2 ^ b2n b)) |> linkChanged
    onlyIf (running p .sw) (logOpen .sw clsInfo 0x30 13 (.words [l, b2n b])) p

/-! The commands of the table: one meaning each. -/

/-- CULVERT_CRC_ERROR (R16). -/
def execCulvertCrcError (l : Nat) (b : Bool) (s : State) : Host.Outcome State Fault Refusal := nextPk s (culvertCrcError l b)

/-- LINK_DOWN (R17). -/
def execLinkDown (l : Nat) (b : Bool) (s : State) : Host.Outcome State Fault Refusal := nextPk s (linkDown l b)

/-- LOG_PATH_RETURN (R14). -/
def execLogPathReturn (d : Die) (s : State) : Host.Outcome State Fault Refusal := nextPk s (logPathReturn d)

/-- LOG_RECORD_RECEIVE (R449). -/
def execLogRecordReceive (d : Die) (s : State) : Host.Outcome State Fault Refusal := nextPk s (logReceive d)

/-- AUDIT_HOLD_SEND (R510). -/
def execAuditHoldSend (d : Die) (s : State) : Host.Outcome State Fault Refusal := nextLp s (auditHoldSend d)

/-- CULVERT_LINK_UP (R17). -/
def execCulvertLinkUp (l : Nat) (b : Bool) (s : State) : Host.Outcome State Fault Refusal := nextPk s (culvertLinkUp l b)

/-- LOG_RECORD_WRITE (R451). -/
def execLogRecordWrite (s : State) : Host.Outcome State Fault Refusal := nextLp s logWrite

/-- SPILL_FLUSH (R449). -/
def execSpillFlush (s : State) : Host.Outcome State Fault Refusal := nextPk s spillFlush

end Sys2Proof.Machine
end

