-- ==== Sys2Proof/Machine/Sessions.lean ====
section
/-! DEFINITION. Chapter 15: serving a management request, sessions, register access by a host, transfers out of the device. -/

namespace Sys2Proof.Machine

/-! Serving a request (R392, R397, R402, R403, R410, R411, R473). -/

/-- An answer: the status and the payload. -/
abbrev Ans := Status × List Nat

/-- What a request does: the state after it and its answer, none while the answer is still to come. -/
abbrev Served := (Ledger × Pkg) × Option Ans

/-- The request is one of a slot and counter. -/
def Request.is (q : Request) (slot counter : Nat) : Bool := q.slot == slot && q.counter == counter

/-- The queue's entry of a request. -/
def Request.from' (q : Request) (r : Req) : Bool := q.die == r.die.num && q.is r.slot r.counter

/-- A request's turn: requests are served one at a time, in order of arrival (R410). One that has no queue to wait in is served as it
arrives. -/
def myTurn (p : Pkg) (r : Req) : Bool :=
  match p.nhp.queue with
  | [] => true
  | q :: _ => q.from' r

/-- A request that others are before: it waits in the queue, or is put there, or finds it full (R410). -/
def waitTurn (r : Req) (op : Nat) (b : List Nat) (p : Pkg) : Pkg :=
  if p.nhp.queue.any (fun q => q.from' r) then p else dispatchManaged r.die r.slot op r.counter b p

/-- Take a request out of the steward's queue. -/
def takeQueued (r : Req) (p : Pkg) : Pkg :=
  let l := p.nhp.queue.filter (fun q => !(q.die == r.die.num && q.is r.slot r.counter))
  if l.length = p.nhp.queue.length then p else { p with nhp := { p.nhp with queue := l } } |> wr .sw HST_STATUS.QUEUE l.length

/-- Keep a reply for a second copy of its request, the last 64 of a session (R397). -/
def keepReply (m : Msg) (p : Pkg) : Pkg :=
  let mine := (p.nhp.answered.filter (fun x => x.slot == m.slot))
  let rest := p.nhp.answered.filter (fun x => x.slot != m.slot)
  { p with nhp := { p.nhp with answered := rest ++ (mine ++ [m]).drop (mine.length + 1 - 64) } }

/-- The steward answers a request of an open session. -/
def replyTo (slot op counter : Nat) (a : Ans) (p : Pkg) : Pkg :=
  p |> sendMsg .sw slot op a.1.code counter a.2 |> keepReply ⟨0, slot, 0, 0, op, a.1.code, counter, a.2, 0, (0, 0)⟩

/-- A request's answer comes now: it leaves the list of those served. -/
def answerLater (slot counter : Nat) (a : Ans) (p : Pkg) : Pkg :=
  match p.nhp.later.find? (fun q => q.is slot counter) with
  | none => p
  | some q => { p with nhp := { p.nhp with later := p.nhp.later.filter (fun q => !(q.is slot counter)) } } |> replyTo slot q.opcode counter a

/-- The requests of an opcode whose answer is still to come get it. -/
def answerOp (op : Nat) (a : Ans) (p : Pkg) : Pkg :=
  forAll (p.nhp.later.filter (fun q => q.opcode == op)) (fun q => answerLater q.slot q.counter a) p

/-- Requests that ROM service mode serves (R473). -/
def romServes (p : Pkg) (op : Nat) (b : List Nat) : Bool :=
  if op = 0x0002 ∨ op = 0x0004 then true
  else if op = 0x0200 then
    let a := leNat (b.take 4)
    let last := a + 4 * (leNat ((b.drop 4).take 2) - 1)
    decide (last < 0x10000) || (decide (0x70000 ≤ a) && decide (last < 0x80000))
  else if op = 0x0400 ∨ op = 0x0404 then b.head? == some 2
  else decide (0x0401 ≤ op) && decide (op ≤ 0x0405) && rd p .sw UPD_STATUS.TARGET == 2

/-- A commit waits for its apply boundary: a long operation starts after it (R411). -/
def commitWaits (p : Pkg) : Bool := rd p .sw TXN_STATUS.STATE == 2

/-- The steward's answer, where none of the session's conditions stands in the way: role and service mode have been tested. -/
def serveBody (r : Req) (op : Nat) (body : Ledger × Pkg → Served) (lp : Ledger × Pkg) : Ledger × Pkg :=
  let o := body lp
  ownAudits (match o.2 with
    | some a => onPkg (replyTo r.slot op r.counter a) o.1
    | none => onPkg (fun p => { p with nhp := { p.nhp with later := p.nhp.later ++ [⟨r.die.num, r.slot, r.counter, op, []⟩] } }) o.1)

/-- Serve a management request of an opcode that needs a role. `cont`: it continues the long operation in progress. -/
def manage (r : Req) (op least : Nat) (b : List Nat) (cont : Bool) (body : Ledger × Pkg → Served) (lp : Ledger × Pkg) : Ledger × Pkg :=
  if !(myTurn lp.2 r) then onPkg (waitTurn r op b) lp else
  let p := takeQueued r lp.2
  let lp := (lp.1, p)
  if !(sessionOpen p r.slot) then lp
  else if !(stewardServes p r.die) then onPkg (sendMsg r.die r.slot op Status.dieDown.code r.counter []) lp
  else if p.nhp.later.any (fun q => q.is r.slot r.counter) then lp
  else match p.nhp.answered.find? (fun m => m.slot == r.slot && m.req == r.counter) with
    | some m => onPkg (sendMsg .sw r.slot m.opcode m.status r.counter m.payload) lp
    | none =>
      if flag p .sw HST_STATUS.MGMT_BUSY && !cont then
        onPkg (fun q => q |> inc .sw HST_BUSY_REPLIES.V |> replyTo r.slot op r.counter (.busy, busyPayload q 1)) lp
      else if flag p .sw STW_STATUS.ROM_SERVICE && !(romServes p op b) then onPkg (replyTo r.slot op r.counter (.unknownOp, [])) lp
      else if rdI p .sw HST_SLOT.ROLE r.slot < least then
        onPkg (fun q => q |> inc .sw I_HST.DENIED |> raiseFrom .sw clsWarning HST_EVENT.ROLE_DENIED 2 r.slot (rdI q .sw HST_SLOT.KEY_ID r.slot) .unstated
          |> replyTo r.slot op r.counter (.roleDenied, [])) lp
      else serveBody r op body lp

/-- A request that answers at once and leaves the ledger alone. -/
def atOnce (f : Pkg → Ans × Pkg) (lp : Ledger × Pkg) : Served := let o := f lp.2; ((lp.1, o.2), some o.1)

/-- An answer that does nothing. -/
def refuse (st : Status) (lp : Ledger × Pkg) : Served := (lp, some (st, []))

/-- OK, with nothing to say. -/
def okAns : Ans := (.ok, [])

/-- A long operation begins (R411, Table 15-8). -/
def busyStart (kind slot : Nat) (p : Pkg) : Pkg :=
  p |> wr .sw HST_STATUS.MGMT_BUSY 1 |> wr .sw HST_STATUS.BUSY_OP kind |> wr .sw HST_STATUS.PROGRESS 0 |> wr .sw I_HST.BUSY_SLOT slot
    |> raise .sw clsInfo HST_EVENT.BUSY_START

/-- The long operation of a kind ends. -/
def busyEnd (kind : Nat) (p : Pkg) : Pkg :=
  if flag p .sw HST_STATUS.MGMT_BUSY && rd p .sw HST_STATUS.BUSY_OP == kind then
    p |> wr .sw HST_STATUS.MGMT_BUSY 0 |> wr .sw HST_STATUS.BUSY_OP 0 |> wr .sw HST_STATUS.PROGRESS 0 |> raise .sw clsInfo HST_EVENT.BUSY_END
  else p

/-- The key ID of a slot. -/
def keyId (p : Pkg) (slot : Nat) : Nat := rdI p .sw HST_SLOT.KEY_ID slot

/-- A change audit of a word by a session (Table 15-9). -/
def auditBy (slot counter addr old new txn : Nat) (p : Pkg) : Pkg :=
  auditRec .sw 2 slot (keyId p slot) (blockCode (addr % 2 ^ 28)) (.audit addr old new txn 0 slot (keyId p slot) counter) p

/-- The address of a slot's HST_SLOT register. -/
def slotAddr (slot : Nat) : Nat := 0x40010 + 4 * slot

/-- The word a slot's register shows. -/
def slotWord (p : Pkg) (slot : Nat) : Nat :=
  rdI p .sw HST_SLOT.KEY_ID slot + rdI p .sw HST_SLOT.ROLE slot * 2 ^ 16 + rdI p .sw HST_SLOT.KEYED slot * 2 ^ 18 + rdI p .sw HST_SLOT.OPEN slot * 2 ^ 19

/-- An event of the session table, with its slot. -/
def slotEvent (cls : Nat) (F : Fld) (slot : Nat) (p : Pkg) : Pkg := raiseFrom .sw cls F 2 slot (keyId p slot) .unstated p

/-! Sessions (R398 to R401). -/

/-- The transaction closes: its staged words are discarded. -/
def txnClose (p : Pkg) : Pkg :=
  { p with txn := Txn.none } |> wr .sw TXN_STATUS.STATE 0 |> wr .sw TXN_STATUS.STAGED 0 |> wr .sw TXN_STATUS.IDLE_LEFT 0

/-- An open transaction rolls back and closes (R416). -/
def txnExpire (p : Pkg) : Pkg := p |> txnClose |> inc .sw TXN_EXPIRES.V |> slotEvent clsWarning TXN_EVENT.EXPIRED (rd p .sw TXN_STATUS.SLOT)

/-- A closing session's transaction: an open one rolls back; a commit that has passed validation runs on without a reply (R401). -/
def txnOfSlot (slot : Nat) (p : Pkg) : Pkg :=
  if rd p .sw TXN_STATUS.SLOT ≠ slot then p
  else if rd p .sw TXN_STATUS.STATE = 1 then txnExpire p
  else if rd p .sw TXN_STATUS.STATE = 2 then { p with txn := { p.txn with req := none } }
  else p

/-- A transfer ends (R412). When a capture was exported, the buffer is given up or stays held. -/
def xferEnd (x : Xfer) (done : Bool) (p : Pkg) : Pkg :=
  let p := { p with xfers := p.xfers.filter (fun y => y.slot != x.slot) }
  match x.cap with
  | none => p
  | some s =>
    let y := sideOf s
    p |> onlyIf (flag p y.bb GNS_SNAP_STATUS.EXPORTING) (fun q => if done then captureFree y q else wr y.bb GNS_SNAP_STATUS.EXPORTING 0 q) |> busyEnd 4

/-- The transfer of a session. -/
def xferOf (p : Pkg) (slot : Nat) : Option Xfer := p.xfers.find? (fun x => x.slot == slot)

/-- A port die forgets a session. -/
def dispatcherForget (slot : Nat) (d : Die) (p : Pkg) : Pkg :=
  { p with nhp := { p.nhp with parts := p.nhp.parts.filter (fun x => !(x.req.die == d.num && x.req.slot == slot)) } }
    |> wrI d I_HST.OPEN slot 0 |> wrI d I_HST.KEY slot 0 |> wrI d I_HST.SESS slot 0

/-- What ends in the lanes and the network with a session: telemetry, command (R145). -/
def sessionGone (slot : Nat) (p : Pkg) : Pkg :=
  let lane (x : Side) (q : Pkg) : Pkg :=
    q |> onlyIf (rd q x.helm SP_STATUS.CMD_SLOT == slot) (wr x.helm SP_STATUS.CMD_SLOT 15) |> wrI x.helm I_TEL.MASK slot 2 |> wrI x.helm I_TEL.DIV slot 1
  { p with tel := p.tel.filter (fun e => e.slot != slot) } |> lane .a |> lane .b |> dispatcherForget slot .pa |> dispatcherForget slot .pb

/-- A session closes (R401), at the steward, the dispatchers and the lanes. `counter`: that of the request that closes it, 0 for none. -/
def closeWith (slot counter : Nat) (p : Pkg) : Pkg :=
  let old := slotWord p slot
  let p := p |> txnOfSlot slot |> sessionGone slot
  let p := match xferOf p slot with
    | some x => xferEnd x false p
    | none => p
  { p with nhp := { p.nhp with queue := p.nhp.queue.filter (fun q => q.slot != slot), later := p.nhp.later.filter (fun q => q.slot != slot)
                               answered := p.nhp.answered.filter (fun m => m.slot != slot)
                               latched := p.nhp.latched.filter (fun h => h.slot != slot), staged := p.nhp.staged.filter (fun h => h.slot != slot) } }
    |> (fun q => wr .sw HST_STATUS.QUEUE q.nhp.queue.length q)
    |> wrI .sw HST_SLOT.OPEN slot 0 |> wrI .sw I_HST.KEY slot 0 |> wrI .sw HST_SESS.SESSION_ID slot 0 |> wrI .sw HST_SESS.IDLE_LEFT slot 0
    |> (fun q => wr .sw HST_STATUS.OPEN ((List.range 8).foldl (fun a k => a + 2 ^ k * rdI q .sw HST_SLOT.OPEN k) 0) q)
    |> slotEvent clsInfo HST_EVENT.SESSION_CLOSE slot
    |> (fun q => auditBy slot counter (slotAddr slot) old (slotWord q slot) 0 q)

/-- A session closes without a request of its own. -/
def closeSession (slot : Nat) (p : Pkg) : Pkg := closeWith slot 0 p

/-- What the dispatchers hold of the steward's settings: the NHP port and the idle time. -/
def dispatcherConfig (d : Die) (p : Pkg) : Pkg :=
  p |> wr d I_HST.UDP_PORT (rd p .sw HST_CFG.UDP_PORT) |> wr d I_HST.IDLE_S (rd p .sw HST_CFG.IDLE_S)

/-- The dispatchers take a new session (R395, R399). -/
def dispatcherOpen (slot sid key start srcAddr srcPort : Nat) (v6 : Bool) (d : Die) (p : Pkg) : Pkg :=
  p |> dispatcherConfig d |> wrI d I_HST.PEER_ADDR slot srcAddr |> wrI d I_HST.OPEN slot 1 |> wrI d I_HST.SESS slot sid |> wrI d I_HST.KEY slot key |> wrI d I_HST.ROLE slot (rdI p .sw HST_SLOT.ROLE slot)
    |> wrI d I_HST.KEY_ID slot (keyId p slot) |> wrI d I_HST.HIGH slot start |> wrI d I_HST.SEEN slot (2 ^ 65 - 1) |> wrI d I_HST.LAST slot (now p d)
    |> wrI d I_HST.RX_NEW slot 0 |> wrI d I_HST.FULL_NEW slot 0 |> wrI d I_HST.PEER_PORT slot srcPort |> wrI d I_HST.PEER_V6 slot (b2n v6)
    |> wrI d I_HST.TX slot 0

/-- The port dies that the steward reaches now. -/
def portsReached (p : Pkg) : List Die := [Die.pa, .pb].filter (fun d => running p d && reaches p .sw d)

/-- Open a session for an OPEN whose tag and payload hold (R399, R400). -/
def grantSession (d : Die) (slot counter srcAddr srcPort : Nat) (v6 : Bool) (nonce : List Nat) (start : Nat) (p : Pkg) : Pkg :=
  let was := flagI p .sw HST_SLOT.OPEN slot || sessionOpen p slot
  let p := if was then p |> closeWith slot counter |> slotEvent clsInfo HST_EVENT.SESSION_REPLACED slot else p
  let n := rd p .sw I_PKG.FREE_COUNT
  let sid := trunc 32 (Config.sessionId n)
  let nd := padTo 16 (Config.deviceNonce n)
  let psk := rdI p .sw I_HST.PSK slot
  let key := leNat (hmacSha (keyBytes psk) ([0x4E, 0x48, 0x50, 0x31] ++ nonce ++ nd ++ leBytes 4 sid))
  let old := slotWord p slot
  let payload := leBytes 4 sid ++ nd ++ [rdI p .sw HST_SLOT.ROLE slot] ++ leBytes 2 (keyId p slot)
  p |> wr .sw I_PKG.FREE_COUNT (n + 1)
    |> forAll (portsReached p) (dispatcherOpen slot sid key start srcAddr srcPort v6)
    |> wrI .sw I_HST.KEY slot key |> wrI .sw I_HST.TX slot 0 |> wrI .sw I_HST.NONCE slot (leNat nonce) |> wrI .sw I_HST.IDLE_LAST slot (now p .sw)
    |> wrI .sw HST_SLOT.OPEN slot 1 |> wr .sw HST_STATUS.OPEN (Nat.lor (rd p .sw HST_STATUS.OPEN) (2 ^ slot))
    |> wrI .sw HST_SESS.SESSION_ID slot sid |> wrI .sw HST_SESS.PEER_DIE slot d.num |> wrI .sw HST_SESS.FLAGS slot (b2n v6)
    |> wrI .sw HST_SESS.PEER_PORT slot srcPort |> wrI .sw HST_SESS.HOST_CTR slot (start - 1) |> wrI .sw HST_SESS.RX_OK slot 0
    |> wrI .sw HST_SESS.FLUME_FULL slot 0 |> wrI .sw HST_SESS.TEL_DROP slot 0 |> wrI .sw HST_SESS.IDLE_LEFT slot (rd p .sw HST_CFG.IDLE_S)
    |> wrI .sw I_TEL.SEQ slot 0
    |> onLane .a (fun l => { l with seen := l.seen.filter (fun e => e.1 != slot) }) |> onLane .b (fun l => { l with seen := l.seen.filter (fun e => e.1 != slot) })
    |> slotEvent clsInfo HST_EVENT.SESSION_OPEN slot |> (fun q => auditBy slot counter (slotAddr slot) old (slotWord q slot) 0 q)
    |> onlyIf was (fun q => auditBy slot counter (slotAddr slot) (slotWord q slot) (slotWord q slot) 0 q)
    |> sendWith .sw (srcAddr, srcPort) slot 0 psk 0x0001 0 counter payload |> keepReply ⟨0, slot, 0, 0, 0x0001, 0, counter, payload, 0, (0, 0)⟩

/-- OPEN (R399, R400): a datagram that a port die has passed on; the reply goes back to where it came from. -/
def openSession (d : Die) (srcAddr srcPort : Nat) (v6 : Bool) (b : List Nat) (lp : Ledger × Pkg) : Ledger × Pkg :=
  let p := lp.2
  let len := leNat ((b.drop 22).take 2)
  let slot := b.getD 4 0
  let c := leNat ((b.drop 8).take 8)
  let psk := rdI p .sw I_HST.PSK slot
  let body := b.take (32 + len)
  let pay := body.drop 32
  let nonce := pay.take 16
  let framed := b.take 3 == [0x4E, 0x48, 1] && b.length == 64 + len && decide (len ≤ 1400) && decide (slot < 8) &&
    leNat ((b.drop 6).take 2) == 1 && leNat ((b.drop 16).take 4) == 0
  if !(running p d) || !(stewardServes p d) then lp
  else if !framed || !(flagI p .sw HST_SLOT.KEYED slot) || b.drop (32 + len) != hmacSha (keyBytes psk) body then
    onPkg (nhpDrop d HST_AUTH_FAIL.V HST_EVENT.AUTH_FAIL) lp
  else match p.nhp.answered.find? (fun m => m.slot == slot && m.opcode == 1 && m.req == c && rdI p .sw I_HST.NONCE slot == leNat nonce) with
    | some m => onPkg (sendWith .sw (srcAddr, srcPort) slot 0 psk 0x0001 m.status c m.payload) lp
    | none =>
      if flag p .sw HST_STATUS.MGMT_BUSY then
        onPkg (fun q => q |> inc .sw HST_BUSY_REPLIES.V |> sendWith .sw (srcAddr, srcPort) slot 0 psk 0x0001 Status.busy.code c (busyPayload q 1)) lp
      else if pay.length ≠ 24 then onPkg (sendWith .sw (srcAddr, srcPort) slot 0 psk 0x0001 Status.malformed.code c []) lp
      else ownAudits (onPkg (grantSession d slot c srcAddr srcPort v6 nonce (leNat (pay.drop 16))) lp)

/-- CLOSE (R401): the session is answered, then it closes. -/
def closeRequest (r : Req) (b : List Nat) (lp : Ledger × Pkg) : Ledger × Pkg :=
  manage r 0x0002 0 b false (fun l =>
    if b ≠ [] then refuse .malformed l
    else ((l.1, l.2 |> sendMsg .sw r.slot 0x0002 0 r.counter [] |> closeWith r.slot r.counter), none)) lp
  |> onPkg (fun p => { p with nhp := { p.nhp with later := p.nhp.later.filter (fun q => !(q.is r.slot r.counter && q.opcode == 2)) } })

/-- SESSION_TIME_EXCHANGE (R401): the dispatchers exchange their last-accepted times, and the steward collects their session values. -/
def sessionExchange (p : Pkg) : Pkg :=
  let last (slot : Nat) : Nat := max (rdI p .pa I_HST.LAST slot) (rdI p .pb I_HST.LAST slot)
  let dies := [Die.pa, .pb].filter (running p)
  let share (slot : Nat) (q : Pkg) : Pkg := if reaches p .pa .pb then forAll dies (fun d => wrI d I_HST.LAST slot (last slot)) q else q
  let collect (slot : Nat) (q : Pkg) : Pkg :=
    if !(flagI q .sw HST_SLOT.OPEN slot) then q
    else
      let ds := portsReached q
      let top := (ds.map (fun d => rdI q d I_HST.HIGH slot)).foldl max 0
      let sum (F : Fld) : Nat := (ds.map (fun d => rdI q d F slot)).foldl (· + ·) 0
      let peer := servingDie p slot
      let lst := (ds.map (fun d => rdI q d I_HST.LAST slot)).foldl max (rdI q .sw I_HST.IDLE_LAST slot)
      let left := (lst + rd q .sw HST_CFG.IDLE_S * 1000000000 - now q .sw) / 1000000000
      let q1 := q |> onlyIf (sum I_HST.RX_NEW != 0) (fun u => u |> wrI .sw HST_SESS.PEER_DIE slot peer.num |> wrI .sw HST_SESS.FLAGS slot (rdI q peer I_HST.PEER_V6 slot)
          |> wrI .sw HST_SESS.PEER_PORT slot (rdI q peer I_HST.PEER_PORT slot))
        |> wrI .sw HST_SESS.HOST_CTR slot (top - 1) |> wrI .sw HST_SESS.RX_OK slot (rdI q .sw HST_SESS.RX_OK slot + sum I_HST.RX_NEW)
        |> wrI .sw HST_SESS.FLUME_FULL slot (rdI q .sw HST_SESS.FLUME_FULL slot + sum I_HST.FULL_NEW)
        |> wrI .sw HST_SESS.IDLE_LEFT slot left |> wrI .sw I_HST.IDLE_LAST slot lst
      forAll ds (fun d u => u |> wrI d I_HST.RX_NEW slot 0 |> wrI d I_HST.FULL_NEW slot 0) q1
  let txn (q : Pkg) : Pkg :=
    if rd q .sw TXN_STATUS.STATE = 1 then
      wr .sw TXN_STATUS.IDLE_LEFT ((rd q .sw I_TXN.AT + rd q .sw TXN_CFG.TXN_IDLE * 1000000000 - now q .sw) / 1000000000) q
    else q
  let p1 := forAll (List.range 8) share p
  if running p .sw then p1 |> forAll (portsReached p1) dispatcherConfig |> forAll (List.range 8) collect |> txn else p1

/-- SESSION_IDLE_TIMEOUT (R401): neither dispatcher has accepted a message of the session for IDLE_S. -/
def sessionTimeout (slot : Nat) (lp : Ledger × Pkg) : Ledger × Pkg :=
  let p := lp.2
  let late (d : Die) : Bool := !(running p d) || decide (rdI p d I_HST.LAST slot + rd p d I_HST.IDLE_S * 1000000000 ≤ now p d)
  if !(sessionOpen p slot || flagI p .sw HST_SLOT.OPEN slot) || !(late .pa && late .pb) then lp
  else if running p .sw then ownAudits (onPkg (closeSession slot) lp) else onPkg (sessionGone slot) lp

/-- HST_SLOT shows the keys that the settings store holds (R398). -/
def keysShow (p : Pkg) : Pkg :=
  forAll (List.range 8) (fun k q => q |> wrI .sw HST_SLOT.KEY_ID k (rdI q .sw I_KEY.KEY_ID k) |> wrI .sw HST_SLOT.ROLE k (rdI q .sw I_KEY.ROLE k)
    |> wrI .sw HST_SLOT.KEYED k (rdI q .sw I_KEY.KEYED k)) p

/-- The key and rights of a slot change; its session closes (R398, R401). -/
def setKey (by' : Option Req) (slot role kid key : Nat) (p : Pkg) : Pkg :=
  let old := slotWord p slot
  let p := p |> onlyIf (sessionOpen p slot) (closeSession slot) |> wrI .sw I_HST.PSK slot key |> wrI .sw I_KEY.KEY_ID slot kid
    |> wrI .sw I_KEY.ROLE slot role |> wrI .sw I_KEY.KEYED slot 1 |> keysShow
  let who := match by' with | some r => r.slot | none => 0xFF
  let ctr := match by' with | some r => r.counter | none => 0
  let kid' := match by' with | some r => keyId p r.slot | none => 0
  p |> slotEvent clsInfo HST_EVENT.KEY_CHANGED slot
    |> auditRec .sw 2 who kid' 0x04 (.audit (slotAddr slot) old (slotWord p slot) 0 (match by' with | some _ => 0 | none => 3) who kid' ctr)

/-- KEY_SET (R398): by a SERVICE session, or over the debug UART for slot 0 of a new device (none). -/
def keySet (by' : Option Req) (b : List Nat) (lp : Ledger × Pkg) : Ledger × Pkg :=
  let slot := b.getD 0 0
  let role := b.getD 1 0
  let kid := leNat ((b.drop 2).take 2)
  let sent := leNat ((b.drop 4).take 32)
  let good := b.length == 36 && decide (slot < 8) && decide (role < 4)
  match by' with
  | none =>
    let p := lp.2
    if running p .sw && good && slot == 0 && !(flagI p .sw HST_SLOT.KEYED 0) && ledgerUp p then ownAudits (onPkg (setKey none 0 role kid sent) lp) else lp
  | some r =>
    manage r 0x0230 3 b false (fun l =>
      let p := l.2
      let wrap := leNat (hmacSha (keyBytes (rdI p .sw I_HST.KEY r.slot)) ([0x4B, 0x45, 0x59, 0x57, 0x52, 0x41, 0x50] ++ [slot]))
      if !good then refuse .malformed l
      else if !(ledgerUp p) then refuse .storeDown l
      else if slot = r.slot then
        ((l.1, p |> sendMsg .sw r.slot 0x0230 0 r.counter [] |> setKey by' slot role kid (Nat.xor sent wrap)), none)
      else ((l.1, setKey by' slot role kid (Nat.xor sent wrap) p), some okAns)) lp
    |> onPkg (fun p => { p with nhp := { p.nhp with later := p.nhp.later.filter (fun q => !(q.is r.slot r.counter && q.opcode == 0x0230)) } })

/-! Registers, swaps, clocks (R20 to R25, R66, R76, R78, R388, R389, R403, R422, R425). -/

/-- The layout hash in force, 32 bytes. -/
def layoutHash (p : Pkg) : List Nat := (List.range 8).flatMap (fun k => leBytes 4 (rdI p .sw LYT_HASH.HASH k))

/-- IDENT (R4, R403, R509): the ordering code XN8-A0-BG1681-E, the unit serial, the firmware versions, the layout hash. -/
def ident (r : Req) (b : List Nat) (lp : Ledger × Pkg) : Ledger × Pkg :=
  manage r 0x0004 0 b false (atOnce (fun p =>
    if b ≠ [] then ((.malformed, []), p)
    else ((.ok, [0x58, 0x4E, 0x38, 0x2D, 0x41, 0x30, 0x2D, 0x42, 0x47, 0x31, 0x36, 0x38, 0x31, 0x2D, 0x45] ++ padTo 6 Config.unitSerial ++
      leBytes 4 (rd p .sw UPD_VERSION_A.VERSION) ++ leBytes 4 (rd p .sw UPD_VERSION_B.VERSION) ++ leBytes 4 (rd p .sw UPD_VERSION_SW.VERSION) ++
      layoutHash p), p))) lp

/-- Read words one after the other: the status of the first that fails, the words, the last die that served one. -/
def readWordsFrom (slot addr : Nat) : Nat → Pkg → Status × List Nat × Nat × Pkg
  | 0, p => (.ok, [], 0, p)
  | n + 1, p =>
    let o := readFor slot (addr % 2 ^ 32) p
    let t := readWordsFrom slot (addr + 4) n o.pkg
    (if o.status = .ok then t.1 else o.status, leBytes 4 o.word ++ t.2.1, o.die, t.2.2.2)

/-- What a reply to an access through an alias window carries of R22: the ID of the die that served, as one byte after the payload, and
0 where the alias had no target (DESIGN CHOICE: the spec gives the ID no place in the reply and names none without a target). -/
def servedBy (addr die : Nat) : List Nat := if isAlias addr then [die] else []

/-- READ (R403): 1 to 256 words; through an alias window the reply names the die that served it (R22). -/
def readRequest (r : Req) (b : List Nat) (lp : Ledger × Pkg) : Ledger × Pkg :=
  manage r 0x0200 0 b false (atOnce (fun p =>
    let n := leNat (b.drop 4)
    if b.length ≠ 6 ∨ n = 0 ∨ 256 < n then ((.malformed, []), p)
    else
      let o := readWordsFrom r.slot (leNat (b.take 4)) n p
      ((o.1, o.2.1 ++ servedBy (leNat (b.take 4)) o.2.2.1), o.2.2.2))) lp

/-- The reserved intake entries or the steward's own hold are full (R425). -/
def auditFull (p : Pkg) : Bool := decide (64 ≤ intakeAudit p) || decide (64 ≤ (p.log.get .sw).hold.length)

/-- The effect of a WRITE at the moment the steward executes it (R422), and its audit (R423). -/
def hostWrite (r : Req) (addr word : Nat) (env : Bool) (p : Pkg) : Ans × Pkg :=
  let fault (off : Nat) (q : Pkg) : Pkg := accessFault .sw r.slot (keyId q r.slot) off q
  let bare (st : Status) (die off : Nat) : Ans × Pkg := ((st, servedBy addr die), p |> fault off |> auditBy r.slot r.counter addr 0 0 0)
  match resolve p addr with
  | .laneNone off => bare .laneNone 0 off
  | .unimplemented off => bare .ok 0 off
  | .at' d off =>
    if !(stewardReaches p d) then bare .dieDown d.num off
    else
      let a := d.num * 2 ^ 28 + off
      let old := (readAt p d off).getD 0
      if heldFrom d off word p then
        let o := writeAt (.host r.slot) env d off word p
        ((.resourceHeld, servedBy addr d.num), auditBy r.slot r.counter a old old 0 o.2)
      else
        let o := writeAt (.host r.slot) env d off word p
        ((o.1, servedBy addr d.num), auditBy r.slot r.counter a old ((readAt o.2 d off).getD 0) 0 o.2)

/-- WRITE (R422). `env`: as in REGISTER_WRITE. -/
def writeRequest (r : Req) (b : List Nat) (env : Bool) (lp : Ledger × Pkg) : Ledger × Pkg :=
  manage r 0x0201 2 b false (atOnce (fun p =>
    if b.length ≠ 8 then ((.malformed, []), p)
    else if auditFull p then ((.busy, busyPayload p 3), p |> inc .sw HST_BUSY_REPLIES.V |> raise .sw clsWarning HST_EVENT.AUDIT_HOLD)
    else hostWrite r (leNat (b.take 4)) (leNat (b.drop 4)) env p)) lp

/-- A request to the active lane: without one, LANE_NONE and an ACCESS_FAULT (R23); out of reach, DIE_DOWN. -/
def toActive (r : Req) (b : List Nat) (off : Nat) (f : Side → Pkg → Ans × Pkg) (p : Pkg) : Ans × Pkg :=
  if b ≠ [] then ((.malformed, []), p)
  else match activeLane p with
    | none => ((.laneNone, []), accessFault .sw r.slot (keyId p r.slot) off p)
    | some x => if stewardReaches p x.helm then f x p else ((.dieDown, []), accessFault .sw r.slot (keyId p r.slot) off p)

/-- The status of a swap request's answer (R66, R67, R76). -/
def swapStatus : SwapAnswer → Status
  | .accepted => .ok | .held => .resourceHeld | .pending => .swapPending | .notReady => .standbyNotReady

/-- SWAP (R66). -/
def swapCommand (r : Req) (b : List Nat) (lp : Ledger × Pkg) : Ledger × Pkg :=
  manage r 0x0220 1 b false (atOnce (toActive r b HG_REQ.SWAP.off (fun x p => ((swapStatus (swapAnswer p x 7), []), requestSwap x 7 p)))) lp

/-- DRILL (R76). -/
def drillCommand (r : Req) (b : List Nat) (lp : Ledger × Pkg) : Ledger × Pkg :=
  manage r 0x0221 2 b false (atOnce (toActive r b HG_REQ.DRILL.off (fun x p =>
    if drillMayStart p x then (okAns, drillStart x p) else ((.drillRefused, []), p)))) lp

/-- DRILL_ABORT (R78). -/
def drillAbortCommand (r : Req) (b : List Nat) (lp : Ledger × Pkg) : Ledger × Pkg :=
  manage r 0x0222 2 b false (atOnce (toActive r b HG_REQ.DRILL_ABORT.off (fun _ p => (okAns, drillAbortLane p)))) lp

/-- CLK_MOVE (R388, R389): the steward writes the move to the die. -/
def clkMove (r : Req) (b : List Nat) (lp : Ledger × Pkg) : Ledger × Pkg :=
  manage r 0x0223 3 b false (atOnce (fun p =>
    match b with
    | [n, k] =>
      match dieOf n with
      | none => ((.malformed, []), p)
      | some d =>
        if 1 < k then ((.malformed, []), p)
        else if !(stewardReaches p d) then ((.dieDown, []), accessFault .sw r.slot (keyId p r.slot) CLK_CTRL.MOVE_OTHER.off p)
        else
          let ok := if k = 0 then rd p d CLK_STATUS.SOURCE == 2 else mayMoveHome p d
          ((if ok then .ok else .resourceHeld, []), if k = 0 then moveOther d p else moveHome d p)
    | _ => ((.malformed, []), p))) lp

/-! Transfers out of the device (R412). -/

/-- Send what the window of 64 KiB admits, 1,280 bytes a message at most. -/
def xferPump (x : Xfer) : Nat → Pkg → Xfer × Pkg
  | 0, p => (x, p)
  | n + 1, p =>
    let k := min 1280 (min (x.bytes.length - x.sent) (x.acked + 65536 - x.sent))
    if k = 0 then (x, p)
    else xferPump { x with sent := x.sent + k } n (sendMsg .sw x.slot 0x0241 0 0 (leBytes 4 x.sent ++ (x.bytes.drop x.sent).take k) p)

/-- Put a transfer back in its place. -/
def setXfer (x : Xfer) (p : Pkg) : Pkg := { p with xfers := x :: p.xfers.filter (fun y => y.slot != x.slot) }

/-- Run a transfer on. -/
def xferRun (x : Xfer) (p : Pkg) : Pkg := let o := xferPump x 64 p; setXfer o.1 o.2

/-- Start a transfer. An empty one is at its end. -/
def xferStart (slot op : Nat) (cap : Option Nat) (bytes : List Nat) (p : Pkg) : Pkg :=
  if bytes.isEmpty then p else xferRun ⟨slot, op, cap, bytes, 0, 0, now p .sw, now p .sw⟩ p

/-- A held capture as it leaves: the 64-byte header and the samples (R275). -/
def Capture.bytes (c : Capture) (die : Nat) : List Nat :=
  padTo 64 (Config.captureHeader [c.t0, die, c.format, c.length, c.trigger, c.agcL1, c.agcL5, c.cable, c.crc]) ++ c.samples

/-- SNAP_EXPORT (R412): a long operation; the capture of GA or GB goes out. -/
def snapExport (r : Req) (b : List Nat) (lp : Ledger × Pkg) : Ledger × Pkg :=
  if commitWaits lp.2 then lp
  else manage r 0x0240 2 b false (atOnce (fun p =>
    if b ≠ [3] ∧ b ≠ [4] then ((.malformed, []), p)
    else
      let y := if b = [3] then Side.a else .b
      if !(stewardReaches p y.bb) then ((.dieDown, []), accessFault .sw r.slot (keyId p r.slot) GNS_SNAP_STATUS.SNAP_STATE.off p)
      else match (p.bbs.get y).capture with
        | none => ((.resourceHeld, []), p)
        | some c =>
          if rd p y.bb GNS_SNAP_STATUS.SNAP_STATE ≠ 3 ∨ (xferOf p r.slot).isSome then ((.resourceHeld, []), p)
          else (okAns, p |> wr y.bb GNS_SNAP_STATUS.EXPORTING 1 |> busyStart 4 r.slot |> xferStart r.slot 4 (some y.num) (c.bytes y.bb.num)))) lp

/-- The offset acknowledged is taken: the transfer goes on, or it is complete. -/
def xferAck (slot off : Nat) (p : Pkg) : Pkg :=
  match xferOf p slot with
  | none => p
  | some x =>
    if off ≤ x.acked ∨ x.sent < off then p
    else
      let x := { x with acked := off, ackAt := now p .sw, progAt := now p .sw }
      let p := onlyIf x.cap.isSome (wr .sw HST_STATUS.PROGRESS (off * 100 / x.bytes.length)) p
      if off = x.bytes.length then xferEnd x true p else xferRun x p

/-- DATA_ACK (R412): no reply of its own. -/
def dataAck (r : Req) (b : List Nat) (p : Pkg) : Pkg :=
  if !(myTurn p r) then waitTurn r 0x0242 b p else
  let p := takeQueued r p
  if sessionOpen p r.slot && stewardServes p r.die && b.length == 4 && (!(flag p .sw HST_STATUS.MGMT_BUSY) || rd p .sw I_HST.BUSY_SLOT == r.slot) then
    xferAck r.slot (leNat b) p
  else p

/-- DATA_RESEND (R412): 1 s without an acknowledgement. -/
def dataResend (slot : Nat) (p : Pkg) : Pkg :=
  match xferOf p slot with
  | none => p
  | some x => if running p .sw ∧ x.ackAt + 1000000000 ≤ now p .sw then xferRun { x with sent := x.acked, ackAt := now p .sw } p else p

/-- DATA_TRANSFER_FAIL (R412): 10 s without progress; a capture stays held. -/
def dataFail (slot : Nat) (p : Pkg) : Pkg :=
  match xferOf p slot with
  | none => p
  | some x =>
    if running p .sw ∧ x.progAt + 10000000000 ≤ now p .sw then p |> xferEnd x false |> logOpen .sw clsWarning 0x04 10 .unstated else p

/-- The boundary whose entries have left the flumes by now: the lane's last one when 1 ms has passed since, else none; for a lane that runs
no cycles the last multiple of the cycle (R406). -/
def spaceBoundary (p : Pkg) (x : Side) : Nat :=
  let t := now p x.helm - 1000000
  let c := max 1 (cycleMs p x) * 1000000
  if flag p x.helm I_LANE.LAYOUT_APPLIED then (if rd p x.helm I_TIME.BOUND_AT ≤ t then rd p x.helm I_TIME.BOUND_AT else 0) else t / c * c

/-- FLUME_SPACE_RETURN (R406): 1 ms after a boundary the space of every entry stamped at or before it returns; whether the lane has
consumed it does not matter. -/
def flumeSpaceReturn (x : Side) (p : Pkg) : Pkg :=
  if running p x.helm then
    onLane x (fun l => { l with flume := l.flume.filter (fun e => decide (spaceBoundary p x < e.cmd.stamp)) }) p
  else p

/-! The commands of the table: one meaning each. -/

/-- SWAP (R66). -/
def execSwap (r : Req) (b : List Nat) (s : State) : Host.Outcome State Fault Refusal := nextLp s (swapCommand r b)

/-- DRILL (R76). -/
def execDrill (r : Req) (b : List Nat) (s : State) : Host.Outcome State Fault Refusal := nextLp s (drillCommand r b)

/-- DRILL_ABORT (R78). -/
def execDrillAbort (r : Req) (b : List Nat) (s : State) : Host.Outcome State Fault Refusal := nextLp s (drillAbortCommand r b)

/-- CLK_MOVE (R388). -/
def execClkMove (r : Req) (b : List Nat) (s : State) : Host.Outcome State Fault Refusal := nextLp s (clkMove r b)

/-- OPEN (R399). -/
def execOpenSession (d : Die) (src : HostAddr) (v6 : Bool) (b : List Nat) (s : State) : Host.Outcome State Fault Refusal := nextLp s (openSession d src.ip src.port v6 b)

/-- CLOSE (R401). -/
def execCloseSession (r : Req) (b : List Nat) (s : State) : Host.Outcome State Fault Refusal := nextLp s (closeRequest r b)

/-- IDENT (R403). -/
def execIdent (r : Req) (b : List Nat) (s : State) : Host.Outcome State Fault Refusal := nextLp s (ident r b)

/-- READ (R403). -/
def execReadWords (r : Req) (b : List Nat) (s : State) : Host.Outcome State Fault Refusal := nextLp s (readRequest r b)

/-- WRITE (R422). -/
def execWriteWord (r : Req) (b : List Nat) (env : Bool) (s : State) : Host.Outcome State Fault Refusal := nextLp s (writeRequest r b env)

/-- SESSION_IDLE_TIMEOUT (R401). -/
def execSessionIdleTimeout (slot : Nat) (s : State) : Host.Outcome State Fault Refusal := nextLp s (sessionTimeout slot)

/-- KEY_SET (R398). -/
def execKeySet (by' : Option Req) (b : List Nat) (s : State) : Host.Outcome State Fault Refusal := nextLp s (keySet by' b)

/-- SNAP_EXPORT (R412). -/
def execSnapExport (r : Req) (b : List Nat) (s : State) : Host.Outcome State Fault Refusal := nextLp s (snapExport r b)

/-- DATA_ACK (R412). -/
def execDataAck (r : Req) (b : List Nat) (s : State) : Host.Outcome State Fault Refusal := nextPk s (dataAck r b)

/-- DATA_RESEND (R412). -/
def execDataResend (slot : Nat) (s : State) : Host.Outcome State Fault Refusal := nextPk s (dataResend slot)

/-- DATA_TRANSFER_FAIL (R412). -/
def execDataTransferFail (slot : Nat) (s : State) : Host.Outcome State Fault Refusal := nextPk s (dataFail slot)

/-- FLUME_SPACE_RETURN (R406). -/
def execFlumeSpaceReturn (x : Side) (s : State) : Host.Outcome State Fault Refusal := nextPk s (flumeSpaceReturn x)

/-- SESSION_TIME_EXCHANGE (R401). -/
def execSessionTimeExchange (s : State) : Host.Outcome State Fault Refusal := nextPk s sessionExchange

end Sys2Proof.Machine
end

