-- ==== Sys2Proof/Machine/Txn.lean ====
section
/-! DEFINITION. Chapter 15: transactions, from TXN_BEGIN to the apply boundary; the settings copies a commit writes (chapter 16). -/

namespace Sys2Proof.Machine

/-! Addresses (R25, R414). -/

/-- The form of an address that a transaction keeps: a helm offset through any helm window has its window-0x1 form. -/
def canonAddr (a : Nat) : Nat :=
  let w := a / 2 ^ 28 % 16
  if w = 1 ∨ w = 2 ∨ w = 8 ∨ w = 9 then 2 ^ 28 + a % 2 ^ 28 else a

/-- The dies that a staged word concerns: both helms for a helm word. -/
def txDies (a : Nat) : List Die :=
  match dieOf (a / 2 ^ 28) with
  | some .ha => [.ha, .hb]
  | some d => [d]
  | none => []

/-- The word of an address in its kept form, if it holds a TX field. -/
def txWord (a : Nat) : Option (Die × RegRow × Nat × Nat) :=
  match dieOf (a / 2 ^ 28) with
  | none => none
  | some d => match wordAt d (a % 2 ^ 28) with
    | none => none
    | some h => if holdsTx h then some (d, h) else none

/-- The role a TX field needs (R414), by its offset. -/
def txRole (off : Nat) : Nat :=
  if off = CFL_ENABLE_LO.ENABLE.off ∨ off = CFL_ENABLE_HI.ENABLE.off ∨ off = ASM_THR_ENABLE.ENABLE.off ∨
      (LOOP_PLAUS_ACK.ACK.off ≤ off ∧ off < LOOP_PLAUS_ACK.ACK.off + 32) then 1
  else if off = TIM_STEP_CTRL.STEP_ACCEPT.off ∨ (TIM_STEP_VALUE.VALUE.off ≤ off ∧ off < TIM_STEP_VALUE.VALUE.off + 8) then 3
  else 2

/-! What a commit tests (R417, R418). -/

/-- The value of a coefficient word is at most 1.0 (Table 08-4). -/
def coefAtMostOne (c : Nat) : Bool :=
  if 0 ≤ coefSh c then decide (coefM c * (2 ^ (coefSh c).toNat : Nat) ≤ 0x800000)
  else decide (coefM c ≤ 0x800000 * (2 ^ (-(coefSh c)).toNat : Nat))

/-- A field's value lies in its range. A NaN lies in none. -/
def Rng.holds (r : Rng) (w v : Nat) : Bool :=
  match r with
  | .u lo hi => decide (lo ≤ v) && decide (v ≤ hi)
  | .s lo hi => decide (lo ≤ toSigned w v) && decide (toSigned w v ≤ hi)
  | .f lo hi => b32.le lo v && b32.le v hi
  | .fge => b32.le 0 v
  | .fgt => b32.lt 0 v
  | .coef => decide (coefSh v ≤ 15)
  | .coefUnit => decide (coefSh v ≤ 15) && decide (0 ≤ coefM v) && coefAtMostOne v
  | .coefTop => decide (coefSh v ≤ 15) && coefAtMostOne v

/-- The range of a field is that of a coefficient word. -/
def Rng.isCoef : Rng → Bool
  | .coef => true
  | .coefUnit => true
  | .coefTop => true
  | .u _ _ => false
  | .s _ _ => false
  | .f _ _ => false
  | .fge => false
  | .fgt => false

/-- The range of a field. -/
def rangeOf (F : Fld) : Option Rng := (ranges.find? (fun e => e.1 == F)).map (fun e => e.2)

/-- A vessel range of the LIMITS section (Table 16-3): address, bit, kind (0 unsigned, 1 signed, 2 binary32), bounds. -/
def vesselOk (w v : Nat) (e : Nat × Nat × Nat × Nat × Nat) : Bool :=
  match e.2.2.1 with
  | 0 => decide (e.2.2.2.1 ≤ v) && decide (v ≤ e.2.2.2.2)
  | 1 => decide (toSigned w e.2.2.2.1 ≤ toSigned w v) && decide (toSigned w v ≤ toSigned w e.2.2.2.2)
  | _ => b32.le e.2.2.2.1 v && b32.le v e.2.2.2.2

/-- Range of every TX field of a word, in a package that holds the staged values. The entries 0 to 5 and 21 to 23 of the process noise
take no value but 0. -/
def rangesOk (q : Pkg) (a : Nat) (d : Die) (h : RegRow × Nat × Nat) : Bool :=
  let lim := (q.layouts.a.limits ++ q.layouts.b.limits).filter (fun e => e.1 == a)
  ((wordFlds h).filter (fun F => F.acc == .tx)).all (fun F =>
    let v := rdI q d F h.2.1
    (match rangeOf F with
      | some r => r.holds F.w v
      | none => !(F == EST_Q.V) || v == 0 || (decide (6 ≤ h.2.1) && decide (h.2.1 < 21))) &&
    (lim.filter (fun e => e.2.1 == F.lo)).all (vesselOk F.w v))

/-- The bits of the staged word that belong to no field, and those a coefficient word reserves, are 0. -/
def reservedOk (h : RegRow × Nat × Nat) (word : Nat) : Bool :=
  let all := (wordFlds h).foldl (fun m F => m + F.mask h.2.2) 0
  Nat.land word (2 ^ 32 - 1 - all) == 0 &&
    (wordFlds h).all (fun F => match rangeOf F with
      | some r => !(r.isCoef) || word / 64 % 4 == 0
      | none => true)

/-- The cross-field rules of a word's register, in a package that holds the staged values. `staged` says which addresses are. -/
def crossOk (q : Pkg) (a : Nat) (staged : Nat → Bool) (d : Die) (h : RegRow × Nat × Nat) : Bool :=
  let i := h.2.1
  let has (F : Fld) : Bool := (wordFlds h).contains F
  if has EST_WAVE.OMEGA_MAX then decide (rd q d EST_WAVE.OMEGA_MIN < rd q d EST_WAVE.OMEGA_MAX)
  else if has GNS_ANT_CFG.SHORT_MA then decide (rd q d GNS_ANT_CFG.OPEN_MA < rd q d GNS_ANT_CFG.SHORT_MA)
  else if has GNS_SNAP_CFG.LENGTH_MS then rd q d GNS_SNAP_CFG.FORMAT == 1 || decide (rd q d GNS_SNAP_CFG.LENGTH_MS ≤ 40)
  else if has SIG_AIN.L || has SIG_AIN.D then decide (rdI q d SIG_AIN.D i ≤ rdI q d SIG_AIN.L i)
  else if has LOOP_DESC.RC_PER_MIN_US || has LOOP_DESC.RC_PER_MAX_US then
    decide (rdI q d LOOP_DESC.RC_PER_MIN_US i < rdI q d LOOP_DESC.RC_PER_MAX_US i)
  else if has LOOP_DESC.RC_LEAD then decide (rdI q d LOOP_DESC.RC_LEAD i < 2 ^ rdI q d LOOP_DESC.RC_LOG2N i)
  else if has LOOP_REG.UMIN || has LOOP_REG.UMAX then decide (rdSI q d LOOP_REG.UMIN i < rdSI q d LOOP_REG.UMAX i)
  else if has TIM_TP.WIDTH || (has TIM_TP.PERIOD && staged a) then decide (rdI q d TIM_TP.WIDTH i + 10 ≤ rdI q d TIM_TP.PERIOD i)
  else if has STW_FAULT_CFG.TEMP_CRIT then decide (rd q d STW_FAULT_CFG.TEMP_WARN < rd q d STW_FAULT_CFG.TEMP_CRIT)
  else true

/-- A transaction that sets EST_CTRL.REINIT stages this word. -/
def setsReinit (a word : Nat) : Bool := a == 2 ^ 28 + EST_CTRL.REINIT.off && bit word 0

/-- The mode condition of R142: no REINIT in the modes 3 to 6. -/
def modeOk (p : Pkg) (a word : Nat) : Bool :=
  let m := modeOf p ((activeLane p).getD .a)
  !(setsReinit a word) || m < 3 || 6 < m

/-- The ITER_MAX budget of SOL_ITER (R209): a raise keeps SOL_NOMINAL, in core cycles of 1.04 GHz, within SOL_BUDGET; the layout's
NOMINAL is that of ITER_MAX 40. -/
def budgetOk (p q : Pkg) (d : Die) (h : RegRow × Nat × Nat) : Bool :=
  let new := rd q d SOL_ITER.ITER_MAX
  !((wordFlds h).contains SOL_ITER.ITER_MAX) || decide (new ≤ rd p d SOL_ITER.ITER_MAX) ||
    decide ((rd p d SOL_TIMING.NOMINAL * 10 + new * rd p d SOL_TIMING.ITER_US) * 1040 ≤
      rd p d SOL_BUDGET.CYCLES + 40 * rd p d SOL_TIMING.ITER_US * 1040)

/-- The conditions of R367 and R370 on the state of device time. -/
def stateOk (p q : Pkg) (h : RegRow × Nat × Nat) : Bool :=
  let has (F : Fld) : Bool := (wordFlds h).contains F
  if has TIM_STEP_CTRL.STEP_ACCEPT then
    rd q .sw TIM_STEP_CTRL.STEP_ACCEPT == 0 || flag p .sw TIM_STATUS.STEP_PENDING || (timeRef p == 0 && rd q .sw TIM_STEP_VALUE.VALUE != 0)
  else if has TIM_UTC.UTC_OFFSET then timeRef p == 0
  else true

/-- Apply the TX fields of a staged word in the dies it concerns. -/
def putStaged (live : Die → Bool) (e : Nat × Nat) (p : Pkg) : Pkg :=
  forAll ((txDies e.1).filter live) (fun d => applyTx d (e.1 % 2 ^ 28) e.2) p

/-- The reason of TXN_FAIL_REASON for which a staged word fails, 0 for none. `slot`: the session; `modes`: test the mode condition. -/
def failReason (p q : Pkg) (slot : Nat) (modes : Bool) (staged : Nat → Bool) (e : Nat × Nat) : Nat :=
  match txWord e.1 with
  | none => 3
  | some (d, h) =>
    if !(rangesOk q e.1 d h) then 1
    else if !(reservedOk h e.2) then 2
    else if !(crossOk q e.1 staged d h) then 3
    else if modes && !(modeOk p e.1 e.2) then 4
    else if sessionRole p slot < txRole (e.1 % 2 ^ 28) then 5
    else if !(budgetOk p q d h) then 6
    else if !(stateOk p q h) then 7
    else 0

/-- The first staged word that fails, with its reason. -/
def firstFail (p : Pkg) (slot : Nat) (modes : Bool) (l : List (Nat × Nat)) : Option (Nat × Nat) :=
  let q := forAll l (putStaged (fun _ => true)) p
  let staged (a : Nat) : Bool := l.any (fun e => e.1 == a)
  l.findSome? (fun e => match failReason p q slot modes staged e with
    | 0 => none
    | r => some (e.1, r))

/-! The settings store (R420, R436). -/

/-- The layout hash in force as one number. -/
def hashNow (p : Pkg) : Nat := leNat (layoutHash p)

/-- A copy a die may load: VALID, and of the layout in force. -/
def SettingsCopy.usable (c : SettingsCopy) (hash : Nat) : Bool := c.state == 1 && c.layoutHash == hash

/-- The copy in use: the usable one of highest generation (false: the first, true: the second). -/
def copyInUse (s : Two SettingsCopy) (hash : Nat) : Option Side :=
  match s.a.usable hash, s.b.usable hash with
  | true, true => some (if s.a.generation < s.b.generation then .b else .a)
  | true, false => some .a
  | false, true => some .b
  | false, false => none

/-- Put a record into a copy's list, in rising order of the address. -/
def recPut (a w : Nat) : List (Nat × Nat) → List (Nat × Nat)
  | [] => [(a, w)]
  | e :: r => if a < e.1 then (a, w) :: e :: r else if a = e.1 then (a, w) :: r else e :: recPut a w r

/-- A word whose fields act when they are committed and read 0: it is no setting (R115, R135, R237, R367). -/
def actionWord (a : Nat) : Bool :=
  a == 2 ^ 28 + EST_CTRL.REINIT.off || a == TIM_STEP_CTRL.STEP_ACCEPT.off ||
    (decide (2 ^ 28 + LOOP_PLAUS_ACK.ACK.off ≤ a) && decide (a < 2 ^ 28 + LOOP_PLAUS_ACK.ACK.off + 32))

/-- What a new store holds for the words whose register resets to 0 (chapters 06 and 07). -/
def storeDefaults : List (Nat × Nat) :=
  let h := 2 ^ 28
  [(h + ASM_QN_SCALE.V.off, 0x41200000), (h + ASM_AVAIL_FRAC.V.off, 0x3F666666), (h + ASM_LOAD_RATE.V.off, 0x3E4CCCCD),
    (h + ASM_WIND_GAIN.V.off, 0x3F800000), (h + ASM_WIND_HOLD.V.off, 0x41200000), (h + SOL_EPS_P.V.off, 0x358637BD),
    (h + SOL_EPS_D.V.off, 0x358637BD), (h + SOL_EPS_GAP.V.off, 0x322BCC77), (h + SOL_DELTA_P.V.off, 0x3089705F),
    (h + SOL_DELTA_D.V.off, 0x3089705F), (h + SOL_PIV_MIN.V.off, 0x29E12E13), (h + SOL_PIV_REPL.V.off, 0x322BCC77),
    (h + SOL_TAU.V.off, 0x3F7D70A4), (h + SOL_WS_PUSH.V.off, 0x3C23D70A)]

/-- Write a commit's new values to the copy that is not in use, as PENDING. -/
def storePending (l : List (Nat × Nat)) (p : Pkg) : Pkg :=
  let cur := copyInUse p.settings (hashNow p)
  let old : SettingsCopy := match cur with
    | some s => p.settings.get s
    | none => ⟨rd p .sw LYT_SCHEMA.SCHEMA, hashNow p, rd p .sw LYT_GENERATION.GEN, 1, storeDefaults⟩
  let new : SettingsCopy := ⟨rd p .sw LYT_SCHEMA.SCHEMA, hashNow p, (old.generation + 1) % 2 ^ 32, 0,
    (l.filter (fun e => !(actionWord e.1))).foldl (fun r e => recPut e.1 e.2 r) old.recs⟩
  { p with settings := p.settings.set (match cur with | some s => s.other | none => .a) new }

/-- Mark the PENDING copy. -/
def markPending (st : Nat) (p : Pkg) : Pkg :=
  let mark (c : SettingsCopy) : SettingsCopy := if c.state = 0 then { c with state := st } else c
  let p := { p with settings := ⟨mark p.settings.a, mark p.settings.b⟩ }
  match copyInUse p.settings (hashNow p) with
  | some s => wr .sw LYT_GENERATION.GEN (p.settings.get s).generation p
  | none => p

/-- A die that starts loads the copy in use (R436). -/
def loadSettings (d : Die) (p : Pkg) : Pkg :=
  match copyInUse p.settings (hashNow p) with
  | none => p
  | some s => forAll ((p.settings.get s).recs.filter (fun e => (txDies e.1).contains d)) (fun e => applyTx d (e.1 % 2 ^ 28) e.2) p

/-! The requests (R413 to R416). -/

/-- Every transaction request is answered TXN_HELD during a commit, and from another session during its transaction; `breaks`: the
request breaks another's. The payload names the transaction to its owner alone. -/
def txnGuard (r : Req) (breaks : Bool) (body : Ledger × Pkg → Served) (lp : Ledger × Pkg) : Served :=
  let p := lp.2
  let st := rd p .sw TXN_STATUS.STATE
  if st = 2 ∨ (st = 1 ∧ rd p .sw TXN_STATUS.SLOT ≠ r.slot ∧ !breaks) then
    ((lp.1, slotEvent clsWarning TXN_EVENT.HELD r.slot p), some (.txnHeld, []))
  else
    body (lp.1, if st = 1 ∧ rd p .sw TXN_STATUS.SLOT = r.slot then
      p |> wr .sw I_TXN.AT (now p .sw) |> wr .sw TXN_STATUS.IDLE_LEFT (rd p .sw TXN_CFG.TXN_IDLE) else p)

/-- TXN_BEGIN (R413). -/
def txnBegin (r : Req) (b : List Nat) (lp : Ledger × Pkg) : Ledger × Pkg :=
  manage r 0x0210 1 b false (txnGuard r false (atOnce (fun p =>
    if b ≠ [] then ((.malformed, []), p)
    else if rd p .sw TXN_STATUS.STATE = 1 then
      ((.txnHeld, leBytes 4 (rd p .sw TXN_ID.ID)), slotEvent clsWarning TXN_EVENT.HELD r.slot p)
    else
      let p := { p with txn := Txn.none } |> inc .sw TXN_ID.ID |> wr .sw TXN_STATUS.STATE 1 |> wr .sw TXN_STATUS.SLOT r.slot
        |> wr .sw TXN_STATUS.STAGED 0 |> wr .sw I_TXN.AT (now p .sw) |> wr .sw TXN_STATUS.IDLE_LEFT (rd p .sw TXN_CFG.TXN_IDLE)
      ((.ok, leBytes 4 (rd p .sw TXN_ID.ID)), p)))) lp

/-- TXN_WRITE (R414): one word at one TX address. -/
def txnWrite (r : Req) (b : List Nat) (lp : Ledger × Pkg) : Ledger × Pkg :=
  manage r 0x0211 1 b false (txnGuard r false (atOnce (fun p =>
    let a := canonAddr (leNat (b.take 4))
    if b.length ≠ 8 then ((.malformed, []), p)
    else if rd p .sw TXN_STATUS.STATE ≠ 1 then ((.txnNone, []), p)
    else if (txWord a).isNone then ((.txnNotTx, []), p)
    else if rdI p .sw HST_SLOT.ROLE r.slot < txRole (a % 2 ^ 28) then
      ((.roleDenied, []), p |> inc .sw I_HST.DENIED |> slotEvent clsWarning HST_EVENT.ROLE_DENIED r.slot)
    else
      let l := recPut a (leNat (b.drop 4)) p.txn.staged
      if 1024 < l.length then ((.txnFull, []), p)
      else (okAns, { p with txn := { p.txn with staged := l } } |> wr .sw TXN_STATUS.STAGED l.length)))) lp

/-- TXN_ABORT (R415). -/
def txnAbort (r : Req) (b : List Nat) (lp : Ledger × Pkg) : Ledger × Pkg :=
  manage r 0x0213 1 b false (txnGuard r false (atOnce (fun p =>
    if b ≠ [] then ((.malformed, []), p)
    else if rd p .sw TXN_STATUS.STATE ≠ 1 then ((.txnNone, []), p)
    else (okAns, p |> txnClose |> slotEvent clsInfo TXN_EVENT.ABORTED r.slot)))) lp

/-- TXN_BREAK (R415): a SERVICE session discards the open transaction. -/
def txnBreak (r : Req) (b : List Nat) (lp : Ledger × Pkg) : Ledger × Pkg :=
  manage r 0x0214 3 b false (txnGuard r true (atOnce (fun p =>
    if b ≠ [] then ((.malformed, []), p)
    else if rd p .sw TXN_STATUS.STATE ≠ 1 then ((.txnNone, []), p)
    else (okAns, p |> txnClose |> slotEvent clsInfo TXN_EVENT.BROKEN r.slot)))) lp

/-- TXN_EXPIRED (R416): idle for TXN_IDLE; during a structural change the idle timer stands still (R434). -/
def txnExpired (p : Pkg) : Pkg :=
  if running p .sw ∧ rd p .sw TXN_STATUS.STATE = 1 ∧ !(lytInProgress p) ∧
      rd p .sw I_TXN.AT + rd p .sw TXN_CFG.TXN_IDLE * 1000000000 ≤ now p .sw then txnExpire p
  else p

/-! The commit (R417 to R420, R434). -/

/-- The vessel cycle in ns, of the active lane. -/
def cycleNs (p : Pkg) : Nat := max 1 (cycleMs p ((activeLane p).getD .a)) * 1000000

/-- The first vessel-cycle boundary at or after an instant. -/
def boundaryFrom (p : Pkg) (t : Nat) : Nat := (t + cycleNs p - 1) / cycleNs p * cycleNs p

/-- The commit ends in a refusal: what was staged is discarded. -/
def txnReject (slot a reason : Nat) (p : Pkg) : Pkg :=
  p |> wr .sw TXN_FAIL.ADDRESS a |> wr .sw TXN_FAIL_REASON.REASON reason |> inc .sw TXN_REJECTS.V |> txnClose
    |> slotEvent clsWarning TXN_EVENT.REJECTED slot

/-- A word at an address in its kept form, as a read shows it. -/
def wordNow (p : Pkg) (a : Nat) : Nat :=
  match dieOf (a / 2 ^ 28) with
  | some d => (readAt p d (a % 2 ^ 28)).getD 0
  | none => 0

/-- A commit's audit record goes straight to the ring (R424). -/
def commitAudit (r : Req) (q : Pkg) (e : Nat × Nat) (lp : Ledger × Pkg) : Ledger × Pkg :=
  let p := lp.2
  let kid := keyId p r.slot
  let rec' := mkRec p .sw (eventCode clsAudit (blockCode (e.1 % 2 ^ 28)) 33) 2 r.slot kid
    (.audit e.1 (wordNow p e.1) (wordNow q e.1) (rd p .sw TXN_ID.ID) 0 r.slot kid r.counter)
  ringWrite { rec' with late := lexLess rec'.key (lastKey p) } (lp.1, inc .sw I_DIE.SEQ p)

/-- What a commit that has passed validation does: the PENDING copy, the audit, the boundary (R419, R420). -/
def commitStart (r : Req) (lp : Ledger × Pkg) : Ledger × Pkg :=
  let p := lp.2
  let q := forAll p.txn.staged (putStaged (fun _ => true)) p
  let lp := p.txn.staged.foldl (fun s e => commitAudit r q e s) lp
  onPkg (fun p =>
    { p with txn := { p.txn with req := some ⟨r.die.num, r.slot, r.counter, 0x0212, []⟩, ordered := false } } |> storePending p.txn.staged
      |> wr .sw TXN_STATUS.STATE 2 |> wr .sw TXN_STATUS.IDLE_LEFT 0 |> wr .sw I_TXN.B (boundaryFrom p (now p .sw + 10000000)) |> wr .sw I_TXN.MOVES 0
      |> wr .sw TXN_FAIL_REASON.POSTPONED 0) lp

/-- TXN_COMMIT (R417). -/
def txnCommit (r : Req) (b : List Nat) (lp : Ledger × Pkg) : Ledger × Pkg :=
  manage r 0x0212 1 b false (txnGuard r false (fun lp =>
    let p := lp.2
    let b0 := boundaryFrom p (now p .sw + 10000000)
    if b ≠ [] then refuse .malformed lp
    else if rd p .sw TXN_STATUS.STATE ≠ 1 then refuse .txnNone lp
    else if lytInProgress p then refuse (.other 0x31) lp
    else if !(ledgerUp p) then ((lp.1, inc .sw TXN_REJECTS.V p), some (.storeDown, []))
    else match firstFail p r.slot (decide (b0 ≤ now p .sw + cycleNs p)) p.txn.staged with
      | some f => ((lp.1, txnReject r.slot f.1 f.2 p), some (.txnInvalid, []))
      | none => (commitStart r lp, none))) lp

/-- The reply of the commit that waits. -/
def commitReply (a : Ans) (p : Pkg) : Pkg :=
  match p.txn.req with
  | some q => answerLater q.slot q.counter a p
  | none => p

/-- A live die that holds words of the transaction is out of the steward's reach. -/
def concernedLost (p : Pkg) : Bool :=
  p.txn.staged.any (fun e => (txDies e.1).any (fun d => running p d && !(reaches p .sw d)))

/-- TXN_ACK_DEADLINE (R418 to R420): 1 ms before B. `late`: a live die concerned has not acknowledged. -/
def txnAckDeadline (late : Bool) (p : Pkg) : Pkg :=
  let slot := rd p .sw TXN_STATUS.SLOT
  let n := rd p .sw I_TXN.MOVES
  if !(running p .sw) || rd p .sw TXN_STATUS.STATE != 2 || p.txn.ordered || decide (now p .sw + 1000000 < rd p .sw I_TXN.B) then p
  else match p.txn.staged.find? (fun e => !(modeOk p e.1 e.2)) with
    | some e => p |> markPending 2 |> commitReply (.txnInvalid, []) |> txnReject slot e.1 4
    | none =>
      if !(late || concernedLost p || !(ledgerUp p)) then { p with txn := { p.txn with ordered := true } } |> markPending 1
      else if n < 4 then
        p |> wr .sw I_TXN.MOVES (n + 1) |> wr .sw TXN_FAIL_REASON.POSTPONED (n + 1) |> wr .sw I_TXN.B (rd p .sw I_TXN.B + cycleNs p)
          |> slotEvent clsWarning TXN_EVENT.POSTPONED slot
      else
        p |> markPending 2 |> slotEvent clsWarning TXN_EVENT.APPLY_FAIL slot |> inc .sw TXN_REJECTS.V |> commitReply (.txnApplyFail, []) |> txnClose

/-! The apply boundary (R419, R421). -/

/-- A field of a word has changed. -/
def wordChanged (old p : Pkg) (d : Die) (off : Nat) : Bool :=
  match wordAt d off with
  | none => false
  | some h => (wordFlds h).any (fun F => rdI p d F h.2.1 != rdI old d F h.2.1)

/-- What follows from a changed helm word in a lane. `old`: the package before the apply. -/
def laneAfter (old : Pkg) (x : Side) (off word : Nat) (p : Pkg) : Pkg :=
  let d := x.helm
  if off = EST_CTRL.REINIT.off then p |> onlyIf (bit word 0) (reinit x) |> onlyIf (bit word 1) (redatum x)
  else if LOOP_PLAUS_ACK.ACK.off ≤ off ∧ off < LOOP_PLAUS_ACK.ACK.off + 32 then
    forAll ((List.range 32).filter (bit word)) (fun n => plausAck x (8 * (off - LOOP_PLAUS_ACK.ACK.off) + n)) p
  else if off = CFL_ENABLE_LO.ENABLE.off ∨ off = CFL_ENABLE_HI.ENABLE.off then
    let F := if off = CFL_ENABLE_LO.ENABLE.off then CFL_ENABLE_LO.ENABLE else CFL_ENABLE_HI.ENABLE
    let base := if off = CFL_ENABLE_LO.ENABLE.off then 0 else 32
    forAll ((List.range 32).filter (fun n => bit (rd p d F) n && !(bit (rd old d F) n) &&
      (rdI p d CFL_SRC.KIND (base + n) == 5 || rdI p d CFL_SRC.KIND (base + n) == 6))) (fun n => wrI d I_EST.REZERO (base + n) 1) p
  else if SP_V_L.V.off ≤ off ∧ off ≤ SP_J_H.V.off then replanAll x (now p d) p
  else if LOOP_REG.LO.off ≤ off ∧ off < LOOP_REG.LO.off + LOOP_REG.LO.stride * 512 ∧ wordChanged old p d off then
    let j := (off - LOOP_REG.LO.off) / LOOP_REG.LO.stride
    forAll ((definedSlots p d).filter (fun i => rdI p d LOOP_DESC.REGION_BASE i + (slotRec p x i).region == j))
      (fun i q => setSlot x i { slotRec q x i with pendSwap := true } q) p
  else p

/-- What follows from a changed word of another die. -/
def dieAfter (old : Pkg) (d : Die) (off word : Nat) (p : Pkg) : Pkg :=
  match wordAt d off with
  | none => p
  | some h =>
    let i := h.2.1
    let has (F : Fld) : Bool := (wordFlds h).contains F
    if has SIG_AIN.S || has SIG_AIN.D then
      if rdI p d SIG_AIN.S i == rdI old d SIG_AIN.S i && rdI p d SIG_AIN.L i == rdI old d SIG_AIN.L i && rdI p d SIG_AIN.D i == rdI old d SIG_AIN.D i then p
      else p |> wrI d SIG_AIN.GD_NS i (groupDelay (rdI p d SIG_AIN.S i) (rdI p d SIG_AIN.L i)) |> syncReset (Die.side d) i
    else if has TIM_TP.START then pulseArm (Die.side d) i p
    else if has GNS_CABLE_DELAY.DELAY then
      let diff := rdS p d GNS_CABLE_DELAY.DELAY - rdS old d GNS_CABLE_DELAY.DELAY
      let m := fneg (fmul fLight (frat diff 10000000000))
      let k := if d = .ga then 15 else 18
      let lane (x : Side) (q : Pkg) : Pkg :=
        if running q x.helm then onLane x (Lane.shifted (rd q x.helm I_EST.T0) (k, m)) q else q
      if diff = 0 then p else p |> wr d I_GNS.DELAY_CHANGED 1 |> lane .a |> lane .b
    else if has TIM_STEP_CTRL.STEP_ACCEPT then onlyIf (bit word 0) acceptStep p
    else if has TIM_UTC.UTC_OFFSET then
      p |> leapNote (flag old .sw TIM_UTC.LEAP61 || flag old .sw TIM_UTC.LEAP59) |> wr .sw I_TIM.UTC_DUE 0
        |> onlyIf (rd p .sw TIM_UTC.UTC_OFFSET != rd old .sw TIM_UTC.UTC_OFFSET) (raise .sw clsInfo TIM_EVENT.UTC_CHANGED)
    else if has STW_FAULT_CFG.PERM_COUNT then
      forAll (allDies.filter (fun d => running p d && reaches p .sw d))
        (fun d q => q |> wr d I_DIE.PERM_COUNT (rd p .sw STW_FAULT_CFG.PERM_COUNT) |> wr d I_DIE.PERM_WINDOW (rd p .sw STW_FAULT_CFG.PERM_WINDOW)
          |> wr d I_DIE.TEMP_CRIT (rd p .sw STW_FAULT_CFG.TEMP_CRIT)) p
    else p

/-- A die applies a word it holds: a word that acts is not kept. -/
def applyStaged (e : Nat × Nat) (p : Pkg) : Pkg := if actionWord e.1 then p else putStaged (running p) e p

/-- What a word's change brings with it in each live die. -/
def afterStaged (old : Pkg) (e : Nat × Nat) (p : Pkg) : Pkg :=
  forAll ((txDies e.1).filter (running p)) (fun d =>
    if d = .ha then laneAfter old .a (e.1 % 2 ^ 28) e.2 else if d = .hb then laneAfter old .b (e.1 % 2 ^ 28) e.2 else dieAfter old d (e.1 % 2 ^ 28) e.2) p

/-- TXN_APPLY (R419 to R421): the dies apply at B what they hold, on the steward's order. -/
def txnApply (p : Pkg) : Pkg :=
  if !(p.txn.ordered) || decide (now p .sw < rd p .sw I_TXN.B) then p
  else
    let l := p.txn.staged
    let slot := rd p .sw TXN_STATUS.SLOT
    let q := forAll l (afterStaged p) (forAll l applyStaged p)
    if running p .sw ∧ rd p .sw TXN_STATUS.STATE = 2 then
      q |> wr .sw TXN_LAST_APPLY.TIME (rd p .sw I_TXN.B) |> inc .sw TXN_COMMITS.V |> slotEvent clsInfo TXN_EVENT.COMMITTED slot
        |> commitReply (.ok, leBytes 4 (rd p .sw TXN_ID.ID) ++ leBytes 8 (rd p .sw I_TXN.B)) |> txnClose
    else { q with txn := Txn.none }

/-! The commands of the table: one meaning each. -/

/-- TXN_BEGIN (R413). -/
def execTxnBegin (r : Req) (b : List Nat) (s : State) : Host.Outcome State Fault Refusal := nextLp s (txnBegin r b)

/-- TXN_WRITE (R414). -/
def execTxnWrite (r : Req) (b : List Nat) (s : State) : Host.Outcome State Fault Refusal := nextLp s (txnWrite r b)

/-- TXN_COMMIT (R417). -/
def execTxnCommit (r : Req) (b : List Nat) (s : State) : Host.Outcome State Fault Refusal := nextLp s (txnCommit r b)

/-- TXN_ABORT (R415). -/
def execTxnAbort (r : Req) (b : List Nat) (s : State) : Host.Outcome State Fault Refusal := nextLp s (txnAbort r b)

/-- TXN_BREAK (R415). -/
def execTxnBreak (r : Req) (b : List Nat) (s : State) : Host.Outcome State Fault Refusal := nextLp s (txnBreak r b)

/-- TXN_ACK_DEADLINE (R420). -/
def execTxnAckDeadline (late : Bool) (s : State) : Host.Outcome State Fault Refusal := nextPk s (txnAckDeadline late)

/-- TXN_APPLY (R419). -/
def execTxnApply (s : State) : Host.Outcome State Fault Refusal := nextPk s txnApply

/-- TXN_EXPIRED (R416). -/
def execTxnExpired (s : State) : Host.Outcome State Fault Refusal := nextPk s txnExpired

end Sys2Proof.Machine
end

