-- ==== Sys2Proof/Machine/Layout.lean ====
section
/-! DEFINITION. Chapter 16: the layout image, its checks, applying it, the structural change, and the handover. -/

namespace Sys2Proof.Machine

/-- What a layout image's sections say (Table 16-3): their inner encoding is not in the spec. -/
opaque decodeLayout (image : List Nat) : Layout

/-! The image (R426). -/

/-- A little-endian number inside some bytes. -/
def leAt (b : List Nat) (o n : Nat) : Nat := leNat ((b.drop o).take n)

/-- Bytes an image may have (R426). -/
def layoutMax : Nat := 0x100000

/-- The image at a base: as many bytes as its header's LENGTH says. -/
def imageAt (m : List Host.Cell) (base : Nat) : List Nat := mramRead m base (min (leNat (mramRead m (base + 8) 4)) layoutMax)

/-- Bytes a signature covers. -/
def signedPart (b : List Nat) : List Nat := b.take (b.length - 64)

/-- SHA-256 of the signed bytes: the layout hash, or the hash of a firmware image. -/
def imageHash (b : List Nat) : Nat := leNat (sha256 (signedPart b))

/-- The layout an image holds: its hash, SCHEMA and FLAGS are read here, the rest by its sections. -/
def layoutOf (b : List Nat) : Layout :=
  let l := decodeLayout b
  let fl := leAt b 20 4
  { l with hash := imageHash b, schema := leAt b 12 4
           lyWords := l.lyWords ++ [(1, HG_CFG.PRIMARY_B.off, fl % 4), (2, HG_CFG.PRIMARY_B.off, fl % 4), (5, HG_ARB_CFG.PRIMARY_B.off, fl % 2),
             (6, HG_ARB_CFG.PRIMARY_B.off, fl % 2)] }

/-- The determinism classes an image accepts. -/
def classHolds (b : List Nat) (c : Nat) : Bool := decide (leAt b 16 2 ≤ c) && decide (c ≤ leAt b 18 2)

/-! Verification (R427). -/

/-- Ranges of the LY fields, part 0. -/
def lyRanges0 : List (Fld × Rng) := [
  (HG_DH_CFG.DH_TIMEOUT, .u 20 2000), (CFL_CFG.ADMIT, .u 0 20), (EST_TIMING.BUDGET, .u 0 256), (EST_TIMING.REPLAY_STEPS, .u 19 64),
  (ASM_SIZE.NVARS, .u 0 4096), (ASM_SIZE.NROWS, .u 0 8192), (ASM_HORIZON.STEPS, .u 4 128), (ASM_HORIZON.LOAD_STEPS, .u 0 128),
  (ASM_HORIZON.STEP_MS, .u 100 5000), (SOL_CFG.DEADLINE_PCT, .u 20 90), (SOL_SIZE.SUPERNODES, .u 1 2048), (SOL_NNZ.NNZ_L, .u 0 1048576),
  (LOOP_CFG.BOUND_US, .u 0 180), (CFL_SRC.KIND, .u 0 11), (CFL_SRC.DIE, .u 3 6), (CFL_SRC.PORT_TYPE, .u 0 5), (CFL_SRC.STAMP, .u 0 4),
  (CFL_SRC.ALIGN, .u 0 3), (CFL_SRC.MOUNT, .u 0 63), (CFL_SRC.MAX_SCALARS, .u 1 128)]

/-- Ranges of the LY fields, part 1. -/
def lyRanges1 : List (Fld × Rng) := [
  (LOOP_DESC.ROLE, .u 0 8), (LOOP_DESC.SP_KIND, .u 0 2), (LOOP_DESC.FB_KIND, .u 0 2), (LOOP_DESC.FF_KIND, .u 0 4), (LOOP_DESC.SCHED_KIND, .u 0 4),
  (LOOP_DESC.NREG, .u 1 16), (LOOP_DESC.REGION_BASE, .u 0 511), (LOOP_DESC.RC_LOG2N, .u 4 8), (LOOP_DESC.RC_SRC, .u 0 2),
  (LOOP_DESC.MODEL_ON, .u 0 1), (SIG_AIN.EN, .u 0 1), (SIG_WEIR.CHANNEL, .u 0 15), (SIG_UART.BAUD, .u 4800 921600), (SIG_UART.MODE, .u 0 3),
  (SIG_DIO.FUNC, .u 0 4), (SIG_OUT.USER, .u 0 2), (SIG_OUT.DH_ACTION, .u 0 2), (SIG_OUT.DH_RATE, .u 1 65535), (SIG_FB.SRC, .u 0 5),
  (CAN_CFG.MODE, .u 0 2)]

/-- Ranges of the LY fields, part 2. -/
def lyRanges2 : List (Fld × Rng) := [
  (CAN_NBT.TSEG1, .u 1 255), (CAN_NBT.TSEG2, .u 1 127), (CAN_NBT_IOSC.TSEG1, .u 1 255), (CAN_NBT_IOSC.TSEG2, .u 1 127),
  (CAN_FILT.ACTION, .u 0 2), (CAN_TXM.FLAGS, .u 0 15), (CAN_TXM.DLC, .u 0 15), (CAN_TXM.PERIOD_MS, .u 1 10000), (CAN_TXS.MSG, .u 0 63),
  (CAN_TXS.LEN, .u 1 32), (CAN_TXS.START, .u 0 511), (CAN_TXS.FMT, .u 0 3), (CAN_TXS.DH_ACTION, .u 0 1), (CAN_RXS.PORT, .u 0 3),
  (CAN_RXS.FMT, .u 0 3), (CAN_RXS.LEN, .u 1 32), (CAN_RXS.START, .u 0 511), (ETH_SW_CFG.AGE_S, .u 10 1000), (ETH_PORT_CFG.MODE, .u 0 2)]

/-- Ranges of the LY fields, part 3. -/
def lyRanges3 : List (Fld × Rng) := [
  (ETH_LIS.KIND, .u 0 2), (ETH_LIS.PORTS, .u 0 63), (PTP_CFG.TC_MODE, .u 0 2), (PTP_CFG.OC_MODE, .u 0 2), (PTP_CFG.OC_PORT, .u 0 5),
  (PTP_CFG.TRANSPORT, .u 0 2), (TIM_CFG.REFERENCE, .u 0 2), (CLK_CFG.MON_TOL, .u 5 100)]

/-- The LY fields that have a range of their own. -/
def lyRanges : List (Fld × Rng) := lyRanges0 ++ lyRanges1 ++ lyRanges2 ++ lyRanges3

/-- A field's part of a word as a value of its own. -/
def Fld.ofWord (F : Fld) (w word : Nat) : Nat := F.merge w 0 word

/-- A word of LY fields: its die and address exist, its reserved bits are 0, and each LY field lies in its range or keeps its reset
value. -/
def lyWordOk (e : Nat × Nat × Nat) : Bool :=
  match dieOf e.1 with
  | none => false
  | some d => match wordAt d e.2.1 with
    | none => false
    | some h =>
      let all := (wordFlds h).foldl (fun m F => m + F.mask h.2.2) 0
      Nat.land e.2.2 (2 ^ 32 - 1 - all) == 0 && decide (e.2.2 < 2 ^ 32) &&
        ((wordFlds h).filter (fun F => F.acc == .ly)).all (fun F =>
          match (lyRanges.find? (fun r => r.1 == F)).map (fun r => r.2) with
          | some r => decide (32 < F.top) || F.ofWord h.2.2 e.2.2 == F.reset h.2.1 || r.holds F.w (F.ofWord h.2.2 e.2.2)
          | none => true)

/-- A directory entry (Table 16-2) and its section's CHECK. -/
def directoryOk (b : List Nat) (k : Nat) : Bool :=
  let e := 256 + 16 * k
  let off := leAt b (e + 4) 4
  let len := leAt b (e + 8) 4
  b.getD e 0 == k + 1 && b.getD (e + 1) 0 == 0 && leAt b (e + 2) 2 == 1 &&
    (if k = 0 then off == 0 && len == 256 else off % 64 == 0 && decide (512 ≤ off) && decide (off + len + 64 ≤ b.length)) &&
    leAt b (e + 12) 4 == crc32c ((b.drop off).take len)

/-- What a check of a layout image finds: the step that fails, the section and the byte offset concerned. -/
abbrev LytFault := Nat × Nat × Nat

/-- Step 1: MAGIC, FORMAT, SECTIONS, LENGTH. -/
def lytHeader (b : List Nat) (len : Nat) : Option LytFault :=
  if b.take 4 ≠ [0x4B, 0x49, 0x56, 0x4E] then some (1, 1, 0)
  else if leAt b 4 2 ≠ 1 then some (1, 1, 4)
  else if leAt b 6 2 ≠ 12 then some (1, 1, 6)
  else if leAt b 8 4 ≠ len ∨ layoutMax < len ∨ len < 576 then some (1, 1, 8)
  else none

/-- The classes of the firmware that runs in the lanes. -/
def runningClasses (p : Pkg) : List Nat :=
  (bothSides.filter (fun x => running p x.helm && laneState p x != 0)).map (fun x => rd p x.helm I_LANE.DET_CLASS)

/-- Steps 1 to 5 of R427, on an image of a length. -/
def lytCheck (p : Pkg) (b : List Nat) (len : Nat) : Option LytFault :=
  match lytHeader b len with
  | some f => some f
  | none => match (List.range 12).find? (fun k => !(directoryOk b k)) with
    | some k => some (2, k + 1, leAt b (256 + 16 * k + 4) 4)
    | none =>
      let key := (b.drop 96).take 32
      if rd p .sw I_OTP.LYT_KEYS = 0 ∨ leNat (sha256 key) ≠ rdI p .sw I_OTP.LYT_KEY (rd p .sw I_OTP.LYT_KEYS - 1) then some (3, 1, 96)
      else if !(Config.ed25519 key (signedPart b) (b.drop (b.length - 64))) then some (4, 0, b.length - 64)
      else if !((runningClasses p).all (classHolds b)) then some (5, 1, 16)
      else none

/-- All six steps. -/
def lytVerify (p : Pkg) (b : List Nat) (len : Nat) : Option LytFault :=
  match lytCheck p b len with
  | some f => some f
  | none => if leAt b 20 4 < 4 && (layoutOf b).lyWords.all lyWordOk then none else some (6, Config.lyPlace b)

/-! Applying a layout to the dies (R302, R429, R430, R513). -/

/-- Identities of the LY fields. -/
def lyIds : List Nat := regRows.flatMap (fun r => (r.flds.filter (fun F => F.acc == .ly)).map (fun F => F.id))

/-- The LY fields of a die take an image's values; one the image does not reach has its reset value. -/
def putLy (l : Layout) (d : Die) (p : Pkg) : Pkg :=
  let one (e : Nat × Nat × Nat) (q : Pkg) : Pkg :=
    match wordAt d e.2.1 with
    | none => q
    | some h => forAll ((wordFlds h).filter (fun F => F.acc == .ly)) (fun F u => wrI d F h.2.1 (F.merge h.2.2 (rdI u d F h.2.1) e.2.2) u) q
  { p with regs := p.regs.filter (fun c => !(decide (c.1 / 65536 % 8 = d.num) && lyIds.contains (c.1 / 524288))) }
    |> forAll (l.lyWords.filter (fun e => e.1 == d.num)) one

/-- Switchboard sections of a layout. -/
def Layout.sections (l : Layout) : Nat :=
  ((l.thrusters.map (fun (t : Thruster) => t.sect + 1)) ++ (l.sets.map (fun (g : GenSet) => g.sect + 1)) ++ (l.ties.flatMap (fun (t : Tie) => [t.one + 1, t.two + 1]))).foldl max 0

/-- A lane takes a layout and initialises: STANDBY, the estimator in INIT, the outputs held (R139, R135, R482). -/
def laneApply (l : Layout) (x : Side) (p : Pkg) : Pkg :=
  let d := x.helm
  { p with layouts := p.layouts.set x l } |> putLy l d |> wr d I_TIME.CYCLE_MS l.cycleMs |> wr d CFL_STATUS.FRAME_MS l.frameMs
    |> (fun q => wr d SOL_CFG.RELEASE_MS (releaseMs q x) q)
    |> wr d ASM_STATUS.SECTIONS l.sections |> wr d I_LANE.LAYOUT_HASH l.hash |> wr d I_LANE.LAYOUT_APPLIED 1 |> wr d I_MODE.OUT_HELD 1
    |> wr d SP_STATUS.MODE 0 |> estInit x |> confluenceStart x |> wr d I_SOL.COLD 1 |> wr d I_SOL.FROM_FB 1
    |> rudderStart x |> slotsStart x

/-- The lane's start ends: it takes the standby role, or stays locked out (Table 02-1). -/
def laneUpNow (x : Side) (p : Pkg) : Pkg :=
  p |> copiesFresh x |> wr x.helm HG_STATUS.LANE_STATE (if flag p x.helm HG_LOCKOUT.LOCKED then 5 else 2)

/-- The outputs of a port die at an apply (R301, R302, R313, R512): no word counts as written, no CAN value as composed. A die whose
dead-hand has tripped counts nothing as latched and each output takes its action; else the pins stay as they are (R81, R432). A TEST
output takes INIT_VALUE. -/
def outputsApply (d : Die) (p : Pkg) : Pkg :=
  let init (o : Nat) (q : Pkg) : Pkg :=
    if o < 16 then wrI d SIG_OUT.CODE o (rdI q d SIG_OUT.INIT_VALUE o) q else wrI d I_OUT.LEVEL o (rdI q d SIG_OUT.INIT_VALUE o % 2) q
  p |> forAll (List.range 40) (wrI d I_OUT.WRITTEN · 0)
    |> forAll (List.range 128) (fun s q => q |> wrI d I_TXS.EVER s 0 |> wrI d I_TXS.WRITTEN s 0 |> wrI d I_TXS.COMPOSED s 0)
    |> onlyIf (flag p d HG_DH_STATUS.TRIPPED) (fun q => q |> forAll (List.range 40) (wrI d I_OUT.EVER · 0)
        |> (fun q => forAll (deadHandOutputs q d) (deadHandAct d) q))
    |> (fun q => forAll ((List.range 40).filter (fun o => rdI q d SIG_OUT.USER o == 2)) init q)

/-- A port die takes a layout (R302, R513): its ports start as the layout says. -/
def portApply (l : Layout) (y : Side) (p : Pkg) : Pkg :=
  let d := y.port
  p |> putLy l d |> wr d SIG_STATUS.LAYOUT 1
    |> forAll (List.range 16) (fun n q => q |> wrI d SIG_AIN.GD_NS n (groupDelay (rdI q d SIG_AIN.S n) (rdI q d SIG_AIN.L n)) |> syncReset y n)
    |> forAll (List.range 4) (fun k q => q |> wrI d CAN_STATUS.STATE k (if rdI q d CAN_CFG.MODE k = 0 then 3 else 0) |> wrI d I_CAN.TEC k 0
        |> wrI d CAN_STATUS.TEC k 0 |> wrI d CAN_STATUS.REC k 0 |> wrI d CAN_STATUS.TX_DEPTH k 0)
    |> onPort y (fun q => { q with fifo := [[], [], [], []] })
    |> outputsApply d |> portOk y
    |> (fun q => wr d ETH_SW_STATUS.VLANS ((List.range 64).filter (fun k => rdI q d ETH_VLAN.VID k != 0)).length q)
    |> (fun q => wr d PTP_OC_STATUS.PORT_STATE (if rd q d PTP_CFG.OC_MODE = 0 then 3 else 4) q)
    |> forAll (List.range 4) (pulseArm y)

/-- A die other than a helm takes a layout. -/
def dieApply (l : Layout) (d : Die) (p : Pkg) : Pkg :=
  if !(running p d) then p
  else match d with
    | .pa => p |> portApply l .a |> loadSettings .pa
    | .pb => p |> portApply l .b |> loadSettings .pb
    | .sw => p |> putLy l .sw |> loadSettings .sw
    | .ga => p |> putLy l .ga |> loadSettings .ga
    | .gb => p |> putLy l .gb |> loadSettings .gb
    | .ld => p |> putLy l .ld |> loadSettings .ld
    | .ha => p
    | .hb => p

/-- What the receiving dies take of a layout's source table (R83, Tables 03-2 and 03-8): a row for each defined entry. -/
def srcRows (l : Layout) : List SrcMatch :=
  let q := putLy l .ha Pkg.reset
  let g := rdI q .ha
  ((List.range 64).filter (fun n => g CFL_SRC.KIND n != 0)).map (fun n =>
    ⟨n, g CFL_SRC.STAMP n, g CFL_SRC.LATENCY n, g CFL_SRC.TICK_PS n, g CFL_SRC.DIE n, g CFL_SRC.PORT_TYPE n, g CFL_SRC.PORT_INDEX n,
      g CFL_SRC.MATCH_MASK n, g CFL_SRC.MATCH n⟩)

/-- Every die but the helms takes a layout, and the receiving dies its source table. -/
def diesApply (l : Layout) (p : Pkg) : Pkg := { p with matching := srcRows l, banks := l.banks } |> forAll allDies (dieApply l)
    |> (fun q => forAll (portsReached q) dispatcherConfig q)

/-- Where the image in force stands: a copy that the marker announces is not yet made (R435). -/
def currentBase (p : Pkg) : Nat := if flag p .sw I_LYT.MARKER then stagedBase else layoutBase

/-- The layout in force. -/
def currentLayout (m : List Host.Cell) (p : Pkg) : Layout := layoutOf (imageAt m (currentBase p))

/-- Show a hash in LYT_HASH or LYT_STAGED. -/
def showHash (F : Fld) (h : Nat) (p : Pkg) : Pkg := forAll (List.range 8) (fun k => wrI .sw F k (h / 2 ^ (32 * k) % 2 ^ 32)) p

/-! The settings of a new layout (R436). -/

/-- The records of the settings under a new layout: every word that exists under both keeps its value, a new region entry takes the
image's default, and the entries that no longer exist go. -/
def migrated (old : Option SettingsCopy) (oldRegions : List (Nat × Nat)) (l : Layout) : List (Nat × Nat) :=
  let base := match old with
    | some c => c.recs
    | none => storeDefaults
  let gone (a : Nat) : Bool := oldRegions.any (fun e => e.1 == a) && !(l.regions.any (fun e => e.1 == a))
  let fresh := l.regions.filter (fun e => old.isNone || !(oldRegions.any (fun o => o.1 == e.1)))
  fresh.foldl (fun r e => recPut e.1 e.2 r) (base.filter (fun e => !(gone e.1)))

/-- Write the migrated settings as PENDING to the copy not in use. -/
def storeMigrated (oldRegions : List (Nat × Nat)) (l : Layout) (p : Pkg) : Pkg :=
  let cur := copyInUse p.settings (hashNow p)
  let new : SettingsCopy := ⟨l.schema, l.hash, (rd p .sw LYT_GENERATION.GEN + 1) % 2 ^ 32, 0, migrated (cur.map p.settings.get) oldRegions l⟩
  { p with settings := p.settings.set (match cur with | some s => s.other | none => .a) new }

/-- The commit marker is written: the staged image is the current one from here on, and the migrated settings with it (R435). -/
def layoutCommit (l : Layout) (p : Pkg) : Pkg :=
  p |> wr .sw I_LYT.MARKER 1 |> wr .sw LYT_STATUS.MARKER 1 |> showHash LYT_HASH.HASH l.hash |> wr .sw LYT_SCHEMA.SCHEMA l.schema
    |> wr .sw LYT_STATUS.CURRENT_VALID 1 |> inc .sw LYT_APPLIED.V |> markPending 1

/-- The staged image is copied over the current one, and the marker clears. -/
def layoutCopy (lp : Ledger × Pkg) : Ledger × Pkg :=
  if flag lp.2 .sw I_LYT.MARKER && ledgerUp lp.2 then
    lp |> onMram (fun m => mramPut (mramClear m layoutBase layoutMax) layoutBase (imageAt m stagedBase))
      |> onPkg (fun p => p |> wr .sw I_LYT.MARKER 0 |> wr .sw LYT_STATUS.MARKER 0)
  else lp

/-! The requests (R426 to R429, R433, R412). -/

/-- A request on the staged image is refused while a structural change runs (Table 16-5) and while the ledger is out of reach. -/
def lytGuard (body : Ledger × Pkg → Served) (lp : Ledger × Pkg) : Served :=
  if lytInProgress lp.2 then refuse (.other 0x31) lp else if !(ledgerUp lp.2) then refuse .storeDown lp else body lp

/-- LYT_BEGIN: the staged region is cleared. -/
def lytBegin (r : Req) (b : List Nat) (lp : Ledger × Pkg) : Ledger × Pkg :=
  manage r 0x0300 2 b false (fun lp =>
    if b.length ≠ 4 ∨ layoutMax < leNat b then refuse .malformed lp
    else lytGuard (fun lp =>
      (lp |> onMram (fun m => mramClear m stagedBase layoutMax)
        |> onPkg (fun p => p |> wr .sw I_LYT.LEN (leNat b) |> wr .sw LYT_STATUS.STAGED_VERIFIED 0 |> showHash LYT_STAGED.HASH 0), some okAns)) lp) lp

/-- LYT_DATA: part of the staged image. -/
def lytData (r : Req) (b : List Nat) (lp : Ledger × Pkg) : Ledger × Pkg :=
  manage r 0x0301 2 b false (fun lp =>
    if b.length < 5 ∨ 1284 < b.length ∨ rd lp.2 .sw I_LYT.LEN < leNat (b.take 4) + (b.length - 4) then refuse .malformed lp
    else lytGuard (fun lp => (onMram (fun m => mramPut m (stagedBase + leNat (b.take 4)) (b.drop 4)) lp, some okAns)) lp) lp

/-- LYT_VERIFY (R427): the long operation begins. -/
def lytVerifyStart (r : Req) (b : List Nat) (lp : Ledger × Pkg) : Ledger × Pkg :=
  if commitWaits lp.2 then lp
  else manage r 0x0302 2 b false (fun lp =>
    if b ≠ [] then refuse .malformed lp
    else lytGuard (fun lp => (onPkg (fun p => p |> busyStart 2 r.slot |> wr .sw I_LYT.VERIFYING 1) lp, none)) lp) lp

/-- LYT_VERIFY_DONE (R427): the checks end. -/
def lytVerifyDone (lp : Ledger × Pkg) : Ledger × Pkg :=
  let p := lp.2
  if !(running p .sw) || !(flag p .sw I_LYT.VERIFYING) then lp
  else
    let p := p |> wr .sw I_LYT.VERIFYING 0 |> busyEnd 2
    if !(ledgerUp p) then (lp.1, answerOp 0x0302 (.storeDown, []) p)
    else
      let b := mramRead lp.1.mram stagedBase (rd p .sw I_LYT.LEN)
      match lytVerify p b (rd p .sw I_LYT.LEN) with
      | none =>
        (lp.1, p |> wr .sw LYT_STATUS.STAGED_VERIFIED 1 |> showHash LYT_STAGED.HASH (imageHash b) |> wr .sw LYT_FAIL.STEP 0 |> wr .sw LYT_FAIL.SECTION 0
          |> wr .sw LYT_FAIL.OFFSET 0 |> raise .sw clsInfo LYT_EVENT.VERIFIED |> answerOp 0x0302 (.ok, leBytes 32 (imageHash b)))
      | some f =>
        (lp.1, p |> wr .sw LYT_STATUS.STAGED_VERIFIED 0 |> wr .sw LYT_FAIL.STEP f.1 |> wr .sw LYT_FAIL.SECTION f.2.1 |> wr .sw LYT_FAIL.OFFSET f.2.2
          |> inc .sw LYT_FAILS.V |> raise .sw clsWarning LYT_EVENT.INVALID |> answerOp 0x0302 (.other 0x30, []))

/-- Apply the staged image with no lane ACTIVE (R429): every die at once; the lanes restart. -/
def applyAll (lp : Ledger × Pkg) : Ledger × Pkg :=
  let l := layoutOf (imageAt lp.1.mram stagedBase)
  let old := (currentLayout lp.1.mram lp.2).regions
  onPkg (fun p => p |> storeMigrated old l |> layoutCommit l |> diesApply l |> clearLane .a |> clearLane .b |> wr .sw I_LYT.BOOT 3) lp

/-- LYT_APPLY (R428 to R430). -/
def lytApply (r : Req) (b : List Nat) (lp : Ledger × Pkg) : Ledger × Pkg :=
  if commitWaits lp.2 then lp
  else manage r 0x0303 2 b false (fun lp =>
    let p := lp.2
    let staged := leNat ((List.range 8).flatMap (fun k => leBytes 4 (rdI p .sw LYT_STAGED.HASH k)))
    if b.length ≠ 32 then refuse .malformed lp
    else if !(flag p .sw LYT_STATUS.STAGED_VERIFIED) ∨ staged ≠ leNat b then refuse (.other 0x32) lp
    else if lytInProgress p then refuse (.other 0x31) lp
    else if drillInProgress p || updInProgress p || swapPending p then refuse .resourceHeld lp
    else if !(ledgerUp p) then refuse .storeDown lp
    else match activeLane p with
      | none => (applyAll lp, some okAns)
      | some x =>
        if laneState p x.other ≠ 3 then refuse .standbyNotReady lp
        else (onPkg (fun p => p |> holdoffsZero |> wr .sw LYT_STATUS.PHASE 1 |> wr .sw LYT_STATUS.TARGET_B x.other.num |> busyStart 1 r.slot) lp, some okAns)) lp

/-- MIGRATE_DONE (R430): the settings are PENDING, the image is with the standby, and the standby restarts on it. -/
def migrateDone (lp : Ledger × Pkg) : Ledger × Pkg :=
  let p := lp.2
  if rd p .sw LYT_STATUS.PHASE ≠ 1 || !(ledgerUp p) then lp
  else
    let y := sideOf (rd p .sw LYT_STATUS.TARGET_B)
    let l := layoutOf (imageAt lp.1.mram stagedBase)
    let old := (currentLayout lp.1.mram p).regions
    onPkg (fun p => p |> storeMigrated old l |> busyEnd 1 |> wr .sw LYT_STATUS.PHASE 2 |> wr .sw I_LYT.AT (now p .sw)
      |> wr .sw LYT_STATUS.SETTLE_LEFT (rd p .sw LYT_CFG.LYT_SETTLE) |> clearLane y) lp

/-- The structural change ends as failed (R433): a swap for the handover that waits is dropped. -/
def lytFail (p : Pkg) : Pkg :=
  let drop (x : Side) (q : Pkg) : Pkg := onlyIf (rd q x.helm I_LANE.SWAP_CAUSE == 12) (wr x.helm I_LANE.SWAP_CAUSE 0) q
  { p with taken := none } |> drop .a |> drop .b |> busyEnd 1 |> failStructural

/-- LYT_ABORT (R433). -/
def lytAbort (r : Req) (b : List Nat) (lp : Ledger × Pkg) : Ledger × Pkg :=
  manage r 0x0304 2 b (rd lp.2 .sw HST_STATUS.BUSY_OP == 1 && rd lp.2 .sw I_HST.BUSY_SLOT == r.slot) (atOnce (fun p =>
    if b ≠ [] then ((.malformed, []), p)
    else match rd p .sw LYT_STATUS.PHASE with
      | 0 => (okAns, p)
      | 5 => ((.other 0x31, []), p)
      | _ => (okAns, lytFail p))) lp

/-- LYT_EXPORT (R412): the current or the staged image goes out. -/
def lytExport (r : Req) (b : List Nat) (lp : Ledger × Pkg) : Ledger × Pkg :=
  manage r 0x0305 0 b false (fun lp =>
    if b ≠ [0] ∧ b ≠ [1] then refuse .malformed lp
    else if !(ledgerUp lp.2) then refuse .storeDown lp
    else if (xferOf lp.2 r.slot).isSome then refuse .resourceHeld lp
    else
      let img := if b = [0] then imageAt lp.1.mram (currentBase lp.2) else mramRead lp.1.mram stagedBase (rd lp.2 .sw I_LYT.LEN)
      (onPkg (xferStart r.slot 0 none img) lp, some okAns)) lp

/-! The structural change (R430 to R434). -/

/-- The lane is separate from its partner that is ACTIVE: restructured, or on trial with another copy format (R430, Table 18-6). -/
def separate (p : Pkg) (y : Side) : Bool :=
  isActive p y.other && decide (2 ≤ laneState p y) &&
    (((rd p .sw LYT_STATUS.PHASE == 3 || rd p .sw LYT_STATUS.PHASE == 4) && rd p .sw LYT_STATUS.TARGET_B == y.num) ||
      (slotState p y == 4 && rd p y.helm I_LANE.COPY_FORMAT != rd p y.other.helm I_LANE.COPY_FORMAT))

/-- What the active lane sends of its mode state, in geodetic form (R430 step 2). -/
def takenOf (p : Pkg) (y : Side) : Taken :=
  let x := y.other
  let l := p.lanes.get x
  { lane := y.num, mode := modeOf p x, slot := rd p x.helm SP_STATUS.CMD_SLOT, held := rd p x.helm I_MODE.OUT_HELD
    lat := rd p x.helm EST_DATUM_LAT.DEG, lon := rd p x.helm EST_DATUM_LON.DEG, target := l.ramp.targetPoint, heading := l.ramp.h.target
    waypoints := l.waypoints, wpIndex := rd p x.helm SP_STATUS.WP_INDEX, thrMan := l.thrMan, thrAngleHeld := l.thrAngleHeld, joy := l.joy }

/-- A lane takes that mode state: it converts it to its own datum, and every ramp axis starts as R143 says toward the targets (R431). -/
def enterTaken (y : Side) (tb : Int) (t : Taken) (p : Pkg) : Pkg :=
  let d := y.helm
  let s := vget (Config.geoToNed (rd p d EST_DATUM_LAT.DEG) (rd p d EST_DATUM_LON.DEG) t.lat t.lon 0)
  let m := t.mode
  let g := vget (p.lanes.get y).est.x
  let lh := limH p y
  let p := p |> solverModeEdge d (modeOf p y) m |> wr d SP_STATUS.MODE m |> wr d SP_STATUS.CMD_SLOT t.slot |> wr d I_MODE.OUT_HELD t.held
    |> onlyIf (modeOf p y != m) (raise d clsInfo SP_EVENT.MODE_CHANGED)
    |> onLane y (fun l => { l with waypoints := t.waypoints.map (fun w => { w with n := fadd w.n (s 0), e := fadd w.e (s 1) })
                                   thrMan := t.thrMan, thrAngleHeld := t.thrAngleHeld, joy := t.joy })
  let p := if hasH m then onRamp y (fun r => { r with h := planAxis lh lh.v epsH tb ⟨g 2, g 5, 0⟩ (nearAngle (g 2) t.heading) }) p else p
  let p := if m = 5 then
      startLeg y t.wpIndex tb (estPoint p y false) (vget (pathDist 0 (p.lanes.get y).waypoints) (t.wpIndex - 1)) p
    else if hasLC m then
      onRamp y (fun r => r.toPoint (limL p y) tb (estPoint p y (m == 6)) (fadd (vget t.target 0) (s 0)) (fadd (vget t.target 1) (s 1))) p
    else p
  showWaypoints y p

/-- The boundary of a separate lane: it takes a mode state that has changed. -/
def followTaken (y : Side) (p : Pkg) : Pkg :=
  if !(separate p y) then p
  else
    let t := takenOf p y
    if p.taken = some t then p else enterTaken y (now p y.helm) t { p with taken := some t }

/-- The conditions of LYT_READY that must have held for LYT_SETTLE: the estimator CONVERGED, every tick completed (R430). -/
def settles (p : Pkg) (y : Side) : Bool :=
  rd p y.helm EST_STATUS.PHASE == 2 && decide (min 255 (cycleMs p y) ≤ rd p y.helm I_LANE.TICKS_RUN)

/-- What must have held for UPD_SETTLE in the last rows of Table 18-6: with copies, the copies current, the last 10 solver runs OPTIMAL and
every tick completed; without, the estimator CONVERGED and every tick completed. -/
def provesItself (p : Pkg) (y : Side) : Bool :=
  let d := y.helm
  if takesCopies p y then
    decide (10 ≤ rd p d SOL_CONSEC.OPT_RUN) && decide (min 255 (cycleMs p y) ≤ rd p d I_LANE.TICKS_RUN) &&
      flag p d LEAT_STATUS.TICK_CURRENT && flag p d LEAT_STATUS.CYCLE_CURRENT
  else settles p y

/-- The time for which those conditions have held. -/
def settleCount (y : Side) (p : Pkg) : Pkg :=
  let d := y.helm
  let lyt := rd p .sw LYT_STATUS.PHASE == 3 && rd p .sw LYT_STATUS.TARGET_B == y.num
  if !(laneUp p y) || !(lyt || slotState p y == 4) then p
  else
    let t := if (if lyt then settles p y else provesItself p y) then rd p d I_LANE.READY_TICKS + cycleMs p y else 0
    p |> wr d I_LANE.READY_TICKS t |> onlyIf lyt (wr .sw LYT_STATUS.SETTLE_LEFT ((rd p .sw LYT_CFG.LYT_SETTLE * 1000 - t + 999) / 1000))

/-- VESSEL_CYCLE_BOUNDARY (R28): the lanes' boundaries, what a separate lane takes, and the copy a commit marker announces. -/
def boundaryAll (lp : Ledger × Pkg) : Ledger × Pkg :=
  let own (x : Side) : Pkg → Pkg := onlyIf (atBoundary lp.2 x) (fun q => q |> followTaken x |> settleCount x)
  layoutCopy (onPkg (fun p => p |> vesselCycleBoundary |> own .a |> own .b) lp)

/-- LYT_READY (R430 steps 3 and 4, R432): the lane arms, and the handover is asked for. -/
def lytReady (p : Pkg) : Pkg :=
  let y := sideOf (rd p .sw LYT_STATUS.TARGET_B)
  let ph := rd p .sw LYT_STATUS.PHASE
  let ask (q : Pkg) : Pkg := if isActive q y.other && !(swapPending q) && running q .sw then requestSwap y.other 12 q else q
  if ph = 4 then ask p
  else if ph ≠ 3 ∨ rd p y.helm I_LANE.READY_TICKS < rd p .sw LYT_CFG.LYT_SETTLE * 1000 ∨ rd p y.helm SOL_CONSEC.OPT_RUN < 10 then p
  else p |> wr .sw LYT_STATUS.PHASE 4 |> wr .sw LYT_STATUS.SETTLE_LEFT 0 |> wr y.helm I_LANE.LYT_RDY 1 |> raise .sw clsInfo LYT_EVENT.READY
    |> arm y |> ask

/-- LYT_CONV_TIMEOUT (R433). -/
def lytConvTimeout (p : Pkg) : Pkg :=
  let ph := rd p .sw LYT_STATUS.PHASE
  if running p .sw ∧ (ph = 2 ∨ ph = 3) ∧ rd p .sw I_LYT.AT + rd p .sw LYT_CFG.LYT_CONV_MAX * 1000000000 ≤ now p .sw then lytFail p else p

/-- The handover (R431, R435, R430 step 5): the new layout is committed, every die takes it, and the old lane restarts on it. -/
def lytHandover (y : Side) (lp : Ledger × Pkg) : Ledger × Pkg :=
  let l := layoutOf (imageAt lp.1.mram stagedBase)
  onPkg (fun p => p |> wr .sw LYT_STATUS.PHASE 5 |> wr y.helm I_LANE.LYT_RDY 0 |> wr y.helm I_LANE.RESTART_ALL 1
    |> onlyIf (ledgerUp p) (layoutCommit l) |> diesApply l |> clearLane y.other) lp

/-- The mode state that a lane separate until now takes at its grant (R431). -/
def takeAtGrant (y : Side) (p : Pkg) : Pkg :=
  match p.taken with
  | none => p
  | some t =>
    if t.lane ≠ y.num then { p with taken := none }
    else
      let d := y.helm
      enterTaken y (now p d) t { p with taken := none } |> wr d I_SOL.FROM_FB 1 |> wr d I_SOL.COLD 1 |> wr d I_SOL.HAVE_PREV 0
        |> wr d SOL_CONSEC.NOT_OPT_RUN 0 |> wr d SOL_CONSEC.OPT_RUN 0 |> wr d I_LANE.RESTART_ALL 1

/-- What follows a grant between two states of the package: a lane that was separate takes over as R431 says. -/
def grantsFollow (p q : Pkg) (lp : Ledger × Pkg) : Ledger × Pkg :=
  let gained (y : Side) : Bool := !(isActive p y) && isActive q y
  let hand (y : Side) : Bool := gained y && rd p .sw LYT_STATUS.PHASE == 4 && rd p .sw LYT_STATUS.TARGET_B == y.num
  let take (y : Side) (u : Pkg) : Pkg := if gained y then takeAtGrant y u else u
  let lp := (lp.1, q |> take .a |> take .b)
  if hand .a then lytHandover .a lp else if hand .b then lytHandover .b lp else lp

/-- HEADGATE_LINE_CHANGE (R37, R431, R435): the arbiters act. -/
def lineChange (x : Side) (low : Bool) (lp : Ledger × Pkg) : Ledger × Pkg := grantsFollow lp.2 (headgateLineChange x low lp.2) lp

/-! The first apply, and a port die that starts later (R479, R429, R513). -/

/-- FIRST_APPLY (R429, R479): the checked image goes to every die, and the lanes that wait in STARTING start on it. -/
def firstApply (lp : Ledger × Pkg) : Ledger × Pkg :=
  let p := lp.2
  if !(running p .sw) || rd p .sw I_LYT.BOOT != 1 || decide (now p .sw < rd p .sw I_LYT.APPLY_AT) then lp
  else
    let l := currentLayout lp.1.mram p
    let lane (x : Side) (q : Pkg) : Pkg :=
      if running q x.helm ∧ laneState q x = 1 then q |> laneApply l x |> loadSettings x.helm |> laneUpNow x else q
    (lp.1, p |> wr .sw I_LYT.BOOT 3 |> wr .sw LYT_STATUS.CURRENT_VALID 1 |> diesApply l |> lane .a |> lane .b)

/-- The steward can send a die its layout; without it, the die can read the ledger itself and the active helm confirms the hash (R441,
R513). -/
def layoutFor (m : List Host.Cell) (p : Pkg) (d : Die) : Option Layout :=
  let l := currentLayout m p
  let silent := !(running p .sw) || flag p .pa I_DIE.STEWARD_SILENT || flag p .pb I_DIE.STEWARD_SILENT || !(reaches p .sw d)
  if !silent then (if flag p .sw LYT_STATUS.CURRENT_VALID then some l else none)
  else match activeLane p with
    | some x => if ledgerFrom p d && reaches p x.helm d && rd p x.helm I_LANE.LAYOUT_HASH == l.hash then some l else none
    | none => none

/-- PORT_DIE_RESTART (R513, R33): a port die that left reset while the package runs takes the current layout, and its arbiter starts. -/
def portDieRestart (y : Side) (lp : Ledger × Pkg) : Ledger × Pkg :=
  let p := lp.2
  let d := y.port
  if !(running p d) || !(flag p d I_PORT.ARB_HELD) then lp
  else match layoutFor lp.1.mram p d with
    | none => lp
    | some l =>
      let q := p |> portApply l y |> loadSettings d |> wr d I_PORT.ARB_HELD 0 |> arbiterStep y
      grantsFollow q (authorityStep q) lp

/-! The commands of the table: one meaning each. -/

/-- HEADGATE_LINE_CHANGE (R37). -/
def execHeadgateLineChange (x : Side) (low : Bool) (s : State) : Host.Outcome State Fault Refusal := nextLp s (lineChange x low)

/-- PORT_DIE_RESTART (R513). -/
def execPortDieRestart (y : Side) (s : State) : Host.Outcome State Fault Refusal := nextLp s (portDieRestart y)

/-- LYT_BEGIN (R427). -/
def execLytBegin (r : Req) (b : List Nat) (s : State) : Host.Outcome State Fault Refusal := nextLp s (lytBegin r b)

/-- LYT_DATA (R426). -/
def execLytData (r : Req) (b : List Nat) (s : State) : Host.Outcome State Fault Refusal := nextLp s (lytData r b)

/-- LYT_VERIFY (R427). -/
def execLytVerify (r : Req) (b : List Nat) (s : State) : Host.Outcome State Fault Refusal := nextLp s (lytVerifyStart r b)

/-- LYT_APPLY (R428). -/
def execLytApply (r : Req) (b : List Nat) (s : State) : Host.Outcome State Fault Refusal := nextLp s (lytApply r b)

/-- LYT_ABORT (R433). -/
def execLytAbort (r : Req) (b : List Nat) (s : State) : Host.Outcome State Fault Refusal := nextLp s (lytAbort r b)

/-- LYT_EXPORT (R412). -/
def execLytExport (r : Req) (b : List Nat) (s : State) : Host.Outcome State Fault Refusal := nextLp s (lytExport r b)

/-- VESSEL_CYCLE_BOUNDARY (R28). -/
def execVesselCycleBoundary (s : State) : Host.Outcome State Fault Refusal := nextLp s boundaryAll

/-- LYT_VERIFY_DONE (R427). -/
def execLytVerifyDone (s : State) : Host.Outcome State Fault Refusal := nextLp s lytVerifyDone

/-- MIGRATE_DONE (R430). -/
def execMigrateDone (s : State) : Host.Outcome State Fault Refusal := nextLp s migrateDone

/-- LYT_READY (R430). -/
def execLytReady (s : State) : Host.Outcome State Fault Refusal := nextPk s lytReady

/-- LYT_CONV_TIMEOUT (R433). -/
def execLytConvTimeout (s : State) : Host.Outcome State Fault Refusal := nextPk s lytConvTimeout

/-- FIRST_APPLY (R429). -/
def execFirstApply (s : State) : Host.Outcome State Fault Refusal := nextLp s firstApply

end Sys2Proof.Machine
end

