-- ==== Sys2Proof/Machine/Steward.lean ====
section
/-! DEFINITION. Chapter 17: a steward that stops and restarts, rails, temperatures and currents, the health and log requests. -/

namespace Sys2Proof.Machine

/-! A steward that stops (R438 to R440, R472). -/

/-- STEWARD_HEARTBEAT at a port die (R438): the die sees the steward again. -/
def beatAt (y : Side) (p : Pkg) : Pkg :=
  let d := y.port
  if running p d && reaches p .sw d then
    p |> wr d I_PORT.BEAT_AT (now p d) |> wr d I_DIE.STEWARD_SILENT 0 |> wr d I_PORT.ANNOUNCED 0 |> wr d I_PORT.GAP_LOGGED 0
  else p

/-- The slot that is in TRIAL: its number, 3 for none. -/
def trialSlot (p : Pkg) : Nat :=
  if slotState p .a = 4 then 0 else if slotState p .b = 4 then 1 else if rd p .sw UPD_SLOT_SW.STATE = 4 then 2 else 3

/-- End of a slot's confirm window, ns (R460). -/
def trialEnd (p : Pkg) (t : Nat) : Nat := rdI p .sw I_UPD.TRIAL_AT t + rd p .sw UPD_CFG.CONFIRM_MIN * 60000000000

/-- UPD_TRIAL_LEFT shows the seconds left in the confirm window. -/
def trialShow (p : Pkg) : Pkg :=
  let t := trialSlot p
  wr .sw UPD_TRIAL_LEFT.SECONDS (if t = 3 then 0 else (trialEnd p t - now p .sw + 999999999) / 1000000000) p

/-- A lane that cannot become eligible: DOWN, LOCKED_OUT, DRILL_FAIL, BAD or inhibited (Table 19-2). -/
def laneOut (p : Pkg) (x : Side) : Bool :=
  !(running p x.helm) || laneState p x == 0 || laneState p x == 5 || flag p x.helm HG_STATUS.DRILL_FAIL || inhibited p x ||
    flag p .sw (match x with | .a => UPD_SLOT_A.BAD | .b => UPD_SLOT_B.BAD)

/-- The code of STAT[3:0]: the first of Table 19-2 whose condition holds (R381, R487). -/
def statCode (p : Pkg) : Nat :=
  match allDies.find? (fun d => rd p d I_CLK.STAT != 0) with
  | some d => rd p d I_CLK.STAT
  | none =>
    if flag p .sw I_STW.WAIT_LEDGER then 0xE
    else if flag p .sw I_PKG.RESET_LOW || flag p .sw I_PKG.PG_WAIT || allDies.any (fun d => rd p d I_DIE.RUN == 1) then 0x5
    else if flag p .sw STW_STATUS.ROM_SERVICE then 0x7
    else if bit (rd p .sw I_PKG.STRAPS) 1 then 0xF
    else if rd p .sw I_DIE.RUN = 3 then 0x6
    else match activeLane p with
      | some x => if flag p x.helm I_MODE.OUT_HELD then 0xC else 0x0
      | none =>
        if flag p .sw I_STW.POWER_UP || slotState p .a == 6 || slotState p .b == 6 then 0x8
        else if rd p .sw I_LYT.BOOT < 2 then 0x9
        else if rd p .sw I_LYT.BOOT = 2 then 0xA
        else if laneOut p .a && laneOut p .b then 0xD
        else 0xB

/-- The reset sequencer drives STAT while its die has its rails; a steward that has fallen silent leaves the last value (R487). -/
def showStat (p : Pkg) : Pkg :=
  if !(flag p .sw I_DIE.RAIL_BAD) && (running p .sw || flag p .sw I_STW.POWER_UP) then wr .sw I_PKG.STAT (statCode p) p else p

/-- STEWARD_HEARTBEAT (R438); the model refreshes STAT with it. -/
def heartbeat (p : Pkg) : Pkg := if running p .sw then p |> beatAt .a |> beatAt .b |> trialShow |> showStat else p

/-- The die is inside the 3 s of an announced restart (R472). -/
def inAnnouncement (p : Pkg) (d : Die) : Bool := flag p d I_PORT.ANNOUNCED && decide (now p d < rd p d I_PORT.ANNOUNCED_AT + 3000000000)

/-- The port die marks the steward SILENT, pulls NME_OUT_N low and writes the record (R438). -/
def markSilent (d : Die) (p : Pkg) : Pkg :=
  p |> wr d I_DIE.STEWARD_SILENT 1 |> wr d I_PORT.ANNOUNCED 0 |> wr d I_PORT.GAP_LOGGED 0 |> logAt d (eventCode clsWarning 0 39) .unstated

/-- STEWARD_SILENT (R438, R472): 10 ms without a heartbeat. During an announced restart the die logs STEWARD_RESTART instead, once. -/
def stewardSilent (y : Side) (p : Pkg) : Pkg :=
  let d := y.port
  if !(running p d) || flag p d I_DIE.STEWARD_SILENT || decide (now p d < rd p d I_PORT.BEAT_AT + 10000000) then p
  else if inAnnouncement p d then
    if flag p d I_PORT.GAP_LOGGED then p else p |> wr d I_PORT.GAP_LOGGED 1 |> logAt d (eventCode clsInfo 0 42) .unstated
  else markSilent d p

/-- STEWARD_RESTART_WINDOW (R472): 3 s after the announcement without a heartbeat, the die acts under R438. -/
def restartWindow (y : Side) (p : Pkg) : Pkg :=
  let d := y.port
  if running p d && flag p d I_PORT.ANNOUNCED && !(inAnnouncement p d) && !(flag p d I_DIE.STEWARD_SILENT) then markSilent d p else p

/-- Fields of the register map, by the block of their address. -/
def idsOfBlocks (blocks : List Nat) : List Nat :=
  regRows.flatMap (fun r => (r.flds.filter (fun F => blocks.contains (F.off / 65536))).map (fun F => F.id))

/-- Fields of the steward that keep their value through a loss of power: those the journal, the settings store, the health page, the
ring's end and OTP hold (R71, R398, R446, R451, R455, R467). -/
def storedSw : List Fld :=
  [UPD_STATUS.TARGET, UPD_STATUS.IN_PROGRESS, UPD_STATUS.VERIFIED, UPD_STATUS.BLOCKS, UPD_SLOT_A.STATE, UPD_SLOT_A.RESTORED, UPD_SLOT_A.BAD,
    UPD_SLOT_A.SECURITY_VERSION, UPD_SLOT_B.STATE, UPD_SLOT_B.RESTORED, UPD_SLOT_B.BAD, UPD_SLOT_B.SECURITY_VERSION, UPD_SLOT_SW.STATE,
    UPD_SLOT_SW.RESTORED, UPD_SLOT_SW.BAD, UPD_SLOT_SW.SECURITY_VERSION, UPD_VERSION_A.VERSION, UPD_VERSION_B.VERSION, UPD_VERSION_SW.VERSION,
    UPD_FLOOR.LANE, UPD_FLOOR.STEWARD, LOG_NEXT.NEXT, LOG_MARK.MARK, STW_RET.DIE, STW_RET.KIND, STW_RET.INDEX, STW_RET.SPARED,
    STW_RET.SELFTEST, STW_RET.WHEN, I_RET.COUNT, I_KEY.KEY_ID, I_KEY.ROLE, I_KEY.KEYED, I_HST.PSK, I_LOG.EPOCH, I_LOG.STAMP,
    I_LOG.DIE, I_LOG.SEQ, I_LYT.MARKER, I_OTP.LYT_KEY, I_OTP.LYT_KEYS, I_RET.CLEAR, I_UPD.LEN, I_UPD.SRC, I_UPD.BITMAP, I_UPD.HASH, I_UPD.DET,
    I_UPD.TRIAL_AT, I_UPD.WD_RESETS]

/-- What the steward's SRAM holds beside registers: gone when its firmware stops. -/
def stewardSram : List Fld :=
  [I_HST.BUSY_SLOT, I_HST.NONCE, I_HST.IDLE_LAST, I_TXN.AT, I_LYT.LEN, I_LYT.VERIFYING, I_UPD.VERIFYING, I_STW.TEMP_WARN, I_STW.TEMP_CRIT]

/-- Register fields of SW that a restart of its firmware does not touch: its clocks and time, the update and layout blocks, what is
stored. -/
def stewardKeeps : List Nat := idsOfBlocks [2, 3, 7, 8] ++ storedSw.map (fun F => F.id)

/-- The steward's firmware stops and its boot ROM runs (R440, R472): what its SRAM holds is lost, its intake with it. The dies keep a
transaction whose apply they have been ordered (R420); a capture that was leaving stays held. -/
def stewardStop (p : Pkg) : Pkg :=
  let keep := stewardKeeps
  let drop := stewardSram.map (fun F => F.id)
  let gone (c : Nat × Nat) : Bool :=
    let i := c.1 / 524288
    decide (c.1 / 65536 % 8 = 0) && ((decide (regSysIds.1 ≤ i) && decide (i < regSysIds.2) && !(keep.contains i)) || drop.contains i)
  { p with regs := p.regs.filter (fun c => !(gone c)), intake := ⟨[], [], []⟩, xfers := [], parts := []
           txn := if p.txn.ordered then { p.txn with req := none } else Txn.none
           nhp := { p.nhp with answered := [], queue := [], later := [], latched := [], staged := [] } }
    |> wr .sw I_DIE.RUN 3 |> wr .sw LYT_STATUS.STAGED_VERIFIED 0 |> showHash LYT_STAGED.HASH 0
    |> forAll [Die.ga, .gb] (fun d => wr d GNS_SNAP_STATUS.EXPORTING 0)

/-- STEWARD_WATCHDOG (R440, R472): the watchdog resets the steward, counted while its image is on trial. -/
def stewardWatchdog (p : Pkg) : Pkg :=
  if !(running p .sw) then p
  else p |> onlyIf (rd p .sw UPD_SLOT_SW.STATE == 4) (wr .sw I_UPD.WD_RESETS (min 2 (rd p .sw I_UPD.WD_RESETS + 1))) |> stewardStop

/-- STW_LINK shows the links as the culvert has them, and the links that the retirement list names. -/
def linksShow (p : Pkg) : Pkg :=
  let retired (i : Nat) : Bool := (List.range (min 64 (rd p .sw I_RET.COUNT))).any
    (fun j => rdI p .sw STW_RET.KIND j == 6 && rdI p .sw STW_RET.INDEX j == i)
  forAll (List.range 9) (fun l => wrI .sw STW_LINK.STATE l
    (b2n (linkUp p l false) + 2 * b2n (l != 8 && linkUp p l true) + 4 * b2n (retired (2 * l)) + 8 * b2n (l != 8 && retired (2 * l + 1)))) p

/-- The session table of a slot as the dispatchers hold it (R440). -/
def rebuildSlot (slot : Nat) (p : Pkg) : Pkg :=
  let d := if dieHolds p .a slot && reaches p .sw .pa then Die.pa else .pb
  if !(flagI p d I_HST.OPEN slot) || !(running p d) || !(reaches p .sw d) then p
  else
    p |> wrI .sw HST_SLOT.OPEN slot 1 |> wr .sw HST_STATUS.OPEN (Nat.lor (rd p .sw HST_STATUS.OPEN) (2 ^ slot)) |> wrI .sw I_HST.KEY slot (rdI p d I_HST.KEY slot)
      |> wrI .sw HST_SESS.SESSION_ID slot (rdI p d I_HST.SESS slot) |> wrI .sw HST_SESS.PEER_DIE slot d.num
      |> wrI .sw HST_SESS.FLAGS slot (rdI p d I_HST.PEER_V6 slot) |> wrI .sw HST_SESS.PEER_PORT slot (rdI p d I_HST.PEER_PORT slot)
      |> wrI .sw HST_SESS.HOST_CTR slot (rdI p d I_HST.HIGH slot - 1) |> wrI .sw I_HST.IDLE_LAST slot (rdI p d I_HST.LAST slot)

/-- A settings copy is PENDING. -/
def pendingCopy (p : Pkg) : Bool := p.settings.a.state == 0 || p.settings.b.state == 0

/-- What is marked PENDING when the steward starts is marked VOID, and the failure is recorded; a structural change whose migrated
settings it was ends as failed (R420, R433, R435). -/
def voidAtStart (p : Pkg) : Pkg :=
  let ph := rd p .sw LYT_STATUS.PHASE
  if !(pendingCopy p) then p
  else p |> markPending 2 |> (if 1 ≤ ph ∧ ph ≤ 4 then lytFail else raise .sw clsWarning TXN_EVENT.APPLY_FAIL)

/-! Rails, temperatures and currents (R442, R443). -/

/-- Nominal value of a rail in mV; a VDDIO bank's is the PORTS section's (Table 17-7). -/
def railNominal (p : Pkg) (r : Nat) : Option Nat := ([750, 750, 800, 850, 1200, 900, 1800, 1800, 1800] ++ p.banks)[r]?

/-- One band of a rail: its flag moves after 10 means in a row on the other side. -/
def railBand (out : Bool) (F R E : Fld) (r : Nat) (p : Pkg) : Pkg :=
  if out = flagI p .sw F r then wrI .sw R r 0 p
  else if rdI p .sw R r + 1 < 10 then incI .sw R r p
  else p |> wrI .sw R r 0 |> wrI .sw F r (b2n out) |> onlyIf out (raiseWith .sw clsWarning E (.words [r])) |> surrChanged .sw

/-- RAIL_SAMPLE (R442): the mean of a rail over 1 ms, once a millisecond. -/
def railSample (r mv : Nat) (p : Pkg) : Pkg :=
  if !(running p .sw) || !(decide (r < 12)) || !(periodDue p .sw I_PWR.DUE r 1000000) then p
  else
    let p := p |> periodNext .sw I_PWR.DUE r 1000000 |> wrI .sw PWR_RAIL.MV r (min mv 65535)
    match railNominal p r with
    | none => p
    | some n =>
      let dev := ((mv : Int) - n).natAbs * 100
      p |> railBand (decide (n * rd p .sw PWR_CFG.RAIL_WARN < dev)) PWR_RAIL.WARN I_PWR.WARN_RUN PWR_EVENT.RAIL_WARN r
        |> railBand (decide (n * 5 < dev)) PWR_RAIL.FAULT I_PWR.FAULT_RUN PWR_EVENT.RAIL_FAULT r

/-- A threshold of a sensor: reached, or left by 2 °C (R443). -/
def tempState (was : Bool) (t : Int) (limit : Nat) : Bool := decide ((limit : Int) * 10 ≤ t) || (was && decide ((limit : Int) * 10 - 20 < t))

/-- The lane whose helm holds a sensor (Table 17-1). -/
def sensorLane (k : Nat) : Option Side := if 2 ≤ k ∧ k < 5 then some .a else if 5 ≤ k ∧ k < 8 then some .b else none

/-- A helm reads its own sensor, whether or not the steward runs: an ACTIVE lane logs that the condition begins (R443). -/
def helmSensor (x : Side) (j k : Nat) (t : Int) (p : Pkg) : Pkg :=
  let d := x.helm
  let hot := tempState (flagI p d I_DIE.HOT j) t (rd p d I_DIE.TEMP_CRIT)
  if !(running p d) then p
  else p |> onlyIf (hot && !(flagI p d I_DIE.HOT j) && isActive p x) (logAt d (eventCode clsWarning 0 1) (.words [k])) |> wrI d I_DIE.HOT j (b2n hot)

/-- TEMP_SAMPLE (R443): a sensor in 0.1 °C. A helm reads its own three, whether or not the steward runs. -/
def tempSample (k : Nat) (t : Int) (p : Pkg) : Pkg :=
  if 15 ≤ k then p
  else
    let d := (dieOf (rdI p .sw STW_TEMP.DIE k)).getD .sw
    let warn := tempState (flagI p .sw I_STW.TEMP_WARN k) t (rd p .sw STW_FAULT_CFG.TEMP_WARN)
    let crit := tempState (flagI p .sw I_STW.TEMP_CRIT k) t (rd p .sw STW_FAULT_CFG.TEMP_CRIT)
    let newWarn := warn && !(flagI p .sw I_STW.TEMP_WARN k)
    let newCrit := crit && !(flagI p .sw I_STW.TEMP_CRIT k)
    let p := match sensorLane k with
      | some x => helmSensor x (if k < 5 then k - 2 else k - 5) k t p
      | none => p
    if !(stewardReaches p d) || !(running p .sw) then p
    else
      p |> wrSI .sw STW_TEMP.TEMP k (clampInt t (-32768) 32767) |> wrSI .sw STW_TEMP.MAX k (max (rdSI p .sw STW_TEMP.MAX k) (clampInt (t / 10) (-128) 127))
        |> wrI .sw I_STW.TEMP_WARN k (b2n warn) |> wrI .sw I_STW.TEMP_CRIT k (b2n crit)
        |> onlyIf newWarn (raiseWith .sw clsWarning STW_EVENT.TEMP_WARN (.words [k])) |> onlyIf newCrit (raiseWith .sw clsWarning STW_EVENT.TEMP_CRIT (.words [k]))

/-- The limit of a rail's current in 10 mA, for the rails that have one (STW_CUR_WARN). -/
def currentLimit (p : Pkg) : Nat → Option Nat
  | 0 => some (rd p .sw STW_CUR_WARN.HELM)
  | 1 => some (rd p .sw STW_CUR_WARN.HELM)
  | 2 => some (rd p .sw STW_CUR_WARN.SOC)
  | _ => none

/-- CURRENT_SAMPLE (R443): a core current in 10 mA; the event rises when the current passes its limit. -/
def currentSample (r cur : Nat) (p : Pkg) : Pkg :=
  if !(running p .sw) || !(decide (r < 4)) then p
  else
    let high := match currentLimit p r with
      | some l => decide (l < cur)
      | none => false
    p |> wrI .sw PWR_RAIL.CURRENT r (min cur 65535) |> wrI .sw PWR_RAIL.CUR_MAX r (max (rdI p .sw PWR_RAIL.CUR_MAX r) (min cur 65535))
      |> onlyIf (high && !(flagI p .sw I_PWR.CUR_HIGH r)) (raiseWith .sw clsWarning STW_EVENT.CUR_WARN (.words [r])) |> wrI .sw I_PWR.CUR_HIGH r (b2n high)

/-! Faults of resources (R444 to R446). -/

/-- Dies that have a resource of a kind, and how many (Table 17-3). -/
def resourceExists (d : Die) (kind i : Nat) : Bool :=
  let helm := d == .ha || d == .hb
  let port := d == .pa || d == .pb
  match kind with
  | 0 => helm && decide (i < sramPages)
  | 1 => helm && decide (i < 272)
  | 2 => helm && decide (i < 9)
  | 3 => (d == .ga || d == .gb) && decide (i < 160)
  | 4 => port && decide (i < 5)
  | 5 => port && decide (i < 16)
  | 6 => decide (i < 18) && i != 17 && linkDie (i / 2) == d
  | 7 => helm && i == 0
  | _ => false

/-- BIST_FAIL of a resource that has one counts a failed self-test. -/
def bistCount (d : Die) (kind i : Nat) (p : Pkg) : Pkg :=
  match kind with
  | 1 => addSatI d LOOP_PHYS.BIST_FAIL i 1 p
  | 2 => incI d SOL_ENG.BIST_FAIL i p
  | 3 => addSatI d GNS_CHAN.BIST_FAIL i 1 p
  | _ => p

/-- RESOURCE_OCCURRENCE (R444). -/
def resourceOccurrence (d : Die) (kind i : Nat) (selftest : Bool) (p : Pkg) : Pkg :=
  if running p d && resourceExists d kind i then p |> onlyIf (selftest && !(resourceRetired p d kind i)) (bistCount d kind i) |> occurrence d kind i selftest
  else p

/-- Entries of the retirement list that name a resource. -/
def retEntry (p : Pkg) (d kind i : Nat) : Option Nat :=
  (List.range (min 64 (rd p .sw I_RET.COUNT))).find? (fun j => rdI p .sw STW_RET.DIE j == d && rdI p .sw STW_RET.KIND j == kind && rdI p .sw STW_RET.INDEX j == i)

/-! The requests of Table 17-9. -/

/-- Records from a number on, as the ring holds them, and how many of them fail their CHECK. -/
def ringRecords (m : List Host.Cell) (first : Nat) : Nat → List Nat × Nat
  | 0 => ([], 0)
  | n + 1 =>
    let b := mramRead m (ringBase + 64 * (first % ringSize)) 64
    let t := ringRecords m (first + 1) n
    (b ++ t.1, t.2 + b2n (leNat (b.drop 60) != crc32c (b.take 60)))

/-- LOG_EXPORT (R451, R412, R4): the records from a number on; the reply carries the unit serial. -/
def logExport (r : Req) (b : List Nat) (lp : Ledger × Pkg) : Ledger × Pkg :=
  manage r 0x0500 0 b false (fun lp =>
    let p := lp.2
    let next := rd p .sw LOG_NEXT.NEXT
    let first := max (leNat (b.take 4)) (next - ringSize)
    let n := min (leNat (b.drop 4)) (next - first)
    if b.length ≠ 6 ∨ leNat (b.drop 4) = 0 ∨ 4096 < leNat (b.drop 4) then refuse .malformed lp
    else if !(ledgerUp p) then refuse .storeDown lp
    else if (xferOf p r.slot).isSome then refuse .resourceHeld lp
    else
      let t := ringRecords lp.1.mram first n
      ((lp.1, p |> wr .sw LOG_CRC_ERR.V (rd p .sw LOG_CRC_ERR.V + t.2) |> xferStart r.slot 0 none t.1), some (.ok, padTo 6 Config.unitSerial))) lp

/-- LOG_MARK (R452). -/
def logMark (r : Req) (b : List Nat) (lp : Ledger × Pkg) : Ledger × Pkg :=
  manage r 0x0501 2 b false (fun lp =>
    if b.length ≠ 4 then refuse .malformed lp
    else if !(ledgerUp lp.2) then refuse .storeDown lp
    else ((lp.1, wr .sw LOG_MARK.MARK (leNat b) lp.2), some okAns)) lp

/-- NME_ACK (R439): CLK_CTRL.NME_ACK of the die is written, and its other NME events clear. -/
def nmeAck (r : Req) (b : List Nat) (lp : Ledger × Pkg) : Ledger × Pkg :=
  manage r 0x0510 2 b false (atOnce (fun p =>
    match b with
    | [n] =>
      match dieOf n with
      | none => ((.malformed, []), p)
      | some d =>
        if !(stewardReaches p d) then ((.dieDown, []), accessFault .sw r.slot (keyId p r.slot) CLK_CTRL.NME_ACK.off p)
        else (okAns, p |> clkNmeAck d |> wr d I_DIE.NME 0 |> nmeShow)
    | _ => ((.malformed, []), p))) lp

/-- RETIRE_CLEAR (R446): the entry is marked; the resource comes back at the next start of its die, if its self-test passes. -/
def retireClear (r : Req) (b : List Nat) (lp : Ledger × Pkg) : Ledger × Pkg :=
  manage r 0x0520 3 b false (fun lp =>
    let d := b.getD 0 0
    let kind := b.getD 1 0
    if b.length ≠ 4 ∨ 7 < d ∨ 7 < kind then refuse .malformed lp
    else if !(ledgerUp lp.2) then refuse .storeDown lp
    else match retEntry lp.2 d kind (leNat (b.drop 2)) with
      | some j => ((lp.1, wrI .sw I_RET.CLEAR j 1 lp.2), some okAns)
      | none => (lp, some okAns)) lp

/-! The commands of the table: one meaning each. -/

/-- STEWARD_SILENT (R438). -/
def execStewardSilent (y : Side) (s : State) : Host.Outcome State Fault Refusal := nextPk s (stewardSilent y)

/-- STEWARD_RESTART_WINDOW (R472). -/
def execStewardRestartWindow (y : Side) (s : State) : Host.Outcome State Fault Refusal := nextPk s (restartWindow y)

/-- RAIL_SAMPLE (R442). -/
def execRailSample (r mv : Nat) (s : State) : Host.Outcome State Fault Refusal := nextPk s (railSample r mv)

/-- TEMP_SAMPLE (R443). -/
def execTempSample (k : Nat) (t : Int) (s : State) : Host.Outcome State Fault Refusal := nextPk s (tempSample k t)

/-- CURRENT_SAMPLE (R443). -/
def execCurrentSample (r cur : Nat) (s : State) : Host.Outcome State Fault Refusal := nextPk s (currentSample r cur)

/-- RESOURCE_OCCURRENCE (R444). -/
def execResourceOccurrence (d : Die) (kind i : Nat) (selftest : Bool) (s : State) : Host.Outcome State Fault Refusal := nextPk s (resourceOccurrence d kind i selftest)

/-- LOG_EXPORT (R451). -/
def execLogExport (r : Req) (b : List Nat) (s : State) : Host.Outcome State Fault Refusal := nextLp s (logExport r b)

/-- LOG_MARK (R452). -/
def execLogMark (r : Req) (b : List Nat) (s : State) : Host.Outcome State Fault Refusal := nextLp s (logMark r b)

/-- NME_ACK (R439). -/
def execNmeAck (r : Req) (b : List Nat) (s : State) : Host.Outcome State Fault Refusal := nextLp s (nmeAck r b)

/-- RETIRE_CLEAR (R446). -/
def execRetireClear (r : Req) (b : List Nat) (s : State) : Host.Outcome State Fault Refusal := nextLp s (retireClear r b)

/-- STEWARD_HEARTBEAT (R438). -/
def execStewardHeartbeat (s : State) : Host.Outcome State Fault Refusal := nextPk s heartbeat

/-- STEWARD_WATCHDOG (R440). -/
def execStewardWatchdog (s : State) : Host.Outcome State Fault Refusal := nextPk s stewardWatchdog

end Sys2Proof.Machine
end

