-- ==== Sys2Proof/Machine/Update.lean ====
section
/-! DEFINITION. Chapter 18: firmware images and their checks, the update of a lane and of the steward, restorations, fuses. -/

namespace Sys2Proof.Machine

/-! Slots (Table 18-3): 0 lane A, 1 lane B, 2 the steward. -/

/-- State of a slot. -/
def slotSt (p : Pkg) (t : Nat) : Nat := if t = 0 then slotState p .a else if t = 1 then slotState p .b else rd p .sw UPD_SLOT_SW.STATE

/-- Put a slot into a state. -/
def putSlot (t v : Nat) (p : Pkg) : Pkg :=
  if t = 0 then setSlotState v p .a else if t = 1 then setSlotState v p .b else p |> wr .sw UPD_SLOT_SW.STATE v |> updShow

/-- Most bytes an image of a target may have (R454). -/
def imageMax (t : Nat) : Nat := if t = 2 then 1048576 else 3670016

/-- The floor of a target's kind (R467). -/
def floorOf (p : Pkg) (t : Nat) : Nat := if t = 2 then rd p .sw UPD_FLOOR.STEWARD else rd p .sw UPD_FLOOR.LANE

/-- Blocks of an image (R454). -/
def blocksOf (len : Nat) : Nat := (len + 4095) / 4096

/-- The slots other than a target rest. -/
def othersRest (p : Pkg) (t : Nat) : Bool := ([0, 1, 2].filter (fun k => k != t)).all (fun k => !(busySlot (slotSt p k)))

/-! The checks of an image (R453, R459). -/

/-- What a check finds wrong: the reason of UPD_FAIL and the block. -/
abbrev ImgFault := Nat × Nat

/-- MAGIC, FORMAT and KIND against the target; LENGTH within its limit, and equal to a given one. -/
def headerOk (b : List Nat) (t : Nat) (len : Option Nat) : Bool :=
  b.take 4 == [0x58, 0x4E, 0x38, 0x46] && leAt b 4 2 == 1 && b.getD 6 0 == (if t = 2 then 2 else 1) &&
    decide (320 ≤ leAt b 8 4) && decide (leAt b 8 4 ≤ imageMax t) && (match len with
      | some n => leAt b 8 4 == n
      | none => true)

/-- The first block whose CRC is not the block table's. -/
def badBlock (m : List Host.Cell) (t : Nat) (b : List Nat) : Option Nat :=
  (List.range (blocksOf b.length)).find? (fun k => crc32c ((b.drop (4096 * k)).take 4096) != leNat (mramRead m (blockTable t + 4 * k) 4))

/-- KEY against the hash in OTP, then the signature. -/
def signatureOk (b : List Nat) : Bool :=
  let key := (b.drop 96).take 32
  sha256 key == padTo 32 Config.firmwareKeyHash && Config.ed25519 key (signedPart b) (b.drop (b.length - 64))

/-- Checks 1 to 4 on the image in a region (R453, R459). -/
def imageCheck (m : List Host.Cell) (p : Pkg) (t : Nat) (len : Option Nat) : Option ImgFault :=
  let head := mramRead m (imageBase t) 256
  if !(headerOk head t len) then some (1, 0)
  else
    let b := mramRead m (imageBase t) (leAt head 8 4)
    match badBlock m t b with
    | some k => some (2, k)
    | none => if !(signatureOk b) then some (3, 0) else if leAt b 16 2 < floorOf p t then some (4, 0) else none

/-- All six checks of R459. The last two ask the current layout, where one is current; a steward image has no class. -/
def updateCheck (m : List Host.Cell) (p : Pkg) (t : Nat) : Option ImgFault :=
  match imageCheck m p t (some (rdI p .sw I_UPD.LEN t)) with
  | some f => some f
  | none =>
    let h := mramRead m (imageBase t) 256
    let y := mramRead m (currentBase p) 256
    if !(flag p .sw LYT_STATUS.CURRENT_VALID) then none
    else if t ≠ 2 ∧ !(classHolds y (leAt h 18 2)) then some (5, 0)
    else if leAt y 12 4 < leAt h 24 4 ∨ leAt h 28 4 < leAt y 12 4 then some (6, 0)
    else none

/-- The slot shows the image that its region holds. -/
def showImage (m : List Host.Cell) (t : Nat) (p : Pkg) : Pkg :=
  let h := mramRead m (imageBase t) 256
  let b := mramRead m (imageBase t) (min (leAt h 8 4) (imageMax t))
  p |> wr .sw (verFld t) (leAt h 12 4) |> wr .sw (secFld t) (leAt h 16 2) |> wrI .sw I_UPD.DET t (leAt h 18 2) |> wrI .sw I_UPD.LEN t (leAt h 8 4)
    |> wrI .sw I_UPD.HASH t (imageHash b)

/-! Ends of an update (R458, R459, R464, R469). -/

/-- A steward update has failed: no partner can restore its region, which stays marked until another image is written. -/
def failSteward (reason block : Nat) (p : Pkg) : Pkg :=
  p |> wr .sw UPD_FAIL.REASON reason |> wr .sw UPD_FAIL.STAGE (slotSt p 2) |> wr .sw UPD_FAIL.BLOCK block |> inc .sw UPD_FAILS.V
    |> wr .sw UPD_STATUS.VERIFIED 0 |> wr .sw (badFld 2) 1 |> putSlot 2 0

/-- The update of a target ends as failed, for a reason and a block. -/
def failTarget (t reason block : Nat) (p : Pkg) : Pkg :=
  if t = 2 then p |> failSteward reason block |> raise .sw clsWarning UPD_EVENT.FAILED
  else p |> failUpdate (sideOf t) reason |> wr .sw UPD_FAIL.BLOCK block

/-- The update ends as aborted (R469): its region is restored from the partner. -/
def abortTarget (t : Nat) (p : Pkg) : Pkg :=
  if t = 2 then failSteward 10 0 p
  else
    p |> wr .sw UPD_FAIL.REASON 10 |> wr .sw UPD_FAIL.STAGE (slotSt p t) |> wr .sw UPD_FAIL.BLOCK 0 |> inc .sw UPD_FAILS.V
      |> wr .sw UPD_STATUS.VERIFIED 0 |> putSlot t 6

/-! The requests (R456 to R460, R464, R467 to R469, R474). -/

/-- The status of a lane update that may not begin (R456, R465), or none. -/
def beginRefused (p : Pkg) (t src : Nat) : Option Status :=
  let x := sideOf t
  if busySlot (slotSt p t) || !(othersRest p t) then some (.other 0x40)
  else if lytInProgress p || drillInProgress p || swapPending p then some .resourceHeld
  else if !(ledgerUp p) then some .storeDown
  else if t = 2 then none
  else if isActive p x && laneState p x.other != 3 then some .standbyNotReady
  else if !(isActive p x) && !(isActive p x.other) && laneState p x != 0 then some .standbyNotReady
  else if src = 1 ∧ slotState p x.other ≠ 5 then some (.other 0x40)
  else none

/-- UPD_BEGIN (R456, R465, R472): an ACTIVE target first hands over, cause code 13. -/
def updBegin (r : Req) (b : List Nat) (lp : Ledger × Pkg) : Ledger × Pkg :=
  let t := b.getD 0 0
  let src := b.getD 1 0
  let len := leNat (b.drop 2)
  manage r 0x0400 3 b false (atOnce (fun p =>
    if b.length ≠ 6 ∨ 2 < t ∨ 1 < src ∨ (t = 2 ∧ src = 1) ∨ len = 0 ∨ imageMax t < len then ((.malformed, []), p)
    else match beginRefused p t src with
      | some st => ((st, []), p)
      | none =>
        let x := sideOf t
        let go (q : Pkg) : Pkg :=
          { q with parts := [] } |> wr .sw UPD_STATUS.TARGET t |> wr .sw UPD_STATUS.BLOCKS 0 |> wr .sw UPD_STATUS.VERIFIED 0 |> wr .sw I_UPD.BITMAP 0
            |> wr .sw I_UPD.SRC src |> wrI .sw I_UPD.LEN t len |> wr .sw (restoredFld t) 0 |> wr .sw (badFld t) 0 |> wr .sw I_UPD.RESTORE_WORDS 0
            |> putSlot t 1 |> slotEvent clsInfo UPD_EVENT.BEGUN r.slot
        if t ≠ 2 ∧ isActive p x then
          (match swapAnswer p x 13 with
            | .accepted => (okAns, p |> acceptSwap x 13 |> go)
            | .held => ((.resourceHeld, []), p)
            | .pending => ((.resourceHeld, []), p)
            | .notReady => ((.standbyNotReady, []), p))
        else (okAns, go p))) lp

/-- A part takes its place; a part sent again replaces the earlier one. -/
def putPart (e : UpdPart) (p : Pkg) : Pkg := { p with parts := p.parts.filter (fun q => !(q.block == e.block && q.part == e.part)) ++ [e] }

/-- The four parts of a block, in order, when all are in hand. -/
def wholeBlock (p : Pkg) (k : Nat) : Option (List Nat) :=
  let part (j : Nat) : Option UpdPart := p.parts.find? (fun q => q.block == k && q.part == j)
  match part 0, part 1, part 2, part 3 with
  | some a, some b, some c, some d => some (a.bytes ++ b.bytes ++ c.bytes ++ d.bytes)
  | _, _, _, _ => none

/-- A block is in its region: its CRC is in the block table and its bit in the bitmap. -/
def blockDone (t k crc : Nat) (lp : Ledger × Pkg) : Ledger × Pkg :=
  lp |> onMram (fun m => mramPut m (blockTable t + 4 * k) (leBytes 4 crc))
    |> onPkg (fun p => p |> wr .sw I_UPD.BITMAP (Nat.lor (rd p .sw I_UPD.BITMAP) (2 ^ k))
      |> (fun q => wr .sw UPD_STATUS.BLOCKS (popcount (rd q .sw I_UPD.BITMAP) 896) q) |> journalWrite)

/-- UPD_DATA (R457): the block is written once all four parts are in hand and their CRC passes. -/
def updData (r : Req) (b : List Nat) (lp : Ledger × Pkg) : Ledger × Pkg :=
  let k := leNat (b.take 2)
  let j := b.getD 2 0
  let crc := leAt b 4 4
  manage r 0x0401 3 b false (fun lp =>
    let p := lp.2
    let t := rd p .sw UPD_STATUS.TARGET
    if b.length ≠ 1032 ∨ 3 < j ∨ b.getD 3 0 ≠ 0 then refuse .malformed lp
    else if t = 3 ∨ slotSt p t ≠ 1 ∨ flag p .sw I_UPD.SRC then refuse (.other 0x40) lp
    else if blocksOf (rdI p .sw I_UPD.LEN t) ≤ k then refuse .malformed lp
    else if !(ledgerUp p) then refuse .storeDown lp
    else
      let p := putPart ⟨k, j, crc, b.drop 8, now p .sw⟩ p
      match wholeBlock p k with
      | none => ((lp.1, p), some okAns)
      | some all =>
        let bytes := all.take (rdI p .sw I_UPD.LEN t - 4096 * k)
        let p := { p with parts := p.parts.filter (fun q => q.block != k) }
        if crc32c bytes ≠ crc then ((lp.1, inc .sw UPD_CRC_ERR.V p), some (.other 0x41, []))
        else ((lp.1, p) |> onMram (fun m => mramPut m (imageBase t + 4096 * k) bytes) |> blockDone t k crc, some okAns)) lp

/-- UPD_PART_TIMEOUT (R457). -/
def updPartTimeout (p : Pkg) : Pkg :=
  if running p .sw then { p with parts := p.parts.filter (fun q => decide (now p .sw < q.at' + 10000000000)) } else p

/-- UPD_VERIFY (R459): the long operation begins. -/
def updVerify (r : Req) (b : List Nat) (lp : Ledger × Pkg) : Ledger × Pkg :=
  if commitWaits lp.2 then lp
  else manage r 0x0402 3 b false (fun lp =>
    let p := lp.2
    let t := rd p .sw UPD_STATUS.TARGET
    if b ≠ [] then refuse .malformed lp
    else if t = 3 ∨ slotSt p t ≠ 1 ∨ rd p .sw UPD_STATUS.BLOCKS < blocksOf (rdI p .sw I_UPD.LEN t) then refuse (.other 0x40) lp
    else if !(ledgerUp p) then refuse .storeDown lp
    else ((lp.1, p |> busyStart 2 r.slot |> putSlot t 2 |> wr .sw I_UPD.VERIFYING 1), none)) lp

/-- UPD_VERIFY_DONE (R459): the checks end. -/
def updVerifyDone (lp : Ledger × Pkg) : Ledger × Pkg :=
  let p := lp.2
  let t := rd p .sw UPD_STATUS.TARGET
  if !(running p .sw) || !(flag p .sw I_UPD.VERIFYING) || t == 3 || slotSt p t != 2 || !(ledgerUp p) then lp
  else
    let q := p |> wr .sw I_UPD.VERIFYING 0 |> busyEnd 2
    match updateCheck lp.1.mram p t with
    | none =>
      let q := showImage lp.1.mram t q
      (lp.1, q |> wr .sw UPD_STATUS.VERIFIED 1 |> journalWrite |> raise .sw clsInfo UPD_EVENT.VERIFIED |> answerOp 0x0402 (.ok, leBytes 32 (rdI q .sw I_UPD.HASH t)))
    | some f => (lp.1, q |> failTarget t f.1 f.2 |> answerOp 0x0402 (if f.1 = 4 then (.other 0x43, []) else (.other 0x42, [])))

/-- UPD_ACTIVATE for a lane (R460, R463): its helm is reset onto the new image. -/
def activateLane (r : Req) (t : Nat) (p : Pkg) : Pkg :=
  p |> wr .sw UPD_STATUS.VERIFIED 0 |> putSlot t 3 |> wr .sw UPD_STATUS.NO_REDUNDANCY 1 |> wr .sw UPD_STATUS.UPD_READY 0
    |> slotEvent clsInfo UPD_EVENT.ACTIVATED r.slot |> clearLane (sideOf t)

/-- The steward announces its restart to the port dies that it reaches (R472). -/
def announceRestart (p : Pkg) : Pkg :=
  forAll (portsReached p) (fun d q => q |> wr d I_PORT.ANNOUNCED 1 |> wr d I_PORT.ANNOUNCED_AT (now q d) |> wr d I_PORT.GAP_LOGGED 0) p

/-- UPD_ACTIVATE (R460, R472). -/
def updActivate (r : Req) (b : List Nat) (lp : Ledger × Pkg) : Ledger × Pkg :=
  manage r 0x0403 3 b false (fun lp =>
    let p := lp.2
    let t := rd p .sw UPD_STATUS.TARGET
    if b.length ≠ 32 then refuse .malformed lp
    else if t = 3 ∨ slotSt p t ≠ 2 ∨ !(flag p .sw UPD_STATUS.VERIFIED) ∨ rdI p .sw I_UPD.HASH t ≠ leNat b then refuse (.other 0x44) lp
    else if !(ledgerUp p) then refuse .storeDown lp
    else if t ≠ 2 ∧ isActive p (sideOf t) then refuse .standbyNotReady lp
    else if t ≠ 2 then ((lp.1, activateLane r t p), some okAns)
    else
      ((lp.1, p |> wr .sw UPD_STATUS.VERIFIED 0 |> putSlot 2 3 |> wr .sw I_UPD.WD_RESETS 0 |> slotEvent clsInfo UPD_EVENT.ACTIVATED r.slot
        |> sendMsg .sw r.slot 0x0403 0 r.counter [] |> announceRestart |> stewardStop), none)) lp
  |> onPkg (fun p => { p with nhp := { p.nhp with later := p.nhp.later.filter (fun q => !(q.is r.slot r.counter && q.opcode == 0x0403)) } })

/-- A floor rises: fuses are blown until the count equals the image's SECURITY_VERSION (R467). -/
def raiseFloor (F : Fld) (sec : Nat) (p : Pkg) : Pkg :=
  if rd p .sw F < sec then p |> wr .sw F sec |> raise .sw clsInfo UPD_EVENT.FLOOR_RAISED else p

/-- The lane floor rises when both slots are CONFIRMED with one hash and neither is RESTORED (R467). -/
def laneFloor (p : Pkg) : Pkg :=
  if slotSt p 0 = 5 ∧ slotSt p 1 = 5 ∧ !(flag p .sw (restoredFld 0)) ∧ !(flag p .sw (restoredFld 1)) ∧ rdI p .sw I_UPD.HASH 0 = rdI p .sw I_UPD.HASH 1 then
    raiseFloor UPD_FLOOR.LANE (rd p .sw (secFld 0)) p
  else p

/-- The steward floor follows a confirmed steward image (R467). -/
def stewardFloor (p : Pkg) : Pkg := if slotSt p 2 = 5 then raiseFloor UPD_FLOOR.STEWARD (rd p .sw (secFld 2)) p else p

/-- A slot is confirmed (R464, R468). -/
def confirmSlot (r : Req) (t : Nat) (p : Pkg) : Pkg :=
  p |> wr .sw (restoredFld t) 0 |> putSlot t 5 |> wr .sw UPD_TRIAL_LEFT.SECONDS 0 |> wr .sw UPD_STATUS.UPD_READY 0 |> inc .sw UPD_DONE.V
    |> slotEvent clsInfo UPD_EVENT.CONFIRMED r.slot |> laneFloor |> stewardFloor

/-- The slot may be confirmed: a lane on trial that has become ready, the steward on trial, or a restored lane whose image is its
partner's confirmed one. -/
def mayConfirm (p : Pkg) (t : Nat) : Bool :=
  if slotSt p t = 4 then t == 2 || flag p .sw UPD_STATUS.UPD_READY
  else t != 2 && slotSt p t == 0 && flag p .sw (restoredFld t) && slotSt p (1 - t) == 5 && rdI p .sw I_UPD.HASH t == rdI p .sw I_UPD.HASH (1 - t)

/-- UPD_CONFIRM (R464, R467, R468, R472). -/
def updConfirm (r : Req) (b : List Nat) (lp : Ledger × Pkg) : Ledger × Pkg :=
  manage r 0x0404 3 b false (atOnce (fun p =>
    match b with
    | [t] =>
      if 2 < t then ((.malformed, []), p)
      else if !(mayConfirm p t) then ((.other 0x45, []), p)
      else if !(ledgerUp p) then ((.storeDown, []), p)
      else (okAns, confirmSlot r t p)
    | _ => ((.malformed, []), p))) lp

/-- UPD_ABORT (R469). -/
def updAbort (r : Req) (b : List Nat) (lp : Ledger × Pkg) : Ledger × Pkg :=
  manage r 0x0405 3 b (flag lp.2 .sw I_UPD.VERIFYING && rd lp.2 .sw I_HST.BUSY_SLOT == r.slot) (atOnce (fun p =>
    let t := rd p .sw UPD_STATUS.TARGET
    if b ≠ [] then ((.malformed, []), p)
    else if t = 3 ∨ (slotSt p t ≠ 1 ∧ slotSt p t ≠ 2) then ((.other 0x40, []), p)
    else if !(ledgerUp p) then ((.storeDown, []), p)
    else
      let p := { p with parts := [] } |> onlyIf (flag p .sw I_UPD.VERIFYING) (fun q => q |> wr .sw I_UPD.VERIFYING 0 |> busyEnd 2 |> answerOp 0x0402 (.other 0x42, []))
      (okAns, abortTarget t p))) lp

/-- FUSE_LAYOUT_KEY (R474): the next free OTP slot takes the hash; the write is audited. -/
def fuseLayoutKey (r : Req) (b : List Nat) (lp : Ledger × Pkg) : Ledger × Pkg :=
  manage r 0x0410 3 b false (atOnce (fun p =>
    let n := rd p .sw I_OTP.LYT_KEYS
    if b.length ≠ 32 then ((.malformed, []), p)
    else if 4 ≤ n then ((.resourceHeld, []), p)
    else (okAns, p |> wrI .sw I_OTP.LYT_KEY n (leNat b) |> wr .sw I_OTP.LYT_KEYS (n + 1) |> auditRec .sw 2 r.slot (keyId p r.slot) 0x07 .unstated))) lp

/-! Trials (R462 to R464, R472). -/

/-- The image of a lane on trial is of another class or copy format than its partner's (Table 18-6). -/
def trialDiffers (p : Pkg) (x : Side) : Bool :=
  rd p x.helm I_LANE.DET_CLASS != rd p x.other.helm I_LANE.DET_CLASS || rd p x.helm I_LANE.COPY_FORMAT != rd p x.other.helm I_LANE.COPY_FORMAT

/-- UPD_READY (R462, R463, Table 18-6): the lane has proved itself for UPD_SETTLE, and arms. -/
def updReady (x : Side) (p : Pkg) : Pkg :=
  let d := x.helm
  if slotState p x = 4 ∧ laneState p x = 2 ∧ isActive p x.other ∧ trialDiffers p x ∧ ¬ flag p d I_LANE.UPD_RDY ∧
      rd p .sw UPD_CFG.UPD_SETTLE * 1000 ≤ rd p d I_LANE.READY_TICKS ∧ 10 ≤ rd p d SOL_CONSEC.OPT_RUN then
    p |> wr d I_LANE.UPD_RDY 1 |> wr .sw UPD_STATUS.UPD_READY 1 |> wr .sw UPD_STATUS.NO_REDUNDANCY 0 |> raise .sw clsInfo UPD_EVENT.READY |> arm x
  else p

/-- TRIAL_TIMEOUT (R464): the confirm window of a lane has run out. -/
def trialTimeout (x : Side) (p : Pkg) : Pkg :=
  if running p .sw ∧ slotState p x = 4 ∧ trialEnd p x.num ≤ now p .sw then failUpdate x 8 p else p

/-- STEWARD_TRIAL_TIMEOUT (R472): the image stays in use, and the floor stays where it is. -/
def stewardTrialTimeout (p : Pkg) : Pkg :=
  if running p .sw ∧ slotSt p 2 = 4 ∧ trialEnd p 2 ≤ now p .sw then
    p |> raise .sw clsWarning UPD_EVENT.UNCONFIRMED |> wr .sw UPD_TRIAL_LEFT.SECONDS 0 |> putSlot 2 0
  else p

/-! Restorations (R458, R466, R470). -/

/-- The slot waits for its restoration: RESTORING, or a lane that is DOWN on an image its boot ROM has found BAD. -/
def wantsRestore (p : Pkg) (x : Side) : Bool :=
  slotState p x == 6 || (!(busySlot (slotState p x)) && flag p .sw (badFld x.num) && laneState p x == 0)

/-- RESTORE_START (R466): the partner runs and begins to stream its image. A lane on trial is held in its boot ROM; one that is ACTIVE
releases first and resets (cause code 1); a lane on its old firmware runs on. -/
def restoreStart (x : Side) (p : Pkg) : Pkg :=
  let y := x.other
  let stage := rd p .sw UPD_FAIL.STAGE
  let runsOn := (stage = 1 ∨ stage = 2) ∧ laneState p x ≠ 0
  if !(wantsRestore p x) || flag p .sw I_UPD.ON || !(running p y.helm) || decide (laneState p y < 2) || !(ledgerFrom p x.helm) then p
  else
    let p := p |> wr .sw UPD_STATUS.TARGET x.num |> wrI .sw I_UPD.KEEP x.num (b2n runsOn) |> wr .sw I_UPD.RESTORE_WORDS 0
      |> wr .sw I_UPD.BITMAP 0 |> wr .sw UPD_STATUS.BLOCKS 0 |> wrI .sw I_UPD.LEN x.num (rdI p .sw I_UPD.LEN y.num) |> (fun q => setSlotState 6 q x) |> raise .sw clsInfo UPD_EVENT.RESTORE_START
    wr .sw I_UPD.ON 1 (if runsOn then p else if isActive p x then laneFault x 1 p else clearLane x p)

/-- An IMAGE flit's words go to the target's region: for a restoration, or an update whose source is the partner (R465, R466). The
link keeps their order, so the words in hand are a beginning of the image. -/
def imageFlit (x : Side) (f : List Nat) (lp : Ledger × Pkg) : Ledger × Pkg :=
  let p := lp.2
  let t := x.num
  let len := rdI p .sw I_UPD.LEN t
  let have' := rd p .sw I_UPD.RESTORE_WORDS
  let off := flitOffset f
  let n := min (flitWords f) 61
  let takes := (slotState p x == 6 && flag p .sw I_UPD.ON) || (slotState p x == 1 && flag p .sw I_UPD.SRC && rd p .sw UPD_STATUS.TARGET == t)
  if !takes || !(ledgerFrom p x.helm) || decide (have' < off) then lp
  else
    let bytes := ((f.drop 8).take (4 * n)).take (len - 4 * off)
    let now' := max have' (off + n)
    let whole := if len ≤ 4 * now' then blocksOf len else now' / 1024
    let lp := lp |> onMram (fun m => mramPut m (imageBase t + 4 * off) bytes) |> onPkg (wr .sw I_UPD.RESTORE_WORDS now')
    let block (k : Nat) (l : Ledger × Pkg) : Ledger × Pkg :=
      blockDone t k (crc32c (mramRead l.1.mram (imageBase t + 4096 * k) (min 4096 (len - 4096 * k)))) l
    ((List.range whole).drop (have' / 1024)).foldl (fun l k => block k l) lp

/-- LEAT_FLIT_RECEIVE (R45, R466): the link's own part, and the words of an IMAGE flit it accepts. -/
def leatFlitAll (x : Side) (f : List Nat) (lp : Ledger × Pkg) : Ledger × Pkg :=
  let p := lp.2
  let taken := flag p x.helm LEAT_STATUS.UP && flitGood f && flitSeq f == rd p x.helm I_LEAT.RX_SEQ
  let lp := onPkg (leatFlitReceive x f) lp
  if taken && flitType f == 7 then imageFlit x f lp else lp

/-- RESTORE_DONE (R466): the whole image is in the region and passes the checks of R453; the slot rests. An image that fails them is
streamed again from block 0. -/
def restoreDone (x : Side) (lp : Ledger × Pkg) : Ledger × Pkg :=
  let p := lp.2
  let t := x.num
  if slotState p x ≠ 6 ∨ !(flag p .sw I_UPD.ON) ∨ 4 * rd p .sw I_UPD.RESTORE_WORDS < rdI p .sw I_UPD.LEN t ∨ !(ledgerFrom p x.helm) then lp
  else
    let p := wr .sw I_UPD.ON 0 p
    match imageCheck lp.1.mram p t none with
    | some _ => (lp.1, p |> wr .sw I_UPD.RESTORE_WORDS 0 |> wr .sw I_UPD.BITMAP 0 |> wr .sw UPD_STATUS.BLOCKS 0 |> journalWrite)
    | none =>
      (lp.1, p |> showImage lp.1.mram t |> wr .sw (restoredFld t) 1 |> wr .sw (badFld t) 0 |> inc .sw UPD_RESTORES.V |> wrI .sw I_UPD.KEEP t 0
        |> putSlot t 0 |> raise .sw clsInfo UPD_EVENT.RESTORED)

/-! The commands of the table: one meaning each. -/

/-- LEAT_FLIT_RECEIVE (R45). -/
def execLeatFlitReceive (x : Side) (flit : List Nat) (s : State) : Host.Outcome State Fault Refusal := nextLp s (leatFlitAll x flit)

/-- UPD_BEGIN (R456). -/
def execUpdBegin (r : Req) (b : List Nat) (s : State) : Host.Outcome State Fault Refusal := nextLp s (updBegin r b)

/-- UPD_DATA (R457). -/
def execUpdData (r : Req) (b : List Nat) (s : State) : Host.Outcome State Fault Refusal := nextLp s (updData r b)

/-- UPD_VERIFY (R459). -/
def execUpdVerify (r : Req) (b : List Nat) (s : State) : Host.Outcome State Fault Refusal := nextLp s (updVerify r b)

/-- UPD_ACTIVATE (R460). -/
def execUpdActivate (r : Req) (b : List Nat) (s : State) : Host.Outcome State Fault Refusal := nextLp s (updActivate r b)

/-- UPD_READY (R462). -/
def execUpdReady (x : Side) (s : State) : Host.Outcome State Fault Refusal := nextPk s (updReady x)

/-- UPD_CONFIRM (R464). -/
def execUpdConfirm (r : Req) (b : List Nat) (s : State) : Host.Outcome State Fault Refusal := nextLp s (updConfirm r b)

/-- UPD_ABORT (R469). -/
def execUpdAbort (r : Req) (b : List Nat) (s : State) : Host.Outcome State Fault Refusal := nextLp s (updAbort r b)

/-- TRIAL_TIMEOUT (R464). -/
def execTrialTimeout (x : Side) (s : State) : Host.Outcome State Fault Refusal := nextPk s (trialTimeout x)

/-- RESTORE_START (R466). -/
def execRestoreStart (x : Side) (s : State) : Host.Outcome State Fault Refusal := nextPk s (restoreStart x)

/-- RESTORE_DONE (R466). -/
def execRestoreDone (x : Side) (s : State) : Host.Outcome State Fault Refusal := nextLp s (restoreDone x)

/-- FUSE_LAYOUT_KEY (R474). -/
def execFuseLayoutKey (r : Req) (b : List Nat) (s : State) : Host.Outcome State Fault Refusal := nextLp s (fuseLayoutKey r b)

/-- UPD_PART_TIMEOUT (R457). -/
def execUpdPartTimeout (s : State) : Host.Outcome State Fault Refusal := nextPk s updPartTimeout

/-- UPD_VERIFY_DONE (R459). -/
def execUpdVerifyDone (s : State) : Host.Outcome State Fault Refusal := nextLp s updVerifyDone

/-- STEWARD_TRIAL_TIMEOUT (R472). -/
def execStewardTrialTimeout (s : State) : Host.Outcome State Fault Refusal := nextPk s stewardTrialTimeout

end Sys2Proof.Machine
end

