-- ==== Sys2Proof/Machine/Bringup.lean ====
section
/-! DEFINITION. Chapter 19, with R36, R380, R381, R446, R453, R470 and R490: resets, qualification, the boot of the lanes and of the
steward, the first layout, the election. -/

namespace Sys2Proof.Machine

/-! A die that resets (R36, R475, R477, R490). -/

/-- What a die keeps through its reset because another die, or a store, holds it. -/
def storedIds : List Nat :=
  (storedSw ++ [I_SRAM.PAGE, HG_LOCKOUT.LOCKED, HG_LOCKOUT.FAULT_SWAPS, HG_STATUS.DRILL_FAIL, I_DIE.RAIL_BAD]).map (fun F => F.id)

/-- What besides is kept when one die resets and the package runs on: its unacknowledged NME events and, for SW, the structural
change, the sessions' telemetry numbers and a restoration between the lanes. -/
def aloneIds : List Nat := storedIds ++ [I_DIE.NME, I_DIE.CLKFAIL, LYT_STATUS.PHASE, LYT_STATUS.TARGET_B, I_TEL.SEQ, I_UPD.ON, I_UPD.RESTORE_WORDS, I_UPD.KEEP].map (fun F => F.id)

/-- The lists a die holds. -/
def dieLists (d : Die) (p : Pkg) : Pkg :=
  let p := { onLog d (fun _ => ⟨[], [], [], [], []⟩) p with
    retiring := p.retiring.filter (fun r => r.die != d.num), faults := p.faults.filter (fun o => o.die != d.num)
    sealsOut := p.sealsOut.filter (fun s => s.die != d.num), stamped := p.stamped.filter (fun s => s.die != d.num) }
  let x := Die.side d
  match d with
  | .ha | .hb => { p with lanes := p.lanes.set x Lane.empty, staged := p.staged.set x Stage.empty, layouts := p.layouts.set x Layout.none, taken := none
                          tel := p.tel.filter (fun e => e.lane != x.num) }
  | .ga | .gb => { p with bbs := p.bbs.set x Bb.empty }
  | .pa | .pb => { p with ports := p.ports.set x Port.empty, eth := p.eth.set x Eth.empty
                          nhp := { p.nhp with parts := p.nhp.parts.filter (fun q => q.req.die != d.num) } }
  | .sw => p
  | .ld => p

/-- What is wired into a die: its home root (R376). -/
def dieConst (d : Die) (p : Pkg) : Pkg := wr d CLK_STATUS.HOME_B (b2n d.homeB) p

/-- A die goes into reset: its fields read their reset values, but for what is kept. -/
def dieReset (keep : List Nat) (d : Die) (p : Pkg) : Pkg :=
  let gone (c : Nat × Nat) : Bool :=
    let i := c.1 / 524288
    decide (c.1 / 65536 % 8 = d.num) && !(decide (pkgIds.1 ≤ i) && decide (i < pkgIds.2)) && !(keep.contains i)
  { p with regs := p.regs.filter (fun c => !(gone c)) } |> dieLists d |> dieConst d |> wr d I_DIE.RUN 0

/-- Every die with good rails begins to qualify its clocks (R477). -/
def qualifyAll (p : Pkg) : Pkg := forAll (allDies.filter (fun d => !(flag p d I_DIE.RAIL_BAD))) (fun d => wr d I_DIE.RUN 1) p

/-- The retirement list names a culvert link. -/
def linkListed (p : Pkg) (i : Nat) : Bool :=
  (List.range (min 64 (rd p .sw I_RET.COUNT))).any (fun j => rdI p .sw STW_RET.KIND j == 6 && rdI p .sw STW_RET.INDEX j == i)

/-- RESET_ASSERT (R477): every die is held in reset; the stores and OTP keep what they hold. -/
def resetAssert (p : Pkg) : Pkg :=
  { forAll allDies (dieReset storedIds) (wr .pb TIM_STATUS.SPINE_MASTER 0 p) with
      intake := ⟨[], [], []⟩, matching := [], sealsOut := [], stamped := [], retiring := [], faults := [], tel := [], nhp := ⟨[], [], [], [], [], [], []⟩, oc := Oc.empty
      xfers := [], txn := Txn.none, taken := none, parts := [], banks := [], staged := ⟨Stage.empty, Stage.empty⟩ }
    |> forAll [I_PKG.DRILL_PHASE, I_PKG.DRILLED_B, I_PKG.DRILL_START, I_PKG.DRILL_VERDICT, I_PKG.SWO_FROM, I_PKG.SWO_CAUSE, I_PKG.PG_WAIT] (fun F => wr .sw F 0)
    |> forAll [0, 1] (fun k q => q |> wrI .sw I_PKG.LINE_PULL k 0 |> wrI .sw I_PKG.MIRROR k 0 |> wrI .sw I_PKG.LOST k 0)
    |> forAll (List.range 18) (fun i q => wrI .sw I_PKG.CULVERT_DOWN i (b2n (linkListed q i)) q)
    |> wr .sw I_PKG.RESET_LOW 1 |> showStat

/-- RESET_RELEASE (R476, R477): the straps and PWR_GOOD are sampled, and qualification begins unless PWR_GOOD is low. -/
def resetRelease (straps : Nat) (good : Bool) (p : Pkg) : Pkg :=
  if !(flag p .sw I_PKG.RESET_LOW) then p
  else p |> wr .sw I_PKG.RESET_LOW 0 |> wr .sw I_PKG.STRAPS straps |> wr .sw I_PKG.PWR_GOOD (b2n good) |> wr .sw I_PKG.PG_WAIT (b2n (!good))
    |> onlyIf good qualifyAll |> showStat

/-- PWR_GOOD_FALL (R476): logged, and nothing more. -/
def pwrGoodFall (p : Pkg) : Pkg := p |> onlyIf (flag p .sw I_PKG.PWR_GOOD && running p .sw) (logOpen .sw clsWarning 0x01 14 .unstated) |> wr .sw I_PKG.PWR_GOOD 0

/-- PWR_GOOD_WAIT (R476): PWR_GOOD has been high for 1 ms. -/
def pwrGoodWait (p : Pkg) : Pkg :=
  let wait := flag p .sw I_PKG.PG_WAIT && !(flag p .sw I_PKG.RESET_LOW)
  p |> wr .sw I_PKG.PWR_GOOD 1 |> onlyIf wait (fun q => q |> wr .sw I_PKG.PG_WAIT 0 |> qualifyAll) |> showStat

/-- A helm loses its power: an ACTIVE lane's line is released by its pull-up, cause code 6 (R36, Table 02-5, R71). The lane logs the cause
when it restarts, since its own log is lost with the die (R70, DEDUCED). -/
def helmLost (x : Side) (p : Pkg) : Pkg :=
  let was := isActive p x
  p |> onlyIf (decide (2 ≤ laneState p x)) (wrI .sw I_PKG.LOST x.num 1) |> laneFault x 6 |> onlyIf was (fun q => q |> wr .sw I_PKG.SWO_FROM (x.num + 1) |> wr .sw I_PKG.SWO_CAUSE 6) |> resetLane x

/-- BROWN_OUT (R36, R490): the die is held in reset with its pads released. -/
def brownOut (d : Die) (p : Pkg) : Pkg :=
  if flag p d I_DIE.RAIL_BAD then p
  else
    let lanesRun := flag p .ha I_LANE.LAYOUT_APPLIED || flag p .hb I_LANE.LAYOUT_APPLIED
    let p := match d with
      | .ha => if running p d then helmLost .a p else p
      | .hb => if running p d then helmLost .b p else p
      | .sw => stewardStop p
      | _ => p
    let p := p |> dieReset aloneIds d |> onlyIf (d == .ld) (wr .sw I_UPD.ON 0) |> wr d I_DIE.RAIL_BAD 1 |> onlyIf (d == .sw && lanesRun) (wr .sw I_STW.POWER_UP 0)
    p |> linkChanged |> onlyIf (d == .pa || d == .pb) authorityStep |> showStat

/-- BROWN_OUT_RELEASE (R478, R490): the die qualifies its clocks, without RESET_N. -/
def brownOutRelease (d : Die) (p : Pkg) : Pkg :=
  if !(flag p d I_DIE.RAIL_BAD) then p
  else p |> wr d I_DIE.RAIL_BAD 0 |> onlyIf (!(flag p .sw I_PKG.RESET_LOW) && !(flag p .sw I_PKG.PG_WAIT)) (wr d I_DIE.RUN 1) |> showStat

/-! The retirement list at a start (R59, R446). -/

/-- A loop slot of the list is out of use: its logical slot stands on the lowest-numbered free spare, or is lost. -/
def slotOut (x : Side) (ph : Nat) (p : Pkg) : Pkg :=
  let d := x.helm
  let lg := rdI p d LOOP_PHYS.LOGICAL ph
  let free := (List.range 16).find? (fun k => !(flagI p d LOOP_PHYS.RETIRED (256 + k)) && rdI p d LOOP_PHYS.LOGICAL (256 + k) == 0xFFFF)
  let left (q : Pkg) : Pkg := wr d LOOP_STATUS.SPARES_LEFT
    (((List.range 16).filter (fun k => !(flagI q d LOOP_PHYS.RETIRED (256 + k)) && rdI q d LOOP_PHYS.LOGICAL (256 + k) == 0xFFFF)).length) q
  if flagI p d LOOP_PHYS.RETIRED ph || !(decide (ph < 272)) then p
  else
    let p := p |> wrI d LOOP_PHYS.RETIRED ph 1 |> wrI d LOOP_PHYS.LOGICAL ph 0xFFFF
    if lg = 0xFFFF then left p
    else match free with
      | some k => p |> wrI d LOOP_PHYS.LOGICAL (256 + k) lg |> wrI d LOOP_SLOT.PHYS lg (256 + k) |> left
      | none => p |> wrI d LOOP_SLOT.PHYS lg 0xFFFF |> setSlot x lg (lostRec p x lg) |> wr d LOOP_STATUS.SLOT_LOST 1

/-- A furrow engine that the list names is out of use in a lane (R59): its own, and its partner's whose work moved to the spare (R207). -/
def engineOut (x : Side) (e : Nat) (p : Pkg) : Pkg :=
  let d := x.helm
  if bit (rd p d SOL_FURROW_STATE.RETIRED) e then p
  else
    let spareFree := !(flag p d SOL_FURROW_STATE.SPARE_USED) && !(bit (rd p d SOL_FURROW_STATE.RETIRED) 8)
    let p := wr d SOL_FURROW_STATE.RETIRED (rd p d SOL_FURROW_STATE.RETIRED + 2 ^ e) p
    match (List.range 8).find? (fun k => (furrowPhys p d).getD k 9 == e) with
    | some k =>
      if spareFree then p |> wr d (furrowMapFld k) 8 |> wr d SOL_FURROW_STATE.SPARE_USED 1
      else p |> wr d SOL_FURROW_STATE.SOLVER_LOST 1 |> wr d SOL_STATUS.SOLVER_LOST 1
    | none => p

/-- A CAN controller of the list is out of use: the spare serves its port, if it is free. -/
def controllerOut (d : Die) (c : Nat) (p : Pkg) : Pkg :=
  let ret := rd p d CAN_DIE_STATUS.RETIRED
  if bit ret c ∨ 5 ≤ c then p
  else
    let p := wr d CAN_DIE_STATUS.RETIRED (ret + 2 ^ c) p
    if c = 4 then p
    else if flag p d CAN_DIE_STATUS.SPARE_USED || bit ret 4 then p |> wrI d I_CAN.DEAD c 1 |> wrI d CAN_STATUS.STATE c 3
    else p |> wr d CAN_DIE_STATUS.SPARE_USED 1 |> wr d CAN_DIE_STATUS.SPARE_FOR c

/-- One entry of the list, applied to a die. -/
def applyEntry (d : Die) (j : Nat) (p : Pkg) : Pkg :=
  let e := rdI p .sw STW_RET.DIE j
  let kind := rdI p .sw STW_RET.KIND j
  let i := rdI p .sw STW_RET.INDEX j
  let helm := d == .ha || d == .hb
  let mine := e == d.num || (flagI p .sw STW_RET.SPARED j && (e == 1 || e == 2))
  if helm && kind == 2 && mine then engineOut (Die.side d) i p
  else if e ≠ d.num then p
  else match kind with
    | 1 => if helm then slotOut (Die.side d) i p else p
    | 3 => wrI d GNS_CHAN.STATE i 4 p
    | 4 => controllerOut d i p
    | 5 => wrI d I_PORT.AIN_RETIRED i 1 p
    | _ => p

/-- A die applies the list before it leaves reset. -/
def applyRetired (d : Die) (p : Pkg) : Pkg := forAll (List.range (min 64 (rd p .sw I_RET.COUNT))) (applyEntry d) p

/-- Fields of an entry of the list. -/
def retFlds : List Fld := [STW_RET.DIE, STW_RET.KIND, STW_RET.INDEX, STW_RET.SPARED, STW_RET.SELFTEST, STW_RET.WHEN, I_RET.CLEAR]

/-- Take an entry out of the list: the later ones move up. -/
def removeEntry (j : Nat) (p : Pkg) : Pkg :=
  let move (k : Nat) (q : Pkg) : Pkg := forAll retFlds (fun F u => wrI .sw F k (rdI u .sw F (k + 1)) u) q
  p |> forAll ((List.range 64).filter (fun k => decide (j ≤ k))) move |> wr .sw I_RET.COUNT (rd p .sw I_RET.COUNT - 1)
    |> onlyIf (running p .sw) (fun q => q |> wr .sw STW_STATUS.RETIRED (rd p .sw I_RET.COUNT - 1) |> linksShow)

/-- A resource named by RETIRE_CLEAR comes back if its self-test passes; else it stays retired. `fails`: kind and index of the resources
that fail. -/
def entryBack (d : Die) (fails : List (Nat × Nat)) (j : Nat) (p : Pkg) : Pkg :=
  let kind := rdI p .sw STW_RET.KIND j
  let i := rdI p .sw STW_RET.INDEX j
  if !(flagI p .sw I_RET.CLEAR j) || rdI p .sw STW_RET.DIE j != d.num then p
  else if fails.contains (kind, i) then wrI .sw I_RET.CLEAR j 0 p
  else
    let page (k : Nat) (q : Pkg) : Pkg := if rdI q d I_SRAM.PAGE k = i + 1 then wrI d I_SRAM.PAGE k 0 q else q
    p |> onlyIf (kind == 0 && decide (i < spareBase)) (forAll (List.range 256) page) |> onlyIf (kind == 0 && decide (spareBase ≤ i)) (wrI d I_SRAM.PAGE (i - spareBase) 0)
      |> removeEntry j

/-- The entries of a die that RETIRE_CLEAR has named, the last first. -/
def backToService (d : Die) (fails : List (Nat × Nat)) (p : Pkg) : Pkg := forAll (List.range 64).reverse (entryBack d fails) p

/-- A die that starts takes PERM_COUNT, PERM_WINDOW and the limit its sensors act on from the settings store (R443, R444). -/
def permFromStore (d : Die) (p : Pkg) : Pkg :=
  let word := match copyInUse p.settings (hashNow p) with
    | some s => ((p.settings.get s).recs.find? (fun e => e.1 == STW_FAULT_CFG.PERM_COUNT.off)).map (fun e => e.2)
    | none => none
  match word with
  | some w => p |> wr d I_DIE.PERM_COUNT (w % 16) |> wr d I_DIE.PERM_WINDOW (w / 16 % 4096) |> wr d I_DIE.TEMP_CRIT (w / 16777216 % 256)
  | none => p

/-! Qualification (R380, R381). -/

/-- QUAL_RETRY (R380): after a trip of the fast detector the whole qualification restarts, else the step that failed. -/
def qualRetry (d : Die) (p : Pkg) : Pkg :=
  if rd p d I_DIE.RUN = 1 ∧ flag p d I_CLK.RESTART then p |> wr d I_CLK.RESTART 0 |> wr d CLK_STATUS.QUAL_IOSC 0 |> wr d CLK_STATUS.QUAL_A 0 |> wr d CLK_STATUS.QUAL_B 0 else p

/-- The package runs on a layout. -/
def packageRuns (p : Pkg) : Bool :=
  (running p .ha && flag p .ha I_LANE.LAYOUT_APPLIED) || (running p .hb && flag p .hb I_LANE.LAYOUT_APPLIED) || rd p .sw I_LYT.BOOT == 3

/-- What a die does when it leaves reset. -/
def dieStarts (d : Die) (fails : List (Nat × Nat)) (lp : Ledger × Pkg) : Ledger × Pkg :=
  let p := lp.2
  let src := rd p d CLK_STATUS.SOURCE
  let p := p |> wr d I_DIE.RUN (if d = .sw then 3 else 2) |> wr d CLK_STATUS.PLL_LOCK (b2n (src != 2)) |> wr d CLK_STATUS.ON_OTHER (b2n (src == 1))
    |> onlyIf (flag p d CLK_STATUS.ROOT_MISMATCH) (logOpen d clsWarning 0x02 16 .unstated) |> onlyIf (src == 2) (fallEffects d)
    |> onlyIf (d == .pa && !(flag p .pb TIM_STATUS.SPINE_MASTER)) (wr .pa TIM_STATUS.SPINE_MASTER 1)
    |> permFromStore d |> linkChanged
  let x := Die.side d
  let runs := packageRuns p
  match d with
  | .sw => (lp.1, backToService d fails p)
  | .ld => (lp.1, backToService d fails p)
  | .ha | .hb => (lp.1, p |> wr d HG_STATUS.LANE_STATE 0 |> helmSees x |> wr d HG_STATUS.INHIBIT (b2n (inhibited p x)))
  | .ga | .gb =>
    let p := p |> backToService d fails |> applyRetired d |> wr d GNS_STATUS.STATE (if src = 2 then 6 else 1)
    match (if runs then layoutFor lp.1.mram p d else none) with
    | some l => (lp.1, dieApply l d p)
    | none => (lp.1, p)
  | .pa | .pb =>
    let p := p |> backToService d fails |> applyRetired d |> wr d I_PORT.BEAT_AT (now p d) |> wr d I_PORT.ARB_HELD (b2n runs)
    (lp.1, if runs then p else p |> arbiterStep x |> authorityStep)

/-- Step 1 of Table 14-3 passes: IOSC edges in 32 watch periods. -/
def ioscPasses (n : Nat) : Bool := decide (87891 ≤ n) && decide (n ≤ 107422)

/-- Step 2 of Table 14-3 passes: a root's edges in ten windows of 10,000 IOSC periods. -/
def rootPasses (w : List Nat) : Bool := w.length == 10 && w.all (fun n => decide (2548 ≤ n) && decide (n ≤ 2652))

/-- Step 3 of Table 14-3 passes: the home root's edges in ten windows of the other root, summed. -/
def rootsAgree (n : Nat) : Bool := decide (2079896 ≤ n) && decide (n ≤ 2080104)

/-- QUALIFICATION_DONE (R380, R381, R446, R513): `edges` counts IOSC's in step 1, `winA` and `winB` each root's in the windows of step 2, `sum`
those of step 3; `fails` are the resources whose self-test fails. Without both roots the third step cannot pass. A die whose qualification
restarts waits for its retry. One that runs with ROOT_MISMATCH loses it when the step passes. -/
def qualificationDone (d : Die) (edges : Nat) (winA winB : List Nat) (sum : Nat) (fails : List (Nat × Nat)) (lp : Ledger × Pkg) : Ledger × Pkg :=
  let p := lp.2
  let iosc := ioscPasses edges
  let rootA := rootPasses winA
  let rootB := rootPasses winB
  let all := rootA && rootB && rootsAgree sum
  if flag p d I_CLK.RESTART then lp else
  if rd p d I_DIE.RUN ≠ 1 then
    (lp.1, onlyIf (flag p d CLK_STATUS.ROOT_MISMATCH && all) (fun q => q |> wr d CLK_STATUS.ROOT_MISMATCH 0 |> wr d I_CLK.STAT 0 |> showStat) p)
  else
    let home := if d.homeB then rootB else rootA
    let other := if d.homeB then rootA else rootB
    let p := wr d CLK_STATUS.QUAL_IOSC (b2n iosc) p
    let lp := if !iosc then (lp.1, wr d I_CLK.STAT 1 p)
      else
        let p := p |> wr d CLK_STATUS.QUAL_A (b2n rootA) |> wr d CLK_STATUS.QUAL_B (b2n rootB)
        if home then dieStarts d fails (lp.1, p |> wr d CLK_STATUS.SOURCE 0 |> wr d CLK_STATUS.ROOT_MISMATCH (b2n (!all)) |> wr d I_CLK.STAT (if all then 0 else 4))
        else if other then dieStarts d fails (lp.1, p |> wr d CLK_STATUS.SOURCE 1 |> wr d I_CLK.STAT 0)
        else if d = .sw then dieStarts d fails (lp.1, p |> wr d CLK_STATUS.SOURCE 2 |> wr d I_CLK.STAT 3)
        else (lp.1, wr d I_CLK.STAT 3 p)
    onPkg showStat lp

/-! The boot of a lane (R441, R453, R460, R461, R470, R478, R479). -/

/-- The first failing address of the settings copy that new firmware reads (R461), 0 where the SCHEMA does not match. The firmware's
ranges are taken to be the registers'. -/
def settingsFault (m : List Host.Cell) (p : Pkg) (x : Side) : Option Nat :=
  match copyInUse p.settings (hashNow p) with
  | none => none
  | some s =>
    let c := p.settings.get s
    let h := mramRead m (imageBase x.num) 256
    if c.schema < leAt h 24 4 ∨ leAt h 28 4 < c.schema then some 0
    else
      let q := loadSettings x.helm p
      (c.recs.find? (fun e => (txDies e.1).contains x.helm && (match txWord e.1 with
        | some (_, h) => !(rangesOk q e.1 x.helm h)
        | none => true))).map (fun e => e.1)

/-- Settings that are PENDING, in the lane that proves the structural change for which they were formed (R430). -/
def loadPending (d : Die) (p : Pkg) : Pkg :=
  let recs := if p.settings.a.state = 0 then p.settings.a.recs else if p.settings.b.state = 0 then p.settings.b.recs else []
  forAll (recs.filter (fun e => (txDies e.1).contains d)) (fun e => applyTx d (e.1 % 2 ^ 28) e.2) p

/-- The navigation store of the partner, which a lane that takes no copies receives (R430 step 2). -/
def takeNav (x : Side) (p : Pkg) : Pkg := onLane x (fun l => { l with nav := (p.lanes.get x.other).nav }) p

/-- A lane in STARTING obtains its layout and settings, and comes up (R430, R441, R478). While a copy is PENDING it waits (R420). -/
def laneStart (x : Side) (lp : Ledger × Pkg) : Ledger × Pkg :=
  let p := lp.2
  let d := x.helm
  if rd p .sw LYT_STATUS.PHASE = 2 ∧ rd p .sw LYT_STATUS.TARGET_B = x.num then
    if !(ledgerUp p) then lp
    else (lp.1, p |> laneApply (layoutOf (imageAt lp.1.mram stagedBase)) x |> loadPending d |> takeNav x |> laneUpNow x |> wr .sw LYT_STATUS.PHASE 3)
  else if pendingCopy p then lp
  else
    let silent := !(running p .sw) || flag p .pa I_DIE.STEWARD_SILENT || flag p .pb I_DIE.STEWARD_SILENT || !(reaches p .sw d)
    match (if silent || rd p .sw I_LYT.BOOT == 3 then layoutFor lp.1.mram p d else none) with
    | none => lp
    | some l =>
      match (if slotState p x = 4 then settingsFault lp.1.mram p x else none) with
      | some a => (lp.1, p |> raiseWith .sw clsWarning UPD_EVENT.SETTINGS_INCOMPATIBLE (.words [a]) |> failUpdate x 7)
      | none =>
        let apart := slotState p x == 4 && rd p d I_LANE.COPY_FORMAT != rd p x.other.helm I_LANE.COPY_FORMAT && isActive p x.other
        (lp.1, p |> laneApply l x |> loadSettings d |> onlyIf apart (takeNav x) |> laneUpNow x)

/-- The confirm window of a slot begins (R460). -/
def trialStart (t : Nat) (p : Pkg) : Pkg := p |> wrI .sw I_UPD.TRIAL_AT t (now p .sw) |> trialShow |> journalWrite

/-- The image of a lane has passed: its firmware starts and reaches STARTING (R453, R460, R470). -/
def laneFirmware (m : List Host.Cell) (x : Side) (fails : List (Nat × Nat)) (p : Pkg) : Pkg :=
  let d := x.helm
  let h := mramRead m (imageBase x.num) 256
  p |> showImage m x.num |> backToService d fails |> applyRetired d |> permFromStore d |> wr d HG_STATUS.LANE_STATE 1
    |> onlyIf (flagI p .sw I_PKG.LOST x.num) (fun q => q |> wrI .sw I_PKG.LOST x.num 0 |> logCause x 6)
    |> wr d I_LANE.DET_CLASS (leAt h 18 2) |> wr d I_LANE.COPY_FORMAT (leAt h 20 2) |> wr .sw (badFld x.num) 0
    |> onlyIf (slotState p x == 3 || slotState p x == 4) (fun q => setSlotState 4 q x |> trialStart x.num) |> journalWrite

/-- The image of a lane has failed a check (R453): the lane stays DOWN, the slot is BAD, an update in progress ends as failed. -/
def laneImageBad (x : Side) (f : ImgFault) (p : Pkg) : Pkg :=
  let st := slotState p x
  p |> (if st = 3 ∨ st = 4 then failUpdate x 12 else fun q => q |> wr .sw UPD_FAIL.REASON 12 |> wr .sw UPD_FAIL.STAGE st) |> wr .sw UPD_FAIL.BLOCK f.2
    |> wr .sw (badFld x.num) 1 |> journalWrite |> logOpen x.helm clsWarning 0x07 17 (.words [f.1, f.2])

/-- LANE_BOOT (R453, R441, R478): the boot ROM of a lane that is DOWN ends its check; a lane in STARTING asks again for what it lacks.
A lane whose region is not trusted, or is BAD, waits for its restoration (R466, R470). -/
def laneBoot (x : Side) (fails : List (Nat × Nat)) (lp : Ledger × Pkg) : Ledger × Pkg :=
  let p := lp.2
  let d := x.helm
  let st := slotState p x
  if !(running p d) || bit (rd p .sw I_PKG.STRAPS) 1 || st == 6 then lp
  else if laneState p x = 1 then laneStart x lp
  else if laneState p x ≠ 0 ∨ st = 1 ∨ st = 2 ∨ flag p .sw (badFld x.num) ∨ !(ledgerFrom p d) then lp
  else match imageCheck lp.1.mram p x.num none with
    | some f => (lp.1, laneImageBad x f p)
    | none => laneStart x (lp.1, laneFirmware lp.1.mram x fails p)

/-! The boot of the steward (R440, R453, R470, R472, R473, R479). -/

/-- The steward waits in ROM service mode for the ledger (Table 19-2). -/
def stewardWaits (p : Pkg) : Pkg := p |> wr .sw I_DIE.RUN 2 |> wr .sw STW_STATUS.ROM_SERVICE 1 |> wr .sw I_STW.WAIT_LEDGER 1

/-- The steward's image has been checked: its firmware starts, or its ROM stays in service mode. -/
def stewardStarts (m : List Host.Cell) (p : Pkg) : Pkg :=
  let st := slotSt p 2
  let fault := imageCheck m p 2 none
  let rom := bit (rd p .sw I_PKG.STRAPS) 0 || fault.isSome || st == 1 || st == 2 || (st == 4 && decide (2 ≤ rd p .sw I_UPD.WD_RESETS))
  let p := p |> wr .sw I_STW.WAIT_LEDGER 0 |> wr .sw I_DIE.RUN 2 |> wr .sw STW_STATUS.ROM_SERVICE (b2n rom)
  let p := match fault with
    | some f =>
      if st = 1 ∨ st = 2 then p
      else p |> onlyIf (st == 3) (failTarget 2 12 f.2) |> wr .sw (badFld 2) 1 |> logOpen .sw clsWarning 0x07 17 (.words [f.1, f.2])
    | none => if st = 1 ∨ st = 2 then p else p |> showImage m 2 |> wr .sw (badFld 2) 0
  let p := journalWrite p
  if rom then p
  else if st = 3 then p |> putSlot 2 4 |> trialStart 2 else if st = 4 ∧ flag p .sw I_STW.POWER_UP then trialStart 2 p else p

/-- The action of Table 18-7 for a lane's slot. -/
def journalLane (x : Side) (p : Pkg) : Pkg :=
  let st := slotState p x
  let p := if st = 1 ∨ st = 2 then failUpdate x Config.powerLossReason p
    else if st = 6 then p |> wr .sw I_UPD.ON 0 |> wr .sw I_UPD.RESTORE_WORDS 0 |> wr .sw I_UPD.BITMAP 0 |> wr .sw UPD_STATUS.BLOCKS 0 else p
  p |> journalWrite |> onlyIf (busySlot st) (raise .sw clsInfo UPD_EVENT.RESUMED)

/-- What a steward that has started shows of the links, the NME events, the ring and the store. -/
def stewardShows (p : Pkg) : Pkg := p |> keysShow |> wr .sw STW_STATUS.RETIRED (rd p .sw I_RET.COUNT) |> linksShow |> nmeShow |> logPathShow |> markPending 1

/-- The steward acts on the journal at power-up (R420, R435, R467, R470). -/
def powerUpJournal (lp : Ledger × Pkg) : Ledger × Pkg :=
  let marked := flag lp.2 .sw I_LYT.MARKER
  lp |> onPkg (fun p => p |> voidAtStart |> stewardShows |> onlyIf (rd p .sw I_PKG.STRAPS ≥ 4) (logOpen .sw clsWarning 0x00 15 .unstated)
      |> journalLane .a |> journalLane .b |> laneFloor |> stewardFloor |> wr .sw I_STW.POWER_UP 0 |> wr .sw I_LYT.BOOT 0)
    |> layoutCopy |> onPkg (onlyIf marked (raise .sw clsInfo LYT_EVENT.MARKER_RESUMED))

/-- The restarted steward rebuilds what it lost (R420, R440): the session table, its layout and settings. -/
def restartWork (lp : Ledger × Pkg) : Ledger × Pkg :=
  let p := lp.2
  let l := currentLayout lp.1.mram p
  let lanes := flag p .ha I_LANE.LAYOUT_APPLIED || flag p .hb I_LANE.LAYOUT_APPLIED
  let layout (q : Pkg) : Pkg :=
    if lanes || rd q .sw I_LYT.BOOT == 3 then
      q |> wr .sw I_LYT.BOOT 3 |> wr .sw LYT_STATUS.CURRENT_VALID 1 |> showHash LYT_HASH.HASH l.hash |> wr .sw LYT_SCHEMA.SCHEMA l.schema
        |> (fun u => { u with banks := l.banks }) |> putLy l .sw |> loadSettings .sw
    else q
  (lp.1, p |> forAll (List.range 8) rebuildSlot |> voidAtStart |> layout |> stewardShows |> raise .sw clsInfo STW_EVENT.RESTARTED)

/-- The steward's boot goes on, the ledger being in reach. -/
def stewardGoes (lp : Ledger × Pkg) : Ledger × Pkg :=
  let up := flag lp.2 .sw I_STW.POWER_UP
  let lp := (lp.1, stewardStarts lp.1.mram lp.2)
  onPkg showStat (if up then powerUpJournal lp else restartWork lp)

/-- STEWARD_BOOT (R453, R470, R479): at power-up. -/
def stewardBoot (lp : Ledger × Pkg) : Ledger × Pkg :=
  let p := lp.2
  if rd p .sw I_DIE.RUN ≠ 3 ∨ !(flag p .sw I_STW.POWER_UP) then lp
  else if !(ledgerFrom p .sw) then (lp.1, showStat (stewardWaits p))
  else stewardGoes lp

/-- STEWARD_RESTART_DONE (R440, R472): after a reset of the steward while the package runs. -/
def stewardRestartDone (lp : Ledger × Pkg) : Ledger × Pkg :=
  let p := lp.2
  if rd p .sw I_DIE.RUN ≠ 3 ∨ flag p .sw I_STW.POWER_UP then lp
  else if !(ledgerFrom p .sw) then (lp.1, showStat (stewardWaits p))
  else stewardGoes lp

/-- BOOT_LEDGER_RETRY (R453): a boot ROM reads the ledger again. -/
def bootLedgerRetry (d : Die) (fails : List (Nat × Nat)) (lp : Ledger × Pkg) : Ledger × Pkg :=
  match d with
  | .ha => laneBoot .a fails lp
  | .hb => laneBoot .b fails lp
  | .sw => if running lp.2 .sw && flag lp.2 .sw I_STW.WAIT_LEDGER && ledgerFrom lp.2 .sw then stewardGoes lp else lp
  | _ => lp

/-- LAYOUT_CHECK_DONE (R479 steps 5 and 6): the current image has been checked with steps 1 to 5 of R427. -/
def layoutCheckDone (lp : Ledger × Pkg) : Ledger × Pkg :=
  let p := lp.2
  let b := imageAt lp.1.mram (currentBase p)
  if !(ledgerUp p) || flag p .sw I_STW.POWER_UP || flag p .sw I_STW.WAIT_LEDGER || rd p .sw I_LYT.BOOT != 0 then lp
  else match lytCheck p b b.length with
    | none => (lp.1, p |> wr .sw I_LYT.BOOT 1 |> wr .sw I_LYT.APPLY_AT (boundaryFrom p (now p .sw + 10000000)) |> showHash LYT_HASH.HASH (imageHash b)
        |> wr .sw LYT_SCHEMA.SCHEMA (leAt b 12 4) |> wr .sw LYT_STATUS.CURRENT_VALID 1 |> showStat)
    | some f => (lp.1, p |> wr .sw I_LYT.BOOT 2 |> wr .sw LYT_STATUS.CURRENT_VALID 0 |> wr .sw LYT_FAIL.STEP f.1 |> wr .sw LYT_FAIL.SECTION f.2.1
        |> wr .sw LYT_FAIL.OFFSET f.2.2 |> inc .sw LYT_FAILS.V |> raise .sw clsWarning LYT_EVENT.INVALID |> showStat)

/-! The election (R480, R481). -/

/-- The lane stands in the primary's place: a lane in TRIAL stands behind an eligible partner that is not. -/
def electsFirst (p : Pkg) (x : Side) : Bool :=
  let tx := slotState p x == 4
  let ty := slotState p x.other == 4
  if tx && !ty then isPrimary p x && !(mayElect p x.other) else if ty && !tx then true else isPrimary p x

/-- LANE_ELIGIBLE (R480): the lane becomes eligible; in the primary's place it arms at once, else its wait begins. -/
def laneEligible (x : Side) (p : Pkg) : Pkg :=
  let d := x.helm
  if !(mayElect p x) || flag p d I_LANE.ELIGIBLE then p
  else if electsFirst p x then p |> wr d I_LANE.ELIGIBLE 0 |> wr d HG_STATUS.ARMED 1
  else p |> wr d I_LANE.ELIGIBLE 1 |> wr d I_LANE.ELIG_AT (now p d)

/-- ELECT_WAIT (R480): 1 s after it became eligible the other lane arms, if the first one's line is still high. -/
def electWait (x : Side) (p : Pkg) : Pkg :=
  let d := x.helm
  if !(flag p d I_LANE.ELIGIBLE) || decide (now p d < rd p d I_LANE.ELIG_AT + 1000000000) then p
  else p |> wr d I_LANE.ELIGIBLE 0 |> onlyIf (mayElect p x && !(lineLow p x.other)) (wr d HG_STATUS.ARMED 1)

/-! The commands of the table: one meaning each. -/

/-- QUAL_RETRY (R380). -/
def execQualRetry (d : Die) (s : State) : Host.Outcome State Fault Refusal := nextPk s (qualRetry d)

/-- QUALIFICATION_DONE (R381). -/
def execQualificationDone (d : Die) (edges : Nat) (winA winB : List Nat) (sum : Nat) (fails : List (Nat × Nat)) (s : State) : Host.Outcome State Fault Refusal := nextLp s (qualificationDone d edges winA winB sum fails)

/-- BOOT_LEDGER_RETRY (R453). -/
def execBootLedgerRetry (d : Die) (fails : List (Nat × Nat)) (s : State) : Host.Outcome State Fault Refusal := nextLp s (bootLedgerRetry d fails)

/-- LANE_BOOT (R453). -/
def execLaneBoot (x : Side) (fails : List (Nat × Nat)) (s : State) : Host.Outcome State Fault Refusal := nextLp s (laneBoot x fails)

/-- RESET_RELEASE (R477). -/
def execResetRelease (straps : Nat) (good : Bool) (s : State) : Host.Outcome State Fault Refusal := nextPk s (resetRelease straps good)

/-- BROWN_OUT (R490). -/
def execBrownOut (d : Die) (s : State) : Host.Outcome State Fault Refusal := nextPk s (brownOut d)

/-- BROWN_OUT_RELEASE (R490). -/
def execBrownOutRelease (d : Die) (s : State) : Host.Outcome State Fault Refusal := nextPk s (brownOutRelease d)

/-- LANE_ELIGIBLE (R480). -/
def execLaneEligible (x : Side) (s : State) : Host.Outcome State Fault Refusal := nextPk s (laneEligible x)

/-- ELECT_WAIT (R480). -/
def execElectWait (x : Side) (s : State) : Host.Outcome State Fault Refusal := nextPk s (electWait x)

/-- STEWARD_RESTART_DONE (R440). -/
def execStewardRestartDone (s : State) : Host.Outcome State Fault Refusal := nextLp s stewardRestartDone

/-- STEWARD_BOOT (R479). -/
def execStewardBoot (s : State) : Host.Outcome State Fault Refusal := nextLp s stewardBoot

/-- LAYOUT_CHECK_DONE (R479). -/
def execLayoutCheckDone (s : State) : Host.Outcome State Fault Refusal := nextLp s layoutCheckDone

/-- RESET_ASSERT (R477). -/
def execResetAssert (s : State) : Host.Outcome State Fault Refusal := nextPk s resetAssert

/-- PWR_GOOD_FALL (R476). -/
def execPwrGoodFall (s : State) : Host.Outcome State Fault Refusal := nextPk s pwrGoodFall

/-- PWR_GOOD_WAIT (R476). -/
def execPwrGoodWait (s : State) : Host.Outcome State Fault Refusal := nextPk s pwrGoodWait

end Sys2Proof.Machine
end

