-- ==== Sys2Proof/Machine/Jtag.lean ====
section
/-! DEFINITION. The test access port (spec/20, R497), which follows IEEE 1149.1. The boundary-scan register has one bit for each digital
ball of Tables 20-11 and 20-12 but the TAP's own five, in the order of the tables: 62 balls of the A side, their 62 counterparts, 18
system balls. -/

namespace Sys2Proof.Machine

/-- IDCODE: the version in [31:28], the part number in [27:12], the manufacturer in [11:1], bit 0 set. -/
def idcode : Nat := 0 * 2 ^ 28 + 0x08A8 * 2 ^ 12 + Config.jtagManufacturer % 2048 * 2 + 1

/-- JTAG_BYPASS: the bypass register, one bit that captures 0, stands between TDI and TDO. -/
def jtagBypass (p : Pkg) : Pkg := p |> wr .sw I_JTAG.IR 0 |> wr .sw I_JTAG.DR 0

/-- JTAG_IDCODE: the identification register is captured. -/
def jtagIdcode (p : Pkg) : Pkg := p |> wr .sw I_JTAG.IR 1 |> wr .sw I_JTAG.DR idcode

/-- JTAG_SAMPLE_PRELOAD: the levels at the balls are captured, and the values shifted in are held for EXTEST and CLAMP; the pins are
not disturbed. -/
def jtagSamplePreload (pins shifted : Nat) (p : Pkg) : Pkg := p |> wr .sw I_JTAG.IR 2 |> wr .sw I_JTAG.CAP pins |> wr .sw I_JTAG.BSR shifted

/-- JTAG_EXTEST: the pins are driven from the boundary-scan register, the levels at the balls are captured, and new values may be
shifted in. -/
def jtagExtest (pins : Nat) (shifted : Option Nat) (p : Pkg) : Pkg :=
  let p := p |> wr .sw I_JTAG.IR 3 |> wr .sw I_JTAG.CAP pins
  match shifted with
  | some v => wr .sw I_JTAG.BSR v p
  | none => p

/-- JTAG_HIGHZ: the scanned outputs are in high impedance, the bypass register is selected. -/
def jtagHighz (p : Pkg) : Pkg := p |> wr .sw I_JTAG.IR 4 |> wr .sw I_JTAG.DR 0

/-- JTAG_CLAMP: the pins stay at the boundary-scan values, the bypass register is selected. -/
def jtagClamp (p : Pkg) : Pkg := p |> wr .sw I_JTAG.IR 5 |> wr .sw I_JTAG.DR 0

/-- What the boundary scan drives at a digital ball: nothing (the ball follows its die), high impedance, or a level, whatever the sluices
hold. -/
inductive PadDrive
  | function | highZ | level (high : Bool)
  deriving DecidableEq, Repr

/-- The drive of ball `n` of the boundary-scan register. -/
def padDrive (p : Pkg) (n : Nat) : PadDrive :=
  match rd p .sw I_JTAG.IR with
  | 3 => .level (bit (rd p .sw I_JTAG.BSR) n)
  | 4 => .highZ
  | 5 => .level (bit (rd p .sw I_JTAG.BSR) n)
  | _ => .function

/-! The commands of the table: one meaning each. -/

/-- JTAG_SAMPLE_PRELOAD (R497). -/
def execJtagSamplePreload (pins shifted : Nat) (s : State) : Host.Outcome State Fault Refusal := nextPk s (jtagSamplePreload pins shifted)

/-- JTAG_EXTEST (R497). -/
def execJtagExtest (pins : Nat) (shifted : Option Nat) (s : State) : Host.Outcome State Fault Refusal := nextPk s (jtagExtest pins shifted)

/-- JTAG_BYPASS (R497). -/
def execJtagBypass (s : State) : Host.Outcome State Fault Refusal := nextPk s jtagBypass

/-- JTAG_IDCODE (R497). -/
def execJtagIdcode (s : State) : Host.Outcome State Fault Refusal := nextPk s jtagIdcode

/-- JTAG_HIGHZ (R497). -/
def execJtagHighz (s : State) : Host.Outcome State Fault Refusal := nextPk s jtagHighz

/-- JTAG_CLAMP (R497). -/
def execJtagClamp (s : State) : Host.Outcome State Fault Refusal := nextPk s jtagClamp

end Sys2Proof.Machine
end

