-- ==== Sys2Proof/Machine/Dispatch.lean ====
section
/-! DEFINITION. One arm a command. -/

namespace Sys2Proof.Machine

/-- The effect of a command on everything but the queue of waiting commands. -/
def exec (i : Instr) (s : State) : Host.Outcome State Fault Refusal :=
  match i with
  | .registerWrite by' d off word env => Sys2Proof.Machine.execRegisterWrite by' d off word env s
  | .pairLowRead slot addr => Sys2Proof.Machine.execPairLowRead slot addr s
  | .pairLowWrite by' d off word => Sys2Proof.Machine.execPairLowWrite by' d off word s
  | .pairHighWrite by' d off word => Sys2Proof.Machine.execPairHighWrite by' d off word s
  | .culvertCrcError l b => Sys2Proof.Machine.execCulvertCrcError l b s
  | .linkDown l b => Sys2Proof.Machine.execLinkDown l b s
  | .logPathReturn d => Sys2Proof.Machine.execLogPathReturn d s
  | .loopTick a b => Sys2Proof.Machine.execLoopTick a b s
  | .claimAssert x => Sys2Proof.Machine.execClaimAssert x s
  | .headgateLineChange x low => Sys2Proof.Machine.execHeadgateLineChange x low s
  | .laneInhibitChange x low => Sys2Proof.Machine.execLaneInhibitChange x low s
  | .sluiceWrite x y k idx w => Sys2Proof.Machine.execSluiceWrite x y k idx w s
  | .leatFlitReceive x flit => Sys2Proof.Machine.execLeatFlitReceive x flit s
  | .leatNak x seq => Sys2Proof.Machine.execLeatNak x seq s
  | .leatDown x silent => Sys2Proof.Machine.execLeatDown x silent s
  | .leatRetrainTimer ok => Sys2Proof.Machine.execLeatRetrainTimer ok s
  | .retrain x ok => Sys2Proof.Machine.execRetrain x ok s
  | .loopback x on => Sys2Proof.Machine.execLoopback x on s
  | .digestReceive x cycle => Sys2Proof.Machine.execDigestReceive x cycle s
  | .standbyReady x => Sys2Proof.Machine.execStandbyReady x s
  | .readyLost x => Sys2Proof.Machine.execReadyLost x s
  | .handshake x => Sys2Proof.Machine.execHandshake x s
  | .release x => Sys2Proof.Machine.execRelease x s
  | .arm x => Sys2Proof.Machine.execArm x s
  | .disarm x => Sys2Proof.Machine.execDisarm x s
  | .lockstepMismatch x => Sys2Proof.Machine.execLockstepMismatch x s
  | .tickDoneTimeout x => Sys2Proof.Machine.execTickDoneTimeout x s
  | .sramUe x inUse page => Sys2Proof.Machine.execSramUe x inUse page s
  | .faultHistoryAge x => Sys2Proof.Machine.execFaultHistoryAge x s
  | .clearLockout slot x => Sys2Proof.Machine.execClearLockout slot x s
  | .clearDrill slot x => Sys2Proof.Machine.execClearDrill slot x s
  | .swap r b => Sys2Proof.Machine.execSwap r b s
  | .swapReqPin low => Sys2Proof.Machine.execSwapReqPin low s
  | .swapRelease x => Sys2Proof.Machine.execSwapRelease x s
  | .reversion x => Sys2Proof.Machine.execReversion x s
  | .drill r b => Sys2Proof.Machine.execDrill r b s
  | .drillAbort r b => Sys2Proof.Machine.execDrillAbort r b s
  | .deadhandRefresh x y => Sys2Proof.Machine.execDeadhandRefresh x y s
  | .deadhandTrip y => Sys2Proof.Machine.execDeadhandTrip y s
  | .deadhandRampStep y => Sys2Proof.Machine.execDeadhandRampStep y s
  | .sampleReceive r => Sys2Proof.Machine.execSampleReceive r s
  | .frameCutoff d => Sys2Proof.Machine.execFrameCutoff d s
  | .sealReceive x d => Sys2Proof.Machine.execSealReceive x d s
  | .frameClose x => Sys2Proof.Machine.execFrameClose x s
  | .sealShort x => Sys2Proof.Machine.execSealShort x s
  | .posReacquire x => Sys2Proof.Machine.execPosReacquire x s
  | .convGained x => Sys2Proof.Machine.execConvGained x s
  | .frameRecordEmit x => Sys2Proof.Machine.execFrameRecordEmit x s
  | .srcReturned x n => Sys2Proof.Machine.execSrcReturned x n s
  | .reinit x => Sys2Proof.Machine.execReinit x s
  | .redatum x => Sys2Proof.Machine.execRedatum x s
  | .estFreeze x on => Sys2Proof.Machine.execEstFreeze x on s
  | .modeCmd c => Sys2Proof.Machine.execModeCmd c s
  | .targetPos c => Sys2Proof.Machine.execTargetPos c s
  | .moveRel c => Sys2Proof.Machine.execMoveRel c s
  | .targetHdg c => Sys2Proof.Machine.execTargetHdg c s
  | .joystick c => Sys2Proof.Machine.execJoystick c s
  | .thrusterManual c => Sys2Proof.Machine.execThrusterManual c s
  | .waypoints c => Sys2Proof.Machine.execWaypoints c s
  | .takeCommand c => Sys2Proof.Machine.execTakeCommand c s
  | .stopCmd c => Sys2Proof.Machine.execStopCmd c s
  | .telSub c => Sys2Proof.Machine.execTelSub c s
  | .joyLost x => Sys2Proof.Machine.execJoyLost x s
  | .waypointDwell x => Sys2Proof.Machine.execWaypointDwell x s
  | .assemblyRun x => Sys2Proof.Machine.execAssemblyRun x s
  | .windLost x => Sys2Proof.Machine.execWindLost x s
  | .solverRun x room pass => Sys2Proof.Machine.execSolverRun x room pass s
  | .solverDeadline x at' phaseU => Sys2Proof.Machine.execSolverDeadline x at' phaseU s
  | .furrowParityError x e at' => Sys2Proof.Machine.execFurrowParityError x e at' s
  | .solTraceFreeze x on => Sys2Proof.Machine.execSolTraceFreeze x on s
  | .regionSwap x idx => Sys2Proof.Machine.execRegionSwap x idx s
  | .bfpExit x idx => Sys2Proof.Machine.execBfpExit x idx s
  | .rcHold x idx => Sys2Proof.Machine.execRcHold x idx s
  | .plausFault x idx => Sys2Proof.Machine.execPlausFault x idx s
  | .plausAck x idx => Sys2Proof.Machine.execPlausAck x idx s
  | .loopTraceFreeze x on => Sys2Proof.Machine.execLoopTraceFreeze x on s
  | .antMonitorSample x cur => Sys2Proof.Machine.execAntMonitorSample x cur s
  | .antBiasRetry x => Sys2Proof.Machine.execAntBiasRetry x s
  | .antRetry x => Sys2Proof.Machine.execAntRetry x s
  | .channelPlan x y signals => Sys2Proof.Machine.execChannelPlan x y signals s
  | .lockLoss x c => Sys2Proof.Machine.execLockLoss x c s
  | .reacqTimeout x c => Sys2Proof.Machine.execReacqTimeout x c s
  | .cycleSlip x c => Sys2Proof.Machine.execCycleSlip x c s
  | .channelLocked x c => Sys2Proof.Machine.execChannelLocked x c s
  | .acqDwell x above => Sys2Proof.Machine.execAcqDwell x above s
  | .gnssEpoch x epoch agc1 agc5 handNs meas bistFail => Sys2Proof.Machine.execGnssEpoch x epoch agc1 agc5 handNs meas bistFail s
  | .navPage x c ended page bits good => Sys2Proof.Machine.execNavPage x c ended page bits good s
  | .rtcmFrame y u stamp frame => Sys2Proof.Machine.execRtcmFrame y u stamp frame s
  | .corrStale x g => Sys2Proof.Machine.execCorrStale x g s
  | .sbasResume x => Sys2Proof.Machine.execSbasResume x s
  | .reflectStart x => Sys2Proof.Machine.execReflectStart x s
  | .reflectDone x rtPs => Sys2Proof.Machine.execReflectDone x rtPs s
  | .hwWake x => Sys2Proof.Machine.execHwWake x s
  | .hwSleep x fresh => Sys2Proof.Machine.execHwSleep x fresh s
  | .snapTrigger x => Sys2Proof.Machine.execSnapTrigger x s
  | .captureStart x t0 => Sys2Proof.Machine.execCaptureStart x t0 s
  | .captureDone x samples => Sys2Proof.Machine.execCaptureDone x samples s
  | .snapRelease x => Sys2Proof.Machine.execSnapRelease x s
  | .snapDiscarded x => Sys2Proof.Machine.execSnapDiscarded x s
  | .gnsWeirFire x k => Sys2Proof.Machine.execGnsWeirFire x k s
  | .analogOutput y n at' => Sys2Proof.Machine.execAnalogOutput y n at' s
  | .syncReset y n => Sys2Proof.Machine.execSyncReset y n s
  | .sigSync y w => Sys2Proof.Machine.execSigSync y w s
  | .weirFire y k => Sys2Proof.Machine.execWeirFire y k s
  | .sentenceReceive y u arrival chars => Sys2Proof.Machine.execSentenceReceive y u arrival chars s
  | .dioInputChange y n high heldUs => Sys2Proof.Machine.execDioInputChange y n high heldUs s
  | .pulseEdge y n stamp => Sys2Proof.Machine.execPulseEdge y n stamp s
  | .feedbackStale y f => Sys2Proof.Machine.execFeedbackStale y f s
  | .dacLoadMeasure y o na => Sys2Proof.Machine.execDacLoadMeasure y o na s
  | .sigTest y w => Sys2Proof.Machine.execSigTest y w s
  | .portDieRestart y => Sys2Proof.Machine.execPortDieRestart y s
  | .canMsgCompose y m => Sys2Proof.Machine.execCanMsgCompose y m s
  | .pushFrame x y k tag => Sys2Proof.Machine.execPushFrame x y k tag s
  | .cancel x y k tag onBus => Sys2Proof.Machine.execCancel x y k tag onBus s
  | .canArbitrationLost y k => Sys2Proof.Machine.execCanArbitrationLost y k s
  | .canFrameSent y k sof tdcv => Sys2Proof.Machine.execCanFrameSent y k sof tdcv s
  | .canError y k tx ack dominant fdBits tdcv => Sys2Proof.Machine.execCanError y k tx ack dominant fdBits tdcv s
  | .busOn y k => Sys2Proof.Machine.execBusOn y k s
  | .canFrameReceive y k sof frame held => Sys2Proof.Machine.execCanFrameReceive y k sof frame held s
  | .canPairLatch y count => Sys2Proof.Machine.execCanPairLatch y count s
  | .canCensusWindow y => Sys2Proof.Machine.execCanCensusWindow y s
  | .canSpareTakeover y k => Sys2Proof.Machine.execCanSpareTakeover y k s
  | .ethFrameReceive k stamp ok bytes => Sys2Proof.Machine.execEthFrameReceive k stamp ok bytes s
  | .macAge y vid mac => Sys2Proof.Machine.execMacAge y vid mac s
  | .iec61162450Datagram g => Sys2Proof.Machine.execIec61162450Datagram g s
  | .udpSensorDatagram g => Sys2Proof.Machine.execUdpSensorDatagram g s
  | .ethFrameTransmit k stamp => Sys2Proof.Machine.execEthFrameTransmit k stamp s
  | .pdelayReqTimer k => Sys2Proof.Machine.execPdelayReqTimer k s
  | .ptpMessageTimer kind => Sys2Proof.Machine.execPtpMessageTimer kind s
  | .ptpMessageReceive m => Sys2Proof.Machine.execPtpMessageReceive m s
  | .ptpTxqKeyRead k host => Sys2Proof.Machine.execPtpTxqKeyRead k host s
  | .ptpPartnerWindow k => Sys2Proof.Machine.execPtpPartnerWindow k s
  | .spineMark d e16 => Sys2Proof.Machine.execSpineMark d e16 s
  | .spineMarkMissing d => Sys2Proof.Machine.execSpineMarkMissing d s
  | .spineMasterTakeover y => Sys2Proof.Machine.execSpineMasterTakeover y s
  | .stepAccept slot => Sys2Proof.Machine.execStepAccept slot s
  | .timePulseEdge y k => Sys2Proof.Machine.execTimePulseEdge y k s
  | .timIncrWrite d host v => Sys2Proof.Machine.execTimIncrWrite d host v s
  | .timSlewWrite d host v => Sys2Proof.Machine.execTimSlewWrite d host v s
  | .qualRetry d => Sys2Proof.Machine.execQualRetry d s
  | .qualificationDone d edges winA winB sum fails => Sys2Proof.Machine.execQualificationDone d edges winA winB sum fails s
  | .clockMonitorWindow d count own other => Sys2Proof.Machine.execClockMonitorWindow d count own other s
  | .fastDetectorTrip d => Sys2Proof.Machine.execFastDetectorTrip d s
  | .clockResume d periods => Sys2Proof.Machine.execClockResume d periods s
  | .fallbackTrim d iosc watch => Sys2Proof.Machine.execFallbackTrim d iosc watch s
  | .moveOther d => Sys2Proof.Machine.execMoveOther d s
  | .moveRetry d => Sys2Proof.Machine.execMoveRetry d s
  | .moveRelockDone d => Sys2Proof.Machine.execMoveRelockDone d s
  | .moveHome d => Sys2Proof.Machine.execMoveHome d s
  | .requalified d b => Sys2Proof.Machine.execRequalified d b s
  | .clkNmeAck d => Sys2Proof.Machine.execClkNmeAck d s
  | .gateDisable d on => Sys2Proof.Machine.execGateDisable d on s
  | .clkMove r b => Sys2Proof.Machine.execClkMove r b s
  | .moreTimeout y slot => Sys2Proof.Machine.execMoreTimeout y slot s
  | .openSession d src v6 b => Sys2Proof.Machine.execOpenSession d src v6 b s
  | .closeSession r b => Sys2Proof.Machine.execCloseSession r b s
  | .keepalive y slot ctr => Sys2Proof.Machine.execKeepalive y slot ctr s
  | .ident r b => Sys2Proof.Machine.execIdent r b s
  | .readWords r b => Sys2Proof.Machine.execReadWords r b s
  | .writeWord r b env => Sys2Proof.Machine.execWriteWord r b env s
  | .txnBegin r b => Sys2Proof.Machine.execTxnBegin r b s
  | .txnWrite r b => Sys2Proof.Machine.execTxnWrite r b s
  | .txnCommit r b => Sys2Proof.Machine.execTxnCommit r b s
  | .txnAbort r b => Sys2Proof.Machine.execTxnAbort r b s
  | .txnBreak r b => Sys2Proof.Machine.execTxnBreak r b s
  | .txnAckDeadline late => Sys2Proof.Machine.execTxnAckDeadline late s
  | .sessionIdleTimeout slot => Sys2Proof.Machine.execSessionIdleTimeout slot s
  | .keySet by' b => Sys2Proof.Machine.execKeySet by' b s
  | .snapExport r b => Sys2Proof.Machine.execSnapExport r b s
  | .dataAck r b => Sys2Proof.Machine.execDataAck r b s
  | .dataResend slot => Sys2Proof.Machine.execDataResend slot s
  | .dataTransferFail slot => Sys2Proof.Machine.execDataTransferFail slot s
  | .flumeSpaceReturn x => Sys2Proof.Machine.execFlumeSpaceReturn x s
  | .lytBegin r b => Sys2Proof.Machine.execLytBegin r b s
  | .lytData r b => Sys2Proof.Machine.execLytData r b s
  | .lytVerify r b => Sys2Proof.Machine.execLytVerify r b s
  | .lytApply r b => Sys2Proof.Machine.execLytApply r b s
  | .lytAbort r b => Sys2Proof.Machine.execLytAbort r b s
  | .lytExport r b => Sys2Proof.Machine.execLytExport r b s
  | .stewardSilent y => Sys2Proof.Machine.execStewardSilent y s
  | .stewardRestartWindow y => Sys2Proof.Machine.execStewardRestartWindow y s
  | .railSample r mv => Sys2Proof.Machine.execRailSample r mv s
  | .tempSample k t => Sys2Proof.Machine.execTempSample k t s
  | .currentSample r cur => Sys2Proof.Machine.execCurrentSample r cur s
  | .resourceOccurrence d kind idx selftest => Sys2Proof.Machine.execResourceOccurrence d kind idx selftest s
  | .occurrenceAge d kind idx => Sys2Proof.Machine.execOccurrenceAge d kind idx s
  | .logRecordReceive d => Sys2Proof.Machine.execLogRecordReceive d s
  | .demandSpill x slot => Sys2Proof.Machine.execDemandSpill x slot s
  | .auditHoldSend d => Sys2Proof.Machine.execAuditHoldSend d s
  | .logExport r b => Sys2Proof.Machine.execLogExport r b s
  | .logMark r b => Sys2Proof.Machine.execLogMark r b s
  | .nmeAck r b => Sys2Proof.Machine.execNmeAck r b s
  | .retireClear r b => Sys2Proof.Machine.execRetireClear r b s
  | .updBegin r b => Sys2Proof.Machine.execUpdBegin r b s
  | .updData r b => Sys2Proof.Machine.execUpdData r b s
  | .updVerify r b => Sys2Proof.Machine.execUpdVerify r b s
  | .updActivate r b => Sys2Proof.Machine.execUpdActivate r b s
  | .updReady x => Sys2Proof.Machine.execUpdReady x s
  | .updConfirm r b => Sys2Proof.Machine.execUpdConfirm r b s
  | .updAbort r b => Sys2Proof.Machine.execUpdAbort r b s
  | .trialTimeout x => Sys2Proof.Machine.execTrialTimeout x s
  | .restoreStart x => Sys2Proof.Machine.execRestoreStart x s
  | .restoreDone x => Sys2Proof.Machine.execRestoreDone x s
  | .fuseLayoutKey r b => Sys2Proof.Machine.execFuseLayoutKey r b s
  | .bootLedgerRetry d fails => Sys2Proof.Machine.execBootLedgerRetry d fails s
  | .laneBoot x fails => Sys2Proof.Machine.execLaneBoot x fails s
  | .resetRelease straps good => Sys2Proof.Machine.execResetRelease straps good s
  | .brownOut d => Sys2Proof.Machine.execBrownOut d s
  | .brownOutRelease d => Sys2Proof.Machine.execBrownOutRelease d s
  | .laneEligible x => Sys2Proof.Machine.execLaneEligible x s
  | .electWait x => Sys2Proof.Machine.execElectWait x s
  | .jtagSamplePreload pins shifted => Sys2Proof.Machine.execJtagSamplePreload pins shifted s
  | .jtagExtest pins shifted => Sys2Proof.Machine.execJtagExtest pins shifted s
  | .culvertLinkUp l b => Sys2Proof.Machine.execCulvertLinkUp l b s
  | .ethLinkChange k up speed an pause => Sys2Proof.Machine.execEthLinkChange k up speed an pause s
  | .firstStageSample y n v => Sys2Proof.Machine.execFirstStageSample y n v s
  | .gnsWeirRearm x k => Sys2Proof.Machine.execGnsWeirRearm x k s
  | .vesselCycleBoundary => Sys2Proof.Machine.execVesselCycleBoundary s
  | .releaseTick => Sys2Proof.Machine.execReleaseTick s
  | .drillDwellEnd => Sys2Proof.Machine.execDrillDwellEnd s
  | .announceTimeout => Sys2Proof.Machine.execAnnounceTimeout s
  | .servoUpdate theta fmeas => Sys2Proof.Machine.execServoUpdate theta fmeas s
  | .refTimeout => Sys2Proof.Machine.execRefTimeout s
  | .incrTimeout => Sys2Proof.Machine.execIncrTimeout s
  | .timeLocked => Sys2Proof.Machine.execTimeLocked s
  | .stepMark => Sys2Proof.Machine.execStepMark s
  | .utcLeap => Sys2Proof.Machine.execUtcLeap s
  | .txnApply => Sys2Proof.Machine.execTxnApply s
  | .txnExpired => Sys2Proof.Machine.execTxnExpired s
  | .sessionTimeExchange => Sys2Proof.Machine.execSessionTimeExchange s
  | .lytVerifyDone => Sys2Proof.Machine.execLytVerifyDone s
  | .migrateDone => Sys2Proof.Machine.execMigrateDone s
  | .lytReady => Sys2Proof.Machine.execLytReady s
  | .lytConvTimeout => Sys2Proof.Machine.execLytConvTimeout s
  | .firstApply => Sys2Proof.Machine.execFirstApply s
  | .stewardHeartbeat => Sys2Proof.Machine.execStewardHeartbeat s
  | .stewardWatchdog => Sys2Proof.Machine.execStewardWatchdog s
  | .stewardRestartDone => Sys2Proof.Machine.execStewardRestartDone s
  | .logRecordWrite => Sys2Proof.Machine.execLogRecordWrite s
  | .spillFlush => Sys2Proof.Machine.execSpillFlush s
  | .updPartTimeout => Sys2Proof.Machine.execUpdPartTimeout s
  | .updVerifyDone => Sys2Proof.Machine.execUpdVerifyDone s
  | .stewardTrialTimeout => Sys2Proof.Machine.execStewardTrialTimeout s
  | .stewardBoot => Sys2Proof.Machine.execStewardBoot s
  | .layoutCheckDone => Sys2Proof.Machine.execLayoutCheckDone s
  | .resetAssert => Sys2Proof.Machine.execResetAssert s
  | .pwrGoodFall => Sys2Proof.Machine.execPwrGoodFall s
  | .pwrGoodWait => Sys2Proof.Machine.execPwrGoodWait s
  | .jtagBypass => Sys2Proof.Machine.execJtagBypass s
  | .jtagIdcode => Sys2Proof.Machine.execJtagIdcode s
  | .jtagHighz => Sys2Proof.Machine.execJtagHighz s
  | .jtagClamp => Sys2Proof.Machine.execJtagClamp s
  | .slewDone => Sys2Proof.Machine.execSlewDone s

end Sys2Proof.Machine
end

