-- ==== Sys2Proof/Safety.lean ====
section
/-! DEFINITION. The terms in which statements speak of the machine: that a command completes, what it leaves as it was, and the form
that the ledger's memory and the register store keep. -/

namespace Sys2Proof.Machine

/-- The command answers a next state in which `P` holds; the commands that wait are untouched. -/
def Completes (c : Instr) (s : State) (P : State → Prop) : Prop := ∃ t, exec c s = .next t ∧ t.pending = s.pending ∧ P t

/-- Every register field reads, on every die and in every entry, as before, but for the named fields of the named dies. -/
def FieldsKept (touched : List (Die × Fld)) (p q : Pkg) : Prop :=
  ∀ d F i, F.count ≤ 65536 → (∀ g ∈ touched, ¬(g.1 = d ∧ g.2.id = F.id)) → rdI q d F i = rdI p d F i

/-- Nothing but the named register fields has changed. -/
def OnlyFields (touched : List (Die × Fld)) (p q : Pkg) : Prop := q = { p with regs := q.regs } ∧ FieldsKept touched p q

/-- Nothing but the named register fields and the log side of a die has changed. -/
def OnlyFieldsAndLog (d : Die) (touched : List (Die × Fld)) (p q : Pkg) : Prop :=
  q = { p with regs := q.regs, log := p.log.set d (q.log.get d) } ∧ FieldsKept touched p q

/-- Every register field of the other dies reads as before. -/
def OtherDiesKept (d : Die) (p q : Pkg) : Prop := ∀ e F i, F.count ≤ 65536 → e ≠ d → rdI q e F i = rdI p e F i

/-- Nothing has changed outside a lane: the registers, the log side and the lists of its helm. -/
def OnlyLane (x : Side) (p q : Pkg) : Prop :=
  q = { p with regs := q.regs, log := p.log.set x.helm (q.log.get x.helm), lanes := p.lanes.set x (q.lanes.get x) } ∧ OtherDiesKept x.helm p q

/-- Nothing has changed but the record of slot `i` of a lane, the named register fields of its helm and that die's log side. -/
def OnlySlot (x : Side) (i : Nat) (touched : List Fld) (p q : Pkg) : Prop :=
  q = { p with
        regs := q.regs, log := p.log.set x.helm (q.log.get x.helm)
        lanes := p.lanes.set x { p.lanes.get x with slots := (p.lanes.get x).slots.set i (slotRec q x i) } } ∧
    FieldsKept (touched.map (fun F => (x.helm, F))) p q

/-- Nothing has changed outside a baseband: its registers, its log side and its lists. -/
def OnlyBaseband (x : Side) (p q : Pkg) : Prop :=
  q = { p with regs := q.regs, log := p.log.set x.bb (q.log.get x.bb), bbs := p.bbs.set x (q.bbs.get x) } ∧ OtherDiesKept x.bb p q

/-- Nothing has changed outside a port die: its registers, its log side and the lists of its two halves. -/
def OnlyPort (y : Side) (p q : Pkg) : Prop :=
  q = { p with regs := q.regs, log := p.log.set y.port (q.log.get y.port), ports := p.ports.set y (q.ports.get y), eth := p.eth.set y (q.eth.get y) } ∧
    OtherDiesKept y.port p q

/-- Nothing has changed but register fields and log sides. -/
def OnlyRegsAndLog (p q : Pkg) : Prop := q = { p with regs := q.regs, log := q.log }

/-- Every register field of the named dies reads as before. -/
def DiesKept (l : List Die) (p q : Pkg) : Prop := ∀ d ∈ l, ∀ F i, F.count ≤ 65536 → rdI q d F i = rdI p d F i

/-- Nothing has changed but the registers and log sides of the steward and the helms, the lanes' lists and the telemetry flumes. -/
def OnlyFlumes (p q : Pkg) : Prop :=
  q = { p with regs := q.regs, log := q.log, lanes := q.lanes, tel := q.tel } ∧ DiesKept [.ga, .gb, .pa, .pb, .ld] p q

/-- The fields of a die read their reset values, but for those of the package itself and the named ones. -/
def ReadsReset (d : Die) (but : List Nat) (q : Pkg) : Prop :=
  ∀ F i, i < F.count → F.count ≤ 65536 → (F.id < pkgIds.1 ∨ pkgIds.2 ≤ F.id) → F.id ∉ but → rdI q d F i = F.reset i

/-- The ledger holds what it held: every byte of its memory reads as before. -/
def LedgerKept (s t : State) : Prop := t.ledger = s.ledger

/-- Every byte of the ledger's memory outside the regions, each a base and a length, reads as before. -/
def LedgerKeptOutside (l : List (Nat × Nat)) (s t : State) : Prop :=
  ∀ a, (∀ r ∈ l, a < r.1 ∨ r.1 + r.2 ≤ a) → mramGet t.ledger.mram a = mramGet s.ledger.mram a

/-- The log ring: its base and its length. -/
def logRing : Nat × Nat := (ringBase, 64 * ringSize)

/-- Every byte of a region of the ledger's memory reads 0. -/
def ReadsZero (lo n : Nat) (t : State) : Prop := ∀ a, lo ≤ a → a < lo + n → mramGet t.ledger.mram a = 0

/-- The command completes; nothing changes but the named register fields, and `P` holds of the package after it. -/
def ActsOn (c : Instr) (s : State) (touched : List (Die × Fld)) (P : Pkg → Prop) : Prop :=
  Completes c s (fun t => LedgerKept s t ∧ OnlyFields touched s.pk t.pk ∧ P t.pk)

/-- The command completes; nothing changes but the named register fields and the log side of die `d`, and `P` holds after it. -/
def ActsAndLogs (c : Instr) (s : State) (d : Die) (touched : List (Die × Fld)) (P : Pkg → Prop) : Prop :=
  Completes c s (fun t => LedgerKept s t ∧ OnlyFieldsAndLog d touched s.pk t.pk ∧ P t.pk)

/-- The command completes; the ledger stays, the frame `R` holds between the packages before and after, and `P` after. -/
def ActsWithin (R : Pkg → Pkg → Prop) (c : Instr) (s : State) (P : Pkg → Prop) : Prop :=
  Completes c s (fun t => LedgerKept s t ∧ R s.pk t.pk ∧ P t.pk)

/-- The command completes and leaves the state as it was. -/
def ActsNot (c : Instr) (s : State) : Prop := exec c s = .next s

/-- The steward serves a request of opcode `op` and least role `least` now: it is its turn, its session is open and the steward is
reached, the request is no copy of one served, and no long operation, no ROM service mode and no lack of a role turns it away. -/
def serves (p : Pkg) (r : Req) (op least : Nat) (b : List Nat) : Bool :=
  myTurn p r && sessionOpen p r.slot && stewardServes p r.die && !(p.nhp.later.any (fun q => q.is r.slot r.counter)) &&
    (p.nhp.answered.find? (fun m => m.slot == r.slot && m.req == r.counter)).isNone && !(flag p .sw HST_STATUS.MGMT_BUSY) &&
    (!(flag p .sw STW_STATUS.ROM_SERVICE) || romServes p op b) && decide (least ≤ rdI p .sw HST_SLOT.ROLE r.slot)

/-- The last message that has left is the steward's answer to a request: its status and its payload. -/
def Replies (r : Req) (op : Nat) (st : Status) (payload : List Nat) (p : Pkg) : Prop :=
  (p.nhp.sent.getLast?).map (fun m => (m.die, m.slot, m.opcode, m.status, m.req, m.payload)) = some (0, r.slot, op, st.code, r.counter, payload)

/-- The request completes with an answer; of the ledger's memory nothing changes but the log ring, into which the steward's own audit
records go; and `P` holds after it. -/
def Answers (c : Instr) (s : State) (r : Req) (op : Nat) (st : Status) (payload : List Nat) (P : Pkg → Prop) : Prop :=
  Completes c s (fun t => LedgerKeptOutside [logRing] s t ∧ Replies r op st payload t.pk ∧ P t.pk)

/-- Management requests with their opcode and least role (spec/15, Table 15-4). -/
def requests (r : Req) (b : List Nat) (env : Bool) : List (Instr × Nat × Nat) :=
  [(.ident r b, 0x0004, 0), (.readWords r b, 0x0200, 0), (.writeWord r b env, 0x0201, 2), (.swap r b, 0x0220, 1), (.drill r b, 0x0221, 2),
    (.drillAbort r b, 0x0222, 2), (.clkMove r b, 0x0223, 3), (.txnBegin r b, 0x0210, 1), (.txnWrite r b, 0x0211, 1), (.txnCommit r b, 0x0212, 1),
    (.txnAbort r b, 0x0213, 1), (.txnBreak r b, 0x0214, 3), (.lytBegin r b, 0x0300, 2), (.lytData r b, 0x0301, 2), (.lytExport r b, 0x0305, 0),
    (.logExport r b, 0x0500, 0), (.logMark r b, 0x0501, 2), (.nmeAck r b, 0x0510, 2), (.retireClear r b, 0x0520, 3), (.updBegin r b, 0x0400, 3),
    (.updData r b, 0x0401, 3), (.updActivate r b, 0x0403, 3), (.updConfirm r b, 0x0404, 3), (.fuseLayoutKey r b, 0x0410, 3), (.keySet (some r) b, 0x0230, 3)]

/-- Management requests that begin a long operation and wait while a commit waits for its boundary (R411). -/
def longRequests (r : Req) (b : List Nat) : List (Instr × Nat × Nat) :=
  [(.lytVerify r b, 0x0302, 2), (.lytApply r b, 0x0303, 2), (.snapExport r b, 0x0240, 2), (.updVerify r b, 0x0402, 3)]

/-- The request is one of these, or one of the second kind with no commit in its way. -/
def asked (p : Pkg) (r : Req) (b : List Nat) (env : Bool) (q : Instr × Nat × Nat) : Bool :=
  (requests r b env).contains q || ((longRequests r b).contains q && rd p .sw TXN_STATUS.STATE != 2)

/-- Nothing has changed but registers, log sides, and the messages and halves of the host side: of its queues of requests only the
answered request itself has left the one of those that wait. -/
def OnlyAnswered (r : Req) (p q : Pkg) : Prop :=
  q = { p with regs := q.regs, log := q.log, nhp := q.nhp } ∧ q.nhp.queue = p.nhp.queue.filter (fun u => !(u.from' r)) ∧ q.nhp.later = p.nhp.later ∧ q.nhp.parts = p.nhp.parts

/-- The fields that writing a log record of a class below NME changes on its die. -/
def logFields (d : Die) : List (Die × Fld) := [(d, I_DIE.SEQ)]

/-- The fields that an event of class NME changes besides. -/
def nmeFields (d : Die) : List (Die × Fld) :=
  [(d, I_DIE.SEQ), (d, I_DIE.NME), (d, I_DIE.CLKFAIL), (.sw, STW_STATUS.NME_PENDING), (.sw, STW_EVENT.NME)]

/-- Nothing has changed but the named register fields, the log side of die `d`, and the loader journal. -/
def OnlyFieldsLogAndJournal (d : Die) (touched : List (Die × Fld)) (p q : Pkg) : Prop :=
  q = { p with regs := q.regs, log := p.log.set d (q.log.get d), journal := q.journal } ∧ FieldsKept touched p q

/-- The data of a state stand in their canonical forms: the ledger's memory and the register store. -/
def State.wf (s : State) : Bool := Memory.wf s.ledger.mram && cellsWf s.pk.regs

end Sys2Proof.Machine
end

