-- ==== Sys2Proof/WellFormed.lean ====
section
/-! DEFINITION. Well-formedness of a command: its operands lie in the ranges that the chapters give them. The meanings are total and do
not need it; a sender that keeps the spec's formats sends nothing else. -/

namespace Sys2Proof

/-- Every element is a byte. -/
def bytesOk (l : List Nat) : Bool := l.all (fun b => decide (b < 256))

/-- A session slot (spec/15, R398). -/
def slotOk (s : Nat) : Bool := decide (s < 8)

/-- A 32-bit word. -/
def word32 (w : Nat) : Bool := decide (w < 2 ^ 32)

/-- A block and offset of 28 bits that names a word (spec/01, R20). -/
def offOk (off : Nat) : Bool := decide (off < 2 ^ 28) && decide (off % 4 = 0)

/-- A register address with its die (spec/01, R20). -/
def addrOk (a : Nat) : Bool := decide (a < 2 ^ 32) && decide (a % 4 = 0)

/-- One of the two port dies, through which every message enters (spec/15, R392). -/
def portDie : Die → Bool
  | .pa | .pb => true
  | _ => false

/-- A management request comes in at a port die for one of the slots, under a 64-bit counter (spec/15, R392). -/
def reqOk (r : Req) : Bool := portDie r.die && slotOk r.slot && decide (r.counter < 2 ^ 64)

/-- A control message comes in at a port die (IDs 5 and 6) for one of the slots, in bytes. -/
def cmdOk (c : Cmd) : Bool := (c.die == 5 || c.die == 6) && slotOk c.slot && decide (c.keyId < 256) && decide (c.counter < 2 ^ 64) && bytesOk c.payload

/-- A leat flit is 256 bytes (spec/02, R45). -/
def flitOk (l : List Nat) : Bool := bytesOk l && decide (l.length = 256)

/-- An output of a kind that a port die has (spec/10, spec/11). -/
def outOk : OutKind → Nat → Bool
  | .can, i => decide (i < 128)
  | .dac, i => decide (i < 16)
  | .dio, i => decide (i < 24)
  | .uart, i => decide (i < 8)

/-- The word of an output: 32 bits of a DAC output or a transmit signal, a level, or a sentence of at most 82 characters (spec/10). -/
def outWordOk : OutKind → Nat → Bool
  | .dio, w => decide (w < 2)
  | .uart, w => decide (w < 256 ^ 82)
  | _, w => decide (w < 2 ^ 32)

/-- A CAN frame: an 11-bit or 29-bit identifier, a data length code, bytes (spec/11). -/
def frameOk (f : CanFrame) : Bool :=
  decide (f.id < 2 ^ (if f.ide then 29 else 11)) && decide (f.dlc < 16) && decide (f.data.length ≤ 64) && bytesOk f.data

/-- A datagram: a port of the switch pair, a VLAN, IPv4 addresses, a UDP port, bytes (spec/12). -/
def dgramOk (g : Dgram) : Bool :=
  decide (g.port < 6) && decide (g.vid < 4096) && word32 g.dst && word32 g.src && decide (g.udp < 65536) && bytesOk g.payload

/-- The operands of a command lie in their ranges. -/
def WellFormed (i : Instr) : Bool :=
  match i with
  | .claimAssert _ => true
  | .laneInhibitChange _ _ => true
  | .leatFlitReceive _ flit => flitOk flit
  | .leatNak _ seq => decide (seq < 65536)
  | .leatDown _ _ => true
  | .leatRetrainTimer _ => true
  | .retrain _ _ => true
  | .loopback _ _ => true
  | .digestReceive _ _ => true
  | .standbyReady _ => true
  | .readyLost _ => true
  | .handshake _ => true
  | .release _ => true
  | .arm _ => true
  | .disarm _ => true
  | .lockstepMismatch _ => true
  | .tickDoneTimeout _ => true
  | .sramUe _ _ page => decide (page < 2 ^ 13)
  | .faultHistoryAge _ => true
  | .clearLockout slot _ => slotOk slot
  | .clearDrill slot _ => slotOk slot
  | .swapReqPin _ => true
  | .swapRelease _ => true
  | .reversion _ => true
  | .drillDwellEnd => true
  | .sampleReceive r => r.comps.all (fun c => decide (c < 2 ^ 64))
  | .frameCutoff _ => true
  | .sealReceive _ _ => true
  | .frameClose _ => true
  | .sealShort _ => true
  | .posReacquire _ => true
  | .convGained _ => true
  | .srcReturned _ n => decide (n < 64)
  | .estFreeze _ _ => true
  | .windLost _ => true
  | .joyLost _ => true
  | .waypointDwell _ => true
  | .reinit _ => true
  | .redatum _ => true
  | .demandSpill _ slot => slotOk slot
  | .antMonitorSample _ cur => decide (cur < 2 ^ 16)
  | .antBiasRetry _ => true
  | .antRetry _ => true
  | .channelPlan _ _ signals => signals.all (fun e => decide (e.1 < 256) && decide (e.2.1 < 256))
  | .lockLoss _ c => decide (c.channel < 160)
  | .reacqTimeout _ c => decide (c < 160)
  | .cycleSlip _ c => decide (c.channel < 160)
  | .channelLocked _ c => decide (c < 160)
  | .acqDwell _ _ => true
  | .gnssEpoch _ _ _ _ _ meas _ => meas.all (fun m => decide (m.channel < 160))
  | .navPage _ c _ _ bits _ => decide (c < 160) && decide (bits < 2 ^ 600)
  | .rtcmFrame _ u _ frame => decide (u < 8) && bytesOk frame
  | .corrStale _ g => decide (g < 4)
  | .sbasResume _ => true
  | .reflectStart _ => true
  | .reflectDone _ _ => true
  | .hwWake _ => true
  | .hwSleep _ _ => true
  | .snapTrigger _ => true
  | .captureStart _ t0 => decide (t0 < 1000000)
  | .captureDone _ samples => bytesOk samples
  | .snapRelease _ => true
  | .snapDiscarded _ => true
  | .gnsWeirFire _ k => decide (k < 4)
  | .gnsWeirRearm _ k => decide (k < 4)
  | .canMsgCompose _ m => decide (m < 64)
  | .pushFrame _ _ k tag => decide (k < 4) && decide (tag < 256)
  | .cancel _ _ k tag _ => decide (k < 4) && decide (tag < 256)
  | .canArbitrationLost _ k => decide (k < 4)
  | .canFrameSent _ k _ _ => decide (k < 4)
  | .canError _ k _ _ _ _ _ => decide (k < 4)
  | .busOn _ k => decide (k < 4)
  | .canFrameReceive _ k _ frame _ => decide (k < 4) && frameOk frame
  | .canPairLatch _ _ => true
  | .canCensusWindow _ => true
  | .canSpareTakeover _ k => decide (k < 4)
  | .sluiceWrite _ _ k i w => outOk k i && outWordOk k w
  | .deadhandRefresh _ _ => true
  | .deadhandTrip _ => true
  | .deadhandRampStep _ => true
  | .analogOutput _ n _ => decide (n < 16)
  | .firstStageSample _ n _ => decide (n < 16)
  | .syncReset _ n => decide (n < 16)
  | .sigSync _ w => word32 w
  | .weirFire _ k => decide (k < 64)
  | .sentenceReceive _ u _ chars => decide (u < 8) && bytesOk chars
  | .dioInputChange _ n _ _ => decide (n < 24)
  | .pulseEdge _ n _ => decide (n < 24)
  | .feedbackStale _ f => decide (f < 128)
  | .dacLoadMeasure _ o _ => decide (o < 40)
  | .occurrenceAge _ kind _ => decide (kind < 16)
  | .assemblyRun _ => true
  | .solverRun _ _ _ => true
  | .solverDeadline _ at' _ => decide (1 ≤ at'.iter) && decide (at'.iter ≤ 40)
  | .furrowParityError _ e at' => decide (e < 9) && decide (at'.iter ≤ 40)
  | .solTraceFreeze _ _ => true
  | .loopTick _ _ => true
  | .regionSwap _ i => decide (i < 256)
  | .bfpExit _ i => decide (i < 256)
  | .rcHold _ i => decide (i < 256)
  | .plausFault _ i => decide (i < 256)
  | .plausAck _ i => decide (i < 256)
  | .loopTraceFreeze _ _ => true
  | .vesselCycleBoundary => true
  | .releaseTick => true
  | .frameRecordEmit _ => true
  | .modeCmd c => cmdOk c
  | .targetPos c => cmdOk c
  | .moveRel c => cmdOk c
  | .targetHdg c => cmdOk c
  | .joystick c => cmdOk c
  | .thrusterManual c => cmdOk c
  | .waypoints c => cmdOk c
  | .takeCommand c => cmdOk c
  | .stopCmd c => cmdOk c
  | .telSub c => cmdOk c
  | .spineMark _ _ => true
  | .spineMarkMissing _ => true
  | .spineMasterTakeover _ => true
  | .servoUpdate _ _ => true
  | .refTimeout => true
  | .incrTimeout => true
  | .timeLocked => true
  | .stepAccept slot => slotOk slot
  | .stepMark => true
  | .utcLeap => true
  | .timePulseEdge _ k => decide (k < 4)
  | .timIncrWrite _ host v => decide (v < 2 ^ 64) && (host.all slotOk)
  | .timSlewWrite _ host _ => (host.all slotOk)
  | .slewDone => true
  | .clockMonitorWindow _ _ _ _ => true
  | .fastDetectorTrip _ => true
  | .clockResume _ _ => true
  | .fallbackTrim _ _ _ => true
  | .moveOther _ => true
  | .moveRetry _ => true
  | .moveRelockDone _ => true
  | .moveHome _ => true
  | .requalified _ _ => true
  | .clkNmeAck _ => true
  | .gateDisable _ _ => true
  | .ethFrameReceive k _ _ bytes => decide (k < 6) && bytesOk bytes
  | .macAge _ vid mac => decide (vid < 4096) && decide (mac < 2 ^ 48)
  | .iec61162450Datagram g => dgramOk g
  | .udpSensorDatagram g => dgramOk g
  | .ethFrameTransmit k _ => decide (k < 6)
  | .pdelayReqTimer k => decide (k < 6)
  | .ptpMessageTimer kind => decide (kind < 16)
  | .ptpMessageReceive m => decide (m.port < 6) && decide (m.kind < 16)
  | .announceTimeout => true
  | .ptpTxqKeyRead k _ => decide (k < 6)
  | .ptpPartnerWindow k => decide (k < 6)
  | .ethLinkChange k _ speed _ _ => decide (k < 6) && decide (speed < 3)
  | .moreTimeout _ slot => slotOk slot
  | .keepalive _ slot ctr => slotOk slot && decide (ctr < 2 ^ 64)
  | .registerWrite _ _ off word _ => offOk off && word32 word
  | .pairLowRead slot addr => slotOk slot && addrOk addr
  | .pairLowWrite _ _ off word => offOk off && word32 word
  | .pairHighWrite _ _ off word => offOk off && word32 word
  | .sigTest _ w => word32 w
  | .logRecordReceive _ => true
  | .logRecordWrite => true
  | .spillFlush => true
  | .auditHoldSend _ => true
  | .logPathReturn _ => true
  | .culvertCrcError l _ => decide (l < 9)
  | .linkDown l _ => decide (l < 9)
  | .culvertLinkUp l _ => decide (l < 9)
  | .openSession d src _ b => portDie d && decide (src.ip < 2 ^ 128) && decide (src.port < 65536) && bytesOk b
  | .closeSession r b => reqOk r && bytesOk b
  | .ident r b => reqOk r && bytesOk b
  | .readWords r b => reqOk r && bytesOk b
  | .writeWord r b _ => reqOk r && bytesOk b
  | .sessionTimeExchange => true
  | .sessionIdleTimeout slot => slotOk slot
  | .keySet by' b => by'.all reqOk && bytesOk b
  | .swap r b => reqOk r && bytesOk b
  | .drill r b => reqOk r && bytesOk b
  | .drillAbort r b => reqOk r && bytesOk b
  | .clkMove r b => reqOk r && bytesOk b
  | .snapExport r b => reqOk r && bytesOk b
  | .dataAck r b => reqOk r && bytesOk b
  | .dataResend slot => slotOk slot
  | .dataTransferFail slot => slotOk slot
  | .flumeSpaceReturn _ => true
  | .txnBegin r b => reqOk r && bytesOk b
  | .txnWrite r b => reqOk r && bytesOk b
  | .txnCommit r b => reqOk r && bytesOk b
  | .txnAbort r b => reqOk r && bytesOk b
  | .txnBreak r b => reqOk r && bytesOk b
  | .txnAckDeadline _ => true
  | .txnApply => true
  | .txnExpired => true
  | .lytBegin r b => reqOk r && bytesOk b
  | .lytData r b => reqOk r && bytesOk b
  | .lytVerify r b => reqOk r && bytesOk b
  | .lytVerifyDone => true
  | .lytApply r b => reqOk r && bytesOk b
  | .lytAbort r b => reqOk r && bytesOk b
  | .lytExport r b => reqOk r && bytesOk b
  | .migrateDone => true
  | .lytReady => true
  | .lytConvTimeout => true
  | .firstApply => true
  | .headgateLineChange _ _ => true
  | .portDieRestart _ => true
  | .stewardHeartbeat => true
  | .stewardSilent _ => true
  | .stewardWatchdog => true
  | .stewardRestartWindow _ => true
  | .railSample r _ => decide (r < 12)
  | .tempSample k _ => decide (k < 15)
  | .currentSample r _ => decide (r < 12)
  | .resourceOccurrence _ kind _ _ => decide (kind < 16)
  | .logExport r b => reqOk r && bytesOk b
  | .logMark r b => reqOk r && bytesOk b
  | .nmeAck r b => reqOk r && bytesOk b
  | .retireClear r b => reqOk r && bytesOk b
  | .updBegin r b => reqOk r && bytesOk b
  | .updData r b => reqOk r && bytesOk b
  | .updPartTimeout => true
  | .updVerify r b => reqOk r && bytesOk b
  | .updVerifyDone => true
  | .updActivate r b => reqOk r && bytesOk b
  | .updReady _ => true
  | .updConfirm r b => reqOk r && bytesOk b
  | .updAbort r b => reqOk r && bytesOk b
  | .trialTimeout _ => true
  | .stewardTrialTimeout => true
  | .restoreStart _ => true
  | .restoreDone _ => true
  | .fuseLayoutKey r b => reqOk r && bytesOk b
  | .stewardRestartDone => true
  | .qualRetry _ => true
  | .qualificationDone _ _ _ _ _ _ => true
  | .bootLedgerRetry _ _ => true
  | .laneBoot _ _ => true
  | .stewardBoot => true
  | .layoutCheckDone => true
  | .resetAssert => true
  | .resetRelease straps _ => decide (straps < 16)
  | .pwrGoodFall => true
  | .pwrGoodWait => true
  | .brownOut _ => true
  | .brownOutRelease _ => true
  | .laneEligible _ => true
  | .electWait _ => true
  | .jtagBypass => true
  | .jtagIdcode => true
  | .jtagSamplePreload pins shifted => decide (pins < 2 ^ 142) && decide (shifted < 2 ^ 142)
  | .jtagExtest pins shifted => decide (pins < 2 ^ 142) && shifted.all (fun v => decide (v < 2 ^ 142))
  | .jtagHighz => true
  | .jtagClamp => true

end Sys2Proof
end

