-- ==== Sys2Proof/Certificates/Slice0/Obligations.lean ====
section
/-! DEFINITION. The statements about the machine. Each names in its docstring the rules of the spec that it formalises. -/

open Sys2Proof Sys2Proof.Machine

/-- R33, R35, R37, R60 to R62: the claim driver arms when it may, an armed driver claims unless it is barred or the partner's line reads
low, and a driver that is disarmed does not pull; a change of a line moves every arbiter that runs as the two lines say, and in a part
without an ACTIVE lane the lane that both arbiters name becomes ACTIVE. -/
def Obligations.ClaimsMoveTheArbitersAndGrant : Prop :=
  (∀ (x : Side) (s : State), mayArm s.pk x = true →
    ActsOn (.arm x) s [(x.helm, HG_STATUS.ARMED)] (fun q => rd q x.helm HG_STATUS.ARMED = 1)) ∧
  (∀ (x : Side) (s : State), mayArm s.pk x = false →
    ActsNot (.arm x) s) ∧
  (∀ (x : Side) (s : State), rd s.pk x.helm HG_STATUS.ARMED = 1 →
    claimBarred s.pk x = false →
    lineLow s.pk x.other = false →
    ActsOn (.claimAssert x) s [(.sw, I_PKG.LINE_PULL)] (fun q =>
      rdI q .sw I_PKG.LINE_PULL x.num = 1 ∧ rdI q .sw I_PKG.LINE_PULL x.other.num = rdI s.pk .sw I_PKG.LINE_PULL x.other.num)) ∧
  (∀ (x : Side) (s : State), rd s.pk x.helm HG_STATUS.ARMED = 0 ∨ claimBarred s.pk x = true ∨ lineLow s.pk x.other = true →
    ActsNot (.claimAssert x) s) ∧
  (∀ (x : Side) (s : State), 
    ActsOn (.disarm x) s [(x.helm, HG_STATUS.ARMED), (.sw, I_PKG.LINE_PULL), (x.helm, I_LANE.WAIT_OTHER_LOW)] (fun q =>
      rd q x.helm HG_STATUS.ARMED = 0 ∧ rdI q .sw I_PKG.LINE_PULL x.num = 0 ∧
      (rdI s.pk .sw I_PKG.LINE_PULL x.num = 1 → rd q x.helm I_LANE.WAIT_OTHER_LOW = 1) ∧
      rdI q .sw I_PKG.LINE_PULL x.other.num = rdI s.pk .sw I_PKG.LINE_PULL x.other.num)) ∧
  (∀ (x : Side) (low : Bool) (y : Side) (s : State), running s.pk y.port = true →
    rd s.pk y.port I_PORT.ARB_HELD = 0 →
    Completes (.headgateLineChange x low) s (fun t =>
      let la := if x = .a then low else lineLow s.pk .a
      let lb := if x = .b then low else lineLow s.pk .b
      LedgerKept s t ∧
      rd t.pk y.port HG_OWNER.OWNER = arbiterNext (rd s.pk y.port HG_OWNER.OWNER) la lb (flag s.pk y.port HG_ARB_CFG.PRIMARY_B) % 4)) ∧
  (∀ (x : Side) (s : State), activeLane s.pk = none →
    s.pk.taken = none →
    rd s.pk .sw LYT_STATUS.PHASE ≠ 4 →
    lineLow s.pk x.other = false →
    (∀ y : Side, running s.pk y.port = true ∧ rd s.pk y.port I_PORT.ARB_HELD = 0) →
    Completes (.headgateLineChange x true) s (fun t =>
      LedgerKept s t ∧ t.pk = { s.pk with regs := t.pk.regs, log := t.pk.log, staged := s.pk.staged.set x Stage.empty } ∧
        rd t.pk x.helm HG_STATUS.LANE_STATE = 4 ∧
      rdI t.pk .sw I_PKG.LINE_LOW x.num = 1))

/-- R63, R70: an ACTIVE lane that meets a cause of Table 02-5 lets its line go in the same instant, disarmed, under that cause, and stays
ACTIVE until the arbiters move; a release asked of another lane does nothing. -/
def Obligations.ActiveLaneReleasesUnderItsCause : Prop :=
  let Released (c : Instr) (s : State) (x : Side) (cause : Nat) : Prop := Completes c s (fun t =>
      LedgerKept s t ∧ t.pk = { s.pk with regs := t.pk.regs, log := t.pk.log, faultTimes := t.pk.faultTimes } ∧
        rdI t.pk .sw I_PKG.LINE_PULL x.num = 0 ∧ rd t.pk x.helm HG_STATUS.ARMED = 0 ∧
        rd t.pk x.helm I_LANE.RELEASE_CAUSE = (if rd s.pk x.helm I_LANE.RELEASE_CAUSE = 0 then cause else rd s.pk x.helm I_LANE.RELEASE_CAUSE) ∧
        rd t.pk x.helm I_LANE.RESET_DUE = 1 ∧ rd t.pk x.helm I_LANE.SWAP_CAUSE = 0 ∧ rd t.pk x.helm HG_STATUS.LANE_STATE = 4)
  (∀ (x : Side) (s : State), rd s.pk x.helm HG_STATUS.LANE_STATE = 4 →
    Released (.release x) s x 1) ∧
  (∀ (x : Side) (s : State), rd s.pk x.helm HG_STATUS.LANE_STATE ≠ 4 →
    ActsNot (.release x) s) ∧
  (∀ (x : Side) (s : State), rd s.pk x.helm HG_STATUS.LANE_STATE = 4 →
    Released (.lockstepMismatch x) s x 2) ∧
  (∀ (x : Side) (s : State), rd s.pk x.helm HG_STATUS.LANE_STATE = 4 →
    rd s.pk x.helm I_LANE.TICK_DONE = 0 →
    rd s.pk x.helm I_LANE.MISSED_TICKS = 1 →
    Released (.tickDoneTimeout x) s x 3) ∧
  (∀ (x : Side) (s : State), rd s.pk x.helm I_LANE.TICK_DONE = 0 →
    rd s.pk x.helm I_LANE.MISSED_TICKS = 0 →
    ActsOn (.tickDoneTimeout x) s [(x.helm, I_LANE.MISSED_TICKS), (x.helm, I_LANE.TICKS_RUN), (x.helm, HG_STATUS.ARMED),
      (x.helm, I_LANE.WAIT_OTHER_LOW), (.sw, I_PKG.LINE_PULL)]
      (fun q => rd q x.helm I_LANE.MISSED_TICKS = 1 ∧ rd q x.helm I_LANE.TICKS_RUN = 0)) ∧
  (∀ (x : Side) (page : Nat) (s : State), rd s.pk x.helm HG_STATUS.LANE_STATE = 4 →
    page < spareBase →
    Released (.sramUe x true page) s x 5)

/-- R65, R66, R72: at the release point a lane whose partner is fit releases under the pending cause, and one whose partner is not keeps its
line and raises SWAP_REFUSED; the pin and the reversion start a planned swap that nothing bars. -/
def Obligations.PlannedSwapsStartReleaseOrCancel : Prop :=
  (∀ (x : Side) (s : State) (c : Nat), rd s.pk x.helm I_LANE.SWAP_CAUSE = c →
    0 < c →
    c < 16 →
    isActive s.pk x = true →
    rd s.pk x.helm I_LANE.RELEASE_CAUSE = 0 →
    swapTick s.pk x = true →
    partnerFit s.pk x c = true →
    ActsOn (.swapRelease x) s [(x.helm, HG_STATUS.ARMED), (.sw, I_PKG.LINE_PULL), (x.helm, I_LANE.WAIT_OTHER_LOW),
      (x.helm, I_LANE.RELEASE_CAUSE), (x.helm, I_LANE.RESET_DUE), (x.helm, I_LANE.PARTNER_READY)]
      (fun q => rdI q .sw I_PKG.LINE_PULL x.num = 0 ∧ rd q x.helm HG_STATUS.ARMED = 0 ∧ rd q x.helm I_LANE.RELEASE_CAUSE = c ∧
      rd q x.helm I_LANE.SWAP_CAUSE = c ∧ rd q x.helm I_LANE.PARTNER_READY = b2n (laneState s.pk x.other == 3) ∧
      rd q x.helm I_LANE.RESET_DUE = b2n (c == 12))) ∧
  (∀ (x : Side) (s : State) (c : Nat), rd s.pk x.helm I_LANE.SWAP_CAUSE = c →
    0 < c →
    c ≠ 9 →
    c ≠ 10 →
    isActive s.pk x = true →
    rd s.pk x.helm I_LANE.RELEASE_CAUSE = 0 →
    swapTick s.pk x = true →
    partnerFit s.pk x c = false →
    ActsAndLogs (.swapRelease x) s x.helm [(x.helm, I_LANE.SWAP_CAUSE), (x.other.helm, HG_STATUS.REVERT_PENDING),
      (x.helm, HG_EVENT.SWAP_REFUSED), (x.helm, I_DIE.SEQ)]
      (fun q => rd q x.helm I_LANE.SWAP_CAUSE = 0 ∧ rd q x.helm HG_EVENT.SWAP_REFUSED = 1)) ∧
  (∀ (x : Side) (s : State), activeLane s.pk = some x →
    rd s.pk .sw I_PKG.SWAP_REQ_LOW = 0 →
    rd s.pk x.helm HG_CFG.SWAP_PIN_EN = 1 →
    swapAnswer s.pk x 8 = .accepted →
    Completes (.swapReqPin true) s (fun t => LedgerKept s t ∧ t.pk = { s.pk with regs := t.pk.regs, log := t.pk.log } ∧
      rd t.pk .sw I_PKG.SWAP_REQ_LOW = 1 ∧ rd t.pk x.helm I_LANE.SWAP_CAUSE = 8)) ∧
  (∀ (x : Side) (s : State), isPrimary s.pk x = true →
    laneState s.pk x = 3 →
    isActive s.pk x.other = true →
    rd s.pk x.helm HG_POLICY.REVERT_HOLDOFF * 1000 ≤ rd s.pk x.helm I_LANE.HOLDOFF_MS →
    inhibited s.pk x = false →
    drillInProgress s.pk = false →
    lytInProgress s.pk = false →
    updInProgress s.pk = false →
    rd s.pk x.helm HG_STATUS.REVERT_PENDING = 0 →
    swapAnswer s.pk x.other 11 = .accepted →
    ActsOn (.reversion x) s [(x.other.helm, I_LANE.SWAP_CAUSE), (x.other.helm, I_LANE.SWAP_ACCEPTED), (x.helm, HG_STATUS.REVERT_PENDING)]
      (fun q => rd q x.other.helm I_LANE.SWAP_CAUSE = 11 ∧ rd q x.helm HG_STATUS.REVERT_PENDING = 1)) ∧
  (∀ (x : Side) (s : State), isPrimary s.pk x = true →
    laneState s.pk x = 3 →
    isActive s.pk x.other = true →
    rd s.pk x.helm HG_POLICY.REVERT_HOLDOFF * 1000 ≤ rd s.pk x.helm I_LANE.HOLDOFF_MS →
    inhibited s.pk x = false →
    drillInProgress s.pk = false →
    lytInProgress s.pk = false →
    updInProgress s.pk = false →
    rd s.pk x.helm HG_STATUS.REVERT_PENDING = 0 →
    swapAnswer s.pk x.other 11 ≠ .accepted →
    ActsAndLogs (.reversion x) s x.other.helm [(x.other.helm, HG_EVENT.SWAP_REFUSED), (x.other.helm, I_DIE.SEQ)]
      (fun q => rd q x.other.helm HG_EVENT.SWAP_REFUSED = 1))

/-- R71, R77, R80: the dwell's end passes the drill and asks for the swap back; an ENGINEER session clears a lockout or a drill mark,
another session does not; releases that have left the window no longer count. -/
def Obligations.DrillsAndLockoutsEndOrAreCleared : Prop :=
  (∀ (s : State), rd s.pk .sw I_PKG.DRILL_PHASE = 2 →
    rd s.pk .sw I_PKG.DRILL_START + rd s.pk (drilledLane s.pk).helm HG_POLICY2.DRILL_DWELL * 1000 ≤ rd s.pk .sw I_PKG.OPERATING_MS →
    ActsOn .drillDwellEnd s [(.sw, I_PKG.DRILL_PHASE), (.sw, I_PKG.DRILL_VERDICT), ((drilledLane s.pk).helm, I_LANE.SWAP_CAUSE),
      ((drilledLane s.pk).helm, I_LANE.SWAP_ACCEPTED)]
      (fun q => rd q .sw I_PKG.DRILL_PHASE = 3 ∧ rd q .sw I_PKG.DRILL_VERDICT = 1 ∧ rd q (drilledLane s.pk).helm I_LANE.SWAP_CAUSE = 10)) ∧
  (∀ (slot : Nat) (x : Side) (s : State), sessionHolds s.pk slot 2 = true →
    Completes (.clearLockout slot x) s (fun t => LedgerKept s t ∧
      t.pk = { s.pk with regs := t.pk.regs, faultTimes := s.pk.faultTimes.set x [] } ∧
      FieldsKept [(x.helm, HG_LOCKOUT.LOCKED), (x.helm, HG_LOCKOUT.FAULT_SWAPS), (x.helm, HG_STATUS.LANE_STATE)] s.pk t.pk ∧
      rd t.pk x.helm HG_LOCKOUT.LOCKED = 0 ∧ rd t.pk x.helm HG_LOCKOUT.FAULT_SWAPS = 0 ∧
      rd t.pk x.helm HG_STATUS.LANE_STATE = if laneState s.pk x = 5 then 2 else rd s.pk x.helm HG_STATUS.LANE_STATE)) ∧
  (∀ (slot : Nat) (x : Side) (s : State), sessionHolds s.pk slot 2 = true →
    ActsOn (.clearDrill slot x) s [(x.helm, HG_STATUS.DRILL_FAIL)] (fun q => rd q x.helm HG_STATUS.DRILL_FAIL = 0)) ∧
  (∀ (slot : Nat) (x : Side) (s : State), sessionHolds s.pk slot 2 = false →
    ActsNot (.clearLockout slot x) s ∧ ActsNot (.clearDrill slot x) s) ∧
  (∀ (x : Side) (s : State), 
    Completes (.faultHistoryAge x) s (fun t => LedgerKept s t ∧
      t.pk = { s.pk with regs := t.pk.regs, faultTimes := s.pk.faultTimes.set x (t.pk.faultTimes.get x) } ∧
      FieldsKept [(x.helm, HG_LOCKOUT.FAULT_SWAPS)] s.pk t.pk ∧
      t.pk.faultTimes.get x = (s.pk.faultTimes.get x).filter (fun at' =>
      decide (rd s.pk .sw I_PKG.OPERATING_MS < at' + lockoutMin s.pk x * 60000))))

/-- R53 to R55, R58: a clean tick comparison lengthens the clean run, a mismatch ends it and is counted; a standby that meets every
condition of R54 becomes STANDBY_READY and one that has reached the mismatch limit drops; a HANDSHAKE compares what R58 names. -/
def Obligations.StandbyComparesGainsAndLosesReadiness : Prop :=
  (∀ (x : Side) (s : State), (laneState s.pk x = 2 ∨ laneState s.pk x = 3) →
    isActive s.pk x.other = true →
    rd s.pk x.helm HG_STATUS.FW_INCOMPAT = 0 →
    rd s.pk x.helm HG_STATUS.LAYOUT_DIFF = 0 →
    rd s.pk x.helm I_LANE.TICK_DIGEST_VALID = 1 →
    rd s.pk x.other.helm I_LANE.TICK_DIGEST_VALID = 1 →
    rd s.pk x.helm I_LANE.TICK_COPY_APPLIED = 1 →
    rd s.pk x.helm I_LANE.TICK_DIGEST = rd s.pk x.other.helm I_LANE.TICK_DIGEST →
    ActsOn (.digestReceive x false) s [(x.helm, I_LANE.TICK_DIGEST_VALID), (x.helm, I_LANE.CMP_HISTORY), (x.helm, HG_CMP.MISS_WINDOW),
      (x.helm, HG_CMP.CLEAN_RUN), (x.helm, HG_CMP.MISS_RUN)]
      (fun q => rd q x.helm HG_CMP.CLEAN_RUN = min (rd s.pk x.helm HG_CMP.CLEAN_RUN + 1) 65535 ∧ rd q x.helm HG_CMP.MISS_RUN = 0)) ∧
  (∀ (x : Side) (s : State), (laneState s.pk x = 2 ∨ laneState s.pk x = 3) →
    isActive s.pk x.other = true →
    rd s.pk x.helm HG_STATUS.FW_INCOMPAT = 0 →
    rd s.pk x.helm HG_STATUS.LAYOUT_DIFF = 0 →
    rd s.pk x.helm I_LANE.TICK_DIGEST_VALID = 1 →
    rd s.pk x.other.helm I_LANE.TICK_DIGEST_VALID = 1 →
    rd s.pk x.helm I_LANE.TICK_COPY_APPLIED = 1 →
    rd s.pk x.helm I_LANE.TICK_DIGEST ≠ rd s.pk x.other.helm I_LANE.TICK_DIGEST →
    Completes (.digestReceive x false) s (fun t => LedgerKept s t ∧ t.pk = { s.pk with regs := t.pk.regs, log := t.pk.log } ∧
      rd t.pk x.helm HG_CMP.CLEAN_RUN = 0 ∧ rd t.pk x.helm HG_TICK_MISMATCH.COUNT = (rd s.pk x.helm HG_TICK_MISMATCH.COUNT + 1) % 2 ^ 32)) ∧
  (∀ (x : Side) (s : State), laneState s.pk x = 2 →
    readyGained s.pk x = true →
    Completes (.standbyReady x) s (fun t => LedgerKept s t ∧ t.pk = { s.pk with regs := t.pk.regs, log := t.pk.log } ∧
      rd t.pk x.helm HG_STATUS.LANE_STATE = 3 ∧ rd t.pk x.helm HG_EVENT.READY_GAINED = 1 ∧ rd t.pk x.helm HG_STATUS.MISS_LIMIT = 0 ∧
      (claimBarred s.pk x = false → rd s.pk x.helm I_LANE.WAIT_OTHER_LOW = 0 → rd t.pk x.helm HG_STATUS.ARMED = 1))) ∧
  (∀ (x : Side) (s : State), laneState s.pk x ≠ 2 ∨ readyGained s.pk x = false →
    ActsNot (.standbyReady x) s) ∧
  (∀ (x : Side) (s : State), laneState s.pk x = 3 →
    (readyHeld s.pk x = false ∨ rd s.pk x.helm HG_STATUS.MISS_LIMIT = 1) →
    Completes (.readyLost x) s (fun t => LedgerKept s t ∧ t.pk = { s.pk with regs := t.pk.regs, log := t.pk.log } ∧
      rd t.pk x.helm HG_STATUS.LANE_STATE = 2 ∧ rd t.pk x.helm HG_CMP.CLEAN_RUN = 0 ∧ rd t.pk x.helm HG_EVENT.READY_LOST = 1)) ∧
  (∀ (x : Side) (s : State), rd s.pk x.helm LEAT_STATUS.UP = 1 →
    running s.pk x.other.helm = true →
    laneState s.pk x.other ≠ 0 →
    Completes (.handshake x) s (fun t => LedgerKept s t ∧ t.pk = { s.pk with regs := t.pk.regs, log := t.pk.log } ∧
      rd t.pk x.helm HG_STATUS.LAYOUT_DIFF = b2n (rd s.pk x.helm I_LANE.LAYOUT_HASH != rd s.pk x.other.helm I_LANE.LAYOUT_HASH) ∧
      rd t.pk x.helm HG_STATUS.FW_INCOMPAT = b2n (rd s.pk x.helm I_LANE.DET_CLASS != rd s.pk x.other.helm I_LANE.DET_CLASS) ∧
      rd t.pk x.helm HG_STATUS.PAIR_DIFF = b2n (rd s.pk x.helm HG_PAIR_HASH.HASH != rd s.pk x.other.helm HG_PAIR_HASH.HASH)))

/-- R45, R46: a failing flit is counted and leaves a gap and a NAK to send; a good flit with the expected number is taken and the next one
expected; a NAK takes the sender back; a dead link goes down; training brings both ends up; a link in loopback is down. -/
def Obligations.LeatRecoversByGoBackN : Prop :=
  (∀ (x : Side) (f : List Nat) (s : State), rd s.pk x.helm LEAT_STATUS.UP = 1 →
    flitGood f = false →
    ActsAndLogs (.leatFlitReceive x f) s x.helm [(x.helm, LEAT_CRC_ERR.COUNT), (x.helm, I_LEAT.FAIL_RUN), (x.helm, I_LEAT.RX_GAP),
      (x.helm, I_LEAT.NAK_PENDING), (x.helm, I_LEAT.NAK_SEQ), (x.helm, I_DIE.SEQ)]
      (fun q => rd q x.helm LEAT_CRC_ERR.COUNT = (rd s.pk x.helm LEAT_CRC_ERR.COUNT + 1) % 2 ^ 32 ∧ rd q x.helm I_LEAT.NAK_PENDING = 1 ∧
      rd q x.helm I_LEAT.NAK_SEQ = rd s.pk x.helm I_LEAT.RX_SEQ ∧ rd q x.helm I_LEAT.RX_GAP = 1)) ∧
  (∀ (x : Side) (f : List Nat) (s : State), rd s.pk x.helm LEAT_STATUS.UP = 1 →
    flitGood f = true →
    flitSeq f = rd s.pk x.helm I_LEAT.RX_SEQ →
    flitType f ≠ 1 →
    flitType f ≠ 2 →
    flitType f ≠ 3 →
    flitType f ≠ 4 →
    flitType f ≠ 6 →
    flitType f ≠ 7 →
    ActsOn (.leatFlitReceive x f) s [(x.helm, I_LEAT.FAIL_RUN), (x.helm, I_LEAT.RX_GAP), (x.helm, I_LEAT.NAK_PENDING), (x.helm, I_LEAT.RX_SEQ)]
      (fun q => rd q x.helm I_LEAT.RX_SEQ = (flitSeq f + 1) % 65536 ∧ rd q x.helm I_LEAT.RX_GAP = 0 ∧ rd q x.helm I_LEAT.NAK_PENDING = 0)) ∧
  (∀ (x : Side) (f : List Nat) (s : State), rd s.pk x.helm LEAT_STATUS.UP = 1 →
    flitGood f = true →
    flitType f ≠ 4 →
    flitSeq f ≠ rd s.pk x.helm I_LEAT.RX_SEQ →
    ActsOn (.leatFlitReceive x f) s [(x.helm, I_LEAT.FAIL_RUN)] (fun q => rd q x.helm I_LEAT.FAIL_RUN = 0)) ∧
  (∀ (x : Side) (f : List Nat) (s : State), rd s.pk x.helm LEAT_STATUS.UP = 1 →
    flitGood f = true →
    (flitType f = 1 ∨ flitType f = 2) →
    flitSeq f = rd s.pk x.helm I_LEAT.RX_SEQ →
    Completes (.leatFlitReceive x f) s (fun t => LedgerKept s t ∧
      t.pk = { s.pk with regs := t.pk.regs, staged := s.pk.staged.set x (t.pk.staged.get x) } ∧
      FieldsKept [(x.helm, I_LEAT.FAIL_RUN), (x.helm, I_LEAT.RX_GAP), (x.helm, I_LEAT.NAK_PENDING), (x.helm, I_LEAT.RX_SEQ)] s.pk t.pk ∧
      rd t.pk x.helm I_LEAT.RX_SEQ = (flitSeq f + 1) % 65536 ∧ rd t.pk x.helm I_LEAT.RX_GAP = 0 ∧
      (∀ i, i < min 61 (flitWords f) →
      (t.pk.staged.get x).words.find? (fun w => w.1 == flitType f && w.2.1 == flitOffset f + i) = some (flitType f, flitOffset f + i, leNat ((f.drop (8 + 4 * i)).take 4))))) ∧
  (∀ (x : Side) (seq : Nat) (s : State), rd s.pk x.helm LEAT_STATUS.UP = 1 →
    rd s.pk x.other.helm I_LEAT.NAK_PENDING = 1 →
    rd s.pk x.other.helm I_LEAT.NAK_SEQ = seq →
    (rd s.pk x.helm I_LEAT.TX_SEQ + 65536 - seq) % 65536 ≤ rd s.pk x.helm LEAT_STATUS.REPLAY_USED →
    ActsOn (.leatNak x seq) s [(x.helm, LEAT_RETX.COUNT), (x.helm, I_LEAT.RESEND)]
      (fun q => rd q x.helm I_LEAT.RESEND = seq ∧ rd q x.helm LEAT_RETX.COUNT = (rd s.pk x.helm LEAT_RETX.COUNT + 1) % 2 ^ 32)) ∧
  (∀ (x : Side) (seq : Nat) (s : State), (rd s.pk x.other.helm I_LEAT.NAK_PENDING = 0 ∨ rd s.pk x.other.helm I_LEAT.NAK_SEQ ≠ seq ∨ rd s.pk x.helm LEAT_STATUS.UP = 0) →
    ActsNot (.leatNak x seq) s) ∧
  (∀ (x : Side) (silent : Bool) (s : State), rd s.pk x.helm LEAT_STATUS.UP = 1 →
    (silent = true ∨ 32 ≤ rd s.pk x.helm I_LEAT.FAIL_RUN) →
    Completes (.leatDown x silent) s (fun t => LedgerKept s t ∧ t.pk = { s.pk with regs := t.pk.regs, log := t.pk.log } ∧
      rd t.pk .ha LEAT_STATUS.UP = 0 ∧ rd t.pk .hb LEAT_STATUS.UP = 0 ∧ laneState t.pk .a ≠ 3 ∧ laneState t.pk .b ≠ 3)) ∧
  (∀ (s : State), rd s.pk .ha LEAT_STATUS.UP = 0 →
    running s.pk .ha = true →
    running s.pk .hb = true →
    rd s.pk .ha LEAT_CTRL.LOOPBACK = 0 →
    rd s.pk .hb LEAT_CTRL.LOOPBACK = 0 →
    Completes (.leatRetrainTimer true) s (fun t => LedgerKept s t ∧ t.pk = { s.pk with regs := t.pk.regs } ∧
      rd t.pk .ha LEAT_STATUS.UP = 1 ∧ rd t.pk .hb LEAT_STATUS.UP = 1)) ∧
  (∀ (x : Side) (s : State), isActive s.pk x = false →
    Completes (.retrain x false) s (fun t => LedgerKept s t ∧ t.pk = { s.pk with regs := t.pk.regs, log := t.pk.log } ∧
      rd t.pk .ha LEAT_STATUS.UP = 0 ∧ rd t.pk .hb LEAT_STATUS.UP = 0)) ∧
  (∀ (x : Side) (ok : Bool) (s : State), isActive s.pk x = true →
    laneState s.pk x.other = 3 →
    ActsNot (.retrain x ok) s) ∧
  (∀ (x : Side) (s : State), (laneState s.pk x = 0 ∨ laneState s.pk x = 1) →
    Completes (.loopback x true) s (fun t => LedgerKept s t ∧ t.pk = { s.pk with regs := t.pk.regs, log := t.pk.log } ∧
      rd t.pk x.helm LEAT_CTRL.LOOPBACK = 1 ∧ rd t.pk x.helm LEAT_STATUS.UP = 0)) ∧
  (∀ (x : Side) (on : Bool) (s : State), laneState s.pk x ≠ 0 →
    laneState s.pk x ≠ 1 →
    ActsNot (.loopback x on) s)

/-- R83, R84, R90 to R92: samples, seals, and the close of a frame. -/
def Obligations.SamplesSealsAndFramesReachTheirLanes : Prop :=
  (∀ (r : RawSample) (s : State), running s.pk r.die = true →
    matchSource s.pk r = none →
    ActsOn (.sampleReceive r) s [(r.die, I_DIE.UNMATCHED)] (fun q => rd q r.die I_DIE.UNMATCHED = (rd s.pk r.die I_DIE.UNMATCHED + 1) % 2 ^ 32)) ∧
  (∀ (r : RawSample) (m : SrcMatch) (st : Int) (s : State), running s.pk r.die = true →
    matchSource s.pk r = some m →
    sourceStamp s.pk m r = some st →
    m.src < 64 →
    Completes (.sampleReceive r) s (fun t =>
      let n := (rdI s.pk r.die I_SRC.SEQ m.src + 1) % 2 ^ 32
      LedgerKept s t ∧ t.pk = { s.pk with regs := t.pk.regs, lanes := t.pk.lanes, stamped := s.pk.stamped ++ [⟨r.die.num, m.src, n, r.arrival⟩] } ∧
      FieldsKept [(r.die, I_SRC.SEQ)] s.pk t.pk ∧ rdI t.pk r.die I_SRC.SEQ m.src = n ∧
      ∀ x ∈ bothSides, t.pk.lanes.get x = if running s.pk x.helm && reaches s.pk r.die x.helm then
      { s.pk.lanes.get x with inbox := (s.pk.lanes.get x).inbox ++ [⟨m.src, n, r.arrival, st, r.comps, false⟩] } else s.pk.lanes.get x)) ∧
  (∀ (r : RawSample) (s : State), running s.pk r.die = false →
    ActsNot (.sampleReceive r) s) ∧
  (∀ (d : Die) (s : State), running s.pk d = true →
    s.pk.matching.any (fun m => m.die == d.num) = true →
    running s.pk .ha = true →
    s.pk.sealsOut.any (fun q => q.die == d.num && q.cutoff == cutoffOf s.pk d) = false →
    Completes (.frameCutoff d) s (fun t => LedgerKept s t ∧
      t.pk = { s.pk with regs := t.pk.regs, sealsOut := t.pk.sealsOut, stamped := t.pk.stamped } ∧ FieldsKept [(d, I_SRC.SEALED)] s.pk t.pk ∧
      t.pk.stamped = s.pk.stamped.filter (fun q => !(q.die == d.num && decide (q.arrival ≤ cutoffOf s.pk d))) ∧
      t.pk.sealsOut = s.pk.sealsOut.filter (fun q => q.die != d.num) ++ [⟨d.num,
      now s.pk d / (rd s.pk .ha CFL_STATUS.FRAME_MS * 1000000) * (rd s.pk .ha CFL_STATUS.FRAME_MS * 1000000) + rd s.pk .ha CFL_CFG.ADMIT * 10000,
      (dieSources s.pk d).map (fun n => (n, rdI s.pk d I_SRC.SEALED n, sealedSeq s.pk d (cutoffOf s.pk d) n))⟩])) ∧
  (∀ (x : Side) (d : Die) (v : Seal) (s : State), running s.pk x.helm = true →
    reaches s.pk d x.helm = true →
    s.pk.sealsOut.find? (fun q => q.die == d.num) = some v →
    Completes (.sealReceive x d) s (fun t => LedgerKept s t ∧ t.pk = { s.pk with lanes := s.pk.lanes.set x { s.pk.lanes.get x with
      seals := (s.pk.lanes.get x).seals.filter (fun q => q.die != d.num) ++ [v] } })) ∧
  (∀ (x : Side) (s : State), running s.pk x.helm = true →
    rd s.pk x.helm I_CFL.FRAME_OPEN = 1 →
    s.pk.txn.ordered = false →
    framesComplete s.pk x = true →
    ActsWithin (OnlyLane x) (.frameClose x) s (fun q => rd q x.helm I_CFL.FRAME_OPEN = 0 ∧ rd q x.helm CFL_STATUS.SEAL_SHORT = 0 ∧
      rd q x.helm I_CFL.PREV_T = rd s.pk x.helm I_CFL.FRAME_T % 2 ^ 64)) ∧
  (∀ (x : Side) (s : State), (running s.pk x.helm = false ∨ rd s.pk x.helm I_CFL.FRAME_OPEN = 0 ∨ applyDue s.pk (rd s.pk x.helm I_CFL.FRAME_T) = true) →
    ActsNot (.frameClose x) s ∧ ActsNot (.sealShort x) s) ∧
  (∀ (x : Side) (s : State), framesComplete s.pk x = false →
    ActsNot (.frameClose x) s) ∧
  (∀ (x : Side) (s : State), running s.pk x.helm = true →
    rd s.pk x.helm I_CFL.FRAME_OPEN = 1 →
    s.pk.txn.ordered = false →
    framesComplete s.pk x = false →
    ActsWithin (OnlyLane x) (.sealShort x) s (fun q => rd q x.helm I_CFL.FRAME_OPEN = 0 ∧ rd q x.helm CFL_STATUS.SEAL_SHORT = 1 ∧
      rd q x.helm CFL_EVENT.SEAL_SHORT = 1 ∧ rd q x.helm CFL_SEAL_SHORT.COUNT = (rd s.pk x.helm CFL_SEAL_SHORT.COUNT + 1) % 2 ^ 32))

/-- R58, R115, R127, R128, R135, R136, R148, R157, R177: the estimator's and the modes' events. -/
def Obligations.EstimatorAndModeEventsStayInTheirLane : Prop :=
  (∀ (x : Side) (s : State), rd s.pk x.helm EST_STATUS.PHASE ≠ 0 →
    rd s.pk x.helm EST_STATUS.DEAD_RECKONING = 1 →
    rd s.pk x.helm EST_POSLOST.POS_LOST_FRAMES ≤ rd s.pk x.helm I_EST.DR_FRAMES →
    rd s.pk x.helm I_EST.INFLATED = 0 →
    ActsWithin (OnlyLane x) (.posReacquire x) s (fun q => rd q x.helm EST_STATUS.POS_REACQUIRE = 1 ∧ rd q x.helm EST_EVENT.POS_REACQUIRE = 1 ∧
      rd q x.helm I_EST.INFLATED = 1 ∧ q.lanes.get x = Lane.inflated (rd s.pk x.helm I_EST.T0) (s.pk.lanes.get x) ∧
      (q.lanes.get x).est = inflate (s.pk.lanes.get x).est)) ∧
  (∀ (x : Side) (s : State), rd s.pk x.helm I_EST.INFLATED = 1 →
    ActsNot (.posReacquire x) s) ∧
  (∀ (x : Side) (s : State), rd s.pk x.helm EST_STATUS.PHASE = 1 →
    rd s.pk x.helm I_EST.CONV_HELD = 1 →
    rd s.pk x.helm I_EST.CONV_SINCE + rd s.pk x.helm EST_CONV.CONV_HOLD * 1000000000 ≤ rd s.pk x.helm I_EST.T0 →
    ActsAndLogs (.convGained x) s x.helm [(x.helm, EST_STATUS.PHASE), (x.helm, EST_EVENT.CONV_GAINED), (x.helm, I_DIE.SEQ)]
      (fun q => rd q x.helm EST_STATUS.PHASE = 2 ∧ rd q x.helm EST_EVENT.CONV_GAINED = 1)) ∧
  (∀ (x : Side) (n : Nat) (s : State), n < 64 →
    rdI s.pk x.helm EST_SRC.STATE n = 2 →
    1 ≤ rdI s.pk x.helm CFL_SRC.KIND n →
    rdI s.pk x.helm CFL_SRC.KIND n ≤ 4 →
    rd s.pk x.helm EST_GATE.RETURN_RUN ≤ rdI s.pk x.helm I_EST.OK_RUN n →
    ActsAndLogs (.srcReturned x n) s x.helm [(x.helm, EST_SRC.STATE), (x.helm, EST_SRC.W_DYN), (x.helm, I_EST.OK_RUN), (x.helm, I_EST.REJ_HISTORY),
      (x.helm, EST_SRC.REJ64), (x.helm, EST_EVENT.SRC_RETURNED), (x.helm, I_DIE.SEQ)]
      (fun q => rdI q x.helm EST_SRC.STATE n = 1 ∧ rdI q x.helm EST_SRC.W_DYN n = 0x3D800000 ∧ rdI q x.helm I_EST.REJ_HISTORY n = 0 ∧
        rd q x.helm EST_EVENT.SRC_RETURNED = 1)) ∧
  (∀ (x : Side) (on : Bool) (s : State), running s.pk x.helm = true →
    ActsOn (.estFreeze x on) s [(x.helm, I_EST.FROZEN)] (fun q => rd q x.helm I_EST.FROZEN = b2n on)) ∧
  (∀ (x : Side) (s : State), running s.pk x.helm = true →
    ActsWithin (OnlyLane x) (.reinit x) s (fun q => rd q x.helm EST_STATUS.PHASE = 0 ∧ (q.lanes.get x).est = EstCore.zero ∧
      (q.lanes.get x).ring = [] ∧ (q.lanes.get x).replay = none)) ∧
  (∀ (x : Side) (s : State), running s.pk x.helm = true →
    rd s.pk x.helm EST_STATUS.PHASE ≠ 0 →
    ActsWithin (OnlyLane x) (.redatum x) s (fun q => rd q x.helm EST_DATUM_ID.COUNT = (rd s.pk x.helm EST_DATUM_ID.COUNT + 1) % 2 ^ EST_DATUM_ID.COUNT.w ∧
      rd q x.helm EST_STATUS.DATUM_FAR = 0 ∧ rd q x.helm EST_EVENT.REDATUM = 1 ∧
      rd q x.helm I_EST.DATUM_H = fsub (rd s.pk x.helm I_EST.DATUM_H) (vget (s.pk.lanes.get x).est.x 17) % 2 ^ 64 ∧
      (q.lanes.get x).est = (s.pk.lanes.get x).est.shifted (vget (s.pk.lanes.get x).est.x 0) (vget (s.pk.lanes.get x).est.x 1) (vget (s.pk.lanes.get x).est.x 17) true)) ∧
  (∀ (x : Side) (s : State), rd s.pk x.helm ASM_STATUS.WIND_LOST = 0 →
    fle (fmul (f32 s.pk x.helm ASM_WIND_HOLD.V 0) (fint 1000)) (fint (rd s.pk x.helm I_ASM.WIND_AGE)) = true →
    ActsWithin (OnlyLane x) (.windLost x) s (fun q => rd q x.helm ASM_STATUS.WIND_LOST = 1 ∧ rd q x.helm ASM_EVENT.WIND_LOST = 1 ∧
      (q.lanes.get x).wind = [0, 0, 0])) ∧
  (∀ (x : Side) (s : State), (modeOf s.pk x = 2 ∨ modeOf s.pk x = 3) →
    rd s.pk x.helm SP_STATUS.JOY_LOST = 0 →
    rd s.pk x.helm I_SP.JOY_AT + rd s.pk x.helm SP_CFG.JOY_TIMEOUT * 10000000 ≤ now s.pk x.helm →
    ActsWithin (OnlyLane x) (.joyLost x) s (fun q => rd q x.helm SP_STATUS.JOY_LOST = 1 ∧ rd q x.helm SP_EVENT.JOY_LOST = 1 ∧
      (q.lanes.get x).joy = [0, 0, 0])) ∧
  (∀ (x : Side) (s : State), modeOf s.pk x ≠ 2 →
    modeOf s.pk x ≠ 3 →
    ActsNot (.joyLost x) s) ∧
  (∀ (x : Side) (s : State), modeOf s.pk x = 5 →
    standsAtBoundary s.pk x = true →
    rd s.pk x.helm SP_STATUS.DWELLING = 1 →
    rd s.pk x.helm SP_STATUS.WP_INDEX + 1 < (s.pk.lanes.get x).waypoints.length →
    (s.pk.lanes.get x).waypoints.length ≤ 64 →
    rd s.pk x.helm I_SP.DWELL_AT + (wpAt (s.pk.lanes.get x).waypoints (rd s.pk x.helm SP_STATUS.WP_INDEX)).dwell * 1000000000 ≤ now s.pk x.helm →
    (s.pk.lanes.get x).ramp.h.reached epsH (now s.pk x.helm) = true →
    ActsWithin (OnlyLane x) (.waypointDwell x) s (fun q => rd q x.helm SP_STATUS.WP_INDEX = rd s.pk x.helm SP_STATUS.WP_INDEX + 1 ∧
      rd q x.helm SP_STATUS.DWELLING = 0 ∧ (q.lanes.get x).waypoints = (s.pk.lanes.get x).waypoints))

/-- R247, R248, R270, R274, R278: the bias-tee monitor, the reflectometer and harbour watch. SURR_CHANGED may be raised at the steward when
a measurement changes (spec/17, Table 17-2). -/
def Obligations.AntennaMonitorReflectometerAndHarbourWatch : Prop :=
  (∀ (x : Side) (cur : Nat) (k : Nat) (s : State), running s.pk x.bb = true →
    periodDue s.pk x.bb I_GNS.ANT_DUE 0 10000000 = true →
    rd s.pk x.bb GNS_ANT_CFG.BIAS_EN = 1 →
    rd s.pk x.bb I_GNS.BIAS_OFF = 0 →
    antClass s.pk x.bb cur = k →
    rd s.pk x.bb I_GNS.ANT_CLASS = k →
    rd s.pk x.bb I_GNS.ANT_RUN = 9 →
    ActsWithin OnlyRegsAndLog (.antMonitorSample x cur) s (fun q => rd q x.bb GNS_STATUS.ANT_STATE = k ∧
      rd q x.bb GNS_ANT_CURRENT.CURRENT = cur % 2 ^ GNS_ANT_CURRENT.CURRENT.w)) ∧
  (∀ (x : Side) (cur : Nat) (s : State), running s.pk x.bb = true →
    periodDue s.pk x.bb I_GNS.ANT_DUE 0 10000000 = true →
    rd s.pk x.bb GNS_ANT_CFG.BIAS_EN = 0 →
    ActsWithin OnlyRegsAndLog (.antMonitorSample x cur) s (fun q => rd q x.bb GNS_STATUS.ANT_STATE = 0)) ∧
  (∀ (x : Side) (s : State), running s.pk x.bb = true →
    rd s.pk x.bb I_GNS.BIAS_OFF = 1 →
    ActsOn (.antRetry x) s [(x.bb, I_GNS.BIAS_OFF), (x.bb, I_GNS.RETRYING), (x.bb, I_GNS.ANT_RUN), (x.bb, I_GNS.ANT_CLASS)]
      (fun q => rd q x.bb I_GNS.BIAS_OFF = 0 ∧ rd q x.bb I_GNS.RETRYING = 1)) ∧
  (∀ (x : Side) (s : State), rd s.pk x.bb I_GNS.OFF_AT + rd s.pk x.bb GNS_ANT_CFG.RETRY_S * 1000000000 ≤ now s.pk x.bb →
    rd s.pk x.bb I_GNS.BIAS_OFF = 1 →
    ActsOn (.antBiasRetry x) s [(x.bb, I_GNS.BIAS_OFF), (x.bb, I_GNS.RETRYING), (x.bb, I_GNS.ANT_RUN), (x.bb, I_GNS.ANT_CLASS)]
      (fun q => rd q x.bb I_GNS.BIAS_OFF = 0 ∧ rd q x.bb I_GNS.RETRYING = 1)) ∧
  (∀ (x : Side) (s : State), now s.pk x.bb < rd s.pk x.bb I_GNS.OFF_AT + rd s.pk x.bb GNS_ANT_CFG.RETRY_S * 1000000000 →
    ActsNot (.antBiasRetry x) s) ∧
  (∀ (x : Side) (s : State), running s.pk x.bb = true →
    reflectRefused s.pk x = false →
    ActsOn (.reflectStart x) s [(x.bb, GNS_STATUS.REFLECT_BUSY), (x.bb, I_GNS.REFLECT_AT), (x.bb, GNS_REFLECT_RESULT.VALID)]
      (fun q => rd q x.bb GNS_STATUS.REFLECT_BUSY = 1 ∧ rd q x.bb GNS_REFLECT_RESULT.VALID = 0)) ∧
  (∀ (x : Side) (s : State), reflectRefused s.pk x = true →
    ActsNot (.reflectStart x) s) ∧
  (∀ (x : Side) (rtPs : Nat) (s : State), rd s.pk x.bb GNS_STATUS.REFLECT_BUSY = 1 →
    rd s.pk x.bb I_GNS.REFLECT_AT + 100000000 ≤ now s.pk x.bb →
    ActsWithin OnlyRegsAndLog (.reflectDone x rtPs) s (fun q => rd q x.bb GNS_STATUS.REFLECT_BUSY = 0 ∧ rd q x.bb GNS_REFLECT_RESULT.VALID = 1 ∧
      rd q x.bb GNS_REFLECT_RESULT.PROPOSED = min (divRne (rtPs : Int) 200).toNat 20000 % 2 ^ GNS_REFLECT_RESULT.PROPOSED.w ∧
        rd q x.bb GNS_EVENT.REFLECT_DONE = 1)) ∧
  (∀ (x : Side) (s : State), rd s.pk x.bb I_GNS.WATCH = 1 →
    rd s.pk x.bb GNS_STATUS.STATE = 4 →
    rd s.pk x.bb I_GNS.WATCH_AT + rd s.pk x.bb GNS_HARBOUR.HW_INTERVAL * 60000000000 ≤ now s.pk x.bb →
    ActsAndLogs (.hwWake x) s x.bb [(x.bb, GNS_STATUS.STATE), (x.bb, I_GNS.WATCH_AT), (x.bb, GNS_EVENT.HW_WAKE), (x.bb, I_DIE.SEQ)]
      (fun q => rd q x.bb GNS_STATUS.STATE = 5 ∧ rd q x.bb GNS_EVENT.HW_WAKE = 1)) ∧
  (∀ (x : Side) (s : State), rd s.pk x.bb I_GNS.WATCH = 1 →
    rd s.pk x.bb GNS_STATUS.STATE = 5 →
    gnssSolution s.pk = true →
    ActsWithin (OnlyBaseband x) (.hwSleep x true) s (fun q => rd q x.bb GNS_STATUS.STATE = 4 ∧ rd q x.bb GNS_EVENT.HW_SLEEP = 1 ∧
      ∀ k ∈ List.range 160, chanState q x.bb k = 0 ∨ chanState q x.bb k = 4)) ∧
  (∀ (x : Side) (fresh : Bool) (s : State), rd s.pk x.bb I_GNS.WATCH = 1 →
    rd s.pk x.bb GNS_STATUS.STATE = 5 →
    rd s.pk x.bb I_GNS.WATCH_AT + rd s.pk x.bb GNS_HARBOUR.HW_WAKE_MAX * 1000000000 ≤ now s.pk x.bb →
    ActsWithin (OnlyBaseband x) (.hwSleep x fresh) s (fun q => rd q x.bb GNS_STATUS.STATE = 4 ∧ rd q x.bb GNS_EVENT.HW_SLEEP = 1)) ∧
  (∀ (x : Side) (fresh : Bool) (s : State), rd s.pk x.bb I_GNS.WATCH = 0 →
    ActsNot (.hwWake x) s ∧ ActsNot (.hwSleep x fresh) s)

/-- R250, R252, R253, R255, R272: the channels and the search. -/
def Obligations.ChannelsLoseRegainAndFreeTheirSignals : Prop :=
  (∀ (x : Side) (c pliMs cn0Ms : Nat) (s : State), c < 160 →
    gnsIdle s.pk x.bb = false →
    chanState s.pk x.bb c = 2 →
    (100 ≤ pliMs ∨ 1000 ≤ cn0Ms) →
    ActsWithin (OnlyBaseband x) (.lockLoss x ⟨c, pliMs, cn0Ms⟩) s (fun q => chanState q x.bb c = 3 ∧ rdI q x.bb GNS_CHAN.LOCK_TIME c = 0 ∧
      (∀ k ∈ List.range 160, k ≠ c → chanState q x.bb k = chanState s.pk x.bb k))) ∧
  (∀ (x : Side) (c pliMs cn0Ms : Nat) (s : State), gnsIdle s.pk x.bb = true ∨ chanState s.pk x.bb c ≠ 2 ∨ pliMs < 100 ∧ cn0Ms < 1000 →
    ActsNot (.lockLoss x ⟨c, pliMs, cn0Ms⟩) s) ∧
  (∀ (x : Side) (c : Nat) (s : State), c < 160 →
    chanState s.pk x.bb c = 3 →
    rdI s.pk x.bb I_CHAN.REACQ_AT c + rd s.pk x.bb GNS_TRACK_CFG.REACQ_S * 1000000000 ≤ now s.pk x.bb →
    ActsWithin (OnlyBaseband x) (.reacqTimeout x c) s (fun q => chanState q x.bb c = 0 ∧ chanSignal q x.bb c = (0, 0, 0))) ∧
  (∀ (x : Side) (c intervals : Nat) (s : State), c < 160 →
    chanState s.pk x.bb c = 2 →
    1 ≤ intervals →
    ActsOn (.cycleSlip x ⟨c, intervals⟩) s [(x.bb, I_CHAN.LOCK_AT), (x.bb, GNS_CHAN.SLIPS), (x.bb, GNS_SLIPS.V), (x.bb, GNS_CHAN.LOCK_TIME),
      (x.bb, I_CHAN.SLIP)]
      (fun q => rdI q x.bb GNS_CHAN.SLIPS c = (rdI s.pk x.bb GNS_CHAN.SLIPS c + 1) % 2 ^ 16 ∧
        rd q x.bb GNS_SLIPS.V = (rd s.pk x.bb GNS_SLIPS.V + 1) % 2 ^ 32 ∧
      rdI q x.bb GNS_CHAN.LOCK_TIME c = 0)) ∧
  (∀ (x : Side) (c : Nat) (s : State), c < 160 →
    gnsIdle s.pk x.bb = false →
    (chanState s.pk x.bb c = 1 ∨ chanState s.pk x.bb c = 3 ∧ reacqOver s.pk x.bb c = false) →
    ActsWithin (OnlyBaseband x) (.channelLocked x c) s (fun q => chanState q x.bb c = 2 ∧ (rd s.pk x.bb GNS_STATUS.STATE = 1 →
      rd q x.bb GNS_STATUS.STATE = 2) ∧ (rd s.pk x.bb GNS_STATUS.STATE = 3 →
      rd q x.bb GNS_STATUS.STATE = 2 ∧ rd q x.bb GNS_EVENT.SIGNALS_BACK = 1))) ∧
  (∀ (x : Side) (v : Nat × Nat × Nat) (c : Nat) (s : State), gnsIdle s.pk x.bb = false →
    rd s.pk x.bb GNS_STATUS.SEARCH_SUSPENDED = 0 →
    (s.pk.bbs.get x).verify = some v →
    (chansIn s.pk x.bb 0).head? = some c →
    ActsWithin (OnlyBaseband x) (.acqDwell x true) s (fun q => chanState q x.bb c = 1 ∧ rdI q x.bb GNS_CHAN.SYS c = v.1 % 2 ^ GNS_CHAN.SYS.w ∧
      rdI q x.bb GNS_CHAN.PRN c = v.2.1 % 2 ^ GNS_CHAN.PRN.w ∧ (q.bbs.get x).verify = none ∧
      rd q x.bb GNS_ACQ_HITS.V = (rd s.pk x.bb GNS_ACQ_HITS.V + 1) % 2 ^ 32)) ∧
  (∀ (x : Side) (v : Nat × Nat × Nat) (s : State), gnsIdle s.pk x.bb = false →
    rd s.pk x.bb GNS_STATUS.SEARCH_SUSPENDED = 0 →
    (s.pk.bbs.get x).verify = some v →
    Completes (.acqDwell x false) s (fun t => LedgerKept s t ∧ FieldsKept [(x.bb, GNS_STATUS.SEARCH_SUSPENDED)] s.pk t.pk ∧
      rd t.pk x.bb GNS_STATUS.SEARCH_SUSPENDED = (if rd s.pk x.bb GNS_SNAP_STATUS.SNAP_STATE = 1 then 1 else 0) ∧
        t.pk = { s.pk with regs := t.pk.regs, bbs := s.pk.bbs.set x { s.pk.bbs.get x with verify := none } })) ∧
  (∀ (x : Side) (v : (Nat × Nat × Nat) × Nat) (s : State), gnsIdle s.pk x.bb = false →
    rd s.pk x.bb GNS_STATUS.SEARCH_SUSPENDED = 0 →
    (s.pk.bbs.get x).verify = none →
    nextSearch s.pk x = some v →
    Completes (.acqDwell x true) s (fun t => LedgerKept s t ∧ FieldsKept [(x.bb, GNS_STATUS.SEARCH_SUSPENDED)] s.pk t.pk ∧
      rd t.pk x.bb GNS_STATUS.SEARCH_SUSPENDED = (if rd s.pk x.bb GNS_SNAP_STATUS.SNAP_STATE = 1 then 1 else 0) ∧
        t.pk = { s.pk with regs := t.pk.regs, bbs := s.pk.bbs.set x (t.pk.bbs.get x) } ∧
      (t.pk.bbs.get x).verify = some v.1)) ∧
  (∀ (x : Side) (y : Side) (signals : List (Nat × Nat × Nat)) (s : State), running s.pk x.bb = true →
    running s.pk y.helm = true →
    followed s.pk = y →
    reaches s.pk y.helm x.bb = true →
    ActsWithin (OnlyBaseband x) (.channelPlan x y signals) s (fun q =>
      (q.bbs.get x).plan = some ((formPlan s.pk y signals).filter (fun e => supported e.sys e.prn e.band)) ∧
      rd q x.bb GNS_NAV_ERR.V = (rd s.pk x.bb GNS_NAV_ERR.V + (signals.length - (signals.filter (fun e => supported e.1 e.2.1 e.2.2)).length)) % 2 ^ 32)) ∧
  (∀ (x : Side) (y : Side) (signals : List (Nat × Nat × Nat)) (s : State), followed s.pk ≠ y →
    ActsNot (.channelPlan x y signals) s)

/-- R258, R261, R264, R266, R267: records, pages and corrections. -/
def Obligations.EpochsPagesAndCorrectionsReachTheLanes : Prop :=
  (∀ (x : Side) (agc1 : Nat) (agc5 : Nat) (handNs : Nat) (meas : List Meas) (bistFail : Bool) (s : State), epochDue s.pk x.bb = true →
    Completes (.gnssEpoch x (now s.pk x.bb) agc1 agc5 handNs meas bistFail) s (fun t => LedgerKept s t ∧
      t.pk = { s.pk with stamped := t.pk.stamped, regs := t.pk.regs, log := t.pk.log, bbs := s.pk.bbs.set x (t.pk.bbs.get x), lanes := t.pk.lanes, faults := t.pk.faults, retiring := t.pk.retiring } ∧
      rd t.pk x.bb GNS_AGC.AGC_L1 = agc1 % 2 ^ 16 ∧ rd t.pk x.bb GNS_AGC.AGC_L5 = agc5 % 2 ^ 16 ∧
      rd t.pk x.bb GNS_RECORDS.V = (rd s.pk x.bb GNS_RECORDS.V + 1) % 2 ^ 32 ∧ (t.pk.bbs.get x).record.take 8 = leBytes 8 (now s.pk x.bb))) ∧
  (∀ (x : Side) (c : Nat) (ended : Nat) (page : Nat) (bits : Nat) (s : State), gnsIdle s.pk x.bb = false →
    c < 160 →
    chanState s.pk x.bb c = 2 →
    (chanSignal s.pk x.bb c).2.2 = 0 →
    Completes (.navPage x c ended page bits true) s (fun t => LedgerKept s t ∧ t.pk = { s.pk with lanes := t.pk.lanes } ∧
      ∀ y ∈ bothSides, t.pk.lanes.get y = if running s.pk y.helm && reaches s.pk x.bb y.helm then { s.pk.lanes.get y with navIn := (s.pk.lanes.get y).navIn ++
      [⟨pageStamp s.pk ended, x.bb.num, c, (chanSignal s.pk x.bb c).1, (chanSignal s.pk x.bb c).2.1, (chanSignal s.pk x.bb c).2.2, page, trunc 600 bits⟩] } else s.pk.lanes.get y)) ∧
  (∀ (x : Side) (c : Nat) (ended : Nat) (page : Nat) (bits : Nat) (s : State), gnsIdle s.pk x.bb = false →
    c < 160 →
    chanState s.pk x.bb c = 2 →
    (chanSignal s.pk x.bb c).2.2 = 0 →
    ActsOn (.navPage x c ended page bits false) s [(x.bb, GNS_NAV_ERR.V)] (fun q => rd q x.bb GNS_NAV_ERR.V = (rd s.pk x.bb GNS_NAV_ERR.V + 1) % 2 ^ 32)) ∧
  (∀ (x : Side) (c : Nat) (ended : Nat) (page : Nat) (bits : Nat) (good : Bool) (s : State), (gnsIdle s.pk x.bb = true ∨ chanState s.pk x.bb c ≠ 2 ∨ (chanSignal s.pk x.bb c).2.2 ≠ 0) →
    ActsNot (.navPage x c ended page bits good) s) ∧
  (∀ (y : Side) (u : Nat) (stamp : Nat) (frame : List Nat) (s : State), u < 8 →
    running s.pk y.port = true →
    rdI s.pk y.port SIG_UART.MODE u = 2 →
    rtcmGood frame = true →
    Completes (.rtcmFrame y u stamp frame) s (fun t => LedgerKept s t ∧ t.pk = { s.pk with regs := t.pk.regs, lanes := t.pk.lanes } ∧
      FieldsKept [(y.port, SIG_UART.FRAMES)] s.pk t.pk ∧
        rdI t.pk y.port SIG_UART.FRAMES u = (rdI s.pk y.port SIG_UART.FRAMES u + 1) % 2 ^ SIG_UART.FRAMES.w ∧
      ∀ x ∈ bothSides, t.pk.lanes.get x = if running s.pk x.helm && reaches s.pk y.port x.helm then
      { s.pk.lanes.get x with corrIn := (s.pk.lanes.get x).corrIn ++ [⟨stamp, rtcmNumber frame, frame⟩] } else s.pk.lanes.get x)) ∧
  (∀ (y : Side) (u : Nat) (stamp : Nat) (frame : List Nat) (s : State), u < 8 →
    running s.pk y.port = true →
    rdI s.pk y.port SIG_UART.MODE u = 2 →
    rtcmGood frame = false →
    ActsAndLogs (.rtcmFrame y u stamp frame) s y.port [(y.port, SIG_UART.FRAME_ERR), (y.port, SIG_EVENT.FRAME_ERR), (y.port, I_DIE.SEQ)]
      (fun q => rdI q y.port SIG_UART.FRAME_ERR u = (rdI s.pk y.port SIG_UART.FRAME_ERR u + 1) % 2 ^ SIG_UART.FRAME_ERR.w ∧
        rd q y.port SIG_EVENT.FRAME_ERR = 1)) ∧
  (∀ (x : Side) (g : Nat) (s : State), g < 4 →
    corrFalls s.pk x g (now s.pk x.helm) = true →
    rdI s.pk x.helm I_EST.CORR_STALE g = 0 →
    ActsAndLogs (.corrStale x g) s x.helm [(x.helm, I_EST.CORR_STALE), (x.helm, I_DIE.SEQ)] (fun q => rdI q x.helm I_EST.CORR_STALE g = 1)) ∧
  (∀ (x : Side) (s : State), rd s.pk x.helm I_EST.SBAS_AT + 60000000000 ≤ now s.pk x.helm →
    ActsOn (.sbasResume x) s [(x.helm, I_EST.SBAS_OFF)] (fun q => rd q x.helm I_EST.SBAS_OFF = 0)) ∧
  (∀ (x : Side) (s : State), now s.pk x.helm < rd s.pk x.helm I_EST.SBAS_AT + 60000000000 →
    ActsNot (.sbasResume x) s)

/-- R275 to R277, R279: snapshot captures and the basebands' weirs. -/
def Obligations.SnapshotCapturesFollowTheirStates : Prop :=
  (∀ (x : Side) (s : State), running s.pk x.bb = true →
    onFallback s.pk x.bb = false →
    rd s.pk x.bb GNS_SNAP_STATUS.SNAP_STATE = 0 →
    ActsOn (.snapTrigger x) s [(x.bb, GNS_SNAP_STATUS.SNAP_STATE), (x.bb, GNS_SNAP_STATUS.TRIGGER), (x.bb, I_GNS.TRIG_AT)]
      (fun q => rd q x.bb GNS_SNAP_STATUS.SNAP_STATE = 1 ∧ rd q x.bb GNS_SNAP_STATUS.TRIGGER = 0)) ∧
  (∀ (x : Side) (s : State), running s.pk x.bb = true →
    (onFallback s.pk x.bb = true ∨ rd s.pk x.bb GNS_SNAP_STATUS.SNAP_STATE ≠ 0) →
    ActsAndLogs (.snapTrigger x) s x.bb [(x.bb, GNS_SNAP_MISSED.V), (x.bb, GNS_EVENT.SNAP_MISSED), (x.bb, I_DIE.SEQ)]
      (fun q => rd q x.bb GNS_SNAP_MISSED.V = (rd s.pk x.bb GNS_SNAP_MISSED.V + 1) % 2 ^ 32 ∧ rd q x.bb GNS_EVENT.SNAP_MISSED = 1)) ∧
  (∀ (x : Side) (t0 : Nat) (s : State), t0 < 1000000 →
    rd s.pk x.bb GNS_SNAP_STATUS.SNAP_STATE = 1 →
    running s.pk x.bb = true →
    rd s.pk x.bb I_GNS.TRIG_AT + 4000000 ≤ now s.pk x.bb + t0 →
    ActsWithin (OnlyBaseband x) (.captureStart x t0) s (fun q => rd q x.bb GNS_SNAP_STATUS.SNAP_STATE = 2 ∧
      rd q x.bb GNS_SNAP_T0.T0 = (now s.pk x.bb + t0) % 2 ^ 64 ∧
      (searching s.pk x = true → rd q x.bb GNS_STATUS.SEARCH_SUSPENDED = 1) ∧ rd q x.bb GNS_STATUS.REFLECT_BUSY = 0 ∧ q.bbs = s.pk.bbs)) ∧
  (∀ (x : Side) (t0 : Nat) (s : State), captureMayStart s.pk x (now s.pk x.bb + t0) = false →
    ActsNot (.captureStart x t0) s) ∧
  (∀ (x : Side) (samples : List Nat) (s : State), rd s.pk x.bb GNS_SNAP_STATUS.SNAP_STATE = 2 →
    rd s.pk x.bb GNS_SNAP_T0.T0 + rd s.pk x.bb GNS_SNAP_STATUS.LENGTH_MS * 1000000 ≤ now s.pk x.bb →
    ActsWithin (OnlyBaseband x) (.captureDone x samples) s (fun q => rd q x.bb GNS_SNAP_STATUS.SNAP_STATE = 3 ∧ rd q x.bb GNS_EVENT.SNAP_READY = 1 ∧
      ((q.bbs.get x).capture.map (fun c => (c.samples, c.crc))) = some (samples, crc32c samples))) ∧
  (∀ (x : Side) (s : State), rd s.pk x.bb GNS_SNAP_STATUS.SNAP_STATE = 3 →
    ActsWithin (OnlyBaseband x) (.snapRelease x) s (fun q => rd q x.bb GNS_SNAP_STATUS.SNAP_STATE = 0 ∧ rd q x.bb GNS_STATUS.SEARCH_SUSPENDED = 0 ∧
      (q.bbs.get x).capture = none)) ∧
  (∀ (x : Side) (s : State), rd s.pk x.bb GNS_SNAP_STATUS.SNAP_STATE = 3 →
    rd s.pk x.bb I_GNS.HOLD_AT + rd s.pk x.bb GNS_SNAP_CFG.HOLD_MAX * 1000000000 ≤ now s.pk x.bb →
    ActsWithin (OnlyBaseband x) (.snapDiscarded x) s (fun q => rd q x.bb GNS_SNAP_STATUS.SNAP_STATE = 0 ∧ rd q x.bb GNS_EVENT.SNAP_DISCARDED = 1 ∧
      (q.bbs.get x).capture = none)) ∧
  (∀ (x : Side) (t0 : Nat) (samples : List Nat) (s : State), rd s.pk x.bb GNS_SNAP_STATUS.SNAP_STATE = 0 →
    ActsNot (.captureStart x t0) s ∧ ActsNot (.captureDone x samples) s ∧ ActsNot (.snapRelease x) s ∧ ActsNot (.snapDiscarded x) s) ∧
  (∀ (x : Side) (k : Nat) (s : State), k < 4 →
    running s.pk x.bb = true →
    rdI s.pk x.bb GNS_WEIR.EN k = 1 →
    rdI s.pk x.bb I_GWEIR.FIRED k = 0 →
    rdI s.pk x.bb I_GWEIR.RUN k = 1 →
    rdI s.pk x.bb I_GWEIR.SINCE k + rdI s.pk x.bb GNS_WEIR.MIN_DUR k * 10000000 ≤ now s.pk x.bb →
    ActsWithin (OnlyBaseband x) (.gnsWeirFire x k) s (fun q => rdI q x.bb I_GWEIR.FIRED k = 1 ∧ rd q x.bb GNS_EVENT.WEIR = 1 ∧ q.bbs = s.pk.bbs)) ∧
  (∀ (x : Side) (k : Nat) (s : State), k < 4 →
    rdI s.pk x.bb I_GWEIR.FIRED k = 1 →
    rdI s.pk x.bb GNS_WEIR.DIR k = 1 →
    gweirValue s.pk x.bb k + rdI s.pk x.bb GNS_WEIR.HYST k ≤ rdI s.pk x.bb GNS_WEIR.THRESH k →
    ActsOn (.gnsWeirRearm x k) s [(x.bb, I_GWEIR.FIRED), (x.bb, I_GWEIR.RUN)] (fun q => rdI q x.bb I_GWEIR.FIRED k = 0))

/-- R40, R42, R81, R82, R297, R299, R300: output writes at the sluices, and the dead-hand. -/
def Obligations.SluicesLatchAndTheDeadHandActs : Prop :=
  (∀ (x : Side) (y : Side) (i : Nat) (w : Nat) (s : State), portHears s.pk x y = true →
    rd s.pk y.port HG_OWNER.OWNER = x.num + 1 →
    i < 16 →
    rdI s.pk y.port SIG_OUT.USER i ≠ 2 →
    rd s.pk y.port HG_DH_STATUS.TRIPPED = 0 →
    ActsOn (.sluiceWrite x y .dac i w) s [(y.port, SIG_OUT.LATCHED), (y.port, I_OUT.WRITTEN), (y.port, I_OUT.EVER), (y.port, I_OUT.TICK),
      (y.port, SIG_OUT.CODE)]
      (fun q => rdI q y.port SIG_OUT.LATCHED i = w % 2 ^ 32 ∧ rdI q y.port SIG_OUT.CODE i =
      (clampInt ((rdI s.pk y.port SIG_OUT.ZERO i : Int) + divRne (toSigned 32 (rdI s.pk y.port SIG_OUT.SPAN i) * toSigned 32 w) 0x80000000) 0 65535).toNat)) ∧
  (∀ (x : Side) (y : Side) (i : Nat) (w : Nat) (s : State), portHears s.pk x y = true →
    rd s.pk y.port HG_OWNER.OWNER = x.num + 1 →
    i < 16 →
    rdI s.pk y.port SIG_OUT.USER i ≠ 2 →
    rd s.pk y.port HG_DH_STATUS.TRIPPED = 1 →
    ActsOn (.sluiceWrite x y .dac i w) s [(y.port, SIG_OUT.LATCHED), (y.port, I_OUT.WRITTEN), (y.port, I_OUT.EVER), (y.port, I_OUT.TICK)]
      (fun q => rdI q y.port SIG_OUT.LATCHED i = w % 2 ^ 32)) ∧
  (∀ (x : Side) (y : Side) (i : Nat) (w : Nat) (s : State), portHears s.pk x y = true →
    rd s.pk y.port HG_OWNER.OWNER = x.num + 1 →
    i < 24 →
    rdI s.pk y.port SIG_OUT.USER (16 + i) ≠ 2 →
    (rdI s.pk y.port SIG_DIO.FUNC i = 2 ∨ rdI s.pk y.port SIG_DIO.FUNC i = 3) →
    rd s.pk y.port HG_DH_STATUS.TRIPPED = 0 →
    ActsOn (.sluiceWrite x y .dio i w) s [(y.port, SIG_OUT.LATCHED), (y.port, I_OUT.WRITTEN), (y.port, I_OUT.EVER), (y.port, I_OUT.TICK),
      (y.port, I_OUT.LEVEL),
      (x.helm, I_LANE.DIO_MAP), (x.other.helm, I_LANE.DIO_MAP)]
      (fun q => rdI q y.port SIG_OUT.LATCHED (16 + i) = w % 2 ∧ rdI q y.port I_OUT.LEVEL (16 + i) = w % 2)) ∧
  (∀ (x : Side) (y : Side) (i : Nat) (w : Nat) (s : State), portHears s.pk x y = true →
    rd s.pk y.port HG_OWNER.OWNER = x.num + 1 →
    i < 128 →
    ActsOn (.sluiceWrite x y .can i w) s [(y.port, I_TXS.WORD), (y.port, I_TXS.WRITTEN), (y.port, I_TXS.EVER),
      (y.port, I_TXS.TICK)] (fun q => rdI q y.port I_TXS.WORD i = w % 2 ^ 32)) ∧
  (∀ (x : Side) (y : Side) (i : Nat) (w : Nat) (s : State), portHears s.pk x y = true →
    rd s.pk y.port HG_OWNER.OWNER = x.num + 1 →
    i < 8 →
    rdI s.pk y.port SIG_UART.MODE i ≠ 0 →
    Completes (.sluiceWrite x y .uart i w) s (fun t => LedgerKept s t ∧
      t.pk = { s.pk with ports := s.pk.ports.set y { s.pk.ports.get y with uart := (s.pk.ports.get y).uart ++ [(i, w)] } })) ∧
  (∀ (x : Side) (y : Side) (s : State), portHears s.pk x y = true →
    rd s.pk y.port HG_OWNER.OWNER = x.num + 1 →
    ActsWithin (OnlyPort y) (.deadhandRefresh x y) s (fun q => rd q y.port HG_DH_STATUS.SINCE_REFRESH = 0 ∧ rd q y.port HG_DH_STATUS.TRIPPED = 0 ∧
      q.ports = s.pk.ports ∧ q.eth = s.pk.eth)) ∧
  (∀ (x : Side) (y : Side) (s : State), portHears s.pk x y = false ∨ rd s.pk y.port HG_OWNER.OWNER ≠ x.num + 1 →
    ActsNot (.deadhandRefresh x y) s) ∧
  (∀ (y : Side) (s : State), running s.pk y.port = true →
    rd s.pk y.port HG_DH_STATUS.TRIPPED = 0 →
    rd s.pk y.port HG_DH_CFG.DH_TIMEOUT ≤ rd s.pk y.port HG_DH_STATUS.SINCE_REFRESH →
    ActsWithin (OnlyPort y) (.deadhandTrip y) s (fun q => rd q y.port HG_DH_STATUS.TRIPPED = 1 ∧ rd q y.port HG_DH_STATUS.TRIP_EVT = 1 ∧
      rd q y.port SIG_STATUS.PORT_OK = 0 ∧ q.ports = s.pk.ports ∧ q.eth = s.pk.eth ∧
      ∀ o ∈ List.range 16, rdI s.pk y.port SIG_OUT.USER o ≠ 2 → rdI s.pk y.port SIG_OUT.DH_ACTION o = 1 →
      rdI q y.port SIG_OUT.CODE o = rdI s.pk y.port SIG_OUT.DH_VALUE o % 2 ^ 16)) ∧
  (∀ (y : Side) (s : State), rd s.pk y.port HG_DH_STATUS.SINCE_REFRESH < rd s.pk y.port HG_DH_CFG.DH_TIMEOUT →
    ActsNot (.deadhandTrip y) s) ∧
  (∀ (y : Side) (s : State), running s.pk y.port = true →
    rd s.pk y.port HG_DH_STATUS.TRIPPED = 1 →
    rd s.pk y.port SIG_STATUS.LAYOUT = 1 →
    rd s.pk y.port I_PORT.RAMP_DUE = 1 →
    ActsOn (.deadhandRampStep y) s [(y.port, SIG_OUT.CODE), (y.port, I_PORT.RAMP_DUE)] (fun q => ∀ o ∈ List.range 16, rdI q y.port SIG_OUT.CODE o =
      if rdI s.pk y.port SIG_OUT.USER o ≠ 2 ∧ rdI s.pk y.port SIG_OUT.DH_ACTION o = 2 then
      rampToward (rdI s.pk y.port SIG_OUT.CODE o) (rdI s.pk y.port SIG_OUT.DH_VALUE o) (rdI s.pk y.port SIG_OUT.DH_RATE o) % 2 ^ 16
      else rdI s.pk y.port SIG_OUT.CODE o)) ∧
  (∀ (y : Side) (s : State), rd s.pk y.port HG_DH_STATUS.TRIPPED = 0 ∨ rd s.pk y.port I_PORT.RAMP_DUE = 0 →
    ActsNot (.deadhandRampStep y) s)

/-- R281, R283, R284, R287: the analog channels and the weirs. -/
def Obligations.AnalogChannelsResetFillAndDeliver : Prop :=
  (∀ (y : Side) (w : Nat) (s : State), running s.pk y.port = true →
    (s.pk.ports.get y).ain.length = 16 →
    Completes (.sigSync y w) s (fun t => LedgerKept s t ∧
      t.pk = { s.pk with ports := s.pk.ports.set y { s.pk.ports.get y with ain := (t.pk.ports.get y).ain } } ∧
      ∀ n ∈ List.range 16, ainAt t.pk y n = if w.testBit n then { ainAt s.pk y n with sync := true } else ainAt s.pk y n)) ∧
  (∀ (y : Side) (n : Nat) (s : State), running s.pk y.port = true →
    n < 16 →
    (s.pk.ports.get y).ain.length = 16 →
    (ainAt s.pk y n).sync = true →
    ActsWithin (OnlyPort y) (.syncReset y n) s (fun q => ainAt q y n = { ainAt s.pk y n with hist := [], count := 0, sync := false } ∧
      rdI q y.port SIG_AIN.FILL_LEFT n = (rdI s.pk y.port SIG_AIN.S n * (rdI s.pk y.port SIG_AIN.L n - 1) + 1) % 2 ^ SIG_AIN.FILL_LEFT.w ∧
      rdI q y.port SIG_AIN.FLAGS n % 2 = 1)) ∧
  (∀ (y : Side) (n : Nat) (s : State), (ainAt s.pk y n).sync = false →
    ActsNot (.syncReset y n) s) ∧
  (∀ (y : Side) (n : Nat) (v : Int) (s : State), running s.pk y.port = true →
    n < 16 →
    rdI s.pk y.port SIG_AIN.EN n = 1 →
    (s.pk.ports.get y).ain.length = 16 →
    0 < (ainAt s.pk y n).skip →
    Completes (.firstStageSample y n v) s (fun t => LedgerKept s t ∧
      t.pk = setAin y n { ainAt s.pk y n with skip := (ainAt s.pk y n).skip - 1 } s.pk)) ∧
  (∀ (y : Side) (n : Nat) (v : Int) (s : State), running s.pk y.port = true →
    n < 16 →
    rdI s.pk y.port SIG_AIN.EN n = 1 →
    (s.pk.ports.get y).ain.length = 16 →
    (ainAt s.pk y n).skip = 0 →
    (ainAt s.pk y n).sync = false →
    ActsWithin (OnlyPort y) (.firstStageSample y n v) s (fun q => (ainAt q y n).count = (ainAt s.pk y n).count + 1 ∧
      (ainAt q y n).hist = (v :: (ainAt s.pk y n).hist).take (fillLength s.pk y.port n))) ∧
  (∀ (y : Side) (n : Nat) (at' : Nat) (s : State), running s.pk y.port = true →
    n < 16 →
    rdI s.pk y.port SIG_AIN.EN n = 1 →
    (ainAt s.pk y n).count ≠ 0 →
    rdI s.pk y.port SIG_AIN.D n ≠ 0 →
    (ainAt s.pk y n).count % rdI s.pk y.port SIG_AIN.D n = 0 →
    rdI s.pk y.port SIG_AIN.L n ≠ 0 →
    rdI s.pk y.port I_AIN.DONE n ≠ (ainAt s.pk y n).count →
    Completes (.analogOutput y n at') s (fun t => LedgerKept s t ∧
      t.pk = { s.pk with regs := t.pk.regs, log := t.pk.log, lanes := t.pk.lanes, stamped := t.pk.stamped } ∧
      rdI t.pk y.port SIG_AIN.LAST n = ofSigned 32 (ainOutput (rdI s.pk y.port SIG_AIN.S n) (rdI s.pk y.port SIG_AIN.L n) (ainAt s.pk y n).hist) ∧
      rdI t.pk y.port I_AIN.AT n = at' % 2 ^ 64)) ∧
  (∀ (y : Side) (k : Nat) (s : State), running s.pk y.port = true →
    k < 64 →
    bit (rdI s.pk y.port SIG_WEIR.CFG k) 0 = true →
    rdI s.pk y.port SIG_WEIR.STATE k = 0 →
    rdI s.pk y.port I_WEIR.RUN k = 1 →
    rdI s.pk y.port I_WEIR.SINCE k + rdI s.pk y.port SIG_WEIR.MIN_DUR k * 1000000 ≤ rdI s.pk y.port I_AIN.AT (rdI s.pk y.port SIG_WEIR.CHANNEL k) →
    ActsWithin OnlyRegsAndLog (.weirFire y k) s (fun q => rdI q y.port SIG_WEIR.STATE k = 1 ∧ rd q y.port SIG_EVENT.WEIR = 1 ∧
      rdI q y.port SIG_WEIR.FIRES k = (rdI s.pk y.port SIG_WEIR.FIRES k + 1) % 2 ^ SIG_WEIR.FIRES.w))

/-- R291, R294 to R296, R298, R305: inputs, framers, feedback, load and test. SURR_CHANGED may be raised at the steward when a load's class
changes. -/
def Obligations.PinsAndFramersAreLatched : Prop :=
  (∀ (y : Side) (n : Nat) (high : Bool) (heldUs : Nat) (s : State), running s.pk y.port = true →
    n < 24 →
    rdI s.pk y.port SIG_DIO.FUNC n = 0 →
    rdI s.pk y.port SIG_DIO.DEBOUNCE_US n ≤ heldUs →
    ActsOn (.dioInputChange y n high heldUs) s [(y.port, I_DIO.LEVEL)] (fun q => rdI q y.port I_DIO.LEVEL n = b2n high)) ∧
  (∀ (y : Side) (n : Nat) (high : Bool) (heldUs : Nat) (s : State), heldUs < rdI s.pk y.port SIG_DIO.DEBOUNCE_US n →
    ActsNot (.dioInputChange y n high heldUs) s) ∧
  (∀ (y : Side) (n : Nat) (stamp : Nat) (s : State), running s.pk y.port = true →
    n < 24 →
    rdI s.pk y.port SIG_DIO.FUNC n = 1 →
    (rdI s.pk y.port I_DIO.EDGES n = 0 ∨ rdI s.pk y.port I_DIO.EDGE_AT n + rdI s.pk y.port SIG_DIO.DEBOUNCE_US n * 1000 ≤ stamp) →
    Completes (.pulseEdge y n stamp) s (fun t => LedgerKept s t ∧
      t.pk = { s.pk with regs := t.pk.regs, ports := s.pk.ports.set y { s.pk.ports.get y with edges := (s.pk.ports.get y).edges ++ [(n, stamp)] } } ∧
      FieldsKept [(y.port, I_DIO.EDGES), (y.port, I_DIO.EDGE_AT), (y.port, SIG_DIO.PERIOD_NS)] s.pk t.pk ∧
        rdI t.pk y.port I_DIO.EDGE_AT n = stamp % 2 ^ 64 ∧
      (rdI s.pk y.port I_DIO.EDGES n ≠ 0 →
        rdI t.pk y.port SIG_DIO.PERIOD_NS n = (stamp - rdI s.pk y.port I_DIO.EDGE_AT n) % 2 ^ SIG_DIO.PERIOD_NS.w))) ∧
  (∀ (y : Side) (f : Nat) (s : State), running s.pk y.port = true →
    f < 128 →
    (feedbackNow s.pk y.port f).2 = true →
    ActsOn (.feedbackStale y f) s [(y.port, SIG_FB.STALE)] (fun q => rdI q y.port SIG_FB.STALE f = 1)) ∧
  (∀ (y : Side) (f : Nat) (s : State), (feedbackNow s.pk y.port f).2 = false →
    ActsNot (.feedbackStale y f) s) ∧
  (∀ (y : Side) (u : Nat) (arrival : Nat) (chars : List Nat) (s : State), running s.pk y.port = true →
    u < 8 →
    rdI s.pk y.port SIG_UART.MODE u = 1 →
    (frameChars chars none).1 = 0 →
    (frameChars chars none).2.filter (sentenceGood (rdI s.pk y.port SIG_UART.CHK_REQ u != 0)) = (frameChars chars none).2 →
    Completes (.sentenceReceive y u arrival chars) s (fun t => LedgerKept s t ∧
      t.pk = { s.pk with regs := t.pk.regs, lanes := t.pk.lanes, stamped := t.pk.stamped } ∧
      rdI t.pk y.port SIG_UART.FRAMES u = (rdI s.pk y.port SIG_UART.FRAMES u + (frameChars chars none).2.length) % 2 ^ SIG_UART.FRAMES.w)) ∧
  (∀ (y : Side) (u : Nat) (arrival : Nat) (chars : List Nat) (s : State), running s.pk y.port = true →
    u < 8 →
    rdI s.pk y.port SIG_UART.MODE u = 1 →
    (frameChars chars none).2 = [] →
    0 < (frameChars chars none).1 →
    ActsAndLogs (.sentenceReceive y u arrival chars) s y.port [(y.port, SIG_UART.FRAME_ERR), (y.port, SIG_EVENT.FRAME_ERR), (y.port, SIG_UART.FRAMES),
      (y.port, I_DIE.SEQ)]
      (fun q => rd q y.port SIG_EVENT.FRAME_ERR = 1 ∧ rdI q y.port SIG_UART.FRAME_ERR u =
      (rdI s.pk y.port SIG_UART.FRAME_ERR u + (frameChars chars none).1) % 2 ^ SIG_UART.FRAME_ERR.w)) ∧
  (∀ (y : Side) (o : Nat) (na : Nat) (s : State), running s.pk y.port = true →
    o < 16 →
    periodDue s.pk y.port I_OUT.MEASURE_DUE o 10000000 = true →
    65535 < rdI s.pk y.port SIG_OUT.CODE o * 25 →
    na * 1000000 * 65535 < rdI s.pk y.port SIG_OUT.CODE o * 2500000000 →
    rdI s.pk y.port I_OUT.OPEN_RUN o = 9 →
    rdI s.pk y.port SIG_OUT.LOAD o ≠ 2 →
    ActsWithin OnlyRegsAndLog (.dacLoadMeasure y o na) s (fun q => rdI q y.port SIG_OUT.LOAD o = 2 ∧ rd q y.port SIG_EVENT.DAC_OPEN = 1)) ∧
  (∀ (y : Side) (o : Nat) (v : Nat) (s : State), running s.pk y.port = true →
    o < 16 →
    v < 65536 →
    rdI s.pk y.port SIG_OUT.USER o = 2 →
    ActsOn (.sigTest y (o + 64 + v * 65536)) s [(y.port, SIG_TEST.OUTPUT), (y.port, SIG_TEST.KIND), (y.port, SIG_TEST.EN), (y.port, SIG_TEST.VALUE),
      (y.port, SIG_OUT.CODE)]
      (fun q => rdI q y.port SIG_OUT.CODE o = v ∧ rd q y.port SIG_TEST.EN = 1 ∧ rd q y.port SIG_TEST.VALUE = v)) ∧
  (∀ (y : Side) (o : Nat) (v : Nat) (s : State), running s.pk y.port = true →
    o < 16 →
    rdI s.pk y.port SIG_OUT.USER o ≠ 2 →
    ActsAndLogs (.sigTest y (o + 64 + v * 65536)) s y.port [(y.port, SIG_EVENT.TEST_REFUSED),
      (y.port, I_DIE.SEQ)] (fun q => rd q y.port SIG_EVENT.TEST_REFUSED = 1))

/-- R311, R314 to R318, R320: the transmit side. FD is not suspended in these cases (R329 is what a suspension does to the head). -/
def Obligations.CanPortsSendCancelAndCountErrors : Prop :=
  (∀ (x : Side) (y : Side) (k : Nat) (tag : Nat) (s : State), portHears s.pk x y = true →
    rd s.pk y.port HG_OWNER.OWNER = x.num + 1 →
    k < 4 →
    (s.pk.ports.get y).fifo.length = 4 →
    (canFifo s.pk y k).length < 32 →
    rd s.pk y.port CAN_DIE_STATUS.FD_SUSPENDED = 0 →
    Completes (.pushFrame x y k tag) s (fun t => LedgerKept s t ∧
      t.pk = { s.pk with regs := t.pk.regs, ports := s.pk.ports.set y { s.pk.ports.get y with fifo := (t.pk.ports.get y).fifo } } ∧
      FieldsKept [(y.port, CAN_STATUS.TX_DEPTH)] s.pk t.pk ∧
      canFifo t.pk y k = canFifo s.pk y k ++ [⟨x.num, tag, stagedFrame s.pk y.port k, rdI s.pk y.port CAN_RAW.DEMOTE k != 0, 0, 0, false⟩])) ∧
  (∀ (x : Side) (y : Side) (k : Nat) (tag : Nat) (s : State), portHears s.pk x y = true →
    rd s.pk y.port HG_OWNER.OWNER = x.num + 1 →
    k < 4 →
    32 ≤ (canFifo s.pk y k).length →
    Completes (.pushFrame x y k tag) s (fun t => LedgerKept s t ∧ t.pk = { s.pk with ports := s.pk.ports.set y { s.pk.ports.get y with
      done := (s.pk.ports.get y).done ++ [⟨k, tag, x.num, 2, false, 0, 0⟩] } })) ∧
  (∀ (x : Side) (y : Side) (k : Nat) (tag : Nat) (onBus : Bool) (s : State), portHears s.pk x y = true →
    rd s.pk y.port HG_OWNER.OWNER ≠ x.num + 1 →
    k < 4 →
    ActsOn (.pushFrame x y k tag) s [(y.port, HG_STALE_WR.COUNT)] (fun q => rd q y.port HG_STALE_WR.COUNT = (rd s.pk y.port HG_STALE_WR.COUNT + 1) % 2 ^ HG_STALE_WR.COUNT.w) ∧
      ActsOn (.cancel x y k tag onBus) s [(y.port, HG_STALE_WR.COUNT)] (fun q => rd q y.port HG_STALE_WR.COUNT = (rd s.pk y.port HG_STALE_WR.COUNT + 1) % 2 ^ HG_STALE_WR.COUNT.w)) ∧
  (∀ (x : Side) (y : Side) (k : Nat) (tag : Nat) (e : CanEntry) (s : State), portHears s.pk x y = true →
    rd s.pk y.port HG_OWNER.OWNER = x.num + 1 →
    k < 4 →
    (s.pk.ports.get y).fifo.length = 4 →
    rd s.pk y.port CAN_DIE_STATUS.FD_SUSPENDED = 0 →
    (canFifo s.pk y k).find? (fun v => v.writer != 2 && v.tag == tag) = some e →
    Completes (.cancel x y k tag false) s (fun t => LedgerKept s t ∧
      t.pk = { s.pk with regs := t.pk.regs, ports := s.pk.ports.set y { s.pk.ports.get y with
      fifo := (t.pk.ports.get y).fifo, done := (s.pk.ports.get y).done ++ [⟨k, e.tag, e.writer, 1, false, e.attempts, 0⟩] } } ∧
      canFifo t.pk y k = removeFirst (fun v => v.writer != 2 && v.tag == tag) (canFifo s.pk y k))) ∧
  (∀ (y : Side) (k : Nat) (sof : Nat) (tdcv : Option Nat) (e : CanEntry) (r : List CanEntry) (s : State), canSends s.pk y k = true →
    (s.pk.ports.get y).fifo.length = 4 →
    canFifo s.pk y k = e :: r →
    rd s.pk y.port CAN_DIE_STATUS.FD_SUSPENDED = 0 →
    ActsWithin (OnlyPort y) (.canFrameSent y k sof tdcv) s (fun q => canFifo q y k = r ∧
      rdI q y.port CAN_CNT.TX_SENT k = (rdI s.pk y.port CAN_CNT.TX_SENT k + 1) % 2 ^ CAN_CNT.TX_SENT.w ∧ rdI q y.port CAN_STATUS.LONELY k = 0 ∧
      (e.writer ≠ 2 → (q.ports.get y).done = (s.pk.ports.get y).done ++ [⟨k, e.tag, e.writer, 0, e.cancel, e.attempts + 1, canTime s.pk y sof⟩]))) ∧
  (∀ (y : Side) (k : Nat) (e : CanEntry) (r : List CanEntry) (s : State), canSends s.pk y k = true →
    (s.pk.ports.get y).fifo.length = 4 →
    canFifo s.pk y k = e :: r →
    e.cancel = false →
    (rdI s.pk y.port CAN_CFG.REQUEUE_LOSSES k = 0 ∨ e.losses + 1 < rdI s.pk y.port CAN_CFG.REQUEUE_LOSSES k) →
    ActsWithin (OnlyPort y) (.canArbitrationLost y k) s (fun q => canFifo q y k = { e with attempts := e.attempts + 1, losses := e.losses + 1 } :: r)) ∧
  (∀ (y : Side) (k : Nat) (s : State), canSends s.pk y k = false →
    ActsNot (.canArbitrationLost y k) s) ∧
  (∀ (y : Side) (k : Nat) (s : State), k < 4 →
    running s.pk y.port = true →
    rdI s.pk y.port CAN_STATUS.STATE k = 2 →
    ActsAndLogs (.busOn y k) s y.port [(y.port, CAN_STATUS.STATE), (y.port, I_CAN.TEC), (y.port, CAN_STATUS.TEC), (y.port, CAN_STATUS.REC),
      (y.port, CAN_EVENT.BUS_ON), (y.port, I_DIE.SEQ)]
      (fun q => rdI q y.port CAN_STATUS.STATE k = 0 ∧ rdI q y.port CAN_STATUS.TEC k = 0 ∧ rdI q y.port CAN_STATUS.REC k = 0 ∧
        rd q y.port CAN_EVENT.BUS_ON = 1)) ∧
  (∀ (y : Side) (m : Nat) (k : Nat) (s : State), running s.pk y.port = true →
    m < 64 →
    rdI s.pk y.port CAN_TXM.PORT m = k →
    k < 4 →
    rdI s.pk y.port CAN_CFG.MODE k = 1 →
    rdI s.pk y.port I_CAN.DEAD k = 0 →
    msgDue s.pk y.port m = true →
    (s.pk.ports.get y).fifo.length = 4 →
    (canFifo s.pk y k).all (fun e => !(e.writer == 2 && e.tag == m)) = true →
    (canFifo s.pk y k).length < 32 →
    rd s.pk y.port CAN_DIE_STATUS.FD_SUSPENDED = 0 →
    ActsWithin (OnlyPort y) (.canMsgCompose y m) s (fun q => canFifo q y k = canFifo s.pk y k ++ [⟨2, m, (composeFrame y.port m s.pk).2, bit (rdI s.pk y.port CAN_TXM.FLAGS m) 3, 0, 0, false⟩]))

/-- R319 to R323, R326, R328: reception and what the die watches on the bus. -/
def Obligations.CanPortsReceiveAndWatchTheBus : Prop :=
  (∀ (y : Side) (k : Nat) (sof : Nat) (frame : CanFrame) (i : Nat) (s : State), running s.pk y.port = true →
    k < 4 →
    (rdI s.pk y.port CAN_CFG.MODE k = 1 ∨ rdI s.pk y.port CAN_CFG.MODE k = 2) →
    rdI s.pk y.port I_CAN.DEAD k = 0 →
    rdI s.pk y.port CAN_STATUS.STATE k = 0 →
    frame.fdf = false →
    canFilter s.pk y.port k (canKey frame) = some i →
    rdI s.pk y.port CAN_FILT.ACTION i = 1 →
    Completes (.canFrameReceive y k sof frame false) s (fun t => LedgerKept s t ∧
      t.pk = { s.pk with regs := t.pk.regs, log := t.pk.log, lanes := t.pk.lanes, stamped := t.pk.stamped, ports := s.pk.ports.set y (t.pk.ports.get y) } ∧
      rdI t.pk y.port CAN_CNT.RX_OK k = (rdI s.pk y.port CAN_CNT.RX_OK k + 1) % 2 ^ CAN_CNT.RX_OK.w ∧
      rdI t.pk y.port CAN_FILT.HITS i = (rdI s.pk y.port CAN_FILT.HITS i + 1) % 2 ^ CAN_FILT.HITS.w ∧ rdI t.pk y.port CAN_STATUS.LONELY k = 0)) ∧
  (∀ (y : Side) (k : Nat) (sof : Nat) (frame : CanFrame) (full : Bool) (s : State), running s.pk y.port = false ∨ rdI s.pk y.port CAN_CFG.MODE k = 0 ∨ rdI s.pk y.port CAN_STATUS.STATE k = 2 →
    ActsNot (.canFrameReceive y k sof frame full) s) ∧
  (∀ (y : Side) (k : Nat) (ack : Bool) (dominant : Bool) (fdBits : Bool) (tdcv : Option Nat) (s : State), k < 4 →
    canSends s.pk y k = true →
    rdI s.pk y.port CAN_STATUS.STATE k = 0 →
    rdI s.pk y.port I_CAN.TEC k < 128 →
    ActsWithin (OnlyPort y) (.canError y k true ack dominant fdBits tdcv) s (fun q => rdI q y.port I_CAN.TEC k = rdI s.pk y.port I_CAN.TEC k + 8 ∧
      rdI q y.port CAN_CNT.ERR_FRAMES k = (rdI s.pk y.port CAN_CNT.ERR_FRAMES k + 1) % 2 ^ CAN_CNT.ERR_FRAMES.w)) ∧
  (∀ (y : Side) (count : Nat) (s : State), running s.pk y.port = true →
    ((s.pk.ports.get y).latches.head?.map (fun l => l.2)) ≠ some (now s.pk y.port) →
    Completes (.canPairLatch y count) s (fun t => LedgerKept s t ∧
      t.pk = { s.pk with regs := t.pk.regs, ports := s.pk.ports.set y { s.pk.ports.get y with
      latches := ((count % 2 ^ 32, now s.pk y.port) :: (s.pk.ports.get y).latches).take 16 } } ∧
      FieldsKept [(y.port, CAN_PAIR_CNT.COUNT), (y.port, CAN_PAIR_TIME.TIME)] s.pk t.pk ∧
      rd t.pk y.port CAN_PAIR_CNT.COUNT = count % 2 ^ 32 ∧ rd t.pk y.port CAN_PAIR_TIME.TIME = now s.pk y.port % 2 ^ 64)) ∧
  (∀ (y : Side) (k : Nat) (s : State), k < 4 →
    running s.pk y.port = true →
    rdI s.pk y.port I_CAN.TAKEOVER k = 1 →
    (s.pk.ports.get y).fifo.length = 4 →
    ActsWithin (OnlyPort y) (.canSpareTakeover y k) s (fun q => rd q y.port CAN_DIE_STATUS.SPARE_USED = 1 ∧ rd q y.port CAN_DIE_STATUS.SPARE_FOR = k ∧
      canFifo q y k = [] ∧ rdI q y.port I_CAN.TAKEOVER k = 0 ∧
      (q.ports.get y).done = (s.pk.ports.get y).done ++ (canFifo s.pk y k).map (fun e => ⟨k, e.tag, e.writer, 3, e.cancel, e.attempts, 0⟩))) ∧
  (∀ (y : Side) (k : Nat) (s : State), rdI s.pk y.port I_CAN.TAKEOVER k = 0 →
    ActsNot (.canSpareTakeover y k) s) ∧
  (∀ (y : Side) (s : State), running s.pk y.port = true →
    periodDue s.pk y.port I_PORT.CENSUS_DUE 0 10000000000 = true →
    Completes (.canCensusWindow y) s (fun t => LedgerKept s t ∧
      t.pk = { s.pk with regs := t.pk.regs, log := t.pk.log, ports := s.pk.ports.set y (t.pk.ports.get y) } ∧
      ∀ k ∈ List.range 4, rdI t.pk y.port CAN_CENSUS.IDS k = ((s.pk.ports.get y).seen.getD k []).length % 2 ^ CAN_CENSUS.IDS.w ∧
      rdI t.pk y.port CAN_CENSUS.ERR k = rdI s.pk y.port I_CEN.ERR k % 2 ^ CAN_CENSUS.ERR.w ∧ rdI t.pk y.port I_CEN.ERR k = 0))

/-- R58, R162, R182, R190, R191, R193, R197, R206: the assembly stage and the solver. The place of a deadline is Config.deadlinePlace's,
free, but on the internal oscillator, where the command gives it (log entry on the deadline's place). -/
def Obligations.AssemblyAndSolverRunInTheirLane : Prop :=
  (∀ (x : Side) (s : State), running s.pk x.helm = true →
    2 ≤ laneState s.pk x →
    rd s.pk x.helm I_LANE.LAYOUT_APPLIED = 1 →
    modeOf s.pk x < 2 →
    ActsOn (.assemblyRun x) s [(x.helm, ASM_STATUS.RESULT)] (fun q => rd q x.helm ASM_STATUS.RESULT = 1)) ∧
  (∀ (x : Side) (s : State), running s.pk x.helm = true →
    2 ≤ laneState s.pk x →
    rd s.pk x.helm I_LANE.LAYOUT_APPLIED = 1 →
    2 ≤ modeOf s.pk x →
    ActsWithin (OnlyLane x) (.assemblyRun x) s (fun q => rd q x.helm ASM_RUNS.V = (rd s.pk x.helm ASM_RUNS.V + 1) % 2 ^ 32)) ∧
  (∀ (x : Side) (room : Bool) (pass : Bool) (s : State), running s.pk x.helm = false ∨ laneState s.pk x < 2 ∨ rd s.pk x.helm I_LANE.LAYOUT_APPLIED = 0 →
    ActsNot (.assemblyRun x) s ∧ ActsNot (.solverRun x room pass) s) ∧
  (∀ (x : Side) (room : Bool) (pass : Bool) (s : State), solverOn s.pk x = true →
    modeOf s.pk x < 2 →
    (room = false ∨ pass = true) →
    ActsWithin (OnlyLane x) (.solverRun x room pass) s (fun q => (q.lanes.get x).sol = { (s.pk.lanes.get x).sol with run := none } ∧
      FieldsKept [(x.helm, SOL_FURROW_STATE.BIST_NEXT)] s.pk q ∧
        rd q x.helm SOL_FURROW_STATE.BIST_NEXT = (rd s.pk x.helm SOL_FURROW_STATE.BIST_NEXT + 1) % 9)) ∧
  (∀ (x : Side) (e : Nat) (s : State), solverOn s.pk x = true →
    modeOf s.pk x < 2 →
    rd s.pk x.helm SOL_FURROW_STATE.BIST_NEXT = e →
    e < 9 →
    resourceRetired s.pk x.helm 2 e = false →
    Completes (.solverRun x true false) s (fun t => LedgerKept s t ∧
      t.pk = { s.pk with regs := t.pk.regs, log := s.pk.log.set x.helm (t.pk.log.get x.helm), faults := t.pk.faults, retiring := t.pk.retiring, lanes := s.pk.lanes.set x (t.pk.lanes.get x) } ∧
      rdI t.pk x.helm SOL_ENG.BIST_FAIL e = (rdI s.pk x.helm SOL_ENG.BIST_FAIL e + 1) % 2 ^ SOL_ENG.BIST_FAIL.w ∧
      rd t.pk x.helm SOL_FURROW_STATE.BIST_NEXT = (e + 1) % 9 ∧ t.pk.faults = s.pk.faults ++ [⟨x.helm.num, 2, e, rd s.pk .sw I_PKG.OPERATING_MS⟩])) ∧
  (∀ (x : Side) (pass : Bool) (s : State), solverOn s.pk x = true →
    2 ≤ modeOf s.pk x →
    ActsWithin (OnlyLane x) (.solverRun x false pass) s (fun q => ((q.lanes.get x).sol.run).isSome = true ∧
      (rd s.pk x.helm ASM_STATUS.RESULT ≠ 0 → ((q.lanes.get x).sol.run).map (fun r => (r.stale, r.status)) = some (true, 3)))) ∧
  (∀ (x : Side) (k : Nat) (retry : Bool) (ops : Nat) (phaseU : Bool) (r : SolRun) (s : State), (s.pk.lanes.get x).sol.run = some r →
    r.stale = false →
    ActsWithin (OnlyLane x) (.solverDeadline x ⟨k, retry, ops⟩ phaseU) s (fun q => ((q.lanes.get x).sol.run).map (fun u => (u.cut, u.start, u.hits)) =
      some (some (deadlinePlace s.pk x r ⟨k, retry, if phaseU then none else some ops⟩), r.start, r.hits) ∧
      q.regs = s.pk.regs)) ∧
  (∀ (x : Side) (k : Nat) (retry : Bool) (ops : Nat) (phaseU : Bool) (s : State), (s.pk.lanes.get x).sol.run = none →
    ActsNot (.solverDeadline x ⟨k, retry, ops⟩ phaseU) s) ∧
  (∀ (x : Side) (e : Nat) (k : Nat) (retry : Bool) (ops : Nat) (s : State), running s.pk x.helm = true →
    e < 9 →
    resourceRetired s.pk x.helm 2 e = false →
    Completes (.furrowParityError x e ⟨k, retry, ops⟩) s (fun t => LedgerKept s t ∧
      t.pk = { s.pk with regs := t.pk.regs, log := s.pk.log.set x.helm (t.pk.log.get x.helm), faults := t.pk.faults, retiring := t.pk.retiring, lanes := s.pk.lanes.set x (t.pk.lanes.get x) } ∧
      rdI t.pk x.helm SOL_ENG.PARITY e = (rdI s.pk x.helm SOL_ENG.PARITY e + 1) % 2 ^ SOL_ENG.PARITY.w ∧
      t.pk.faults = s.pk.faults ++ [⟨x.helm.num, 2, e, rd s.pk .sw I_PKG.OPERATING_MS⟩])) ∧
  (∀ (x : Side) (on : Bool) (s : State), running s.pk x.helm = true →
    ActsOn (.solTraceFreeze x on) s [(x.helm, SOL_TRACE_CTRL.FREEZE)] (fun q => rd q x.helm SOL_TRACE_CTRL.FREEZE = b2n on))

/-- R29, R31, R58, R191, R198, R211, R218, R225, R232, R236 to R238, R353: the loop slots' events and the ticks. Where the tally moves to at
an edge that a servo step has brought near is the model's choice (nextEdge; log entry on device time). -/
def Obligations.TicksAndLoopSlotEventsActByTheirRules : Prop :=
  (∀ (x : Side) (i : Nat) (s : State), laneComputes s.pk x = true →
    slotDefined s.pk x.helm i = true →
    i < 256 →
    (s.pk.lanes.get x).slots.length = 256 →
    1 < (slotCfg s.pk x.helm i).nreg →
    (slotRec s.pk x i).cand ≠ (slotRec s.pk x i).region →
    max 1 (slotCfg s.pk x.helm i).dwell ≤ (slotRec s.pk x i).dwell →
    (slotRec s.pk x i).lost = false →
    ActsWithin (OnlySlot x i [LOOP_SWAPS.V, LOOP_SLOT.SWAPS, LOOP_CLAMP_SWAPS.V, LOOP_BFP_RAISES.V, LOOP_STATE_SAT.V, LOOP_OUT_SAT.V, LOOP_EVENT.REGION_SWAP,
      LOOP_EVENT.CLAMP_ON_SWAP, LOOP_EVENT.BFP_ENTER, LOOP_EVENT.BFP_EXIT, LOOP_EVENT.STATE_SAT, LOOP_EVENT.FB_STALE, LOOP_EVENT.PLAUS_FAULT, I_DIE.SEQ])
      (.regionSwap x i) s (fun q => (slotRec q x i).region = (slotRec s.pk x i).cand ∧
        rd q x.helm LOOP_SWAPS.V = (rd s.pk x.helm LOOP_SWAPS.V + 1) % 2 ^ LOOP_SWAPS.V.w ∧
      rd q x.helm LOOP_EVENT.REGION_SWAP = 1)) ∧
  (∀ (x : Side) (i : Nat) (s : State), laneComputes s.pk x = true →
    slotDefined s.pk x.helm i = true →
    i < 256 →
    (s.pk.lanes.get x).slots.length = 256 →
    0 < (slotRec s.pk x i).bx →
    max 1 (slotCfg s.pk x.helm i).bfpDwell ≤ (slotRec s.pk x i).bfpCnt →
    ActsWithin (OnlySlot x i [LOOP_EVENT.BFP_EXIT, I_DIE.SEQ]) (.bfpExit x i) s (fun q => (slotRec q x i).bx = (slotRec s.pk x i).bx - 1 ∧
      (slotRec q x i).integ = satCode (2 * (slotRec s.pk x i).integ) ∧ (slotRec q x i).b1s1 = satCode (2 * (slotRec s.pk x i).b1s1) ∧
      (slotRec q x i).b1s2 = satCode (2 * (slotRec s.pk x i).b1s2) ∧ (slotRec q x i).b2s1 = satCode (2 * (slotRec s.pk x i).b2s1) ∧
      (slotRec q x i).b2s2 = satCode (2 * (slotRec s.pk x i).b2s2) ∧ (slotRec q x i).dState = satCode (2 * (slotRec s.pk x i).dState))) ∧
  (∀ (x : Side) (i : Nat) (s : State), laneComputes s.pk x = true →
    slotDefined s.pk x.helm i = true →
    i < 256 →
    (s.pk.lanes.get x).slots.length = 256 →
    (slotRec s.pk x i).rcHold = false →
    (slotCfg s.pk x.helm i).rcEn = true →
    rcOut s.pk x i (tickEdge s.pk x) = true →
    ActsWithin (OnlySlot x i [LOOP_EVENT.RC_HOLD, I_DIE.SEQ]) (.rcHold x i) s (fun q => slotRec q x i = { slotRec s.pk x i with rcHold := true } ∧
      rd q x.helm LOOP_EVENT.RC_HOLD = 1)) ∧
  (∀ (x : Side) (i : Nat) (s : State), laneComputes s.pk x = true →
    slotDefined s.pk x.helm i = true →
    i < 256 →
    (s.pk.lanes.get x).slots.length = 256 →
    (slotCfg s.pk x.helm i).plausEn = true →
    max 1 (slotCfg s.pk x.helm i).plTime ≤ (slotRec s.pk x i).plCnt →
    (slotRec s.pk x i).plaus = false →
    ActsWithin (OnlySlot x i [LOOP_EVENT.PLAUS_FAULT, I_DIE.SEQ]) (.plausFault x i) s (fun q => slotRec q x i = { slotRec s.pk x i with plaus := true } ∧ rd q x.helm LOOP_EVENT.PLAUS_FAULT = 1)) ∧
  (∀ (x : Side) (i : Nat) (s : State), running s.pk x.helm = true →
    slotDefined s.pk x.helm i = true →
    i < 256 →
    (s.pk.lanes.get x).slots.length = 256 →
    ActsWithin (OnlySlot x i [LOOP_EVENT.PLAUS_CLEARED, I_DIE.SEQ]) (.plausAck x i) s (fun q => slotRec q x i = { slotRec s.pk x i with plaus := false, monReset := true })) ∧
  (∀ (x : Side) (i : Nat) (s : State), slotDefined s.pk x.helm i = false →
    ActsNot (.regionSwap x i) s ∧ ActsNot (.bfpExit x i) s ∧ ActsNot (.rcHold x i) s ∧ ActsNot (.plausFault x i) s ∧ ActsNot (.plausAck x i) s) ∧
  (∀ (x : Side) (on : Bool) (s : State), running s.pk x.helm = true →
    ActsOn (.loopTraceFreeze x on) s [(x.helm, LOOP_TRACE_CTRL.FREEZE)] (fun q => rd q x.helm LOOP_TRACE_CTRL.FREEZE = b2n on)) ∧
  (∀ (failA : Bool) (failB : Bool) (lateA : Bool) (lateB : Bool) (s : State), 
    Completes (.loopTick ⟨failA, lateA⟩ ⟨failB, lateB⟩) s (fun t => LedgerKept s t ∧ t.pk.settings = s.pk.settings ∧ t.pk.layouts = s.pk.layouts ∧
      t.pk.txn = s.pk.txn ∧
      t.pk.intake = s.pk.intake ∧ t.pk.xfers = s.pk.xfers ∧ t.pk.banks = s.pk.banks ∧
      rd t.pk .sw I_PKG.OPERATING_MS = (rd s.pk .sw I_PKG.OPERATING_MS + 1) % 2 ^ 64 ∧
      (∀ d ∈ allDies, clocked s.pk d = true → now t.pk d = nextEdge (now s.pk d) % 2 ^ 64) ∧
      ∀ x ∈ bothSides, rd t.pk x.helm LOOP_TICKS.V = (rd s.pk x.helm LOOP_TICKS.V + rd t.pk x.helm I_LANE.TICK_DONE) % 2 ^ LOOP_TICKS.V.w)) ∧
  (∀ (x : Side) (r : SolRun) (s : State), laneUp s.pk x = true →
    2 ≤ modeOf s.pk x →
    rd s.pk x.helm I_TIME.RELEASE_DUE = 1 →
    (s.pk.lanes.get x).sol.run = some r →
    r.status < 5 →
    Completes .releaseTick s (fun t => LedgerKept s t ∧
      t.pk = { s.pk with regs := t.pk.regs, log := t.pk.log, lanes := t.pk.lanes, tel := t.pk.tel } ∧
      (t.pk.lanes.get x).sol.run = none ∧ (t.pk.lanes.get x).sol.warm = r.iterate ∧ (t.pk.lanes.get x).sol.result = r.result ∧
      rd t.pk x.helm SOL_STATUS.RESULT = r.status ∧ rd t.pk x.helm SOL_RUNS.V = (rd s.pk x.helm SOL_RUNS.V + 1) % 2 ^ SOL_RUNS.V.w ∧
      rd t.pk x.helm I_TIME.RELEASE_DUE = 0)) ∧
  (∀ (s : State), rd s.pk .ha I_TIME.RELEASE_DUE = 0 →
    rd s.pk .hb I_TIME.RELEASE_DUE = 0 →
    ActsNot .releaseTick s)

/-- R140, R144 to R149, R155, R397, R408: the commands of the flumes and their effect in a lane. That a row is applied at once in a lane
that stands at its boundary, and else waits in its flume, is the model's choice (log entry on command rows). -/
def Obligations.CommandsAreAppliedOrAnsweredInEveryLane : Prop :=
  (∀ (x : Side) (c : Cmd) (s : State), rowAdmits s.pk x c = true →
    (s.pk.lanes.get x).seen.contains (c.slot, c.counter) = false →
    testCommand s.pk x (now s.pk x.helm) 1 c = .accepted →
    Completes (.modeCmd c) s (fun t => LedgerKept s t ∧
      t.pk = { s.pk with regs := t.pk.regs, log := t.pk.log, lanes := t.pk.lanes, tel := t.pk.tel } ∧
      DiesKept [.ga, .gb, .ld] s.pk t.pk ∧ modeOf t.pk x = vget c.payload 0 ∧ rd t.pk x.helm I_MODE.OUT_HELD = 0 ∧
      rd t.pk x.helm SP_STATUS.CMD_SLOT = (if rd s.pk x.helm SP_STATUS.CMD_SLOT = 15 then c.slot % 16 else rd s.pk x.helm SP_STATUS.CMD_SLOT) ∧
      rd t.pk x.helm SP_ACCEPTED.V = (rd s.pk x.helm SP_ACCEPTED.V + 1) % 2 ^ 32)) ∧
  (∀ (x : Side) (c : Cmd) (s : State), rowAdmits s.pk x c = true →
    (s.pk.lanes.get x).seen.contains (c.slot, c.counter) = false →
    wellFormedCmd 2 c.payload = true →
    hasRight s.pk x 2 c = true →
    modeAllows 2 (modeOf s.pk x) = true →
    ActsWithin OnlyFlumes (.targetPos c) s (fun q => modeOf q x = modeOf s.pk x ∧
      if inRange s.pk x (now s.pk x.helm) 2 c.payload = true then rd q x.helm SP_ACCEPTED.V = (rd s.pk x.helm SP_ACCEPTED.V + 1) % 2 ^ 32 ∧
      (q.lanes.get x).ramp = (s.pk.lanes.get x).ramp.toPoint (limL s.pk x) (now s.pk x.helm)
      ((s.pk.lanes.get x).ramp.point (now s.pk x.helm)) (vget (cmdTarget s.pk x (now s.pk x.helm) 2 c.payload) 0) (vget (cmdTarget s.pk x (now s.pk x.helm) 2 c.payload) 1)
      else rd q x.helm SP_REFUSED.V = (rd s.pk x.helm SP_REFUSED.V + 1) % 2 ^ 32 ∧ (q.lanes.get x).ramp = (s.pk.lanes.get x).ramp)) ∧
  (∀ (x : Side) (c : Cmd) (s : State), rowAdmits s.pk x c = true →
    (s.pk.lanes.get x).seen.contains (c.slot, c.counter) = false →
    wellFormedCmd 3 c.payload = true →
    hasRight s.pk x 3 c = true →
    modeAllows 3 (modeOf s.pk x) = true →
    ActsWithin OnlyFlumes (.moveRel c) s (fun q => modeOf q x = modeOf s.pk x ∧
      if inRange s.pk x (now s.pk x.helm) 3 c.payload = true then rd q x.helm SP_ACCEPTED.V = (rd s.pk x.helm SP_ACCEPTED.V + 1) % 2 ^ 32 ∧
      (q.lanes.get x).ramp = (s.pk.lanes.get x).ramp.toPoint (limL s.pk x) (now s.pk x.helm)
      ((s.pk.lanes.get x).ramp.point (now s.pk x.helm)) (vget (cmdTarget s.pk x (now s.pk x.helm) 3 c.payload) 0) (vget (cmdTarget s.pk x (now s.pk x.helm) 3 c.payload) 1)
      else rd q x.helm SP_REFUSED.V = (rd s.pk x.helm SP_REFUSED.V + 1) % 2 ^ 32 ∧ (q.lanes.get x).ramp = (s.pk.lanes.get x).ramp)) ∧
  (∀ (x : Side) (c : Cmd) (s : State), rowAdmits s.pk x c = true →
    (s.pk.lanes.get x).seen.contains (c.slot, c.counter) = false →
    testCommand s.pk x (now s.pk x.helm) 4 c = .accepted →
    ActsWithin OnlyFlumes (.targetHdg c) s (fun q => let r := (s.pk.lanes.get x).ramp
      (q.lanes.get x).ramp = { r with h := r.h.retarget (limH s.pk x) (limH s.pk x).v epsH (now s.pk x.helm) (turnTarget (r.h.eval (now s.pk x.helm)).p (toRad (leNat (c.payload.take 8))) (vget c.payload 8)) } ∧
      modeOf q x = modeOf s.pk x ∧ rd q x.helm SP_ACCEPTED.V = (rd s.pk x.helm SP_ACCEPTED.V + 1) % 2 ^ 32)) ∧
  (∀ (x : Side) (c : Cmd) (s : State), rowAdmits s.pk x c = true →
    (s.pk.lanes.get x).seen.contains (c.slot, c.counter) = false →
    testCommand s.pk x (now s.pk x.helm) 5 c = .accepted →
    ActsWithin OnlyFlumes (.joystick c) s (fun q => let v (k : Nat) := f32to64 (leNat ((c.payload.drop (4 * k)).take 4))
      (q.lanes.get x).joy = [fmul (v 0) (f32 s.pk x.helm SP_JOY_FX.V 0), fmul (v 1) (f32 s.pk x.helm SP_JOY_FY.V 0),
        fmul (v 2) (f32 s.pk x.helm SP_JOY_MZ.V 0)] ∧
      rd q x.helm SP_STATUS.JOY_LOST = 0 ∧ rd q x.helm SP_ACCEPTED.V = (rd s.pk x.helm SP_ACCEPTED.V + 1) % 2 ^ 32)) ∧
  (∀ (x : Side) (c : Cmd) (s : State), rowAdmits s.pk x c = true →
    (s.pk.lanes.get x).seen.contains (c.slot, c.counter) = false →
    testCommand s.pk x (now s.pk x.helm) 6 c = .accepted →
    ActsWithin OnlyFlumes (.thrusterManual c) s (fun q => let b := c.payload
      (q.lanes.get x).thrMan = (s.pk.lanes.get x).thrMan.filter (fun t => t.1 != vget b 0) ++ [(vget b 0, leNat ((b.drop 1).take 4),
        leNat (b.drop 5))] ∧
      modeOf q x = modeOf s.pk x ∧ rd q x.helm SP_ACCEPTED.V = (rd s.pk x.helm SP_ACCEPTED.V + 1) % 2 ^ 32)) ∧
  (∀ (x : Side) (c : Cmd) (s : State), rowAdmits s.pk x c = true →
    (s.pk.lanes.get x).seen.contains (c.slot, c.counter) = false →
    testCommand s.pk x (now s.pk x.helm) 7 c = .accepted →
    modeOf s.pk x ≠ 5 →
    ActsWithin OnlyFlumes (.waypoints c) s (fun q => (q.lanes.get x).waypoints = parseWps s.pk x (vget c.payload 0) (c.payload.drop 1) ∧
      modeOf q x = modeOf s.pk x ∧ rd q x.helm SP_ACCEPTED.V = (rd s.pk x.helm SP_ACCEPTED.V + 1) % 2 ^ 32)) ∧
  (∀ (x : Side) (c : Cmd) (s : State), rowAdmits s.pk x c = true →
    (s.pk.lanes.get x).seen.contains (c.slot, c.counter) = false →
    testCommand s.pk x (now s.pk x.helm) 8 c = .accepted →
    ActsWithin OnlyFlumes (.takeCommand c) s (fun q => rd q x.helm SP_STATUS.CMD_SLOT = c.slot % 16 ∧ rd q x.helm SP_EVENT.CMD_TAKEN = 1 ∧
      modeOf q x = modeOf s.pk x ∧ rd q x.helm SP_ACCEPTED.V = (rd s.pk x.helm SP_ACCEPTED.V + 1) % 2 ^ 32)) ∧
  (∀ (x : Side) (c : Cmd) (s : State), rowAdmits s.pk x c = true →
    (s.pk.lanes.get x).seen.contains (c.slot, c.counter) = false →
    testCommand s.pk x (now s.pk x.helm) 9 c = .accepted →
    ActsWithin OnlyFlumes (.stopCmd c) s (fun q => modeOf q x = (if modeOf s.pk x = 5 then 4 else modeOf s.pk x) ∧
      (let r := (s.pk.lanes.get x).ramp
      let tb : Int := now s.pk x.helm
      (q.lanes.get x).ramp.h = r.h.stopNow (limH s.pk x) epsH tb ∧
      (4 ≤ modeOf s.pk x → (q.lanes.get x).ramp.l = r.l.stopNow (limL s.pk x) epsLC tb ∧
        (q.lanes.get x).ramp.c = r.c.stopNow (limL s.pk x) epsLC tb)) ∧
      rd q x.helm SP_ACCEPTED.V = (rd s.pk x.helm SP_ACCEPTED.V + 1) % 2 ^ 32)) ∧
  (∀ (x : Side) (c : Cmd) (s : State), rowAdmits s.pk x c = true →
    (s.pk.lanes.get x).seen.contains (c.slot, c.counter) = false →
    testCommand s.pk x (now s.pk x.helm) 0x80 c = .accepted →
    c.slot < 8 →
    ActsWithin OnlyFlumes (.telSub c) s (fun q => rdI q x.helm I_TEL.MASK c.slot = vget c.payload 0 % 2 ^ I_TEL.MASK.w ∧
      rdI q x.helm I_TEL.DIV c.slot = vget c.payload 1 % 2 ^ I_TEL.DIV.w ∧
      modeOf q x = modeOf s.pk x ∧ rd q x.helm SP_ACCEPTED.V = (rd s.pk x.helm SP_ACCEPTED.V + 1) % 2 ^ 32)) ∧
  (∀ (x : Side) (k : Nat) (c : Cmd) (i : Instr) (s : State), (k, i) ∈ [(1, Instr.modeCmd c), (2, .targetPos c), (3, .moveRel c), (4, .targetHdg c),
    (5, .joystick c), (6, .thrusterManual c), (7, .waypoints c), (8, .takeCommand c), (9, .stopCmd c), (0x80, .telSub c)] →
    rowAdmits s.pk x c = true →
    (s.pk.lanes.get x).seen.contains (c.slot, c.counter) = false →
    testCommand s.pk x (now s.pk x.helm) k c ≠ .accepted →
    Completes i s (fun t => LedgerKept s t ∧ rd t.pk x.helm SP_REFUSED.V = (rd s.pk x.helm SP_REFUSED.V + 1) % 2 ^ 32 ∧
      rd t.pk x.helm SP_ACCEPTED.V = rd s.pk x.helm SP_ACCEPTED.V ∧ modeOf t.pk x = modeOf s.pk x ∧
        rd t.pk x.helm SP_STATUS.CMD_SLOT = rd s.pk x.helm SP_STATUS.CMD_SLOT ∧
      t.pk.lanes.get x = { s.pk.lanes.get x with
      seen := ((c.slot, c.counter) :: (s.pk.lanes.get x).seen).take 1024, vals := (t.pk.lanes.get x).vals, sol := (t.pk.lanes.get x).sol, thrAngleHeld := (t.pk.lanes.get x).thrAngleHeld })) ∧
  (∀ (c : Cmd) (i : Instr) (s : State), i ∈ [Instr.modeCmd c, .targetPos c, .moveRel c, .targetHdg c, .joystick c, .thrusterManual c, .waypoints c, .takeCommand c, .stopCmd c, .telSub c] →
    laneUp s.pk .a = false →
    laneUp s.pk .b = false →
    ActsNot i s) ∧
  (∀ (x : Side) (k : Nat) (c : Cmd) (i : Instr) (s : State), (k, i) ∈ [(1, Instr.modeCmd c), (2, .targetPos c), (3, .moveRel c), (4, .targetHdg c),
    (5, .joystick c), (6, .thrusterManual c), (7, .waypoints c), (8, .takeCommand c), (9, .stopCmd c), (0x80, .telSub c)] →
    rowAdmits s.pk x c = true →
    (s.pk.lanes.get x).seen.contains (c.slot, c.counter) = true →
    Completes i s (fun t => LedgerKept s t ∧ rd t.pk x.helm SP_REFUSED.V = rd s.pk x.helm SP_REFUSED.V ∧
      rd t.pk x.helm SP_ACCEPTED.V = rd s.pk x.helm SP_ACCEPTED.V ∧
      modeOf t.pk x = modeOf s.pk x ∧ rd t.pk x.helm SP_STATUS.CMD_SLOT = rd s.pk x.helm SP_STATUS.CMD_SLOT ∧
      (isActive s.pk x = true → rowAdmits s.pk x.other c = false → rd t.pk .sw HST_DUP.V = (rd s.pk .sw HST_DUP.V + 1) % 2 ^ 32) ∧
      t.pk.lanes.get x = { s.pk.lanes.get x with vals := (t.pk.lanes.get x).vals, sol := (t.pk.lanes.get x).sol, thrAngleHeld := (t.pk.lanes.get x).thrAngleHeld })) ∧
  (∀ (x : Side) (k : Nat) (c : Cmd) (i : Instr) (s : State), (k, i) ∈ [(1, Instr.modeCmd c), (2, .targetPos c), (3, .moveRel c), (4, .targetHdg c),
    (5, .joystick c), (6, .thrusterManual c), (7, .waypoints c), (8, .takeCommand c), (9, .stopCmd c), (0x80, .telSub c)] →
    laneUp s.pk x = true →
    rowAdmits s.pk x c = false →
    Completes i s (fun t => LedgerKept s t ∧ t.pk.lanes.get x = { s.pk.lanes.get x with flume := (s.pk.lanes.get x).flume ++ [⟨k, c, false⟩] } ∧
      DiesKept [x.helm] s.pk t.pk))

/-- R28, R111, R144, R408, R423, R450: what the boundary, the frame record and the count of demands do. -/
def Obligations.BoundariesFrameRecordsAndDemandCounts : Prop :=
  (∀ (s : State), 
    Completes .vesselCycleBoundary s (fun t => LedgerKeptOutside [(layoutBase, layoutMax)] s t ∧ (rd s.pk .sw I_LYT.MARKER = 0 → LedgerKept s t) ∧
      t.pk.settings = s.pk.settings ∧ t.pk.nhp = s.pk.nhp ∧ t.pk.txn = s.pk.txn ∧ t.pk.layouts = s.pk.layouts ∧
      t.pk.xfers = s.pk.xfers ∧ t.pk.banks = s.pk.banks ∧
      ∀ x : Side, (atBoundary s.pk x = true → laneUp t.pk x = true → rd t.pk x.helm I_LANE.CYCLE_DIGEST_VALID = 0 ∧
        rd t.pk x.helm I_TIME.BOUND_AT = now s.pk x.helm ∧
      rd t.pk x.helm I_TIME.BOUND_DUE = 0 ∧
      ∀ e ∈ (t.pk.lanes.get x).flume, e.cmd.stamp ≤ now s.pk x.helm → e.used = true) ∧
      (t.pk.lanes.get x).flume.map (fun e => (e.code, e.cmd)) = (s.pk.lanes.get x).flume.map (fun e => (e.code, e.cmd)))) ∧
  (∀ (x : Side) (s : State), running s.pk x.helm = true →
    rd s.pk x.helm I_LANE.LAYOUT_APPLIED = 1 →
    rd s.pk x.helm I_CFL.PREV_T ≠ rd s.pk x.helm I_CFL.EMITTED →
    ActsWithin OnlyFlumes (.frameRecordEmit x) s (fun q => rd q x.helm I_CFL.EMITTED = rd s.pk x.helm I_CFL.PREV_T ∧
      (q.lanes.get x).record = frameRecord s.pk x ∧
      (q.lanes.get x).records = (s.pk.lanes.get x).records ++ [frameRecord s.pk x] ∧ q.lanes.get x.other = s.pk.lanes.get x.other ∧
      rd q x.helm I_TEL.FRAMES = (rd s.pk x.helm I_TEL.FRAMES + 1) % 2 ^ I_TEL.FRAMES.w)) ∧
  (∀ (x : Side) (s : State), running s.pk x.helm = false ∨ rd s.pk x.helm I_LANE.LAYOUT_APPLIED = 0 ∨ rd s.pk x.helm I_CFL.PREV_T = rd s.pk x.helm I_CFL.EMITTED →
    ActsNot (.frameRecordEmit x) s) ∧
  (∀ (x : Side) (k : Nat) (s : State), isActive s.pk x = true →
    k < 8 →
    rdI s.pk x.helm I_SP.DEMANDS k ≠ 0 →
    ActsAndLogs (.demandSpill x k) s x.helm [(x.helm, I_SP.DEMANDS), (x.helm, I_DIE.SEQ)] (fun q => rdI q x.helm I_SP.DEMANDS k = 0 ∧
      q.log.get x.helm = (s.pk.log.get x.helm).place (logPath s.pk x.helm) (mkRec s.pk x.helm (eventCode clsSpill 0x14 34) 0 k (rdI s.pk .sw HST_SLOT.KEY_ID k)
      (.spill (eventCode clsAudit 0x14 33) x.helm.num (rdI s.pk x.helm I_SP.DEMANDS k) (rdI s.pk x.helm I_SP.DEMAND_FIRST k) (rdI s.pk x.helm I_SP.DEMAND_LAST k))))) ∧
  (∀ (x : Side) (k : Nat) (s : State), isActive s.pk x = false ∨ rdI s.pk x.helm I_SP.DEMANDS k = 0 →
    ActsNot (.demandSpill x k) s)

/-- R6, R7, R8, R11, R17, R21: direct writes, the halves of 64-bit pairs, and the latch of the high word. -/
def Obligations.RegisterWritesAndReadsActFieldByField : Prop :=
  (∀ (by' : By) (d : Die) (off : Nat) (w : Nat) (env : Bool) (h : RegRow × Nat × Nat) (s : State), running s.pk d = true →
    running s.pk (byDie d by') = true →
    reaches s.pk (byDie d by') d = true →
    wordAt d off = some h →
    holdsTx h = false →
    (directPair h).isSome = false →
    writeSpecial by' env d h.2.1 h.2.2 w s.pk = none →
    ActsAndLogs (.registerWrite by' d off w env) s d ((d, I_DIE.SEQ) :: (wordFlds h).map (fun F => (d, F))) (fun q => ∀ F ∈ wordFlds h, rdI q d F h.2.1 =
      (match F.acc with
      | .rw => F.merge h.2.2 (rdI s.pk d F h.2.1) w
      | .w1c => Nat.xor (rdI s.pk d F h.2.1) (Nat.land (rdI s.pk d F h.2.1) (F.merge h.2.2 0 w)) % 2 ^ F.w
      | .wo => if byHost by' && firmwareOnly.contains F then rdI s.pk d F h.2.1 else F.merge h.2.2 (rdI s.pk d F h.2.1) w
      | _ => rdI s.pk d F h.2.1))) ∧
  (∀ (by' : By) (d : Die) (off : Nat) (w : Nat) (env : Bool) (s : State), running s.pk d = true →
    running s.pk (byDie d by') = true →
    reaches s.pk (byDie d by') d = true →
    wordAt d off = none →
    ActsAndLogs (.registerWrite by' d off w env) s d (logFields d) (fun q => q.log.get d = (s.pk.log.get d).place (logPath s.pk d)
      (mkRec s.pk d (eventCode clsWarning (blockCode off) 32) 2 (bySlot by') (byKey s.pk by') .unstated))) ∧
  (∀ (by' : By) (d : Die) (off : Nat) (w : Nat) (env : Bool) (h : RegRow × Nat × Nat) (s : State), running s.pk d = true →
    running s.pk (byDie d by') = true →
    reaches s.pk (byDie d by') d = true →
    wordAt d off = some h →
    holdsTx h = true →
    ActsAndLogs (.registerWrite by' d off w env) s d (logFields d) (fun q => q.log.get d = (s.pk.log.get d).place (logPath s.pk d)
      (mkRec s.pk d (eventCode clsWarning (blockCode off) 32) 2 (bySlot by') (byKey s.pk by') .unstated))) ∧
  (∀ (by' : By) (d : Die) (off : Nat) (w : Nat) (env : Bool) (s : State), running s.pk (byDie d by') = false →
    ActsNot (.registerWrite by' d off w env) s ∧ ActsNot (.pairLowWrite by' d off w) s ∧ ActsNot (.pairHighWrite by' d off w) s) ∧
  (∀ (by' : By) (d : Die) (off : Nat) (w : Nat) (env : Bool) (i : Instr) (s : State), i ∈ [Instr.registerWrite by' d off w env, .pairLowWrite by' d off w, .pairHighWrite by' d off w] →
    running s.pk (byDie d by') = true →
    (running s.pk d = false ∨ reaches s.pk (byDie d by') d = false) →
    ActsAndLogs i s (byDie d by') (logFields (byDie d by')) (fun q => q.log.get (byDie d by') = (s.pk.log.get (byDie d by')).place (logPath s.pk (byDie d by'))
      (mkRec s.pk (byDie d by') (eventCode clsWarning (blockCode off) 32) 2 (bySlot by') (byKey s.pk by') .unstated))) ∧
  (∀ (by' : By) (d : Die) (off : Nat) (w : Nat) (h : RegRow × Nat × Nat) (F : Fld) (s : State), running s.pk d = true →
    running s.pk (byDie d by') = true →
    reaches s.pk (byDie d by') d = true →
    wordAt d off = some h →
    holdsTx h = false →
    directPair h = some F →
    (byHost by' && firmwareOnly.contains F) = false →
    h.2.2 = F.off →
    exec (.pairLowWrite by' d off w) s = .next { s with pk := stageLow by' d off w s.pk } ∧
      (stageLow by' d off w s.pk).nhp.staged.find? (fun x => x.slot == min 8 (bySlot by') && x.addr == off + 4 && x.die == d.num) = some ⟨min 8 (bySlot by'), off + 4, d.num, w⟩) ∧
  (∀ (by' : By) (d : Die) (off : Nat) (w : Nat) (h : RegRow × Nat × Nat) (F : Fld) (s : State), running s.pk d = true →
    running s.pk (byDie d by') = true →
    reaches s.pk (byDie d by') d = true →
    wordAt d off = some h →
    holdsTx h = false →
    directPair h = some F →
    (byHost by' && firmwareOnly.contains F) = false →
    h.2.2 ≠ F.off →
    (F = TIM_INCR.INCR → (running s.pk .sw && reaches s.pk .sw d && d == masterDie s.pk) = true) →
    Completes (.pairHighWrite by' d off w) s (fun t => LedgerKept s t ∧
      t.pk.nhp.staged = s.pk.nhp.staged.filter (fun x => !(x.slot == min 8 (bySlot by') && x.addr == off && x.die == d.num)) ∧
      t.pk = { s.pk with regs := t.pk.regs, nhp := t.pk.nhp } ∧ FieldsKept [(d, F), (d, I_TIM.INCR_AT)] s.pk t.pk ∧
      rdI t.pk d F h.2.1 = ((match s.pk.nhp.staged.find? (fun x => x.slot == min 8 (bySlot by') && x.addr == off && x.die == d.num) with
      | some x => x.word
      | none => rdI s.pk d F h.2.1 % 2 ^ 32) + w * 2 ^ 32) % 2 ^ F.w)) ∧
  (∀ (by' : By) (d : Die) (off : Nat) (w : Nat) (env : Bool) (h : RegRow × Nat × Nat) (q : Pkg) (s : State), running s.pk d = true →
    running s.pk (byDie d by') = true →
    reaches s.pk (byDie d by') d = true →
    wordAt d off = some h →
    holdsTx h = false →
    (directPair h).isSome = false →
    writeSpecial by' env d h.2.1 h.2.2 w s.pk = some q →
    exec (.registerWrite by' d off w env) s = .next { s with pk := q }) ∧
  (∀ (k : Nat) (addr : Nat) (d : Die) (off : Nat) (v : Nat) (s : State), k < 8 →
    s.pk.nhp.latched.find? (fun x => x.slot == k && x.addr == addr) = none →
    resolve s.pk addr = .at' d off →
    stewardReaches s.pk d = true →
    readAt s.pk d off = some v →
    Completes (.pairLowRead k addr) s (fun t => LedgerKept s t ∧ t.pk = { s.pk with nhp := { s.pk.nhp with latched := t.pk.nhp.latched } } ∧
      (isPairLow d off = false → t = s) ∧ (isPairLow d off = true →
      t.pk.nhp.latched.find? (fun x => x.slot == k && x.addr == addr + 4) = some ⟨k, addr + 4, d.num, (readAt s.pk d (off + 4)).getD 0⟩))) ∧
  (∀ (k : Nat) (addr : Nat) (x : Half) (s : State), k < 8 →
    s.pk.nhp.latched.find? (fun x => x.slot == k && x.addr == addr) = some x →
    Completes (.pairLowRead k addr) s (fun t => LedgerKept s t ∧ t.pk = { s.pk with nhp := { s.pk.nhp with latched := s.pk.nhp.latched.erase x } })) ∧
  (∀ (k : Nat) (addr : Nat) (d : Die) (off : Nat) (s : State), k < 8 →
    s.pk.nhp.latched.find? (fun x => x.slot == k && x.addr == addr) = none →
    resolve s.pk addr = .at' d off →
    stewardReaches s.pk d = true →
    readAt s.pk d off = none →
    ActsAndLogs (.pairLowRead k addr) s d (logFields d) (fun q => q.nhp = s.pk.nhp)) ∧
  (∀ (k : Nat) (addr : Nat) (s : State), 8 ≤ k →
    ActsNot (.pairLowRead k addr) s)

/-- R355 to R357, R359: marks, and the hand-over of the spine. How the increment is trimmed is the model's choice (log entry on the servo).
-/
def Obligations.SpineMarksAlignTrimAndHandOver : Prop :=
  (∀ (d : Die) (e : Int) (s : State), running s.pk d = true →
    d ≠ masterDie s.pk →
    running s.pk (masterDie s.pk) = true →
    rd s.pk d I_TIM.ALIGN_DUE = 1 →
    Completes (.spineMark d e) s (fun t => LedgerKept s t ∧ OnlyRegsAndLog s.pk t.pk ∧ OtherDiesKept d s.pk t.pk ∧
      now t.pk d = now s.pk (masterDie s.pk) % 2 ^ 64 ∧
        rd t.pk d TIM_STATUS.STEP_EPOCH = rd s.pk (masterDie s.pk) TIM_STATUS.STEP_EPOCH % 2 ^ TIM_STATUS.STEP_EPOCH.w ∧
      rd t.pk d I_TIM.ALIGN_DUE = 0 ∧ rd t.pk d I_TIM.FRESH = 0 ∧ rd t.pk d TIM_STATUS.SPINE_LOST = 0 ∧
      rd t.pk d TIM_STATUS.STATE = timeState s.pk % 8 ∧ rd t.pk d TIM_STATUS.MASTER_DIE = (masterDie s.pk).num ∧
      rd t.pk d TIM_SPINE.ALIGNS = min (rd s.pk d TIM_SPINE.ALIGNS + 1) (2 ^ TIM_SPINE.ALIGNS.w - 1) % 2 ^ TIM_SPINE.ALIGNS.w)) ∧
  (∀ (d : Die) (e : Int) (s : State), running s.pk d = true →
    d ≠ masterDie s.pk →
    running s.pk (masterDie s.pk) = true →
    rd s.pk d I_TIM.ALIGN_DUE = 0 →
    rd s.pk d I_TIM.FRESH = 1 →
    16000 < e.natAbs →
    Completes (.spineMark d e) s (fun t => LedgerKept s t ∧
      OnlyFields [(d, TIM_STATUS.SPINE_LOST), (d, I_TIM.MISSED), (d, TIM_STATUS.STATE), (d, TIM_STATUS.MASTER_DIE),
      (d, TIM_SPINE.ERR), (d, I_TIM.ALIGN_DUE), (d, I_TP.LEVEL), (d, PTP_OC_STATUS.CLOCK_CLASS)] s.pk t.pk ∧ rd t.pk d I_TIM.ALIGN_DUE = 1 ∧ rd t.pk d TIM_STATUS.SPINE_LOST = 0 ∧ rd t.pk d TIM_STATUS.STATE = timeState s.pk % 8)) ∧
  (∀ (d : Die) (e : Int) (s : State), running s.pk d = true →
    d ≠ masterDie s.pk →
    running s.pk (masterDie s.pk) = true →
    rd s.pk d I_TIM.ALIGN_DUE = 0 →
    rd s.pk d I_TIM.FRESH = 0 ∨ e.natAbs ≤ 16000 →
    Completes (.spineMark d e) s (fun t => LedgerKept s t ∧ t.pk = { s.pk with regs := t.pk.regs } ∧ OtherDiesKept d s.pk t.pk ∧
      rd t.pk d TIM_STATUS.SPINE_LOST = 0 ∧ rd t.pk d I_TIM.MISSED = 0 ∧ rd t.pk d TIM_STATUS.STATE = timeState s.pk % 8 ∧ now t.pk d = now s.pk d ∧
      rd t.pk d TIM_STATUS.SPINE_LOCKED = b2n (if rd s.pk d TIM_STATUS.SPINE_LOCKED = 0 then decide (16 ≤ (if e.natAbs ≤ 64 then min 16 (rd s.pk d I_TIM.GOOD_RUN + 1) else 0)) else decide (e.natAbs ≤ 128)) ∧
      incrNom * 98 / 100 ≤ rd t.pk d TIM_INCR.INCR ∧ rd t.pk d TIM_INCR.INCR ≤ incrNom * 102 / 100)) ∧
  (∀ (y : Side) (s : State), running s.pk y.port = true →
    y.port ≠ masterDie s.pk →
    2 ≤ rd s.pk y.port I_TIM.MISSED ∨ (running s.pk y.other.port = true ∧ onFallback s.pk y.other.port = true ∧ onFallback s.pk y.port = false) →
    ActsWithin OnlyRegsAndLog (.spineMasterTakeover y) s (fun q => rd q y.port TIM_STATUS.SPINE_MASTER = 1 ∧
      rd q y.other.port TIM_STATUS.SPINE_MASTER = 0 ∧
      masterDie q = y.port ∧ rd q y.port TIM_EVENT.MASTER_CHANGED = 1 ∧ rd q y.port TIM_SLEW.REMAIN = rd s.pk y.other.port TIM_SLEW.REMAIN % 2 ^ 32 ∧
        rd q y.other.port TIM_SLEW.REMAIN = 0 ∧
      now q y.port = now s.pk y.port ∧ DiesKept [.ha, .hb, .ga, .gb, .ld] s.pk q)) ∧
  (∀ (y : Side) (s : State), running s.pk y.port = true →
    y.port ≠ masterDie s.pk →
    rd s.pk y.port I_TIM.MISSED < 2 →
    running s.pk y.other.port = false ∨ onFallback s.pk y.other.port = false ∨ onFallback s.pk y.port = true →
    ActsNot (.spineMasterTakeover y) s) ∧
  (∀ (d : Die) (e : Int) (s : State), running s.pk d = false ∨ d = masterDie s.pk →
    ActsNot (.spineMark d e) s ∧ ActsNot (.spineMarkMissing d) s)

/-- R361, R363, R364, R366, R367, R371: the servo and the states of device time. An update in UNSET announces a step of the negated offset.
-/
def Obligations.ReferenceUpdatesSteerTheMaster : Prop :=
  (∀ (theta : Int) (fmeas : Nat) (s : State), running s.pk .sw = true →
    timeRef s.pk ≠ 0 →
    rd s.pk .sw I_TIM.REF_DUE = 1 →
    rdS s.pk .sw I_TIM.REF_THETA = theta →
    rd s.pk .sw I_TIM.REF_F = fmeas →
    timeState s.pk = 0 →
    ActsAndLogs (.servoUpdate theta fmeas) s .sw [(.sw, I_TIM.REF_DUE), (.sw, TIM_REF_OFFSET.THETA), (.sw, TIM_REF_FREQ.F_MEAS), (.sw, I_TIM.REF_AT),
      (.sw, I_TIM.STEP), (.sw, I_TIM.STEP_DUE), (.sw, I_TIM.STEP_AT),
      (.sw, TIM_UTC.UTC_OFFSET), (.sw, TIM_UTC.LEAP61), (.sw, TIM_UTC.LEAP59), (.sw, TIM_UTC.VALID), (.sw, I_TIM.UTC_NEW), (.sw, I_TIM.UTC_DUE), (.sw, I_TIM.LEAP_DAY),
      (.sw, TIM_EVENT.UTC_CHANGED), (.sw, I_DIE.SEQ)]
      (fun q => rd q .sw I_TIM.REF_DUE = 0 ∧ rd q .sw TIM_REF_OFFSET.THETA = ofSigned TIM_REF_OFFSET.THETA.w theta ∧
        rd q .sw I_TIM.STEP = ofSigned I_TIM.STEP.w (-theta) ∧ rd q .sw I_TIM.STEP_DUE = 1 ∧ rd q .sw I_TIM.REF_AT = now s.pk .sw % 2 ^ 64)) ∧
  (∀ (theta : Int) (fmeas : Nat) (s : State), running s.pk .sw = true →
    timeRef s.pk ≠ 0 →
    rd s.pk .sw I_TIM.REF_DUE = 1 →
    rdS s.pk .sw I_TIM.REF_THETA = theta →
    rd s.pk .sw I_TIM.REF_F = fmeas →
    timeState s.pk ≠ 0 →
    timeState s.pk ≠ 5 →
    rd s.pk .sw TIM_LIMITS.STEP_LIMIT < theta.natAbs →
    ActsWithin OnlyRegsAndLog (.servoUpdate theta fmeas) s (fun q => rd q .sw I_TIM.REF_DUE = 0 ∧ rd q .sw TIM_STATUS.STEP_PENDING = 1 ∧
      rd q .sw TIM_STEP_PENDING.PENDING = ofSigned TIM_STEP_PENDING.PENDING.w (-theta) ∧
      (timeState s.pk = 1 ∨ timeState s.pk = 2 ∨ timeState s.pk = 3 → timeState q = 4) ∧ (rd s.pk .sw TIM_STATUS.STEP_PENDING = 0 →
        rd q .sw TIM_EVENT.STEP_REFUSED = 1) ∧
      rd q (masterDie s.pk) TIM_INCR.INCR = rd s.pk (masterDie s.pk) TIM_INCR.INCR ∧ rd q .sw I_TIM.STEP_DUE = rd s.pk .sw I_TIM.STEP_DUE ∧
        DiesKept [.ha, .hb, .ga, .gb, .ld] s.pk q)) ∧
  (∀ (theta : Int) (fmeas : Nat) (s : State), running s.pk .sw = true →
    timeRef s.pk ≠ 0 →
    rd s.pk .sw I_TIM.REF_DUE = 1 →
    rdS s.pk .sw I_TIM.REF_THETA = theta →
    rd s.pk .sw I_TIM.REF_F = fmeas →
    timeState s.pk ≠ 0 →
    timeState s.pk ≠ 5 →
    theta.natAbs ≤ rd s.pk .sw TIM_LIMITS.STEP_LIMIT →
    ActsWithin OnlyRegsAndLog (.servoUpdate theta fmeas) s (fun q => rd q .sw I_TIM.REF_DUE = 0 ∧
      rd q (masterDie s.pk) TIM_INCR.INCR = (servoIncr s.pk (fsub fmeas (fint (slewRate s.pk)))).1 % 2 ^ TIM_INCR.INCR.w ∧
      rd q (masterDie s.pk) TIM_SLEW.REMAIN = ofSigned TIM_SLEW.REMAIN.w (-theta) ∧ rd q (masterDie s.pk) TIM_STATUS.SLEWING = b2n (theta != 0) ∧
      rd q .sw TIM_STATUS.STEP_PENDING = 0 ∧ rd q .sw I_TIM.IN_LOCK = b2n (decide (theta.natAbs ≤ rd s.pk .sw TIM_SERVO_CFG.LOCK_THRESH)) ∧
      (timeState s.pk = 4 → timeState q = 2) ∧ DiesKept [.ha, .hb, .ga, .gb, .ld] s.pk q)) ∧
  (∀ (theta : Int) (fmeas : Nat) (s : State), updateWaits theta fmeas s.pk = false →
    ActsNot (.servoUpdate theta fmeas) s) ∧
  (∀ (i : Instr) (s : State), i = .refTimeout ∧ running s.pk .sw = true ∧ timeRef s.pk ≠ 0 ∧
    rd s.pk .sw I_TIM.REF_AT + rd s.pk .sw TIM_SERVO_CFG2.REF_TIMEOUT * 1000000 ≤ now s.pk .sw ∨
      i = .incrTimeout ∧ running s.pk (masterDie s.pk) = true ∧
        rd s.pk (masterDie s.pk) I_TIM.INCR_AT + rd s.pk .sw TIM_SERVO_CFG2.REF_TIMEOUT * 1000000 ≤ now s.pk (masterDie s.pk) →
    timeState s.pk = 2 ∨ timeState s.pk = 3 →
    ActsWithin OnlyRegsAndLog i s (fun q => timeState q = 4 ∧ rd q .sw I_TIM.IN_LOCK = 0 ∧ rd q (timeDie s.pk) TIM_EVENT.HOLDOVER_ENTER = 1 ∧
      DiesKept [.ha, .hb, .ga, .gb, .ld] s.pk q ∧ masterDie q = masterDie s.pk)) ∧
  (∀ (s : State), timeState s.pk = 2 →
    rd s.pk .sw I_TIM.IN_LOCK = 1 →
    rd s.pk .sw I_TIM.LOCK_SINCE + rd s.pk .sw TIM_SERVO_CFG.LOCK_HOLD * 1000000000 ≤ now s.pk .sw →
    ActsWithin OnlyRegsAndLog .timeLocked s (fun q => timeState q = 3 ∧ rd q .sw TIM_EVENT.LOCKED = 1 ∧ DiesKept [.ha, .hb, .ga, .gb, .ld] s.pk q)) ∧
  (∀ (s : State), timeState s.pk ≠ 2 ∨ rd s.pk .sw I_TIM.IN_LOCK = 0 ∨ now s.pk .sw < rd s.pk .sw I_TIM.LOCK_SINCE + rd s.pk .sw TIM_SERVO_CFG.LOCK_HOLD * 1000000000 →
    ActsNot .timeLocked s) ∧
  (∀ (k : Nat) (s : State), sessionHolds s.pk k 3 = true →
    rd s.pk .sw TIM_STATUS.STEP_PENDING = 1 →
    ActsOn (.stepAccept k) s [(.sw, I_TIM.STEP), (.sw, I_TIM.STEP_DUE),
      (.sw, I_TIM.STEP_AT)] (fun q => rd q .sw I_TIM.STEP = ofSigned I_TIM.STEP.w (rdS s.pk .sw TIM_STEP_PENDING.PENDING) ∧ rd q .sw I_TIM.STEP_DUE = 1)) ∧
  (∀ (k : Nat) (s : State), sessionHolds s.pk k 3 = false →
    ActsNot (.stepAccept k) s) ∧
  (∀ (s : State), running s.pk .sw = true →
    (rd s.pk .sw TIM_UTC.LEAP61 = 1 ∨ rd s.pk .sw TIM_UTC.LEAP59 = 1) →
    leapDayOver s.pk = true →
    atSomeBoundary s.pk = true →
    ActsAndLogs .utcLeap s .sw [(.sw, I_TIM.UTC_DUE), (.sw, TIM_UTC.UTC_OFFSET), (.sw, TIM_UTC.LEAP61), (.sw, TIM_UTC.LEAP59),
      (.sw, TIM_EVENT.UTC_CHANGED), (.sw, I_DIE.SEQ)]
      (fun q => rd q .sw TIM_UTC.UTC_OFFSET = ofSigned TIM_UTC.UTC_OFFSET.w (if rd s.pk .sw I_TIM.UTC_DUE = 1 then rdS s.pk .sw I_TIM.UTC_NEW
      else rdS s.pk .sw TIM_UTC.UTC_OFFSET + (if rd s.pk .sw TIM_UTC.LEAP61 = 1 then 1 else -1)) ∧ rd q .sw I_TIM.UTC_DUE = 0 ∧
      rd q .sw TIM_UTC.LEAP61 = 0 ∧ rd q .sw TIM_UTC.LEAP59 = 0 ∧ rd q .sw TIM_EVENT.UTC_CHANGED = 1)) ∧
  (∀ (s : State), (rd s.pk .sw TIM_UTC.LEAP61 = 0 ∧ rd s.pk .sw TIM_UTC.LEAP59 = 0 ∨ leapDayOver s.pk = false ∨ atSomeBoundary s.pk = false) →
    ActsNot .utcLeap s) ∧
  (∀ (d : Die) (v : Nat) (s : State), running s.pk .sw = true →
    running s.pk d = true →
    reaches s.pk .sw d = true →
    d = masterDie s.pk →
    ActsOn (.timIncrWrite d none v) s [(d, TIM_INCR.INCR), (d, I_TIM.INCR_AT)] (fun q => rd q d TIM_INCR.INCR = v % 2 ^ TIM_INCR.INCR.w ∧
      rd q d I_TIM.INCR_AT = now s.pk d % 2 ^ 64)) ∧
  (∀ (d : Die) (v : Int) (s : State), running s.pk .sw = true →
    running s.pk d = true →
    reaches s.pk .sw d = true →
    d = masterDie s.pk →
    ActsOn (.timSlewWrite d none v) s [(d, TIM_SLEW.REMAIN), (d, TIM_STATUS.SLEWING),
      (.sw, I_TIM.SLEW_LEFT)] (fun q => rd q d TIM_SLEW.REMAIN = ofSigned TIM_SLEW.REMAIN.w v ∧ rd q d TIM_STATUS.SLEWING = b2n (v != 0))) ∧
  (∀ (d : Die) (k : Nat) (v : Nat) (z : Int) (s : State), 
    ActsAndLogs (.timIncrWrite d (some k) v) s d (logFields d) (fun q => rd q d TIM_INCR.INCR = rd s.pk d TIM_INCR.INCR) ∧
      ActsAndLogs (.timSlewWrite d (some k) z) s d (logFields d) (fun q => rd q d TIM_SLEW.REMAIN = rd s.pk d TIM_SLEW.REMAIN)) ∧
  (∀ (s : State), rdS s.pk .sw I_TIM.SLEW_LEFT = 0 →
    ActsOn .slewDone s [(masterDie s.pk, TIM_SLEW.REMAIN), (masterDie s.pk, TIM_STATUS.SLEWING),
      (.sw, I_TIM.SLEW_LEFT)] (fun q => rd q (masterDie s.pk) TIM_SLEW.REMAIN = 0 ∧ rd q (masterDie s.pk) TIM_STATUS.SLEWING = 0))

/-- R368, R369, R372, R373: steps and time pulses. -/
def Obligations.StepsReachEveryDieAndPulsesFire : Prop :=
  (∀ (s : State), rd s.pk .sw I_TIM.STEP_DUE = 1 →
    rd s.pk .sw I_TIM.STEP_AT < now s.pk .sw →
    Completes .stepMark s (fun t => LedgerKept s t ∧ t.pk.settings = s.pk.settings ∧ t.pk.txn = s.pk.txn ∧ t.pk.nhp = s.pk.nhp ∧
      rd t.pk .sw I_TIM.STEP_DUE = 0 ∧
      rd t.pk .sw TIM_STATUS.STEP_PENDING = 0 ∧ timeState t.pk = (if timeState s.pk = 5 then 5 else if timeRef s.pk = 0 then 1 else 2) ∧
      ∀ d ∈ allDies, if running s.pk d then now t.pk d = ((now s.pk d : Int) + rdS s.pk .sw I_TIM.STEP).toNat % 2 ^ 64 ∧
      rd t.pk d TIM_STATUS.STEP_EPOCH = (rd s.pk d TIM_STATUS.STEP_EPOCH + 1) % 2 ^ TIM_STATUS.STEP_EPOCH.w ∧ rd t.pk d TIM_SLEW.REMAIN = 0 ∧
        rd t.pk d TIM_EVENT.STEP_APPLIED = 1
      else now t.pk d = now s.pk d)) ∧
  (∀ (s : State), rd s.pk .sw I_TIM.STEP_DUE = 0 ∨ now s.pk .sw ≤ rd s.pk .sw I_TIM.STEP_AT →
    ActsNot .stepMark s) ∧
  (∀ (y : Side) (k : Nat) (s : State), running s.pk y.port = true →
    k < 4 →
    rdI s.pk y.port TIM_TP.RUNNING k = 1 →
    pulseDue s.pk y.port k = true →
    rdI s.pk y.port TIM_TP.MODE k = 1 →
    ActsOn (.timePulseEdge y k) s [(y.port, TIM_TP.EDGES), (y.port, I_TP.LAST), (y.port, TIM_TP.FIRED), (y.port, TIM_TP.RUNNING)] (fun q =>
      rdI q y.port TIM_TP.EDGES k = (rdI s.pk y.port TIM_TP.EDGES k + 1) % 2 ^ TIM_TP.EDGES.w ∧
        rdI q y.port I_TP.LAST k = rdI s.pk y.port I_TP.NEXT k % 2 ^ 64 ∧
      rdI q y.port TIM_TP.FIRED k = 1 ∧ rdI q y.port TIM_TP.RUNNING k = 0)) ∧
  (∀ (y : Side) (k : Nat) (s : State), running s.pk y.port = true →
    k < 4 →
    rdI s.pk y.port TIM_TP.RUNNING k = 1 →
    pulseDue s.pk y.port k = true →
    rdI s.pk y.port TIM_TP.MODE k ≠ 1 →
    ActsOn (.timePulseEdge y k) s [(y.port, TIM_TP.EDGES), (y.port, I_TP.LAST), (y.port, I_TP.NEXT)] (fun q =>
      rdI q y.port TIM_TP.EDGES k = (rdI s.pk y.port TIM_TP.EDGES k + 1) % 2 ^ TIM_TP.EDGES.w ∧
        rdI q y.port I_TP.LAST k = rdI s.pk y.port I_TP.NEXT k % 2 ^ 64 ∧
      rdI q y.port I_TP.NEXT k = (rdI s.pk y.port I_TP.NEXT k + rdI s.pk y.port TIM_TP.PERIOD k) % 2 ^ I_TP.NEXT.w ∧
        rdI q y.port TIM_TP.RUNNING k = 1)) ∧
  (∀ (y : Side) (k : Nat) (s : State), running s.pk y.port = false ∨ rdI s.pk y.port TIM_TP.RUNNING k = 0 ∨ pulseDue s.pk y.port k = false →
    ActsNot (.timePulseEdge y k) s)

/-- R382 to R386: the clock monitor, the fast detector, and the pause and the trim of the fallback clock. -/
def Obligations.ClockWindowsAttributeAndTripsFallBack : Prop :=
  (∀ (d : Die) (n : Nat) (own : Nat) (other : Nat) (s : State), running s.pk d = true →
    rd s.pk d CLK_STATUS.SOURCE ≠ 2 →
    rd s.pk d CLK_STATUS.OTHER_LOST = 0 →
    ((n : Int) - 208000).natAbs ≤ rd s.pk d CLK_CFG.MON_TOL * 2080 / 1000 →
    ActsOn (.clockMonitorWindow d (some n) own other) s [(d, CLK_MON.DEV), (d, CLK_MON.DEV_MAX), (d, I_CLK.BAD_RUN),
      (d, CLK_STATUS.ROOT_DISAGREE)] (fun q =>
      rd q d I_CLK.BAD_RUN = 0 ∧ rd q d CLK_STATUS.ROOT_DISAGREE = 0 ∧
        rd q d CLK_MON.DEV = ofSigned 16 (clampInt ((n : Int) - 208000) (-32768) 32767) % 2 ^ CLK_MON.DEV.w)) ∧
  (∀ (d : Die) (n : Nat) (own : Nat) (other : Nat) (s : State), running s.pk d = true →
    rd s.pk d CLK_STATUS.SOURCE ≠ 2 →
    rd s.pk d CLK_STATUS.OTHER_LOST = 0 →
    rd s.pk d CLK_CFG.MON_TOL * 2080 / 1000 < ((n : Int) - 208000).natAbs →
    rd s.pk d I_CLK.BAD_RUN = 0 →
    ActsOn (.clockMonitorWindow d (some n) own other) s [(d, CLK_MON.DEV), (d, CLK_MON.DEV_MAX), (d, I_CLK.BAD_RUN), (d, I_CLK.BAD_AT)] (fun q =>
      rd q d I_CLK.BAD_RUN = 1 ∧ rd q d I_CLK.BAD_AT = now s.pk d % 2 ^ 64)) ∧
  (∀ (d : Die) (n : Nat) (own : Nat) (other : Nat) (s : State), running s.pk d = true →
    rd s.pk d CLK_STATUS.SOURCE < 2 →
    rd s.pk d CLK_STATUS.OTHER_LOST = 0 →
    rd s.pk d CLK_CFG.MON_TOL * 2080 / 1000 < ((n : Int) - 208000).natAbs →
    rd s.pk d I_CLK.BAD_RUN = 1 →
    other + 100 ≤ own →
    Completes (.clockMonitorWindow d (some n) own other) s (fun t => LedgerKept s t ∧ t.pk.settings = s.pk.settings ∧ t.pk.nhp = s.pk.nhp ∧
      t.pk.txn = s.pk.txn ∧
      rd t.pk d CLK_STATUS.SOURCE = 2 ∧ rd t.pk d CLK_EVENT.CLKFAIL = 1 ∧ rd t.pk d CLK_EVENT.FREQ_TRIP = 1 ∧ rd t.pk d I_DIE.CLKFAIL = 1 ∧
      rd t.pk d (qualFld (rootB s.pk d (rd s.pk d CLK_STATUS.SOURCE))) = 0 ∧ rd t.pk d TIM_STATUS.DIE_DEGRADED = 1 ∧
      ((d = .ha ∨ d = .hb) ∧ isActive s.pk (Die.side d) = true → rdI t.pk .sw I_PKG.LINE_PULL (Die.side d).num = 0 ∧
        rd t.pk d I_LANE.RELEASE_CAUSE = (if rd s.pk d I_LANE.RELEASE_CAUSE = 0 then 4 else rd s.pk d I_LANE.RELEASE_CAUSE)))) ∧
  (∀ (d : Die) (n : Nat) (own : Nat) (other : Nat) (s : State), running s.pk d = true →
    rd s.pk d CLK_STATUS.SOURCE < 2 →
    rd s.pk d CLK_STATUS.OTHER_LOST = 0 →
    rd s.pk d CLK_CFG.MON_TOL * 2080 / 1000 < ((n : Int) - 208000).natAbs →
    rd s.pk d I_CLK.BAD_RUN = 1 →
    own < other + 100 →
    ActsAndLogs (.clockMonitorWindow d (some n) own other) s d [(d, CLK_MON.DEV), (d, CLK_MON.DEV_MAX), (d, I_CLK.BAD_RUN), (d, I_CLK.BAD_AT),
      (d, CLK_STATUS.OTHER_LOST), (d, CLK_EVENT.OTHER_LOST),
      (d, CLK_STATUS.QUAL_A), (d, CLK_STATUS.QUAL_B), (d, CLK_FAILS.HOME), (d, CLK_FAILS.OTHER), (d, CLK_STATUS.ROOT_DISAGREE), (d, CLK_EVENT.ROOT_DISAGREE), (d, I_DIE.SEQ)] (fun q =>
      rd q d CLK_STATUS.SOURCE = rd s.pk d CLK_STATUS.SOURCE ∧ (if own + 100 ≤ other then rd q d CLK_STATUS.OTHER_LOST = 1 ∧
        rd q d CLK_EVENT.OTHER_LOST = 1 ∧
      rd q d (qualFld (rootB s.pk d (1 - rd s.pk d CLK_STATUS.SOURCE))) = 0 else rd q d CLK_STATUS.ROOT_DISAGREE = 1 ∧
        rd q d CLK_STATUS.OTHER_LOST = 0))) ∧
  (∀ (d : Die) (own : Nat) (other : Nat) (s : State), running s.pk d = true →
    rd s.pk d CLK_STATUS.SOURCE < 2 →
    ActsAndLogs (.clockMonitorWindow d none own other) s d [(d, I_CLK.BAD_RUN), (d, I_CLK.BAD_AT), (d, CLK_STATUS.OTHER_LOST),
      (d, CLK_EVENT.OTHER_LOST),
      (d, CLK_STATUS.QUAL_A), (d, CLK_STATUS.QUAL_B), (d, CLK_FAILS.HOME), (d, CLK_FAILS.OTHER), (d, I_DIE.SEQ)] (fun q =>
      rd q d (qualFld (rootB s.pk d (1 - rd s.pk d CLK_STATUS.SOURCE))) = 0 ∧ (rd s.pk d CLK_STATUS.OTHER_LOST = 0 → rd q d CLK_STATUS.OTHER_LOST = 1 ∧
        rd q d CLK_EVENT.OTHER_LOST = 1))) ∧
  (∀ (d : Die) (s : State), running s.pk d = true →
    rd s.pk d CLK_STATUS.SOURCE < 2 →
    Completes (.fastDetectorTrip d) s (fun t => LedgerKept s t ∧ t.pk.settings = s.pk.settings ∧ t.pk.nhp = s.pk.nhp ∧ t.pk.txn = s.pk.txn ∧
      rd t.pk d CLK_STATUS.SOURCE = 2 ∧ rd t.pk d CLK_EVENT.CLKFAIL = 1 ∧ rd t.pk d CLK_EVENT.FAST_TRIP = 1 ∧ rd t.pk d CLK_STATUS.PLL_LOCK = 0 ∧
      ((d = .ha ∨ d = .hb) ∧ isActive s.pk (Die.side d) = true → rdI t.pk .sw I_PKG.LINE_PULL (Die.side d).num = 0 ∧
        rd t.pk d I_LANE.RELEASE_CAUSE = (if rd s.pk d I_LANE.RELEASE_CAUSE = 0 then 4 else rd s.pk d I_LANE.RELEASE_CAUSE)))) ∧
  (∀ (d : Die) (s : State), rd s.pk d I_DIE.RUN = 1 →
    rd s.pk d CLK_STATUS.QUAL_IOSC = 0 →
    ActsOn (.fastDetectorTrip d) s [(d, I_CLK.STAT), (d, I_CLK.RESTART)] (fun q => rd q d I_CLK.STAT = 2 ∧ rd q d I_CLK.RESTART = 1)) ∧
  (∀ (d : Die) (n : Nat) (s : State), running s.pk d = true →
    rd s.pk d I_CLK.PAUSES ≠ 0 →
    ActsOn (.clockResume d n) s [(d, I_CLK.PAUSES), (d, TIM_NOW.NOW), (d, TIM_CAL_SEC.SEC),
      (d, TIM_CAL_NS.NS)] (fun q => rd q d I_CLK.PAUSES = rd s.pk d I_CLK.PAUSES - 1 ∧ now q d = (now s.pk d + 10 * n) % 2 ^ 64 ∧
      rd q d TIM_CAL_NS.NS = (now s.pk d + 10 * n) % 1000000000)) ∧
  (∀ (d : Die) (n : Nat) (s : State), rd s.pk d I_CLK.PAUSES = 0 →
    ActsNot (.clockResume d n) s) ∧
  (∀ (d : Die) (i : Int) (z : Int) (s : State), running s.pk d = true →
    rd s.pk d CLK_STATUS.SOURCE ≠ 2 →
    periodDue s.pk d I_CLK.TRIM_DUE 0 100000000 = true →
    ActsOn (.fallbackTrim d i z) s [(d, I_CLK.TRIM_DUE), (d, CLK_IOSC.IOSC_PPM), (d, CLK_IOSC.WATCH_PPM), (d, I_CLK.TRIM)] (fun q => (-32768 ≤ i ∧
      i ≤ 32767 → rd q d CLK_IOSC.IOSC_PPM = ofSigned 16 i) ∧
      (-32768 ≤ z ∧ z ≤ 32767 → rd q d CLK_IOSC.WATCH_PPM = ofSigned 16 z))) ∧
  (∀ (d : Die) (i : Int) (z : Int) (s : State), rd s.pk d CLK_STATUS.SOURCE = 2 ∨ periodDue s.pk d I_CLK.TRIM_DUE 0 100000000 = false →
    ActsNot (.fallbackTrim d i z) s) ∧
  (∀ (d : Die) (c : Option Nat) (n : Nat) (i : Int) (s : State), running s.pk d = false →
    ActsNot (.clockMonitorWindow d c n n) s ∧ ActsNot (.clockResume d n) s ∧ ActsNot (.fallbackTrim d i i) s)

/-- R388, R389, R391, R439: moves between roots. -/
def Obligations.RootsMoveOnlyWhenTheyMay : Prop :=
  (∀ (d : Die) (s : State), running s.pk d = true →
    rd s.pk d CLK_STATUS.SOURCE = 2 →
    moveReady s.pk d = true →
    ActsOn (.moveOther d) s [(d, I_CLK.PENDING), (d, CLK_STATUS.MOVE_BUSY), (d, I_CLK.TO_HOME)] (fun q => rd q d I_CLK.PENDING = 0 ∧
      rd q d CLK_STATUS.MOVE_BUSY = 1 ∧ rd q d I_CLK.TO_HOME = 0) ∧
      (rd s.pk d I_CLK.PENDING = 1 → periodDue s.pk d I_CLK.RETRY_DUE 0 10000000 = true →
        ActsOn (.moveRetry d) s [(d, I_CLK.PENDING), (d, CLK_STATUS.MOVE_BUSY), (d, I_CLK.TO_HOME)] (fun q => rd q d I_CLK.PENDING = 0 ∧
        rd q d CLK_STATUS.MOVE_BUSY = 1))) ∧
  (∀ (d : Die) (s : State), running s.pk d = true →
    rd s.pk d CLK_STATUS.SOURCE = 2 →
    moveReady s.pk d = false →
    ActsOn (.moveOther d) s [(d, I_CLK.PENDING), (d, I_CLK.RETRY_DUE)] (fun q => rd q d I_CLK.PENDING = 1) ∧
      ActsOn (.moveRetry d) s [(d, I_CLK.RETRY_DUE)] (fun q => rd q d CLK_STATUS.MOVE_BUSY = rd s.pk d CLK_STATUS.MOVE_BUSY)) ∧
  (∀ (d : Die) (s : State), running s.pk d = true →
    rd s.pk d CLK_STATUS.SOURCE ≠ 2 →
    ActsAndLogs (.moveOther d) s d [(d, CLK_EVENT.MOVE_REFUSED), (d, I_DIE.SEQ)] (fun q => rd q d CLK_EVENT.MOVE_REFUSED = 1) ∧
      ActsOn (.moveRetry d) s [(d, I_CLK.PENDING)] (fun q => rd q d I_CLK.PENDING = 0 ∨ rd s.pk d I_CLK.PENDING ≠ 0 ∧ rd q d I_CLK.PENDING = 0)) ∧
  (∀ (d : Die) (s : State), running s.pk d = true →
    rd s.pk d CLK_STATUS.MOVE_BUSY = 1 →
    Completes (.moveRelockDone d) s (fun t => LedgerKept s t ∧ t.pk.settings = s.pk.settings ∧ t.pk.lanes = s.pk.lanes ∧
      rd t.pk d CLK_STATUS.SOURCE = (if rd s.pk d I_CLK.TO_HOME = 0 then 1 else 0) ∧
      rd t.pk d CLK_STATUS.MOVE_BUSY = 0 ∧ rd t.pk d CLK_STATUS.PLL_LOCK = 1 ∧ rd t.pk d CLK_EVENT.MOVED = 1 ∧
        rd t.pk d TIM_STATUS.DIE_DEGRADED = 0)) ∧
  (∀ (d : Die) (s : State), running s.pk d = true →
    mayMoveHome s.pk d = true →
    Completes (.moveHome d) s (fun t => LedgerKept s t ∧ t.pk.settings = s.pk.settings ∧ rd t.pk d CLK_STATUS.SOURCE = 2 ∧
      rd t.pk d CLK_STATUS.MOVE_BUSY = 1 ∧
      rd t.pk d I_CLK.TO_HOME = 1 ∧ rd t.pk d CLK_STATUS.PLL_LOCK = 0 ∧ rd t.pk d I_CLK.PENDING = 0)) ∧
  (∀ (d : Die) (s : State), running s.pk d = true →
    mayMoveHome s.pk d = false →
    ActsAndLogs (.moveHome d) s d [(d, I_CLK.PENDING), (d, CLK_EVENT.MOVE_REFUSED), (d, I_DIE.SEQ)] (fun q => rd q d I_CLK.PENDING = 0 ∧
      rd q d CLK_EVENT.MOVE_REFUSED = 1)) ∧
  (∀ (d : Die) (b : Bool) (s : State), running s.pk d = true →
    rd s.pk d CLK_STATUS.SOURCE ≠ 2 →
    rd s.pk d (qualFld b) = 0 →
    rd s.pk d I_CLK.BAD_AT + 1000000000 ≤ now s.pk d →
    ActsAndLogs (.requalified d b) s d [(d, qualFld b), (d, CLK_STATUS.OTHER_LOST), (d, CLK_EVENT.REQUALIFIED),
      (d, I_DIE.SEQ)] (fun q => rd q d (qualFld b) = 1 ∧
      rd q d CLK_STATUS.OTHER_LOST = 0 ∧ rd q d CLK_EVENT.REQUALIFIED = 1)) ∧
  (∀ (d : Die) (b : Bool) (s : State), running s.pk d = false ∨ rd s.pk d CLK_STATUS.SOURCE = 2 ∨ rd s.pk d (qualFld b) = 1 ∨ now s.pk d < rd s.pk d I_CLK.BAD_AT + 1000000000 →
    ActsNot (.requalified d b) s) ∧
  (∀ (d : Die) (s : State), running s.pk d = true →
    ActsOn (.clkNmeAck d) s [(d, I_DIE.CLKFAIL), (.sw, STW_STATUS.NME_PENDING)] (fun q => rd q d I_DIE.CLKFAIL = 0 ∧
      (running s.pk .sw = true ∧ rd s.pk d I_DIE.NME = 0 → bit (rd q .sw STW_STATUS.NME_PENDING) d.num = false))) ∧
  (∀ (d : Die) (on : Bool) (s : State), running s.pk d = true →
    ActsOn (.gateDisable d on) s [(d, CLK_GATE_CFG.DISABLE)] (fun q => rd q d CLK_GATE_CFG.DISABLE = b2n on)) ∧
  (∀ (d : Die) (b : Bool) (s : State), running s.pk d = false →
    ActsNot (.moveOther d) s ∧ ActsNot (.moveRetry d) s ∧ ActsNot (.moveRelockDone d) s ∧ ActsNot (.moveHome d) s ∧ ActsNot (.clkNmeAck d) s ∧
      ActsNot (.gateDisable d b) s)

/-- R16, R17: the culvert's links. -/
def Obligations.CulvertLinksGoDownAndUp : Prop :=
  (∀ (l : Nat) (b : Bool) (s : State), l < 9 →
    ¬(l = 8 ∧ b = true) →
    linkUp s.pk l b = true →
    Completes (.culvertCrcError l b) s (fun t => LedgerKept s t ∧ t.pk.settings = s.pk.settings ∧ t.pk.lanes = s.pk.lanes ∧
      (let F := if b then STW_LINK.CRC_B else STW_LINK.CRC_A
      rdI t.pk .sw F l = (rdI s.pk .sw F l + 1) % 2 ^ F.w) ∧ rdI t.pk .sw STW_LINK.RETX l = (rdI s.pk .sw STW_LINK.RETX l + 1) % 2 ^ STW_LINK.RETX.w ∧
        linkUp t.pk l b = true)) ∧
  (∀ (l : Nat) (b : Bool) (s : State), l < 9 →
    ¬(l = 8 ∧ b = true) →
    linkUp s.pk l b = true →
    ActsWithin OnlyRegsAndLog (.linkDown l b) s (fun q => linkUp q l b = false ∧ bit (rdI q .sw STW_LINK.STATE l) (b2n b) = false ∧
      ∀ k ∈ List.range 9, ∀ c ∈ [false, true], (k ≠ l ∨ c ≠ b) → linkUp q k c = linkUp s.pk k c)) ∧
  (∀ (l : Nat) (b : Bool) (s : State), l < 9 →
    ¬(l = 8 ∧ b = true) →
    linkUp s.pk l b = false →
    bit (rdI s.pk .sw STW_LINK.STATE l) (2 + b2n b) = false →
    ActsWithin OnlyRegsAndLog (.culvertLinkUp l b) s (fun q => linkUp q l b = true ∧ bit (rdI q .sw STW_LINK.STATE l) (b2n b) = true ∧
      ∀ k ∈ List.range 9, ∀ c ∈ [false, true], (k ≠ l ∨ c ≠ b) → linkUp q k c = linkUp s.pk k c)) ∧
  (∀ (l : Nat) (b : Bool) (s : State), 9 ≤ l ∨ (l = 8 ∧ b = true) →
    ActsNot (.culvertCrcError l b) s ∧ ActsNot (.linkDown l b) s ∧ ActsNot (.culvertLinkUp l b) s) ∧
  (∀ (l : Nat) (b : Bool) (s : State), 
    (linkUp s.pk l b = false → ActsNot (.culvertCrcError l b) s ∧ ActsNot (.linkDown l b) s) ∧ (linkUp s.pk l b = true →
      ActsNot (.culvertLinkUp l b) s))

/-- R14, R447, R449, R451, R510: the way of a record. -/
def Obligations.RecordsReachIntakeAndTheRing : Prop :=
  (∀ (d : Die) (r : LogRec) (l : List LogRec) (s : State), (s.pk.log.get d).out = r :: l →
    logPath s.pk d = true →
    intakeGeneral s.pk < 192 →
    s.pk.intake.recs.length < 256 →
    Completes (.logRecordReceive d) s (fun t => LedgerKept s t ∧
      t.pk = { s.pk with regs := t.pk.regs, intake := t.pk.intake, log := s.pk.log.set d { s.pk.log.get d with out := l } } ∧
      FieldsKept [(.sw, LOG_STATUS.INTAKE), (.sw, LOG_STATUS.AUDIT), (.sw, LOG_STATUS.SPILL_KEYS)] s.pk t.pk ∧
      t.pk.intake.recs = s.pk.intake.recs ++ [(rd s.pk .sw I_PKG.OPERATING_MS, { r with late := lexLess r.key (lastKey s.pk) })])) ∧
  (∀ (d : Die) (r : LogRec) (l : List LogRec) (s : State), (s.pk.log.get d).out = r :: l →
    logPath s.pk d = true →
    192 ≤ intakeGeneral s.pk ∨ 256 ≤ s.pk.intake.recs.length →
    Completes (.logRecordReceive d) s (fun t => LedgerKept s t ∧
      t.pk = { s.pk with regs := t.pk.regs, intake := t.pk.intake, log := s.pk.log.set d { s.pk.log.get d with out := l } } ∧
      FieldsKept [(.sw, LOG_STATUS.INTAKE), (.sw, LOG_STATUS.AUDIT), (.sw, LOG_STATUS.SPILL_KEYS)] s.pk t.pk ∧
      t.pk.intake = (match spillAdd 64 r.code r.die r.stamp s.pk.intake.spill with
      | some l => { s.pk.intake with spill := l }
      | none => { s.pk.intake with classSpill := spillClass (codeClass r.code) r.die r.stamp s.pk.intake.classSpill }))) ∧
  (∀ (d : Die) (r : LogRec) (l : List LogRec) (s : State), (s.pk.log.get d).out = r :: l →
    logPath s.pk d = false →
    Completes (.logRecordReceive d) s (fun t => LedgerKept s t ∧
      t.pk = { s.pk with log := s.pk.log.set d (DieLog.place { s.pk.log.get d with out := l } false r) })) ∧
  (∀ (d : Die) (s : State), (s.pk.log.get d).out = [] →
    ActsNot (.logRecordReceive d) s) ∧
  (∀ (d : Die) (s : State), logPath s.pk d = true →
    Completes (.logPathReturn d) s (fun t => LedgerKept s t ∧ OnlyRegsAndLog s.pk t.pk ∧
      FieldsKept [(d, I_DIE.SEQ), (.sw, STW_STATUS.NME_PENDING)] s.pk t.pk ∧
      (t.pk.log.get d).ring = [] ∧ (t.pk.log.get d).spill = [] ∧ (t.pk.log.get d).hold = (s.pk.log.get d).hold ∧
      (t.pk.log.get d).out.take ((s.pk.log.get d).out ++ (s.pk.log.get d).ring).length = (s.pk.log.get d).out ++ (s.pk.log.get d).ring ∧
      ((t.pk.log.get d).out.drop ((s.pk.log.get d).out ++ (s.pk.log.get d).ring).length).map (fun r => (r.code, r.payload)) = ((s.pk.log.get d).spill ++ (s.pk.log.get d).classSpill.filter (fun k => codeClass k.code != clsAudit)).map spillRecord)) ∧
  (∀ (d : Die) (s : State), logPath s.pk d = false →
    ActsNot (.logPathReturn d) s) ∧
  (∀ (t0 : Nat) (r : LogRec) (s : State), ledgerUp s.pk = true →
    Memory.wf s.ledger.mram = true →
    s.pk.intake.recs.filter (fun e => decide (e.1 + 2 ≤ rd s.pk .sw I_PKG.OPERATING_MS)) = [(t0, r)] →
    Completes .logRecordWrite s (fun t => mramRead t.ledger.mram (ringBase + 64 * (rd s.pk .sw LOG_NEXT.NEXT % ringSize)) 64 = r.bytes.map (fun v => v % 256) ∧
      LedgerKeptOutside [(ringBase + 64 * (rd s.pk .sw LOG_NEXT.NEXT % ringSize), 64)] s t ∧
        rd t.pk .sw LOG_WRITTEN.V = (rd s.pk .sw LOG_WRITTEN.V + 1) % 2 ^ 32 ∧
      (codeClass r.code = clsSpill → rd t.pk .sw LOG_EVENT.SPILLED = 1))) ∧
  (∀ (s : State), ledgerUp s.pk = true →
    Completes .logRecordWrite s (fun t => t.pk.intake = { s.pk.intake with recs := s.pk.intake.recs.filter (fun e => !(decide (e.1 + 2 ≤ rd s.pk .sw I_PKG.OPERATING_MS))) } ∧
      t.pk.settings = s.pk.settings ∧ t.pk.lanes = s.pk.lanes ∧ t.pk.txn = s.pk.txn ∧ LedgerKeptOutside [logRing] s t ∧
      rd t.pk .sw LOG_NEXT.NEXT = (rd s.pk .sw LOG_NEXT.NEXT + (s.pk.intake.recs.filter (fun e => decide (e.1 + 2 ≤ rd s.pk .sw I_PKG.OPERATING_MS))).length) % 2 ^ 32)) ∧
  (∀ (s : State), running s.pk .sw = true →
    intakeGeneral s.pk < 96 →
    Completes .spillFlush s (fun t => LedgerKept s t ∧
      t.pk = { s.pk with regs := t.pk.regs, log := s.pk.log.set .sw (t.pk.log.get .sw), intake := { s.pk.intake with spill := [], classSpill := [] } } ∧
      FieldsKept [(.sw, I_DIE.SEQ), (.sw, LOG_STATUS.INTAKE), (.sw, LOG_STATUS.AUDIT), (.sw, LOG_STATUS.SPILL_KEYS)] s.pk t.pk ∧
      rd t.pk .sw I_DIE.SEQ = (rd s.pk .sw I_DIE.SEQ + s.pk.intake.spill.length + s.pk.intake.classSpill.length) % 2 ^ I_DIE.SEQ.w)) ∧
  (∀ (s : State), running s.pk .sw = false ∨ 96 ≤ intakeGeneral s.pk →
    ActsNot .spillFlush s) ∧
  (∀ (d : Die) (r : LogRec) (s : State), d ≠ .sw →
    logPath s.pk d = true →
    (s.pk.log.get d).hold.find? (fun r => !(s.pk.intake.recs.any (fun e => e.2.die == r.die && e.2.seq == r.seq && e.2.isAudit))) = some r →
    intakeAudit s.pk < 64 ∨ (s.pk.intake.recs.length < 256 ∧ intakeGeneral s.pk < 192) →
    Completes (.auditHoldSend d) s (fun t => LedgerKept s t ∧ t.pk = { s.pk with regs := t.pk.regs, intake := t.pk.intake } ∧
      FieldsKept [(.sw, LOG_STATUS.INTAKE), (.sw, LOG_STATUS.AUDIT), (.sw, LOG_STATUS.SPILL_KEYS)] s.pk t.pk ∧
      t.pk.intake.recs = s.pk.intake.recs ++ [(rd s.pk .sw I_PKG.OPERATING_MS, { r with late := lexLess r.key (lastKey s.pk) })])) ∧
  (∀ (d : Die) (s : State), d ≠ .sw →
    logPath s.pk d = false ∨ (s.pk.log.get d).hold.all (fun r => s.pk.intake.recs.any (fun e => e.2.die == r.die && e.2.seq == r.seq && e.2.isAudit)) = true ∨ (64 ≤ intakeAudit s.pk ∧ (256 ≤ s.pk.intake.recs.length ∨ 192 ≤ intakeGeneral s.pk)) →
    ActsNot (.auditHoldSend d) s) ∧
  (∀ (s : State), ledgerUp s.pk = true →
    Completes (.auditHoldSend .sw) s (fun t => LedgerKeptOutside [logRing] s t ∧ t.pk.settings = s.pk.settings ∧ t.pk.lanes = s.pk.lanes ∧
      t.pk.intake = s.pk.intake ∧
      rd t.pk .sw LOG_NEXT.NEXT = (rd s.pk .sw LOG_NEXT.NEXT + (s.pk.log.get .sw).hold.length) % 2 ^ 32)) ∧
  (∀ (s : State), ledgerUp s.pk = false →
    ActsNot (.auditHoldSend .sw) s ∧ ActsNot .logRecordWrite s)

/-- R392, R397, R402, R410, R411: what stands before every request of the steward. LYT_VERIFY, LYT_APPLY, SNAP_EXPORT and UPD_VERIFY are
meant where no commit waits for its boundary. -/
def Obligations.RequestsInTheWayAreAnsweredAndDoNothing : Prop :=
  (∀ (r : Req) (b : List Nat) (env : Bool) (i : Instr) (op : Nat) (least : Nat) (s : State), asked s.pk r b env (i, op, least) = true →
    myTurn s.pk r = false →
    s.pk.nhp.queue.any (fun q => q.from' r) = false →
    stewardServes s.pk r.die = true →
    s.pk.nhp.queue.length < 32 →
    Completes i s (fun t => LedgerKept s t ∧
      t.pk = { s.pk with regs := t.pk.regs, nhp := { s.pk.nhp with queue := s.pk.nhp.queue ++ [⟨r.die.num, r.slot, r.counter, op, b⟩] } } ∧
      FieldsKept [(.sw, HST_STATUS.QUEUE)] s.pk t.pk ∧ rd t.pk .sw HST_STATUS.QUEUE = s.pk.nhp.queue.length + 1)) ∧
  (∀ (r : Req) (b : List Nat) (env : Bool) (i : Instr) (op : Nat) (least : Nat) (s : State), asked s.pk r b env (i, op, least) = true →
    myTurn s.pk r = false →
    s.pk.nhp.queue.any (fun q => q.from' r) = true →
    ActsNot i s) ∧
  (∀ (r : Req) (b : List Nat) (env : Bool) (i : Instr) (op : Nat) (least : Nat) (s : State), asked s.pk r b env (i, op, least) = true →
    myTurn s.pk r = false →
    s.pk.nhp.queue.any (fun q => q.from' r) = false →
    stewardServes s.pk r.die = true →
    32 ≤ s.pk.nhp.queue.length →
    Completes i s (fun t => LedgerKept s t ∧ OnlyAnswered r s.pk t.pk ∧ t.pk.log = s.pk.log ∧
      FieldsKept [(.sw, I_HST.TX), (.sw, HST_BUSY_REPLIES.V)] s.pk t.pk ∧
      rd t.pk .sw HST_BUSY_REPLIES.V = (rd s.pk .sw HST_BUSY_REPLIES.V + 1) % 2 ^ 32 ∧
        (t.pk.nhp.sent.getLast?).map (fun m => (m.slot, m.status, m.req)) = some (r.slot, Status.busy.code, r.counter))) ∧
  (∀ (r : Req) (b : List Nat) (env : Bool) (i : Instr) (op : Nat) (least : Nat) (s : State), asked s.pk r b env (i, op, least) = true →
    myTurn s.pk r = true →
    sessionOpen s.pk r.slot = false →
    Completes i s (fun t => t = { s with pk := takeQueued r s.pk })) ∧
  (∀ (r : Req) (b : List Nat) (env : Bool) (i : Instr) (op : Nat) (least : Nat) (m : Msg) (s : State), asked s.pk r b env (i, op, least) = true →
    myTurn s.pk r = true →
    sessionOpen s.pk r.slot = true →
    stewardServes s.pk r.die = true →
    s.pk.nhp.later.any (fun q => q.is r.slot r.counter) = false →
    s.pk.nhp.answered.find? (fun m => m.slot == r.slot && m.req == r.counter) = some m →
    Completes i s (fun t => LedgerKept s t ∧ OnlyAnswered r s.pk t.pk ∧ t.pk.log = s.pk.log ∧
      FieldsKept [(.sw, I_HST.TX), (.sw, HST_STATUS.QUEUE)] s.pk t.pk ∧
      Replies r m.opcode (.other m.status) m.payload t.pk)) ∧
  (∀ (r : Req) (b : List Nat) (env : Bool) (i : Instr) (op : Nat) (least : Nat) (s : State), asked s.pk r b env (i, op, least) = true →
    myTurn s.pk r = true →
    sessionOpen s.pk r.slot = true →
    stewardServes s.pk r.die = true →
    s.pk.nhp.later.any (fun q => q.is r.slot r.counter) = false →
    s.pk.nhp.answered.find? (fun m => m.slot == r.slot && m.req == r.counter) = none →
    rd s.pk .sw HST_STATUS.MGMT_BUSY = 1 →
    Completes i s (fun t => LedgerKept s t ∧ OnlyAnswered r s.pk t.pk ∧ t.pk.log = s.pk.log ∧
      FieldsKept [(.sw, I_HST.TX), (.sw, HST_BUSY_REPLIES.V), (.sw, HST_STATUS.QUEUE)] s.pk t.pk ∧
      rd t.pk .sw HST_BUSY_REPLIES.V = (rd s.pk .sw HST_BUSY_REPLIES.V + 1) % 2 ^ 32 ∧
        (t.pk.nhp.sent.getLast?).map (fun m => (m.slot, m.status, m.req)) = some (r.slot, Status.busy.code, r.counter))) ∧
  (∀ (r : Req) (b : List Nat) (env : Bool) (i : Instr) (op : Nat) (least : Nat) (s : State), asked s.pk r b env (i, op, least) = true →
    serves s.pk r op 0 b = true →
    rdI s.pk .sw HST_SLOT.ROLE r.slot < least →
    Completes i s (fun t => LedgerKept s t ∧ OnlyAnswered r s.pk t.pk ∧
      FieldsKept [(.sw, I_HST.TX), (.sw, I_HST.DENIED), (.sw, HST_EVENT.ROLE_DENIED), (.sw, I_DIE.SEQ), (.sw, HST_STATUS.QUEUE)] s.pk t.pk ∧
      rd t.pk .sw HST_EVENT.ROLE_DENIED = 1 ∧ rd t.pk .sw I_HST.DENIED = (rd s.pk .sw I_HST.DENIED + 1) % 2 ^ I_HST.DENIED.w ∧
        Replies r op .roleDenied [] t.pk)) ∧
  (∀ (r : Req) (b : List Nat) (env : Bool) (i : Instr) (op : Nat) (least : Nat) (s : State), asked s.pk r b env (i, op, least) = true →
    myTurn s.pk r = true →
    sessionOpen s.pk r.slot = true →
    stewardServes s.pk r.die = false →
    Completes i s (fun t => LedgerKept s t ∧ OnlyAnswered r s.pk t.pk ∧ t.pk.log = s.pk.log ∧
      FieldsKept [(r.die, I_HST.TX), (.sw, HST_STATUS.QUEUE)] s.pk t.pk ∧
      (t.pk.nhp.sent.getLast?).map (fun m => (m.die, m.slot, m.status, m.req)) = some (r.die.num, r.slot, Status.dieDown.code, r.counter)))

/-- R395, R396, R398 to R401, R403: sessions. The session ID is a free value (log entry on free values). -/
def Obligations.SessionsOpenCloseAndChangeTheirKeys : Prop :=
  (∀ (d : Die) (a port : Nat) (v6 : Bool) (b : List Nat) (s : State), running s.pk d = true →
    stewardServes s.pk d = true →
    b.take 3 = [0x4E, 0x48, 1] ∧ b.length = 88 ∧ leNat ((b.drop 22).take 2) = 24 ∧ leNat ((b.drop 6).take 2) = 1 ∧ leNat ((b.drop 16).take 4) = 0 ∧
      b.getD 4 0 < 8 →
    rdI s.pk .sw HST_SLOT.KEYED (b.getD 4 0) = 1 →
    b.drop 56 = hmacSha (keyBytes (rdI s.pk .sw I_HST.PSK (b.getD 4 0))) (b.take 56) →
    s.pk.nhp.answered.find? (fun m => m.slot == b.getD 4 0 && m.opcode == 1 && m.req == leNat ((b.drop 8).take 8) && rdI s.pk .sw I_HST.NONCE (b.getD 4 0) == leNat (((b.take 56).drop 32).take 16)) = none →
    rd s.pk .sw HST_STATUS.MGMT_BUSY = 0 →
    Completes (.openSession d ⟨a, port⟩ v6 b) s (fun t => LedgerKeptOutside [logRing] s t ∧ t.pk.settings = s.pk.settings ∧
      t.pk.layouts = s.pk.layouts ∧
      rdI t.pk .sw HST_SLOT.OPEN (b.getD 4 0) = 1 ∧
        rdI t.pk .sw HST_SESS.SESSION_ID (b.getD 4 0) = Config.sessionId (rd s.pk .sw I_PKG.FREE_COUNT) % 2 ^ 32 ∧
      rdI t.pk .sw HST_SESS.PEER_DIE (b.getD 4 0) = d.num ∧  rdI t.pk .sw HST_SESS.PEER_PORT (b.getD 4 0) = port % 2 ^ 16 ∧
        rd t.pk .sw HST_EVENT.SESSION_OPEN = 1 ∧
      (∀ y ∈ portsReached s.pk, (rdI t.pk y I_HST.OPEN (b.getD 4 0), rdI t.pk y I_HST.HIGH (b.getD 4 0), rdI t.pk y I_HST.PEER_ADDR (b.getD 4 0)) =
      (1, leNat (((b.take 56).drop 32).drop 16) % 2 ^ I_HST.HIGH.w, a % 2 ^ I_HST.PEER_ADDR.w)) ∧
      (t.pk.nhp.sent.getLast?).map (fun m => (m.slot, m.opcode, m.status, m.req)) = some (b.getD 4 0, 1, 0, leNat ((b.drop 8).take 8)))) ∧
  (∀ (d : Die) (a port : Nat) (v6 : Bool) (b : List Nat) (s : State), running s.pk d = true →
    stewardServes s.pk d = true →
    rdI s.pk .sw HST_SLOT.KEYED (b.getD 4 0) = 0 ∨ b.length ≠ 64 + leNat ((b.drop 22).take 2) ∨ 8 ≤ b.getD 4 0 ∨ b.take 3 ≠ [0x4E, 0x48, 1] ∨ leNat ((b.drop 6).take 2) ≠ 1 ∨ b.drop (32 + leNat ((b.drop 22).take 2)) ≠ hmacSha (keyBytes (rdI s.pk .sw I_HST.PSK (b.getD 4 0))) (b.take (32 + leNat ((b.drop 22).take 2))) →
    Completes (.openSession d ⟨a, port⟩ v6 b) s (fun t => LedgerKept s t ∧ OnlyRegsAndLog s.pk t.pk ∧
      FieldsKept [(.sw, HST_AUTH_FAIL.V), (.sw, HST_EVENT.AUTH_FAIL), (d, I_DIE.SEQ)] s.pk t.pk ∧
      rd t.pk .sw HST_AUTH_FAIL.V = (rd s.pk .sw HST_AUTH_FAIL.V + 1) % 2 ^ 32)) ∧
  (∀ (d : Die) (a port : Nat) (v6 : Bool) (b : List Nat) (s : State), running s.pk d = true →
    stewardServes s.pk d = true →
    b.take 3 = [0x4E, 0x48, 1] ∧ b.length = 88 ∧ leNat ((b.drop 22).take 2) = 24 ∧ leNat ((b.drop 6).take 2) = 1 ∧ leNat ((b.drop 16).take 4) = 0 ∧
      b.getD 4 0 < 8 →
    rdI s.pk .sw HST_SLOT.KEYED (b.getD 4 0) = 1 →
    b.drop 56 = hmacSha (keyBytes (rdI s.pk .sw I_HST.PSK (b.getD 4 0))) (b.take 56) →
    s.pk.nhp.answered.find? (fun m => m.slot == b.getD 4 0 && m.opcode == 1 && m.req == leNat ((b.drop 8).take 8) && rdI s.pk .sw I_HST.NONCE (b.getD 4 0) == leNat (((b.take 56).drop 32).take 16)) = none →
    rd s.pk .sw HST_STATUS.MGMT_BUSY = 1 →
    Completes (.openSession d ⟨a, port⟩ v6 b) s (fun t => LedgerKept s t ∧
      t.pk = { s.pk with regs := t.pk.regs, nhp := { s.pk.nhp with sent := t.pk.nhp.sent } } ∧
      FieldsKept [(.sw, I_HST.TX), (.sw, HST_BUSY_REPLIES.V)] s.pk t.pk ∧
      rd t.pk .sw HST_BUSY_REPLIES.V = (rd s.pk .sw HST_BUSY_REPLIES.V + 1) % 2 ^ 32 ∧
      (t.pk.nhp.sent.getLast?).map (fun m => (m.slot, m.opcode, m.status, m.req)) = some (b.getD 4 0, 1, Status.busy.code, leNat ((b.drop 8).take 8)))) ∧
  (∀ (d : Die) (a port : Nat) (v6 : Bool) (b : List Nat) (m : Msg) (s : State), running s.pk d = true →
    stewardServes s.pk d = true →
    b.take 3 = [0x4E, 0x48, 1] ∧ b.length = 88 ∧ leNat ((b.drop 22).take 2) = 24 ∧ leNat ((b.drop 6).take 2) = 1 ∧ leNat ((b.drop 16).take 4) = 0 ∧
      b.getD 4 0 < 8 →
    rdI s.pk .sw HST_SLOT.KEYED (b.getD 4 0) = 1 →
    b.drop 56 = hmacSha (keyBytes (rdI s.pk .sw I_HST.PSK (b.getD 4 0))) (b.take 56) →
    s.pk.nhp.answered.find? (fun m => m.slot == b.getD 4 0 && m.opcode == 1 && m.req == leNat ((b.drop 8).take 8) && rdI s.pk .sw I_HST.NONCE (b.getD 4 0) == leNat (((b.take 56).drop 32).take 16)) = some m →
    Completes (.openSession d ⟨a, port⟩ v6 b) s (fun t => LedgerKept s t ∧
      t.pk = { s.pk with regs := t.pk.regs, nhp := { s.pk.nhp with sent := t.pk.nhp.sent } } ∧ FieldsKept [(.sw, I_HST.TX)] s.pk t.pk ∧
      (t.pk.nhp.sent.getLast?).map (fun n => (n.slot, n.opcode, n.status, n.payload)) = some (b.getD 4 0, 1, m.status, m.payload))) ∧
  (∀ (d : Die) (a port : Nat) (v6 : Bool) (b : List Nat) (s : State), running s.pk d = false ∨ stewardServes s.pk d = false →
    ActsNot (.openSession d ⟨a, port⟩ v6 b) s) ∧
  (∀ (r : Req) (s : State), serves s.pk r 2 0 [] = true →
    Answers (.closeSession r []) s r 2 .ok [] (fun q => q.settings = s.pk.settings ∧ q.layouts = s.pk.layouts ∧ sessionOpen q r.slot = false ∧
      rdI q .sw HST_SLOT.OPEN r.slot = 0 ∧
      rd q .sw HST_EVENT.SESSION_CLOSE = 1 ∧ q.nhp.queue.any (fun u => u.slot == r.slot) = false ∧ q.tel.any (fun e => e.slot == r.slot) = false ∧
      (∀ x : Side, rd s.pk x.helm SP_STATUS.CMD_SLOT = r.slot → rd q x.helm SP_STATUS.CMD_SLOT = 15) ∧
      (rd s.pk .sw TXN_STATUS.STATE = 1 ∧ rd s.pk .sw TXN_STATUS.SLOT = r.slot → rd q .sw TXN_STATUS.STATE = 0 ∧ q.txn = Txn.none))) ∧
  (∀ (k : Nat) (s : State), running s.pk .sw = true →
    sessionOpen s.pk k = true →
    ∀ d ∈ [Die.pa, .pb], running s.pk d = false ∨ rdI s.pk d I_HST.LAST k + rd s.pk d I_HST.IDLE_S * 1000000000 ≤ now s.pk d →
    Completes (.sessionIdleTimeout k) s (fun t => LedgerKeptOutside [logRing] s t ∧ t.pk.settings = s.pk.settings ∧ t.pk.layouts = s.pk.layouts ∧
      sessionOpen t.pk k = false ∧
      rdI t.pk .sw HST_SLOT.OPEN k = 0 ∧ rd t.pk .sw HST_EVENT.SESSION_CLOSE = 1)) ∧
  (∀ (k : Nat) (s : State), (sessionOpen s.pk k = false ∧ rdI s.pk .sw HST_SLOT.OPEN k = 0) ∨ ∃ d ∈ [Die.pa, .pb], running s.pk d = true ∧
    now s.pk d < rdI s.pk d I_HST.LAST k + rd s.pk d I_HST.IDLE_S * 1000000000 →
    ActsNot (.sessionIdleTimeout k) s) ∧
  (∀ (k : Nat) (s : State), running s.pk .sw = false →
    sessionOpen s.pk k = true →
    ∀ d ∈ [Die.pa, .pb], running s.pk d = false ∨ rdI s.pk d I_HST.LAST k + rd s.pk d I_HST.IDLE_S * 1000000000 ≤ now s.pk d →
    Completes (.sessionIdleTimeout k) s (fun t => LedgerKept s t ∧ t.pk.settings = s.pk.settings ∧ t.pk.log = s.pk.log ∧
      sessionOpen t.pk k = false)) ∧
  (∀ (s : State), 
    Completes .sessionTimeExchange s (fun t => LedgerKept s t ∧ t.pk = { s.pk with regs := t.pk.regs } ∧
      DiesKept [.ha, .hb, .ga, .gb, .ld] s.pk t.pk ∧
      ∀ k ∈ List.range 8, (running s.pk .pa = true ∧ running s.pk .pb = true ∧ reaches s.pk .pa .pb = true →
      rdI t.pk .pa I_HST.LAST k = max (rdI s.pk .pa I_HST.LAST k) (rdI s.pk .pb I_HST.LAST k) % 2 ^ 64 ∧
        rdI t.pk .pb I_HST.LAST k = rdI t.pk .pa I_HST.LAST k))) ∧
  (∀ (r : Req) (b : List Nat) (s : State), serves s.pk r 0x0230 3 b = true →
    ledgerUp s.pk = true →
    b.length = 36 ∧ b.getD 0 0 < 8 ∧ b.getD 1 0 < 4 ∧ b.getD 0 0 ≠ r.slot →
    Answers (.keySet (some r) b) s r 0x0230 .ok [] (fun q => q.settings = s.pk.settings ∧ q.layouts = s.pk.layouts ∧
      rdI q .sw HST_SLOT.KEYED (b.getD 0 0) = 1 ∧
      rdI q .sw HST_SLOT.ROLE (b.getD 0 0) = b.getD 1 0 ∧ rdI q .sw HST_SLOT.KEY_ID (b.getD 0 0) = leNat ((b.drop 2).take 2) % 2 ^ 16 ∧
      rdI q .sw I_HST.PSK (b.getD 0 0) = Nat.xor (leNat ((b.drop 4).take 32)) (leNat (hmacSha (keyBytes (rdI s.pk .sw I_HST.KEY r.slot)) [0x4B, 0x45, 0x59, 0x57, 0x52, 0x41, 0x50, b.getD 0 0])) % 2 ^ 256 ∧
      sessionOpen q (b.getD 0 0) = false ∧ rd q .sw HST_EVENT.KEY_CHANGED = 1)) ∧
  (∀ (r : Req) (b : List Nat) (s : State), serves s.pk r 0x0230 3 b = true →
    ledgerUp s.pk = true →
    b.length = 36 ∧ b.getD 0 0 < 8 ∧ b.getD 1 0 < 4 ∧ b.getD 0 0 = r.slot →
    Completes (.keySet (some r) b) s (fun t => LedgerKeptOutside [logRing] s t ∧ t.pk.settings = s.pk.settings ∧ t.pk.layouts = s.pk.layouts ∧
      rdI t.pk .sw HST_SLOT.KEYED r.slot = 1 ∧
      rdI t.pk .sw HST_SLOT.ROLE r.slot = b.getD 1 0 ∧ rdI t.pk .sw HST_SLOT.KEY_ID r.slot = leNat ((b.drop 2).take 2) % 2 ^ 16 ∧
        sessionOpen t.pk r.slot = false ∧ rd t.pk .sw HST_EVENT.KEY_CHANGED = 1 ∧
      (t.pk.nhp.sent.getLast?).map (fun m => (m.slot, m.opcode, m.status, m.req)) = some (r.slot, 0x0230, 0, r.counter))) ∧
  (∀ (b : List Nat) (s : State), running s.pk .sw = true →
    ledgerUp s.pk = true →
    rdI s.pk .sw HST_SLOT.KEYED 0 = 0 →
    b.length = 36 ∧ b.getD 0 0 = 0 ∧ b.getD 1 0 < 4 →
    Completes (.keySet none b) s (fun t => LedgerKeptOutside [logRing] s t ∧ rdI t.pk .sw HST_SLOT.KEYED 0 = 1 ∧
      rdI t.pk .sw HST_SLOT.ROLE 0 = b.getD 1 0 ∧
      rdI t.pk .sw I_HST.PSK 0 = leNat ((b.drop 4).take 32) % 2 ^ 256)) ∧
  (∀ (b : List Nat) (s : State), rdI s.pk .sw HST_SLOT.KEYED 0 = 1 ∨ b.length ≠ 36 ∨ ledgerUp s.pk = false →
    ActsNot (.keySet none b) s) ∧
  (∀ (y : Side) (k : Nat) (s : State), running s.pk y.port = true →
    Completes (.moreTimeout y k) s (fun t => LedgerKept s t ∧
      t.pk = { s.pk with regs := t.pk.regs, nhp := { s.pk.nhp with parts := t.pk.nhp.parts, sent := t.pk.nhp.sent } } ∧
      FieldsKept [(y.port, I_HST.TX)] s.pk t.pk ∧
      t.pk.nhp.parts.any (fun x => x.req.die == y.port.num && x.req.slot == k && decide (x.at' + 100000000 ≤ now s.pk y.port)) = false ∧
      t.pk.nhp.parts.filter (fun x => !(x.req.die == y.port.num && x.req.slot == k)) = s.pk.nhp.parts.filter (fun x => !(x.req.die == y.port.num && x.req.slot == k)))) ∧
  (∀ (y : Side) (k : Nat) (n : Nat) (s : State), running s.pk y.port = true →
    rdI s.pk y.port I_HST.OPEN k = 1 →
    k < 8 →
    Completes (.keepalive y k n) s (fun t => LedgerKept s t ∧ t.pk = { s.pk with regs := t.pk.regs, nhp := { s.pk.nhp with sent := t.pk.nhp.sent } } ∧
      FieldsKept [(y.port, I_HST.TX)] s.pk t.pk ∧
      t.pk.nhp.sent.length = s.pk.nhp.sent.length + 1 ∧
        (t.pk.nhp.sent.getLast?).map (fun m => (m.die, m.slot, m.opcode, m.status, m.req)) = some (y.port.num, k, 3, 0, n))) ∧
  (∀ (y : Side) (k : Nat) (n : Nat) (s : State), running s.pk y.port = false →
    ActsNot (.keepalive y k n) s ∧ ActsNot (.moreTimeout y k) s)

/-- R20, R23, R66, R76, R78, R388, R389, R403, R422, R423: the requests of a host to registers, lanes and clocks. -/
def Obligations.HostReadsWritesAndLaneRequestsAreServed : Prop :=
  (∀ (r : Req) (s : State), serves s.pk r 4 0 [] = true →
    Completes (.ident r []) s (fun t => LedgerKeptOutside [logRing] s t ∧ t.pk.lanes = s.pk.lanes ∧ t.pk.settings = s.pk.settings ∧
      (t.pk.nhp.sent.getLast?).map (fun m => (m.opcode, m.status, m.req)) = some (4, 0, r.counter) ∧
      (t.pk.nhp.sent.getLast?).map (fun m => (m.payload.take 15, m.payload.length)) = some ([0x58, 0x4E, 0x38, 0x2D, 0x41, 0x30, 0x2D, 0x42, 0x47, 0x31, 0x36, 0x38, 0x31, 0x2D, 0x45], 65))) ∧
  (∀ (r : Req) (b : List Nat) (addr : Nat) (d : Die) (off : Nat) (v : Nat) (s : State), serves s.pk r 0x0200 0 b = true →
    b = leBytes 4 addr ++ [1, 0] →
    addr / 2 ^ 28 < 8 →
    resolve s.pk addr = .at' d off →
    stewardReaches s.pk d = true →
    s.pk.nhp.latched.find? (fun x => x.slot == r.slot && x.addr == addr) = none →
    readAt s.pk d off = some v →
    off / 0x10000 ≠ 4 →
    Answers (.readWords r b) s r 0x0200 .ok (leBytes 4 v) (fun q => q.lanes = s.pk.lanes ∧ q.settings = s.pk.settings)) ∧
  (∀ (r : Req) (b : List Nat) (env : Bool) (s : State), serves s.pk r 0x0200 0 b = true →
    b.length ≠ 6 →
    Answers (.readWords r b) s r 0x0200 .malformed [] (fun q => q.lanes = s.pk.lanes ∧ q.settings = s.pk.settings) ∧
      (b.length ≠ 8 ∧ 2 ≤ rdI s.pk .sw HST_SLOT.ROLE r.slot ∧ rd s.pk .sw STW_STATUS.ROM_SERVICE = 0 →
        Answers (.writeWord r b env) s r 0x0201 .malformed [] (fun q => q.lanes = s.pk.lanes ∧ q.settings = s.pk.settings))) ∧
  (∀ (r : Req) (b : List Nat) (env : Bool) (addr : Nat) (word : Nat) (d : Die) (off : Nat) (h : RegRow × Nat × Nat) (s : State), serves s.pk r 0x0201 2 b = true →
    auditFull s.pk = false →
    b = leBytes 4 addr ++ leBytes 4 word →
    addr < 2 ^ 32 ∧ word < 2 ^ 32 →
    resolve s.pk addr = .at' d off →
    stewardReaches s.pk d = true →
    running s.pk d = true →
    heldFrom d off word s.pk = false →
    wordAt d off = some h →
    (directPair h).isSome = false →
    writeSpecial (.host r.slot) env d h.2.1 h.2.2 word s.pk = none →
    ∀ F ∈ wordFlds h, F.acc = .w1c →
    Answers (.writeWord r b env) s r 0x0201 .ok [] (fun q => (d ≠ .sw →
      ∀ F ∈ wordFlds h, rdI q d F h.2.1 = Nat.xor (rdI s.pk d F h.2.1) (Nat.land (rdI s.pk d F h.2.1) (F.merge h.2.2 0 word)) % 2 ^ F.w) ∧
      q.lanes = s.pk.lanes ∧ q.settings = s.pk.settings)) ∧
  (∀ (r : Req) (s : State), serves s.pk r 0x0220 2 [] = true →
    activeLane s.pk = none →
    Answers (.swap r []) s r 0x0220 .laneNone [] (fun q => q.lanes = s.pk.lanes ∧ q.settings = s.pk.settings) ∧
      Answers (.drill r []) s r 0x0221 .laneNone [] (fun q => q.lanes = s.pk.lanes ∧ q.settings = s.pk.settings) ∧
      Answers (.drillAbort r []) s r 0x0222 .laneNone [] (fun q => q.lanes = s.pk.lanes ∧ q.settings = s.pk.settings)) ∧
  (∀ (r : Req) (x : Side) (s : State), serves s.pk r 0x0220 1 [] = true →
    activeLane s.pk = some x →
    stewardReaches s.pk x.helm = true →
    swapAnswer s.pk x 7 = .accepted →
    Answers (.swap r []) s r 0x0220 .ok [] (fun q => q.lanes = s.pk.lanes ∧ q.settings = s.pk.settings ∧ rd q x.helm I_LANE.SWAP_CAUSE = 7 ∧
      rd q x.helm I_LANE.SWAP_ACCEPTED = now s.pk x.helm % 2 ^ 64)) ∧
  (∀ (r : Req) (x : Side) (s : State), serves s.pk r 0x0220 1 [] = true →
    activeLane s.pk = some x →
    stewardReaches s.pk x.helm = true →
    swapAnswer s.pk x 7 ≠ .accepted →
    Answers (.swap r []) s r 0x0220 (if drillInProgress s.pk then .resourceHeld else if swapPending s.pk then .swapPending else .standbyNotReady) [] (fun q => q.lanes = s.pk.lanes ∧ q.settings = s.pk.settings ∧
      rd q x.helm I_LANE.SWAP_CAUSE = rd s.pk x.helm I_LANE.SWAP_CAUSE ∧ rd q x.helm HG_EVENT.SWAP_REFUSED = 1)) ∧
  (∀ (r : Req) (x : Side) (s : State), serves s.pk r 0x0221 2 [] = true →
    activeLane s.pk = some x →
    stewardReaches s.pk x.helm = true →
    drillMayStart s.pk x = true →
    Answers (.drill r []) s r 0x0221 .ok [] (fun q => q.lanes = s.pk.lanes ∧ q.settings = s.pk.settings ∧ rd q .sw I_PKG.DRILL_PHASE = 1 ∧
      rd q .sw I_PKG.DRILLED_B = x.other.num ∧
      rd q x.helm I_LANE.SWAP_CAUSE = 9 ∧ rd q .ha HG_STATUS.DRILL_ACTIVE = 1 ∧ rd q .hb HG_STATUS.DRILL_ACTIVE = 1)) ∧
  (∀ (r : Req) (x : Side) (s : State), serves s.pk r 0x0221 2 [] = true →
    activeLane s.pk = some x →
    stewardReaches s.pk x.helm = true →
    drillMayStart s.pk x = false →
    Answers (.drill r []) s r 0x0221 .drillRefused [] (fun q => q.lanes = s.pk.lanes ∧ q.settings = s.pk.settings ∧
      rd q .sw I_PKG.DRILL_PHASE = rd s.pk .sw I_PKG.DRILL_PHASE ∧
      rd q x.helm I_LANE.SWAP_CAUSE = rd s.pk x.helm I_LANE.SWAP_CAUSE)) ∧
  (∀ (r : Req) (x : Side) (s : State), serves s.pk r 0x0222 2 [] = true →
    activeLane s.pk = some x →
    stewardReaches s.pk x.helm = true →
    rd s.pk .sw I_PKG.DRILL_PHASE = 1 →
    drillOut s.pk = false →
    Answers (.drillAbort r []) s r 0x0222 .ok [] (fun q => q.lanes = s.pk.lanes ∧ q.settings = s.pk.settings ∧ rd q .sw I_PKG.DRILL_PHASE = 0 ∧
      rd q .sw I_PKG.DRILL_VERDICT = 3 ∧
      rd q (drilledLane s.pk).other.helm I_LANE.SWAP_CAUSE = 0 ∧ rd q .ha HG_STATUS.DRILL_ACTIVE = 0 ∧ rd q .hb HG_STATUS.DRILL_ACTIVE = 0)) ∧
  (∀ (r : Req) (x : Side) (s : State), serves s.pk r 0x0221 2 [] = true →
    activeLane s.pk = some x →
    stewardReaches s.pk x.helm = true →
    drillInProgress s.pk = false →
    Answers (.drillAbort r []) s r 0x0222 .ok [] (fun q => q.lanes = s.pk.lanes ∧ q.settings = s.pk.settings ∧
      FieldsKept [(.sw, I_HST.TX), (.sw, HST_STATUS.QUEUE)] s.pk q)) ∧
  (∀ (r : Req) (x : Side) (s : State), serves s.pk r 0x0222 2 [] = true →
    activeLane s.pk = some x →
    stewardReaches s.pk x.helm = true →
    rd s.pk .sw I_PKG.DRILL_PHASE = 2 →
    Answers (.drillAbort r []) s r 0x0222 .ok [] (fun q => q.lanes = s.pk.lanes ∧ q.settings = s.pk.settings ∧ rd q .sw I_PKG.DRILL_PHASE = 3 ∧
      rd q .sw I_PKG.DRILL_VERDICT = 3 ∧
      rd q (drilledLane s.pk).helm I_LANE.SWAP_CAUSE = 10)) ∧
  (∀ (r : Req) (b : List Nat) (d : Die) (s : State), serves s.pk r 0x0223 3 b = true →
    b = [d.num, 0] →
    stewardReaches s.pk d = true →
    running s.pk d = true →
    rd s.pk d CLK_STATUS.SOURCE = 2 →
    Answers (.clkMove r b) s r 0x0223 .ok [] (fun q => q.lanes = s.pk.lanes ∧ q.settings = s.pk.settings ∧
      (if moveReady s.pk d = true then rd q d CLK_STATUS.MOVE_BUSY = 1 ∧ rd q d I_CLK.TO_HOME = 0 else rd q d I_CLK.PENDING = 1))) ∧
  (∀ (r : Req) (b : List Nat) (d : Die) (s : State), serves s.pk r 0x0223 3 b = true →
    b = [d.num, 0] →
    stewardReaches s.pk d = true →
    running s.pk d = true →
    rd s.pk d CLK_STATUS.SOURCE ≠ 2 →
    Answers (.clkMove r b) s r 0x0223 .resourceHeld [] (fun q => q.lanes = s.pk.lanes ∧ q.settings = s.pk.settings ∧
      rd q d CLK_EVENT.MOVE_REFUSED = 1 ∧ rd q d CLK_STATUS.SOURCE = rd s.pk d CLK_STATUS.SOURCE)) ∧
  (∀ (r : Req) (b : List Nat) (d : Die) (s : State), serves s.pk r 0x0223 3 b = true →
    b = [d.num, 1] →
    stewardReaches s.pk d = true →
    running s.pk d = true →
    mayMoveHome s.pk d = true →
    Answers (.clkMove r b) s r 0x0223 .ok [] (fun q => q.settings = s.pk.settings ∧ rd q d CLK_STATUS.SOURCE = 2 ∧ rd q d I_CLK.TO_HOME = 1 ∧
      rd q d CLK_STATUS.MOVE_BUSY = 1)) ∧
  (∀ (r : Req) (b : List Nat) (d : Die) (s : State), serves s.pk r 0x0223 3 b = true →
    b = [d.num, 1] →
    stewardReaches s.pk d = true →
    running s.pk d = true →
    mayMoveHome s.pk d = false →
    Answers (.clkMove r b) s r 0x0223 .resourceHeld [] (fun q => q.settings = s.pk.settings ∧ rd q d CLK_EVENT.MOVE_REFUSED = 1 ∧
      rd q d CLK_STATUS.SOURCE = rd s.pk d CLK_STATUS.SOURCE))

/-- R275, R277, R406, R411, R412: transfers out of the device, and the space of the flumes. -/
def Obligations.TransfersAndFlumeSpaceRunTheirCourse : Prop :=
  (∀ (r : Req) (y : Side) (b : List Nat) (c : Capture) (s : State), serves s.pk r 0x0240 2 b = true →
    commitWaits s.pk = false →
    b = [y.bb.num] →
    stewardReaches s.pk y.bb = true →
    (s.pk.bbs.get y).capture = some c →
    rd s.pk y.bb GNS_SNAP_STATUS.SNAP_STATE = 3 →
    xferOf s.pk r.slot = none →
    Answers (.snapExport r b) s r 0x0240 .ok [] (fun q => rd q y.bb GNS_SNAP_STATUS.EXPORTING = 1 ∧ rd q .sw HST_STATUS.MGMT_BUSY = 1 ∧
      rd q .sw HST_STATUS.BUSY_OP = 4 ∧ rd q .sw I_HST.BUSY_SLOT = r.slot ∧
      (xferOf q r.slot).map (fun x => (x.op, x.cap, x.bytes, x.acked)) = some (4, some y.num, c.bytes y.bb.num, 0) ∧ q.lanes = s.pk.lanes ∧
        q.bbs = s.pk.bbs)) ∧
  (∀ (r : Req) (b : List Nat) (s : State), commitWaits s.pk = true →
    ActsNot (.snapExport r b) s) ∧
  (∀ (r : Req) (off : Nat) (x : Xfer) (s : State), sessionOpen s.pk r.slot = true →
    stewardServes s.pk r.die = true →
    rd s.pk .sw HST_STATUS.MGMT_BUSY = 0 ∨ rd s.pk .sw I_HST.BUSY_SLOT = r.slot →
    myTurn s.pk r = true →
    xferOf s.pk r.slot = some x →
    x.acked < off →
    off ≤ x.sent →
    off < x.bytes.length →
    off < 2 ^ 32 →
    Completes (.dataAck r (leBytes 4 off)) s (fun t => LedgerKept s t ∧
      t.pk = { s.pk with regs := t.pk.regs, nhp := { s.pk.nhp with sent := t.pk.nhp.sent, queue := s.pk.nhp.queue.filter (fun u => !(u.from' r)) }, xfers := t.pk.xfers } ∧
      FieldsKept [(.sw, I_HST.TX), (.sw, HST_STATUS.PROGRESS), (.sw, HST_STATUS.QUEUE)] s.pk t.pk ∧
      (xferOf t.pk r.slot).map (fun y => (y.acked, y.bytes, y.ackAt)) = some (off, x.bytes, now s.pk .sw))) ∧
  (∀ (r : Req) (x : Xfer) (s : State), sessionOpen s.pk r.slot = true →
    stewardServes s.pk r.die = true →
    rd s.pk .sw HST_STATUS.MGMT_BUSY = 0 ∨ rd s.pk .sw I_HST.BUSY_SLOT = r.slot →
    myTurn s.pk r = true →
    xferOf s.pk r.slot = some x →
    x.acked < x.bytes.length →
    x.sent = x.bytes.length →
    x.bytes.length < 2 ^ 32 →
    Completes (.dataAck r (leBytes 4 x.bytes.length)) s (fun t => LedgerKept s t ∧ xferOf t.pk r.slot = none ∧ t.pk.lanes = s.pk.lanes ∧
      t.pk.nhp.sent = s.pk.nhp.sent ∧
      (∀ y ∈ [Side.a, .b], x.cap = some y.num ∧ rd s.pk y.bb GNS_SNAP_STATUS.EXPORTING = 1 → rd t.pk y.bb GNS_SNAP_STATUS.EXPORTING = 0 ∧
        rd t.pk y.bb GNS_SNAP_STATUS.SNAP_STATE = 0 ∧ (t.pk.bbs.get y).capture = none))) ∧
  (∀ (k : Nat) (x : Xfer) (s : State), running s.pk .sw = true →
    xferOf s.pk k = some x →
    x.ackAt + 1000000000 ≤ now s.pk .sw →
    Completes (.dataResend k) s (fun t => LedgerKept s t ∧
      t.pk = { s.pk with regs := t.pk.regs, nhp := { s.pk.nhp with sent := t.pk.nhp.sent }, xfers := t.pk.xfers } ∧
      FieldsKept [(.sw, I_HST.TX)] s.pk t.pk ∧
      (xferOf t.pk k).map (fun y => (y.acked, y.bytes, y.ackAt, y.progAt)) = some (x.acked, x.bytes, now s.pk .sw, x.progAt) ∧
      (x.acked < x.bytes.length ∧ x.acked < 2 ^ 32 →
        (t.pk.nhp.sent[s.pk.nhp.sent.length]?).map (fun m => (m.slot, m.payload.take 4)) = some (x.slot, leBytes 4 x.acked)))) ∧
  (∀ (k : Nat) (x : Xfer) (s : State), running s.pk .sw = true →
    xferOf s.pk k = some x →
    x.progAt + 10000000000 ≤ now s.pk .sw →
    Completes (.dataTransferFail k) s (fun t => LedgerKept s t ∧
      t.pk = { s.pk with regs := t.pk.regs, log := s.pk.log.set .sw (t.pk.log.get .sw), xfers := s.pk.xfers.filter (fun y => y.slot != x.slot) } ∧
      t.pk.bbs = s.pk.bbs)) ∧
  (∀ (k : Nat) (s : State), xferOf s.pk k = none ∨ running s.pk .sw = false →
    ActsNot (.dataResend k) s ∧ ActsNot (.dataTransferFail k) s) ∧
  (∀ (x : Side) (s : State), running s.pk x.helm = true →
    rd s.pk x.helm I_LANE.LAYOUT_APPLIED = 1 →
    rd s.pk x.helm I_TIME.BOUND_AT + 1000000 ≤ now s.pk x.helm →
    Completes (.flumeSpaceReturn x) s (fun t => LedgerKept s t ∧
      t.pk = { s.pk with lanes := s.pk.lanes.set x { s.pk.lanes.get x with flume := (s.pk.lanes.get x).flume.filter (fun e => decide (rd s.pk x.helm I_TIME.BOUND_AT < e.cmd.stamp)) } })) ∧
  (∀ (x : Side) (s : State), running s.pk x.helm = true →
    rd s.pk x.helm I_LANE.LAYOUT_APPLIED = 1 →
    now s.pk x.helm < rd s.pk x.helm I_TIME.BOUND_AT + 1000000 →
    ∀ e ∈ (s.pk.lanes.get x).flume, 0 < e.cmd.stamp →
    ActsNot (.flumeSpaceReturn x) s) ∧
  (∀ (x : Side) (s : State), running s.pk x.helm = true →
    rd s.pk x.helm I_LANE.LAYOUT_APPLIED = 0 →
    Completes (.flumeSpaceReturn x) s (fun t => LedgerKept s t ∧
      t.pk = { s.pk with lanes := s.pk.lanes.set x { s.pk.lanes.get x with flume := (s.pk.lanes.get x).flume.filter (fun e => decide (((now s.pk x.helm - 1000000) / (max 1 (cycleMs s.pk x) * 1000000) * (max 1 (cycleMs s.pk x) * 1000000)) < e.cmd.stamp)) } })) ∧
  (∀ (x : Side) (s : State), running s.pk x.helm = false →
    ActsNot (.flumeSpaceReturn x) s)

/-- R413, R414, R416: transactions before their commit. -/
def Obligations.TransactionsStageAndEnd : Prop :=
  (∀ (r : Req) (s : State), serves s.pk r 0x0210 1 [] = true →
    rd s.pk .sw TXN_STATUS.STATE = 0 →
    Answers (.txnBegin r []) s r 0x0210 .ok (leBytes 4 ((rd s.pk .sw TXN_ID.ID + 1) % 2 ^ 32)) (fun q => rd q .sw TXN_STATUS.STATE = 1 ∧
      rd q .sw TXN_STATUS.SLOT = r.slot ∧ rd q .sw TXN_STATUS.STAGED = 0 ∧
      rd q .sw TXN_ID.ID = (rd s.pk .sw TXN_ID.ID + 1) % 2 ^ 32 ∧ q.txn = Txn.none ∧ q.settings = s.pk.settings ∧ q.lanes = s.pk.lanes ∧
        DiesKept [.ha, .hb, .ga, .gb, .ld] s.pk q)) ∧
  (∀ (r : Req) (b : List Nat) (s : State), serves s.pk r 0x0211 1 b = true →
    rd s.pk .sw TXN_STATUS.STATE = 1 →
    rd s.pk .sw TXN_STATUS.SLOT = r.slot →
    b.length = 8 →
    (txWord (canonAddr (leNat (b.take 4)))).isSome = true →
    txRole (canonAddr (leNat (b.take 4)) % 2 ^ 28) ≤ rdI s.pk .sw HST_SLOT.ROLE r.slot →
    (recPut (canonAddr (leNat (b.take 4))) (leNat (b.drop 4)) s.pk.txn.staged).length ≤ 1024 →
    Answers (.txnWrite r b) s r 0x0211 .ok [] (fun q => q.txn = { s.pk.txn with staged := recPut (canonAddr (leNat (b.take 4))) (leNat (b.drop 4)) s.pk.txn.staged } ∧
      rd q .sw TXN_STATUS.STAGED = (recPut (canonAddr (leNat (b.take 4))) (leNat (b.drop 4)) s.pk.txn.staged).length % 2 ^ TXN_STATUS.STAGED.w ∧
      rd q .sw TXN_STATUS.STATE = 1 ∧ q.settings = s.pk.settings ∧ q.lanes = s.pk.lanes ∧ DiesKept [.ha, .hb, .ga, .gb, .ld] s.pk q)) ∧
  (∀ (r : Req) (b : List Nat) (s : State), serves s.pk r 0x0211 1 b = true →
    rd s.pk .sw TXN_STATUS.STATE = 1 →
    rd s.pk .sw TXN_STATUS.SLOT = r.slot →
    b.length = 8 →
    txWord (canonAddr (leNat (b.take 4))) = none →
    Answers (.txnWrite r b) s r 0x0211 .txnNotTx [] (fun q => q.txn = s.pk.txn ∧ q.settings = s.pk.settings ∧ q.lanes = s.pk.lanes)) ∧
  (∀ (r : Req) (b : List Nat) (s : State), serves s.pk r 0x0211 1 b = true →
    rd s.pk .sw TXN_STATUS.STATE = 1 →
    rd s.pk .sw TXN_STATUS.SLOT = r.slot →
    b.length = 8 →
    (txWord (canonAddr (leNat (b.take 4)))).isSome = true →
    txRole (canonAddr (leNat (b.take 4)) % 2 ^ 28) ≤ rdI s.pk .sw HST_SLOT.ROLE r.slot →
    1024 < (recPut (canonAddr (leNat (b.take 4))) (leNat (b.drop 4)) s.pk.txn.staged).length →
    Answers (.txnWrite r b) s r 0x0211 .txnFull [] (fun q => q.txn = s.pk.txn ∧ q.settings = s.pk.settings ∧ q.lanes = s.pk.lanes)) ∧
  (∀ (r : Req) (b : List Nat) (i : Instr) (op : Nat) (s : State), (i, op) ∈ [(Instr.txnBegin r b, 0x0210), (.txnWrite r b, 0x0211),
    (.txnCommit r b, 0x0212), (.txnAbort r b, 0x0213)] →
    serves s.pk r op 1 b = true →
    (rd s.pk .sw TXN_STATUS.STATE = 1 ∧ rd s.pk .sw TXN_STATUS.SLOT ≠ r.slot) ∨ rd s.pk .sw TXN_STATUS.STATE = 2 →
    Answers i s r op .txnHeld [] (fun q => q.txn = s.pk.txn ∧ rd q .sw TXN_STATUS.STATE = rd s.pk .sw TXN_STATUS.STATE ∧ rd q .sw TXN_EVENT.HELD = 1 ∧
      q.settings = s.pk.settings ∧ q.lanes = s.pk.lanes)) ∧
  (∀ (s : State), running s.pk .sw = true →
    rd s.pk .sw TXN_STATUS.STATE = 1 →
    lytInProgress s.pk = false →
    rd s.pk .sw I_TXN.AT + rd s.pk .sw TXN_CFG.TXN_IDLE * 1000000000 ≤ now s.pk .sw →
    Completes .txnExpired s (fun t => LedgerKept s t ∧
      t.pk = { s.pk with regs := t.pk.regs, log := s.pk.log.set .sw (t.pk.log.get .sw), txn := Txn.none } ∧ OtherDiesKept .sw s.pk t.pk ∧
      rd t.pk .sw TXN_STATUS.STATE = 0 ∧ rd t.pk .sw TXN_EXPIRES.V = (rd s.pk .sw TXN_EXPIRES.V + 1) % 2 ^ 32 ∧ rd t.pk .sw TXN_EVENT.EXPIRED = 1)) ∧
  (∀ (s : State), rd s.pk .sw TXN_STATUS.STATE ≠ 1 ∨ lytInProgress s.pk = true ∨ now s.pk .sw < rd s.pk .sw I_TXN.AT + rd s.pk .sw TXN_CFG.TXN_IDLE * 1000000000 →
    ActsNot .txnExpired s)

/-- R417 to R421, R424, R434: the commit. Which free order two effects of one instant take is the model's choice (log entry on the commit).
-/
def Obligations.CommitsApplyAtTheirBoundaryOrNotAtAll : Prop :=
  (∀ (r : Req) (s : State), serves s.pk r 0x0212 1 [] = true →
    rd s.pk .sw TXN_STATUS.STATE = 1 →
    rd s.pk .sw TXN_STATUS.SLOT = r.slot →
    lytInProgress s.pk = false →
    ledgerUp s.pk = true →
    firstFail s.pk r.slot (decide (boundaryFrom s.pk (now s.pk .sw + 10000000) ≤ now s.pk .sw + cycleNs s.pk)) s.pk.txn.staged = none →
    Completes (.txnCommit r []) s (fun t => LedgerKeptOutside [logRing] s t ∧ t.pk.lanes = s.pk.lanes ∧ t.pk.txn.staged = s.pk.txn.staged ∧
      t.pk.txn.ordered = false ∧
      t.pk.txn.req = some ⟨r.die.num, r.slot, r.counter, 0x0212, []⟩ ∧ rd t.pk .sw TXN_STATUS.STATE = 2 ∧
      rd t.pk .sw I_TXN.B = boundaryFrom s.pk (now s.pk .sw + 10000000) % 2 ^ I_TXN.B.w ∧ (t.pk.settings.a.state = 0 ∨ t.pk.settings.b.state = 0) ∧
      (rd t.pk .sw LOG_NEXT.NEXT + 2 ^ 32 - rd s.pk .sw LOG_NEXT.NEXT) % 2 ^ 32 = (s.pk.txn.staged.length + (s.pk.log.get .sw).hold.length) % 2 ^ 32)) ∧
  (∀ (r : Req) (f : Nat × Nat) (s : State), serves s.pk r 0x0212 1 [] = true →
    rd s.pk .sw TXN_STATUS.STATE = 1 →
    rd s.pk .sw TXN_STATUS.SLOT = r.slot →
    lytInProgress s.pk = false →
    ledgerUp s.pk = true →
    firstFail s.pk r.slot (decide (boundaryFrom s.pk (now s.pk .sw + 10000000) ≤ now s.pk .sw + cycleNs s.pk)) s.pk.txn.staged = some f →
    Answers (.txnCommit r []) s r 0x0212 .txnInvalid [] (fun q => rd q .sw TXN_STATUS.STATE = 0 ∧ q.txn = Txn.none ∧
      rd q .sw TXN_FAIL.ADDRESS = f.1 % 2 ^ 32 ∧ rd q .sw TXN_FAIL_REASON.REASON = f.2 % 2 ^ TXN_FAIL_REASON.REASON.w ∧
      rd q .sw TXN_REJECTS.V = (rd s.pk .sw TXN_REJECTS.V + 1) % 2 ^ 32 ∧ rd q .sw TXN_EVENT.REJECTED = 1 ∧ q.settings = s.pk.settings ∧
        q.lanes = s.pk.lanes ∧ DiesKept [.ha, .hb, .ga, .gb, .ld] s.pk q)) ∧
  (∀ (r : Req) (s : State), serves s.pk r 0x0212 1 [] = true →
    rd s.pk .sw TXN_STATUS.STATE = 1 →
    rd s.pk .sw TXN_STATUS.SLOT = r.slot →
    ledgerUp s.pk = false ∨ lytInProgress s.pk = true →
    Answers (.txnCommit r []) s r 0x0212 (if lytInProgress s.pk then .other 0x31 else .storeDown) [] (fun q => q.txn = s.pk.txn ∧
      q.settings = s.pk.settings ∧ q.lanes = s.pk.lanes ∧ rd q .sw TXN_STATUS.STATE = 1)) ∧
  (∀ (late : Bool) (s : State), running s.pk .sw = true →
    rd s.pk .sw TXN_STATUS.STATE = 2 →
    s.pk.txn.ordered = false →
    rd s.pk .sw I_TXN.B ≤ now s.pk .sw + 1000000 →
    s.pk.txn.staged.find? (fun e => !(modeOk s.pk e.1 e.2)) = none →
    (late || concernedLost s.pk || !(ledgerUp s.pk)) = false →
    Completes (.txnAckDeadline late) s (fun t => LedgerKept s t ∧ t.pk.txn = { s.pk.txn with ordered := true } ∧
      t.pk = { s.pk with regs := t.pk.regs, txn := t.pk.txn, settings := t.pk.settings } ∧
      (∀ x : Side, (t.pk.settings.get x) = (if (s.pk.settings.get x).state = 0 then { s.pk.settings.get x with state := 1 } else s.pk.settings.get x)) ∧ FieldsKept [(.sw, LYT_GENERATION.GEN)] s.pk t.pk)) ∧
  (∀ (late : Bool) (s : State), running s.pk .sw = true →
    rd s.pk .sw TXN_STATUS.STATE = 2 →
    s.pk.txn.ordered = false →
    rd s.pk .sw I_TXN.B ≤ now s.pk .sw + 1000000 →
    s.pk.txn.staged.find? (fun e => !(modeOk s.pk e.1 e.2)) = none →
    (late || concernedLost s.pk || !(ledgerUp s.pk)) = true →
    rd s.pk .sw I_TXN.MOVES < 4 →
    Completes (.txnAckDeadline late) s (fun t => LedgerKept s t ∧ OnlyRegsAndLog s.pk t.pk ∧ OtherDiesKept .sw s.pk t.pk ∧
      rd t.pk .sw I_TXN.MOVES = rd s.pk .sw I_TXN.MOVES + 1 ∧
      rd t.pk .sw I_TXN.B = (rd s.pk .sw I_TXN.B + cycleNs s.pk) % 2 ^ I_TXN.B.w ∧ rd t.pk .sw TXN_EVENT.POSTPONED = 1 ∧
        rd t.pk .sw TXN_STATUS.STATE = 2)) ∧
  (∀ (late : Bool) (s : State), running s.pk .sw = true →
    rd s.pk .sw TXN_STATUS.STATE = 2 →
    s.pk.txn.ordered = false →
    rd s.pk .sw I_TXN.B ≤ now s.pk .sw + 1000000 →
    s.pk.txn.staged.find? (fun e => !(modeOk s.pk e.1 e.2)) = none →
    (late || concernedLost s.pk || !(ledgerUp s.pk)) = true →
    4 ≤ rd s.pk .sw I_TXN.MOVES →
    Completes (.txnAckDeadline late) s (fun t => LedgerKept s t ∧ t.pk.lanes = s.pk.lanes ∧ t.pk.txn = Txn.none ∧ rd t.pk .sw TXN_STATUS.STATE = 0 ∧
      rd t.pk .sw TXN_EVENT.APPLY_FAIL = 1 ∧ OtherDiesKept .sw s.pk t.pk ∧
      (∀ x : Side, (t.pk.settings.get x) = (if (s.pk.settings.get x).state = 0 then { s.pk.settings.get x with state := 2 } else s.pk.settings.get x)))) ∧
  (∀ (late : Bool) (s : State), running s.pk .sw = false ∨ rd s.pk .sw TXN_STATUS.STATE ≠ 2 ∨ s.pk.txn.ordered = true ∨ now s.pk .sw + 1000000 < rd s.pk .sw I_TXN.B →
    ActsNot (.txnAckDeadline late) s) ∧
  (∀ (s : State), s.pk.txn.ordered = true →
    rd s.pk .sw I_TXN.B ≤ now s.pk .sw →
    running s.pk .sw = true →
    rd s.pk .sw TXN_STATUS.STATE = 2 →
    Completes .txnApply s (fun t => LedgerKept s t ∧ t.pk.txn = Txn.none ∧ rd t.pk .sw TXN_STATUS.STATE = 0 ∧ rd t.pk .sw TXN_EVENT.COMMITTED = 1 ∧
      rd t.pk .sw TXN_COMMITS.V = (rd s.pk .sw TXN_COMMITS.V + 1) % 2 ^ 32 ∧
      rd t.pk .sw TXN_LAST_APPLY.TIME = rd s.pk .sw I_TXN.B % 2 ^ TXN_LAST_APPLY.TIME.w ∧ t.pk.settings = s.pk.settings)) ∧
  (∀ (a : Nat) (word : Nat) (dh : Die × RegRow × Nat × Nat) (q : Option Request) (s : State), s.pk.txn = ⟨[(a, word)], q, true⟩ →
    rd s.pk .sw I_TXN.B ≤ now s.pk .sw →
    actionWord a = false →
    txWord a = some dh →
    Completes .txnApply s (fun t => ∀ d ∈ txDies a, running s.pk d = true → ∀ F ∈ wordFlds dh.2, F.acc = .tx → rdI t.pk d F dh.2.2.1 = F.merge dh.2.2.2 (rdI s.pk d F dh.2.2.1) word % 2 ^ F.w)) ∧
  (∀ (s : State), s.pk.txn.ordered = false ∨ now s.pk .sw < rd s.pk .sw I_TXN.B →
    ActsNot .txnApply s)

/-- R411, R412, R426, R427, R433, R434: the staged layout image. -/
def Obligations.LayoutImagesAreStagedVerifiedAndSentOut : Prop :=
  (∀ (r : Req) (b : List Nat) (s : State), serves s.pk r 0x0300 2 b = true →
    lytInProgress s.pk = false →
    ledgerUp s.pk = true →
    b.length = 4 →
    leNat b ≤ layoutMax →
    Completes (.lytBegin r b) s (fun t => Replies r 0x0300 .ok [] t.pk ∧ LedgerKeptOutside [(stagedBase, layoutMax), logRing] s t ∧
      ReadsZero stagedBase layoutMax t ∧
      rd t.pk .sw I_LYT.LEN = leNat b % 2 ^ I_LYT.LEN.w ∧ rd t.pk .sw LYT_STATUS.STAGED_VERIFIED = 0 ∧ t.pk.settings = s.pk.settings ∧
        t.pk.lanes = s.pk.lanes ∧ t.pk.layouts = s.pk.layouts)) ∧
  (∀ (r : Req) (b : List Nat) (s : State), serves s.pk r 0x0301 2 b = true →
    lytInProgress s.pk = false →
    ledgerUp s.pk = true →
    5 ≤ b.length ∧ b.length ≤ 1284 →
    leNat (b.take 4) + (b.length - 4) ≤ rd s.pk .sw I_LYT.LEN →
    rd s.pk .sw I_LYT.LEN ≤ layoutMax →
    Memory.wf s.ledger.mram = true →
    (s.pk.log.get .sw).hold = [] →
    Completes (.lytData r b) s (fun t => Replies r 0x0301 .ok [] t.pk ∧
      LedgerKeptOutside [(stagedBase + leNat (b.take 4), b.length - 4), logRing] s t ∧
      mramRead t.ledger.mram (stagedBase + leNat (b.take 4)) (b.length - 4) = (b.drop 4).map (fun v => v % 256) ∧ t.pk.settings = s.pk.settings ∧
        t.pk.lanes = s.pk.lanes ∧ t.pk.layouts = s.pk.layouts)) ∧
  (∀ (r : Req) (b : List Nat) (i : Instr) (op : Nat) (s : State), (i, op) ∈ [(Instr.lytBegin r b, 0x0300), (.lytData r b, 0x0301),
    (.lytVerify r b, 0x0302)] →
    serves s.pk r op 2 b = true →
    commitWaits s.pk = false →
    (op = 0x0300 ∧ b.length = 4 ∧ leNat b ≤ layoutMax) ∨ (op = 0x0301 ∧ 5 ≤ b.length ∧ b.length ≤ 1284 ∧
      leNat (b.take 4) + (b.length - 4) ≤ rd s.pk .sw I_LYT.LEN) ∨ (op = 0x0302 ∧ b = []) →
    lytInProgress s.pk = true ∨ ledgerUp s.pk = false →
    Answers i s r op (if lytInProgress s.pk then .other 0x31 else .storeDown) [] (fun q => q.settings = s.pk.settings ∧ q.lanes = s.pk.lanes ∧
      q.layouts = s.pk.layouts ∧ rd q .sw LYT_STATUS.PHASE = rd s.pk .sw LYT_STATUS.PHASE)) ∧
  (∀ (r : Req) (s : State), serves s.pk r 0x0302 2 [] = true →
    commitWaits s.pk = false →
    lytInProgress s.pk = false →
    ledgerUp s.pk = true →
    Completes (.lytVerify r []) s (fun t => LedgerKeptOutside [logRing] s t ∧ rd t.pk .sw HST_STATUS.MGMT_BUSY = 1 ∧
      rd t.pk .sw HST_STATUS.BUSY_OP = 2 ∧ rd t.pk .sw I_HST.BUSY_SLOT = r.slot ∧
      rd t.pk .sw I_LYT.VERIFYING = 1 ∧ t.pk.nhp.later.any (fun q => q.is r.slot r.counter && q.opcode == 0x0302) = true ∧
        t.pk.settings = s.pk.settings ∧ t.pk.lanes = s.pk.lanes)) ∧
  (∀ (r : Req) (b : List Nat) (s : State), commitWaits s.pk = true →
    ActsNot (.lytVerify r b) s ∧ ActsNot (.lytApply r b) s) ∧
  (∀ (s : State), running s.pk .sw = true →
    rd s.pk .sw I_LYT.VERIFYING = 1 →
    ledgerUp s.pk = true →
    Completes .lytVerifyDone s (fun t => let v := lytVerify s.pk (mramRead s.ledger.mram stagedBase (rd s.pk .sw I_LYT.LEN)) (rd s.pk .sw I_LYT.LEN)
      LedgerKept s t ∧ t.pk.settings = s.pk.settings ∧ t.pk.lanes = s.pk.lanes ∧ t.pk.layouts = s.pk.layouts ∧ rd t.pk .sw I_LYT.VERIFYING = 0 ∧
      rd t.pk .sw LYT_STATUS.STAGED_VERIFIED = b2n v.isNone ∧ rd t.pk .sw LYT_FAIL.STEP = (v.getD (0, 0, 0)).1 % 2 ^ LYT_FAIL.STEP.w ∧
      rd t.pk .sw LYT_FAIL.SECTION = (v.getD (0, 0, 0)).2.1 % 2 ^ LYT_FAIL.SECTION.w ∧
        rd t.pk .sw LYT_FAIL.OFFSET = (v.getD (0, 0, 0)).2.2 % 2 ^ LYT_FAIL.OFFSET.w ∧
      (v = none → rd t.pk .sw LYT_EVENT.VERIFIED = 1 ∧
        rdI t.pk .sw LYT_STAGED.HASH 7 = imageHash (mramRead s.ledger.mram stagedBase (rd s.pk .sw I_LYT.LEN)) / 2 ^ 224 % 2 ^ 32) ∧
      (v ≠ none → rd t.pk .sw LYT_EVENT.INVALID = 1 ∧ rd t.pk .sw LYT_FAILS.V = (rd s.pk .sw LYT_FAILS.V + 1) % 2 ^ 32))) ∧
  (∀ (s : State), running s.pk .sw = false ∨ rd s.pk .sw I_LYT.VERIFYING = 0 →
    ActsNot .lytVerifyDone s) ∧
  (∀ (r : Req) (b : List Nat) (s : State), serves s.pk r 0x0305 0 b = true →
    b = [0] ∨ b = [1] →
    ledgerUp s.pk = true →
    xferOf s.pk r.slot = none →
    Answers (.lytExport r b) s r 0x0305 .ok [] (fun q => let img := if b = [0] then imageAt s.ledger.mram (currentBase s.pk) else mramRead s.ledger.mram stagedBase (rd s.pk .sw I_LYT.LEN)
      (xferOf q r.slot).map (fun x => x.bytes) = (if img = [] then none else some img) ∧ q.settings = s.pk.settings ∧ q.lanes = s.pk.lanes))

/-- R428 to R430, R432, R433, R435, R436, R441, R479, R513: applying a layout. -/
def Obligations.LayoutsApplyAndHandOver : Prop :=
  (∀ (r : Req) (b : List Nat) (x : Side) (s : State), serves s.pk r 0x0303 2 b = true →
    commitWaits s.pk = false →
    b.length = 32 →
    rd s.pk .sw LYT_STATUS.STAGED_VERIFIED = 1 →
    leNat ((List.range 8).flatMap (fun k => leBytes 4 (rdI s.pk .sw LYT_STAGED.HASH k))) = leNat b →
    lytInProgress s.pk = false →
    (drillInProgress s.pk || updInProgress s.pk || swapPending s.pk) = false →
    ledgerUp s.pk = true →
    activeLane s.pk = some x →
    laneState s.pk x.other = 3 →
    Answers (.lytApply r b) s r 0x0303 .ok [] (fun q => rd q .sw LYT_STATUS.PHASE = 1 ∧ rd q .sw LYT_STATUS.TARGET_B = x.other.num ∧
      rd q .sw HST_STATUS.MGMT_BUSY = 1 ∧ rd q .sw HST_STATUS.BUSY_OP = 1 ∧
      q.settings = s.pk.settings ∧ q.lanes = s.pk.lanes ∧ q.layouts = s.pk.layouts)) ∧
  (∀ (r : Req) (b : List Nat) (s : State), serves s.pk r 0x0303 2 b = true →
    commitWaits s.pk = false →
    b.length = 32 →
    rd s.pk .sw LYT_STATUS.STAGED_VERIFIED = 1 →
    leNat ((List.range 8).flatMap (fun k => leBytes 4 (rdI s.pk .sw LYT_STAGED.HASH k))) = leNat b →
    lytInProgress s.pk = false →
    (drillInProgress s.pk || updInProgress s.pk || swapPending s.pk) = false →
    ledgerUp s.pk = true →
    activeLane s.pk = none →
    Answers (.lytApply r b) s r 0x0303 .ok [] (fun q => rd q .sw I_LYT.MARKER = 1 ∧ rd q .sw LYT_STATUS.CURRENT_VALID = 1 ∧
      rd q .sw LYT_APPLIED.V = (rd s.pk .sw LYT_APPLIED.V + 1) % 2 ^ 32 ∧
      rdI q .sw LYT_HASH.HASH 0 = (layoutOf (imageAt s.ledger.mram stagedBase)).hash % 2 ^ 32 ∧
        q.matching = srcRows (layoutOf (imageAt s.ledger.mram stagedBase)) ∧
      q.lanes = ⟨Lane.empty, Lane.empty⟩ ∧ laneState q .a = 0 ∧ laneState q .b = 0 ∧ q.settings.a.state ≠ 0 ∧ q.settings.b.state ≠ 0)) ∧
  (∀ (r : Req) (b : List Nat) (s : State), serves s.pk r 0x0303 2 b = true →
    commitWaits s.pk = false →
    b.length = 32 →
    rd s.pk .sw LYT_STATUS.STAGED_VERIFIED = 0 ∨ leNat ((List.range 8).flatMap (fun k => leBytes 4 (rdI s.pk .sw LYT_STAGED.HASH k))) ≠ leNat b →
    Answers (.lytApply r b) s r 0x0303 (.other 0x32) [] (fun q => q.settings = s.pk.settings ∧ q.lanes = s.pk.lanes ∧ q.layouts = s.pk.layouts ∧
      rd q .sw LYT_STATUS.PHASE = rd s.pk .sw LYT_STATUS.PHASE)) ∧
  (∀ (r : Req) (s : State), serves s.pk r 0x0304 2 [] = true →
    1 ≤ rd s.pk .sw LYT_STATUS.PHASE ∧ rd s.pk .sw LYT_STATUS.PHASE ≤ 4 →
    Answers (.lytAbort r []) s r 0x0304 .ok [] (fun q => rd q .sw LYT_STATUS.PHASE = 0 ∧ rd q .sw LYT_EVENT.FAILED = 1 ∧
      rd q .sw LYT_FAILS.V = (rd s.pk .sw LYT_FAILS.V + 1) % 2 ^ 32 ∧ q.taken = none ∧
      q.settings = voidPending s.pk.settings ∧ q.layouts = s.pk.layouts ∧ laneState q (sideOf (rd s.pk .sw LYT_STATUS.TARGET_B)) = 0)) ∧
  (∀ (s : State), rd s.pk .sw LYT_STATUS.PHASE = 1 →
    ledgerUp s.pk = true →
    Completes .migrateDone s (fun t => LedgerKept s t ∧ rd t.pk .sw LYT_STATUS.PHASE = 2 ∧ rd t.pk .sw I_LYT.AT = now s.pk .sw % 2 ^ 64 ∧
      t.pk.layouts = s.pk.layouts ∧
      (t.pk.settings.a.state = 0 ∨ t.pk.settings.b.state = 0) ∧ laneState t.pk (sideOf (rd s.pk .sw LYT_STATUS.TARGET_B)) = 0 ∧
        t.pk.lanes.get (sideOf (rd s.pk .sw LYT_STATUS.TARGET_B)) = Lane.empty ∧
      t.pk.lanes.get (sideOf (rd s.pk .sw LYT_STATUS.TARGET_B)).other = s.pk.lanes.get (sideOf (rd s.pk .sw LYT_STATUS.TARGET_B)).other)) ∧
  (∀ (s : State), rd s.pk .sw LYT_STATUS.PHASE ≠ 1 ∨ ledgerUp s.pk = false →
    ActsNot .migrateDone s) ∧
  (∀ (s : State), rd s.pk .sw LYT_STATUS.PHASE = 3 →
    rd s.pk .sw LYT_CFG.LYT_SETTLE * 1000 ≤ rd s.pk (sideOf (rd s.pk .sw LYT_STATUS.TARGET_B)).helm I_LANE.READY_TICKS →
    10 ≤ rd s.pk (sideOf (rd s.pk .sw LYT_STATUS.TARGET_B)).helm SOL_CONSEC.OPT_RUN →
    ActsWithin OnlyRegsAndLog .lytReady s (fun q => rd q .sw LYT_STATUS.PHASE = 4 ∧ rd q .sw LYT_EVENT.READY = 1 ∧
      rd q (sideOf (rd s.pk .sw LYT_STATUS.TARGET_B)).helm I_LANE.LYT_RDY = 1 ∧
      (mayArm s.pk (sideOf (rd s.pk .sw LYT_STATUS.TARGET_B)) = true → rd q (sideOf (rd s.pk .sw LYT_STATUS.TARGET_B)).helm HG_STATUS.ARMED = 1))) ∧
  (∀ (s : State), rd s.pk .sw LYT_STATUS.PHASE ≠ 4 →
    rd s.pk .sw LYT_STATUS.PHASE ≠ 3 ∨ rd s.pk (sideOf (rd s.pk .sw LYT_STATUS.TARGET_B)).helm I_LANE.READY_TICKS < rd s.pk .sw LYT_CFG.LYT_SETTLE * 1000 ∨ rd s.pk (sideOf (rd s.pk .sw LYT_STATUS.TARGET_B)).helm SOL_CONSEC.OPT_RUN < 10 →
    ActsNot .lytReady s) ∧
  (∀ (x : Side) (s : State), rd s.pk .sw LYT_STATUS.PHASE = 4 →
    rd s.pk .sw LYT_STATUS.TARGET_B = x.other.num →
    isActive s.pk x = true →
    swapAnswer s.pk x 12 = .accepted →
    running s.pk .sw = true →
    ActsWithin OnlyRegsAndLog .lytReady s (fun q => rd q x.helm I_LANE.SWAP_CAUSE = 12 ∧ rd q x.helm I_LANE.SWAP_ACCEPTED = now s.pk x.helm % 2 ^ 64 ∧
      rd q .sw LYT_STATUS.PHASE = 4)) ∧
  (∀ (s : State), running s.pk .sw = true →
    rd s.pk .sw LYT_STATUS.PHASE = 2 ∨ rd s.pk .sw LYT_STATUS.PHASE = 3 →
    rd s.pk .sw I_LYT.AT + rd s.pk .sw LYT_CFG.LYT_CONV_MAX * 1000000000 ≤ now s.pk .sw →
    Completes .lytConvTimeout s (fun t => LedgerKept s t ∧ rd t.pk .sw LYT_STATUS.PHASE = 0 ∧ rd t.pk .sw LYT_EVENT.FAILED = 1 ∧
      t.pk.settings = voidPending s.pk.settings ∧ t.pk.layouts = s.pk.layouts ∧ t.pk.taken = none ∧
      t.pk.lanes = s.pk.lanes.set (sideOf (rd s.pk .sw LYT_STATUS.TARGET_B)) Lane.empty)) ∧
  (∀ (s : State), (rd s.pk .sw LYT_STATUS.PHASE ≠ 2 ∧
    rd s.pk .sw LYT_STATUS.PHASE ≠ 3) ∨ now s.pk .sw < rd s.pk .sw I_LYT.AT + rd s.pk .sw LYT_CFG.LYT_CONV_MAX * 1000000000 →
    ActsNot .lytConvTimeout s) ∧
  (∀ (s : State), running s.pk .sw = true →
    rd s.pk .sw I_LYT.BOOT = 1 →
    rd s.pk .sw I_LYT.APPLY_AT ≤ now s.pk .sw →
    Completes .firstApply s (fun t => LedgerKept s t ∧ t.pk.settings = s.pk.settings ∧ rd t.pk .sw I_LYT.BOOT = 3 ∧
      rd t.pk .sw LYT_STATUS.CURRENT_VALID = 1 ∧
      t.pk.matching = srcRows (currentLayout s.ledger.mram s.pk) ∧ (∀ x : Side, running s.pk x.helm = true ∧ laneState s.pk x = 1 →
      t.pk.layouts.get x = currentLayout s.ledger.mram s.pk ∧ rd t.pk x.helm I_LANE.LAYOUT_APPLIED = 1 ∧ modeOf t.pk x = 0 ∧
        rd t.pk x.helm I_MODE.OUT_HELD = 1 ∧
      laneState t.pk x = (if rd s.pk x.helm HG_LOCKOUT.LOCKED = 0 then 2 else 5)))) ∧
  (∀ (s : State), running s.pk .sw = false ∨ rd s.pk .sw I_LYT.BOOT ≠ 1 ∨ now s.pk .sw < rd s.pk .sw I_LYT.APPLY_AT →
    ActsNot .firstApply s) ∧
  (∀ (y : Side) (l : Layout) (s : State), running s.pk y.port = true →
    rd s.pk y.port I_PORT.ARB_HELD = 1 →
    layoutFor s.ledger.mram s.pk y.port = some l →
    lineLow s.pk .a = false →
    lineLow s.pk .b = false →
    activeLane s.pk = none →
    rd s.pk y.other.port HG_OWNER.OWNER = 0 →
    Completes (.portDieRestart y) s (fun t => LedgerKept s t ∧ rd t.pk y.port HG_OWNER.OWNER = 0 ∧ t.pk.settings = s.pk.settings ∧
      t.pk.lanes = s.pk.lanes ∧ t.pk.layouts = s.pk.layouts ∧ rd t.pk y.port I_PORT.ARB_HELD = 0 ∧
      rd t.pk y.port SIG_STATUS.LAYOUT = 1 ∧ rd t.pk y.port HG_DH_STATUS.TRIPPED = rd s.pk y.port HG_DH_STATUS.TRIPPED ∧
        OtherDiesKept y.port s.pk t.pk)) ∧
  (∀ (y x : Side) (l : Layout) (s : State), running s.pk y.port = true →
    rd s.pk y.port I_PORT.ARB_HELD = 1 →
    layoutFor s.ledger.mram s.pk y.port = some l →
    lineLow s.pk x = true →
    lineLow s.pk x.other = false →
    activeLane s.pk = none →
    rd s.pk .sw I_PKG.SWO_FROM = 0 →
    s.pk.taken = none →
    rd s.pk .sw LYT_STATUS.PHASE ≠ 4 →
    rd s.pk y.other.port HG_OWNER.OWNER ≠ x.other.num + 1 →
    Completes (.portDieRestart y) s (fun t => LedgerKept s t ∧ rd t.pk y.port HG_OWNER.OWNER = x.num + 1 ∧ laneState t.pk x = 4 ∧
      rd t.pk y.port I_PORT.ARB_HELD = 0 ∧ rd t.pk y.port SIG_STATUS.LAYOUT = 1 ∧
      t.pk.settings = s.pk.settings ∧ t.pk.lanes = s.pk.lanes ∧ t.pk.layouts = s.pk.layouts ∧
        rd t.pk y.port HG_DH_STATUS.TRIPPED = rd s.pk y.port HG_DH_STATUS.TRIPPED)) ∧
  (∀ (y : Side) (s : State), running s.pk y.port = false ∨ rd s.pk y.port I_PORT.ARB_HELD = 0 ∨ layoutFor s.ledger.mram s.pk y.port = none →
    ActsNot (.portDieRestart y) s)

/-- R438, R439, R440, R472, R420: a steward that stops and restarts. The class of the STEWARD_SILENT record, and the record once per
announced restart, are the model's. -/
def Obligations.StewardSilenceIsMarkedAndItsRestartLosesItsIntake : Prop :=
  (∀ (s : State), running s.pk .sw = true →
    ActsOn .stewardHeartbeat s [(.pa, I_PORT.BEAT_AT), (.pa, I_DIE.STEWARD_SILENT), (.pa, I_PORT.ANNOUNCED), (.pa, I_PORT.GAP_LOGGED),
      (.pb, I_PORT.BEAT_AT), (.pb, I_DIE.STEWARD_SILENT), (.pb, I_PORT.ANNOUNCED), (.pb, I_PORT.GAP_LOGGED), (.sw, UPD_TRIAL_LEFT.SECONDS), (.sw, I_PKG.STAT)] (fun q =>
      ∀ y : Side, if running s.pk y.port = true ∧
        reaches s.pk .sw y.port = true then rd q y.port I_PORT.BEAT_AT = now s.pk y.port % 2 ^ I_PORT.BEAT_AT.w ∧
        rd q y.port I_DIE.STEWARD_SILENT = 0 else rd q y.port I_DIE.STEWARD_SILENT = rd s.pk y.port I_DIE.STEWARD_SILENT)) ∧
  (∀ (s : State), running s.pk .sw = false →
    ActsNot .stewardHeartbeat s) ∧
  (∀ (y : Side) (s : State), running s.pk y.port = true →
    rd s.pk y.port I_DIE.STEWARD_SILENT = 0 →
    rd s.pk y.port I_PORT.BEAT_AT + 10000000 ≤ now s.pk y.port →
    rd s.pk y.port I_PORT.ANNOUNCED = 0 ∨ rd s.pk y.port I_PORT.ANNOUNCED_AT + 3000000000 ≤ now s.pk y.port →
    ActsAndLogs (.stewardSilent y) s y.port [(y.port, I_DIE.STEWARD_SILENT), (y.port, I_PORT.ANNOUNCED), (y.port, I_PORT.GAP_LOGGED),
      (y.port, I_DIE.SEQ)] (fun q => rd q y.port I_DIE.STEWARD_SILENT = 1 ∧ nmeOutLow q = true)) ∧
  (∀ (y : Side) (s : State), running s.pk y.port = true →
    rd s.pk y.port I_DIE.STEWARD_SILENT = 0 →
    rd s.pk y.port I_PORT.BEAT_AT + 10000000 ≤ now s.pk y.port →
    rd s.pk y.port I_PORT.ANNOUNCED = 1 →
    now s.pk y.port < rd s.pk y.port I_PORT.ANNOUNCED_AT + 3000000000 →
    (rd s.pk y.port I_PORT.GAP_LOGGED = 1 → ActsNot (.stewardSilent y) s) ∧ (rd s.pk y.port I_PORT.GAP_LOGGED = 0 →
      ActsAndLogs (.stewardSilent y) s y.port [(y.port, I_PORT.GAP_LOGGED), (y.port, I_DIE.SEQ)] (fun q => rd q y.port I_PORT.GAP_LOGGED = 1))) ∧
  (∀ (y : Side) (s : State), running s.pk y.port = false ∨ rd s.pk y.port I_DIE.STEWARD_SILENT = 1 ∨ now s.pk y.port < rd s.pk y.port I_PORT.BEAT_AT + 10000000 →
    ActsNot (.stewardSilent y) s) ∧
  (∀ (y : Side) (s : State), running s.pk y.port = true →
    rd s.pk y.port I_DIE.STEWARD_SILENT = 0 →
    rd s.pk y.port I_PORT.ANNOUNCED = 1 →
    rd s.pk y.port I_PORT.ANNOUNCED_AT + 3000000000 ≤ now s.pk y.port →
    ActsAndLogs (.stewardRestartWindow y) s y.port [(y.port, I_DIE.STEWARD_SILENT), (y.port, I_PORT.ANNOUNCED), (y.port, I_PORT.GAP_LOGGED),
      (y.port, I_DIE.SEQ)] (fun q => rd q y.port I_DIE.STEWARD_SILENT = 1 ∧ nmeOutLow q = true)) ∧
  (∀ (y : Side) (s : State), running s.pk y.port = false ∨ rd s.pk y.port I_DIE.STEWARD_SILENT = 1 ∨ rd s.pk y.port I_PORT.ANNOUNCED = 0 ∨ now s.pk y.port < rd s.pk y.port I_PORT.ANNOUNCED_AT + 3000000000 →
    ActsNot (.stewardRestartWindow y) s) ∧
  (∀ (s : State), running s.pk .sw = true →
    Completes .stewardWatchdog s (fun t => LedgerKept s t ∧
      t.pk = { s.pk with regs := t.pk.regs, intake := t.pk.intake, xfers := t.pk.xfers, parts := t.pk.parts, txn := t.pk.txn, nhp := t.pk.nhp } ∧
      DiesKept [.ha, .hb, .pa, .pb, .ld] s.pk t.pk ∧ rd t.pk .sw I_DIE.RUN = 3 ∧ t.pk.intake = ⟨[], [], []⟩ ∧ t.pk.xfers = [] ∧ t.pk.parts = [] ∧
        (s.pk.txn.ordered = false → t.pk.txn = Txn.none) ∧
      rd t.pk .sw TIM_NOW.NOW = now s.pk .sw ∧
        rd t.pk .sw I_UPD.WD_RESETS = (if rd s.pk .sw UPD_SLOT_SW.STATE = 4 then min 2 (rd s.pk .sw I_UPD.WD_RESETS + 1) else rd s.pk .sw I_UPD.WD_RESETS) % 2 ^ I_UPD.WD_RESETS.w)) ∧
  (∀ (s : State), running s.pk .sw = false →
    ActsNot .stewardWatchdog s) ∧
  (∀ (s : State), rd s.pk .sw I_DIE.RUN = 3 →
    rd s.pk .sw I_STW.POWER_UP = 0 →
    Completes .stewardRestartDone s (fun t => LedgerKept s t ∧ rd t.pk .sw I_DIE.RUN = 2 ∧ (ledgerFrom s.pk .sw = true →
      rd t.pk .sw STW_EVENT.RESTARTED = 1 ∧ rd t.pk .sw I_STW.WAIT_LEDGER = 0) ∧
      (ledgerFrom s.pk .sw = false → rd t.pk .sw STW_STATUS.ROM_SERVICE = 1 ∧ rd t.pk .sw I_STW.WAIT_LEDGER = 1 ∧ t.pk.intake = s.pk.intake) ∧
        t.pk.lanes = s.pk.lanes)) ∧
  (∀ (s : State), rd s.pk .sw I_DIE.RUN ≠ 3 ∨ rd s.pk .sw I_STW.POWER_UP = 1 →
    ActsNot .stewardRestartDone s)

/-- R442 to R444, R511: the surveys of chapter 17 and the occurrences. Units of the maxima, and CUR_WARN at the rising edge, are the
model's. -/
def Obligations.SurveysAndFaultOccurrencesAreRecorded : Prop :=
  (∀ (r mv n : Nat) (s : State), running s.pk .sw = true →
    r < 12 →
    periodDue s.pk .sw I_PWR.DUE r 1000000 = true →
    railNominal s.pk r = some n →
    Completes (.railSample r mv) s (fun t => let bad (pc : Nat) : Prop := n * pc < ((mv : Int) - n).natAbs * 100
      LedgerKept s t ∧ OnlyFieldsAndLog .sw [(.sw, PWR_RAIL.MV), (.sw, I_PWR.DUE), (.sw, PWR_RAIL.WARN), (.sw, PWR_RAIL.FAULT), (.sw, I_PWR.WARN_RUN),
        (.sw, I_PWR.FAULT_RUN), (.sw, PWR_EVENT.RAIL_WARN), (.sw, PWR_EVENT.RAIL_FAULT), (.sw, STW_EVENT.SURR_CHANGED), (.sw, I_DIE.SEQ)] s.pk t.pk ∧
      rdI t.pk .sw PWR_RAIL.MV r = min mv 65535 % 2 ^ PWR_RAIL.MV.w ∧
      (bad (rd s.pk .sw PWR_CFG.RAIL_WARN) ∧ 9 ≤ rdI s.pk .sw I_PWR.WARN_RUN r ∧ rdI s.pk .sw PWR_RAIL.WARN r = 0 → rdI t.pk .sw PWR_RAIL.WARN r = 1 ∧
        rd t.pk .sw PWR_EVENT.RAIL_WARN = 1) ∧
      (bad 5 ∧ 9 ≤ rdI s.pk .sw I_PWR.FAULT_RUN r ∧ rdI s.pk .sw PWR_RAIL.FAULT r = 0 → rdI t.pk .sw PWR_RAIL.FAULT r = 1 ∧
        rd t.pk .sw PWR_EVENT.RAIL_FAULT = 1) ∧
      (¬ bad (rd s.pk .sw PWR_CFG.RAIL_WARN) ∧ 9 ≤ rdI s.pk .sw I_PWR.WARN_RUN r → rdI t.pk .sw PWR_RAIL.WARN r = 0) ∧
      (rdI s.pk .sw I_PWR.WARN_RUN r < 9 → rdI t.pk .sw PWR_RAIL.WARN r = rdI s.pk .sw PWR_RAIL.WARN r) ∧ (rdI s.pk .sw I_PWR.FAULT_RUN r < 9 →
        rdI t.pk .sw PWR_RAIL.FAULT r = rdI s.pk .sw PWR_RAIL.FAULT r) ∧
      (bad (rd s.pk .sw PWR_CFG.RAIL_WARN) ∧ rdI s.pk .sw PWR_RAIL.WARN r = 0 ∧ rdI s.pk .sw I_PWR.WARN_RUN r < 9 →
        rdI t.pk .sw I_PWR.WARN_RUN r = rdI s.pk .sw I_PWR.WARN_RUN r + 1))) ∧
  (∀ (r mv : Nat) (s : State), running s.pk .sw = true →
    r < 12 →
    periodDue s.pk .sw I_PWR.DUE r 1000000 = true →
    railNominal s.pk r = none →
    ActsOn (.railSample r mv) s [(.sw, PWR_RAIL.MV), (.sw, I_PWR.DUE)] (fun q => rdI q .sw PWR_RAIL.MV r = min mv 65535 % 2 ^ PWR_RAIL.MV.w)) ∧
  (∀ (r mv : Nat) (s : State), periodDue s.pk .sw I_PWR.DUE r 1000000 = false →
    ActsNot (.railSample r mv) s) ∧
  (∀ (r mv k cur : Nat) (v : Int) (s : State), running s.pk .sw = false →
    (ActsNot (.railSample r mv) s) ∧ (ActsNot (.currentSample k cur) s) ∧ (sensorLane k = none → ActsNot (.tempSample k v) s)) ∧
  (∀ (r mv k cur : Nat) (v : Int) (s : State), 12 ≤ r →
    15 ≤ k →
    ActsNot (.railSample r mv) s ∧ ActsNot (.currentSample k cur) s ∧ ActsNot (.tempSample k v) s) ∧
  (∀ (k : Nat) (v : Int) (d : Die) (s : State), running s.pk .sw = true →
    k < 15 →
    dieOf (rdI s.pk .sw STW_TEMP.DIE k) = some d →
    stewardReaches s.pk d = true →
    Completes (.tempSample k v) s (fun t => let warn := tempState (rdI s.pk .sw I_STW.TEMP_WARN k == 1) v (rd s.pk .sw STW_FAULT_CFG.TEMP_WARN)
      let crit := tempState (rdI s.pk .sw I_STW.TEMP_CRIT k == 1) v (rd s.pk .sw STW_FAULT_CFG.TEMP_CRIT)
      LedgerKept s t ∧ OnlyRegsAndLog s.pk t.pk ∧
      FieldsKept [(.sw, STW_TEMP.TEMP), (.sw, STW_TEMP.MAX), (.sw, I_STW.TEMP_WARN), (.sw, I_STW.TEMP_CRIT), (.sw, STW_EVENT.TEMP_WARN),
        (.sw, STW_EVENT.TEMP_CRIT), (.sw, I_DIE.SEQ), (.ha, I_DIE.SEQ), (.hb, I_DIE.SEQ), (.ha, I_DIE.HOT), (.hb, I_DIE.HOT)] s.pk t.pk ∧
      rdSI t.pk .sw STW_TEMP.TEMP k = clampInt v (-32768) 32767 ∧ rdI t.pk .sw I_STW.TEMP_WARN k = b2n warn ∧
        rdI t.pk .sw I_STW.TEMP_CRIT k = b2n crit ∧
      ((rd s.pk .sw STW_FAULT_CFG.TEMP_WARN : Int) * 10 ≤ v → warn = true) ∧ (v ≤ (rd s.pk .sw STW_FAULT_CFG.TEMP_CRIT : Int) * 10 - 20 →
        crit = false) ∧
      (warn = true ∧ rdI s.pk .sw I_STW.TEMP_WARN k = 0 → rd t.pk .sw STW_EVENT.TEMP_WARN = 1) ∧ (crit = true ∧ rdI s.pk .sw I_STW.TEMP_CRIT k = 0 →
        rd t.pk .sw STW_EVENT.TEMP_CRIT = 1) ∧
      (warn = false → rd t.pk .sw STW_EVENT.TEMP_WARN = rd s.pk .sw STW_EVENT.TEMP_WARN))) ∧
  (∀ (k : Nat) (cur : Nat) (s : State), running s.pk .sw = true →
    k < 4 →
    Completes (.currentSample k cur) s (fun t => let high := match currentLimit s.pk k with | some l => decide (l < cur) | none => false
      LedgerKept s t ∧ OnlyFieldsAndLog .sw [(.sw, PWR_RAIL.CURRENT), (.sw, PWR_RAIL.CUR_MAX), (.sw, I_PWR.CUR_HIGH), (.sw, STW_EVENT.CUR_WARN),
        (.sw, I_DIE.SEQ)] s.pk t.pk ∧
      rdI t.pk .sw PWR_RAIL.CURRENT k = min cur 65535 % 2 ^ PWR_RAIL.CURRENT.w ∧
        rdI t.pk .sw PWR_RAIL.CUR_MAX k = max (rdI s.pk .sw PWR_RAIL.CUR_MAX k) (min cur 65535) % 2 ^ PWR_RAIL.CUR_MAX.w ∧
      (high = true ∧ rdI s.pk .sw I_PWR.CUR_HIGH k = 0 → rd t.pk .sw STW_EVENT.CUR_WARN = 1) ∧ (high = false →
        rd t.pk .sw STW_EVENT.CUR_WARN = rd s.pk .sw STW_EVENT.CUR_WARN))) ∧
  (∀ (d : Die) (kind : Nat) (i : Nat) (s : State), running s.pk d = true →
    resourceExists d kind i = true →
    resourceRetired s.pk d kind i = false →
    Completes (.resourceOccurrence d kind i false) s (fun t => LedgerKept s t ∧
      t.pk = { s.pk with regs := t.pk.regs, log := s.pk.log.set d (t.pk.log.get d), faults := t.pk.faults, retiring := t.pk.retiring } ∧
      t.pk.faults = s.pk.faults ++ [⟨d.num, kind, i, rd s.pk .sw I_PKG.OPERATING_MS⟩])) ∧
  (∀ (d : Die) (kind : Nat) (i : Nat) (selftest : Bool) (s : State), running s.pk d = false ∨ resourceExists d kind i = false →
    ActsNot (.resourceOccurrence d kind i selftest) s) ∧
  (∀ (d : Die) (kind : Nat) (i : Nat) (s : State), 
    Completes (.occurrenceAge d kind i) s (fun t => LedgerKept s t ∧
      t.pk = { s.pk with regs := t.pk.regs, faults := t.pk.faults } ∧
      FieldsKept [(d, LOOP_PHYS.WINDOW), (d, SOL_ENG.WINDOW), (d, GNS_CHAN.WINDOW)] s.pk t.pk ∧
      t.pk.faults = s.pk.faults.filter (fun o => !(o.die == d.num && o.kind == kind && o.index == i) ||
      decide (rd s.pk .sw I_PKG.OPERATING_MS < o.at' + rd s.pk d I_DIE.PERM_WINDOW * 60000))))

/-- R412, R439, R446, R451, R452: the log and health requests. STORE_DOWN and DIE_DOWN here, and OK for an unlisted resource, are the
model's. -/
def Obligations.HealthRequestsExportMarkAcknowledgeAndClear : Prop :=
  (∀ (r : Req) (b : List Nat) (s : State), serves s.pk r 0x0500 0 b = true →
    b.length = 6 →
    1 ≤ leNat (b.drop 4) ∧ leNat (b.drop 4) ≤ 4096 →
    ledgerUp s.pk = true →
    xferOf s.pk r.slot = none →
    Answers (.logExport r b) s r 0x0500 .ok (padTo 6 Config.unitSerial) (fun q => let next := rd s.pk .sw LOG_NEXT.NEXT
      let first := max (leNat (b.take 4)) (next - ringSize)
      let n := min (leNat (b.drop 4)) (next - first)
      ((xferOf q r.slot).map (fun x => x.bytes) = if n = 0 then none else some ((List.range n).flatMap (fun k => mramRead s.ledger.mram (ringBase + 64 * ((first + k) % ringSize)) 64))) ∧
      q.settings = s.pk.settings ∧ q.lanes = s.pk.lanes ∧ rd q .sw LOG_NEXT.NEXT = next)) ∧
  (∀ (r : Req) (b : List Nat) (s : State), serves s.pk r 0x0501 2 b = true →
    b.length = 4 →
    ledgerUp s.pk = true →
    Answers (.logMark r b) s r 0x0501 .ok [] (fun q => OnlyAnswered r s.pk q ∧
      FieldsKept [(.sw, I_HST.TX), (.sw, HST_STATUS.QUEUE), (.sw, LOG_MARK.MARK)] s.pk q ∧ rd q .sw LOG_MARK.MARK = leNat b % 2 ^ 32)) ∧
  (∀ (r : Req) (n : Nat) (d : Die) (s : State), serves s.pk r 0x0510 2 [n] = true →
    dieOf n = some d →
    stewardReaches s.pk d = true →
    running s.pk d = true →
    Answers (.nmeAck r [n]) s r 0x0510 .ok [] (fun q => OnlyAnswered r s.pk q ∧
      FieldsKept [(.sw, I_HST.TX), (.sw, HST_STATUS.QUEUE), (d, I_DIE.NME), (d, I_DIE.CLKFAIL), (.sw, STW_STATUS.NME_PENDING)] s.pk q ∧
      rd q d I_DIE.NME = 0 ∧ rd q d I_DIE.CLKFAIL = 0 ∧
      ((∀ e ∈ allDies, e ≠ d → rd s.pk e I_DIE.NME = 0 ∧ rd s.pk e I_DIE.CLKFAIL = 0) → rd q .sw STW_STATUS.NME_PENDING = 0))) ∧
  (∀ (r : Req) (n : Nat) (d : Die) (s : State), serves s.pk r 0x0510 2 [n] = true →
    dieOf n = some d →
    stewardReaches s.pk d = false →
    Answers (.nmeAck r [n]) s r 0x0510 .dieDown [] (fun q => OnlyAnswered r s.pk q ∧ rd q d I_DIE.NME = rd s.pk d I_DIE.NME)) ∧
  (∀ (r : Req) (d kind i : Nat) (b : List Nat) (s : State), serves s.pk r 0x0520 3 b = true →
    b.length = 4 →
    b.take 2 = [d, kind] →
    leNat (b.drop 2) = i →
    d < 8 ∧ kind < 8 →
    ledgerUp s.pk = true →
    Answers (.retireClear r b) s r 0x0520 .ok [] (fun q => OnlyAnswered r s.pk q ∧
      FieldsKept [(.sw, I_HST.TX), (.sw, HST_STATUS.QUEUE), (.sw, I_RET.CLEAR)] s.pk q ∧
      (∀ j ∈ List.range 64, retEntry s.pk d kind i = some j → rdI q .sw I_RET.CLEAR j = 1) ∧ (retEntry s.pk d kind i = none →
        FieldsKept [(.sw, I_HST.TX), (.sw, HST_STATUS.QUEUE)] s.pk q))) ∧
  (∀ (r : Req) (b : List Nat) (i : Instr) (op least : Nat) (s : State), (i, op, least) ∈ [(Instr.logExport r b, 0x0500, 0), (.logMark r b, 0x0501, 2),
    (.retireClear r b, 0x0520, 3)] →
    serves s.pk r op least b = true →
    (op = 0x0500 ∧ b.length = 6 ∧ 1 ≤ leNat (b.drop 4) ∧ leNat (b.drop 4) ≤ 4096) ∨ (op = 0x0501 ∧ b.length = 4) ∨ (op = 0x0520 ∧ b.length = 4 ∧
      b.getD 0 0 < 8 ∧ b.getD 1 0 < 8) →
    ledgerUp s.pk = false →
    Answers i s r op .storeDown [] (fun q => OnlyAnswered r s.pk q ∧ FieldsKept [(.sw, I_HST.TX), (.sw, HST_STATUS.QUEUE)] s.pk q))

/-- R454, R456, R457, R459, R465, R469: receiving and verifying a firmware image. What a failed steward image leaves is the model's choice.
-/
def Obligations.UpdatesBeginReceiveAndVerify : Prop :=
  (∀ (r : Req) (b : List Nat) (t src : Nat) (s : State), serves s.pk r 0x0400 3 b = true →
    b.length = 6 →
    b.take 2 = [t, src] →
    t ≤ 2 ∧ src ≤ 1 ∧ (t = 2 → src = 0) →
    1 ≤ leNat (b.drop 2) ∧ leNat (b.drop 2) ≤ imageMax t →
    beginRefused s.pk t src = none →
    t = 2 ∨ isActive s.pk (sideOf t) = false ∨ swapAnswer s.pk (sideOf t) 13 = .accepted →
    Answers (.updBegin r b) s r 0x0400 .ok [] (fun q => slotSt q t = 1 ∧ (∀ k ∈ List.range 3, k ≠ t → slotSt q k = slotSt s.pk k) ∧
      rd q .sw UPD_STATUS.TARGET = t ∧ rd q .sw UPD_STATUS.IN_PROGRESS = 1 ∧
      rd q .sw UPD_STATUS.BLOCKS = 0 ∧ rd q .sw I_UPD.BITMAP = 0 ∧ rdI q .sw I_UPD.LEN t = leNat (b.drop 2) % 2 ^ I_UPD.LEN.w ∧
        rd q .sw I_UPD.SRC = src ∧ rd q .sw UPD_EVENT.BEGUN = 1 ∧ q.parts = [] ∧
      (t ≠ 2 ∧ isActive s.pk (sideOf t) = true → rd q (sideOf t).helm I_LANE.SWAP_CAUSE = 13) ∧ q.settings = s.pk.settings ∧ q.lanes = s.pk.lanes)) ∧
  (∀ (r : Req) (b : List Nat) (t src : Nat) (s : State), serves s.pk r 0x0400 3 b = true →
    b.length = 6 →
    b.take 2 = [t, src] →
    t ≤ 2 ∧ src ≤ 1 ∧ (t = 2 → src = 0) →
    1 ≤ leNat (b.drop 2) ∧ leNat (b.drop 2) ≤ imageMax t →
    othersRest s.pk t = false ∨ busySlot (slotSt s.pk t) = true →
    Answers (.updBegin r b) s r 0x0400 (.other 0x40) [] (fun q => OnlyAnswered r s.pk q ∧
      FieldsKept [(.sw, I_HST.TX), (.sw, HST_STATUS.QUEUE)] s.pk q)) ∧
  (∀ (r : Req) (b : List Nat) (k j t : Nat) (s : State), serves s.pk r 0x0401 3 b = true →
    b.length = 1032 →
    leNat (b.take 2) = k →
    b.getD 2 0 = j →
    j ≤ 3 ∧ b.getD 3 0 = 0 →
    rd s.pk .sw UPD_STATUS.TARGET = t →
    t ≠ 3 ∧ slotSt s.pk t = 1 →
    rd s.pk .sw I_UPD.SRC = 0 →
    k < blocksOf (rdI s.pk .sw I_UPD.LEN t) →
    ledgerUp s.pk = true →
    wholeBlock (putPart ⟨k, j, leAt b 4 4, b.drop 8, now s.pk .sw⟩ s.pk) k = none →
    Answers (.updData r b) s r 0x0401 .ok [] (fun q => q = { s.pk with regs := q.regs, nhp := q.nhp, parts := q.parts } ∧
      FieldsKept [(.sw, I_HST.TX), (.sw, HST_STATUS.QUEUE)] s.pk q ∧ q.parts.getLast? = some ⟨k, j, leAt b 4 4, b.drop 8, now s.pk .sw⟩)) ∧
  (∀ (r : Req) (b : List Nat) (k j t : Nat) (all : List Nat) (s : State), serves s.pk r 0x0401 3 b = true →
    b.length = 1032 →
    leNat (b.take 2) = k →
    b.getD 2 0 = j →
    j ≤ 3 ∧ b.getD 3 0 = 0 →
    rd s.pk .sw UPD_STATUS.TARGET = t →
    t ≠ 3 ∧ slotSt s.pk t = 1 →
    rd s.pk .sw I_UPD.SRC = 0 →
    k < blocksOf (rdI s.pk .sw I_UPD.LEN t) →
    ledgerUp s.pk = true →
    wholeBlock (putPart ⟨k, j, leAt b 4 4, b.drop 8, now s.pk .sw⟩ s.pk) k = some all →
    let bytes := all.take (rdI s.pk .sw I_UPD.LEN t - 4096 * k)
      if crc32c bytes = leAt b 4 4 then Answers (.updData r b) s r 0x0401 .ok [] (fun q => rd q .sw I_UPD.BITMAP = Nat.lor (rd s.pk .sw I_UPD.BITMAP) (2 ^ k) % 2 ^ I_UPD.BITMAP.w ∧ q.parts.all (fun e => e.block != k) = true ∧ slotSt q t = 1)
      else Answers (.updData r b) s r 0x0401 (.other 0x41) [] (fun q => rd q .sw UPD_CRC_ERR.V = (rd s.pk .sw UPD_CRC_ERR.V + 1) % 2 ^ 32 ∧
        rd q .sw I_UPD.BITMAP = rd s.pk .sw I_UPD.BITMAP ∧ q.parts.all (fun e => e.block != k) = true ∧ slotSt q t = 1)) ∧
  (∀ (r : Req) (b : List Nat) (k j t : Nat) (all : List Nat) (s : State), serves s.pk r 0x0401 3 b = true →
    b.length = 1032 →
    leNat (b.take 2) = k →
    b.getD 2 0 = j →
    j ≤ 3 ∧ b.getD 3 0 = 0 →
    rd s.pk .sw UPD_STATUS.TARGET = t →
    t ≠ 3 ∧ slotSt s.pk t = 1 →
    rd s.pk .sw I_UPD.SRC = 0 →
    k < blocksOf (rdI s.pk .sw I_UPD.LEN t) →
    ledgerUp s.pk = true →
    rdI s.pk .sw I_UPD.LEN t ≤ imageMax t →
    wholeBlock (putPart ⟨k, j, leAt b 4 4, b.drop 8, now s.pk .sw⟩ s.pk) k = some all →
    Memory.wf s.ledger.mram = true →
    (s.pk.log.get .sw).hold = [] →
    let bytes := all.take (rdI s.pk .sw I_UPD.LEN t - 4096 * k);
      Completes (.updData r b) s (fun u => LedgerKeptOutside [(imageBase t + 4096 * k, bytes.length), (blockTable t + 4 * k, 4), logRing] s u ∧
      (crc32c bytes = leAt b 4 4 → mramRead u.ledger.mram (imageBase t + 4096 * k) bytes.length = bytes.map (fun v => v % 256)))) ∧
  (∀ (s : State), running s.pk .sw = true →
    Completes .updPartTimeout s (fun t => LedgerKept s t ∧ t.pk = { s.pk with parts := t.pk.parts } ∧
      t.pk.parts = s.pk.parts.filter (fun e => decide (now s.pk .sw < e.at' + 10000000000)))) ∧
  (∀ (r : Req) (t : Nat) (s : State), serves s.pk r 0x0402 3 [] = true →
    commitWaits s.pk = false →
    rd s.pk .sw UPD_STATUS.TARGET = t →
    t ≠ 3 ∧ slotSt s.pk t = 1 →
    blocksOf (rdI s.pk .sw I_UPD.LEN t) ≤ rd s.pk .sw UPD_STATUS.BLOCKS →
    ledgerUp s.pk = true →
    Completes (.updVerify r []) s (fun u => LedgerKeptOutside [logRing] s u ∧ slotSt u.pk t = 2 ∧ rd u.pk .sw HST_STATUS.MGMT_BUSY = 1 ∧
      rd u.pk .sw HST_STATUS.BUSY_OP = 2 ∧ rd u.pk .sw I_HST.BUSY_SLOT = r.slot ∧
      rd u.pk .sw I_UPD.VERIFYING = 1 ∧ u.pk.nhp.later.any (fun q => q.is r.slot r.counter && q.opcode == 0x0402) = true ∧
        u.pk.settings = s.pk.settings ∧ u.pk.lanes = s.pk.lanes)) ∧
  (∀ (r : Req) (b : List Nat) (s : State), commitWaits s.pk = true →
    ActsNot (.updVerify r b) s) ∧
  (∀ (r : Req) (b : List Nat) (i : Instr) (op : Nat) (s : State), (i, op) ∈ [(Instr.updData r b, 0x0401), (.updVerify r b, 0x0402)] →
    serves s.pk r op 3 b = true →
    commitWaits s.pk = false →
    (op = 0x0401 ∧ b.length = 1032 ∧ b.getD 2 0 ≤ 3 ∧ b.getD 3 0 = 0) ∨ (op = 0x0402 ∧ b = []) →
    rd s.pk .sw UPD_STATUS.TARGET = 3 ∨ slotSt s.pk (rd s.pk .sw UPD_STATUS.TARGET) ≠ 1 →
    Answers i s r op (.other 0x40) [] (fun q => OnlyAnswered r s.pk q ∧ FieldsKept [(.sw, I_HST.TX), (.sw, HST_STATUS.QUEUE)] s.pk q)) ∧
  (∀ (t : Nat) (s : State), running s.pk .sw = true →
    rd s.pk .sw I_UPD.VERIFYING = 1 →
    rd s.pk .sw UPD_STATUS.TARGET = t →
    t ≠ 3 ∧ slotSt s.pk t = 2 →
    ledgerUp s.pk = true →
    Completes .updVerifyDone s (fun u => let f := updateCheck s.ledger.mram s.pk t
      LedgerKept s u ∧ u.pk.settings = s.pk.settings ∧ u.pk.lanes = s.pk.lanes ∧ rd u.pk .sw I_UPD.VERIFYING = 0 ∧
      (f = none → slotSt u.pk t = 2 ∧ rd u.pk .sw UPD_STATUS.VERIFIED = 1 ∧ rd u.pk .sw UPD_EVENT.VERIFIED = 1) ∧
      (f ≠ none → slotSt u.pk t = (if t = 2 then 0 else 6) ∧ rd u.pk .sw UPD_STATUS.VERIFIED = 0 ∧ rd u.pk .sw UPD_EVENT.FAILED = 1 ∧
        rd u.pk .sw UPD_FAIL.REASON = (f.getD (0, 0)).1 % 2 ^ UPD_FAIL.REASON.w ∧
      rd u.pk .sw UPD_FAIL.BLOCK = (f.getD (0, 0)).2 % 2 ^ UPD_FAIL.BLOCK.w ∧ rd u.pk .sw UPD_FAILS.V = (rd s.pk .sw UPD_FAILS.V + 1) % 2 ^ 32 ∧
        (t = 2 → rd u.pk .sw UPD_SLOT_SW.BAD = 1)))) ∧
  (∀ (s : State), running s.pk .sw = false ∨ rd s.pk .sw I_UPD.VERIFYING = 0 ∨ ledgerUp s.pk = false →
    ActsNot .updVerifyDone s)

/-- R455, R460, R462, R463, R464, R467, R468, R469, R472: trials and their ends. The steward's slot after its own time-out or abort is the
model's choice. -/
def Obligations.TrialsAreConfirmedFailedOrAborted : Prop :=
  (∀ (r : Req) (b : List Nat) (t : Nat) (x : Side) (s : State), serves s.pk r 0x0403 3 b = true →
    b.length = 32 →
    rd s.pk .sw UPD_STATUS.TARGET = t →
    t = x.num →
    slotSt s.pk t = 2 →
    rd s.pk .sw UPD_STATUS.VERIFIED = 1 →
    rdI s.pk .sw I_UPD.HASH t = leNat b →
    ledgerUp s.pk = true →
    isActive s.pk x = false →
    Answers (.updActivate r b) s r 0x0403 .ok [] (fun q => slotState q x = 3 ∧ rd q .sw UPD_STATUS.NO_REDUNDANCY = 1 ∧
      rd q .sw UPD_STATUS.UPD_READY = 0 ∧ rd q .sw UPD_EVENT.ACTIVATED = 1 ∧
      laneState q x = 0 ∧ q.lanes = s.pk.lanes.set x Lane.empty ∧ rd q x.helm HG_LOCKOUT.LOCKED = rd s.pk x.helm HG_LOCKOUT.LOCKED ∧
        q.settings = s.pk.settings)) ∧
  (∀ (r : Req) (b : List Nat) (s : State), serves s.pk r 0x0403 3 b = true →
    b.length = 32 →
    rd s.pk .sw UPD_STATUS.TARGET = 2 →
    slotSt s.pk 2 = 2 →
    rd s.pk .sw UPD_STATUS.VERIFIED = 1 →
    rdI s.pk .sw I_UPD.HASH 2 = leNat b →
    ledgerUp s.pk = true →
    Completes (.updActivate r b) s (fun u => LedgerKeptOutside [logRing] s u ∧ Replies r 0x0403 .ok [] u.pk ∧ slotSt u.pk 2 = 3 ∧
      rd u.pk .sw I_DIE.RUN = 3 ∧ u.pk.lanes = s.pk.lanes ∧ u.pk.settings = s.pk.settings ∧
      (∀ y : Side, running s.pk y.port = true ∧ reaches s.pk .sw y.port = true → rd u.pk y.port I_PORT.ANNOUNCED = 1 ∧
        rd u.pk y.port I_PORT.ANNOUNCED_AT = now s.pk y.port % 2 ^ I_PORT.ANNOUNCED_AT.w))) ∧
  (∀ (r : Req) (b : List Nat) (s : State), serves s.pk r 0x0403 3 b = true →
    b.length = 32 →
    rd s.pk .sw UPD_STATUS.TARGET = 3 ∨ slotSt s.pk (rd s.pk .sw UPD_STATUS.TARGET) ≠ 2 ∨ rd s.pk .sw UPD_STATUS.VERIFIED = 0 ∨ rdI s.pk .sw I_UPD.HASH (rd s.pk .sw UPD_STATUS.TARGET) ≠ leNat b →
    Answers (.updActivate r b) s r 0x0403 (.other 0x44) [] (fun q => OnlyAnswered r s.pk q ∧
      FieldsKept [(.sw, I_HST.TX), (.sw, HST_STATUS.QUEUE)] s.pk q)) ∧
  (∀ (x : Side) (s : State), slotState s.pk x = 4 →
    laneState s.pk x = 2 →
    isActive s.pk x.other = true →
    trialDiffers s.pk x = true →
    rd s.pk x.helm I_LANE.UPD_RDY = 0 →
    rd s.pk .sw UPD_CFG.UPD_SETTLE * 1000 ≤ rd s.pk x.helm I_LANE.READY_TICKS →
    10 ≤ rd s.pk x.helm SOL_CONSEC.OPT_RUN →
    ActsAndLogs (.updReady x) s .sw [(x.helm, I_LANE.UPD_RDY), (x.helm, HG_STATUS.ARMED), (.sw, UPD_STATUS.UPD_READY),
      (.sw, UPD_STATUS.NO_REDUNDANCY), (.sw, UPD_EVENT.READY), (.sw, I_DIE.SEQ)] (fun q =>
      rd q x.helm I_LANE.UPD_RDY = 1 ∧ rd q .sw UPD_STATUS.UPD_READY = 1 ∧ rd q .sw UPD_STATUS.NO_REDUNDANCY = 0 ∧ rd q .sw UPD_EVENT.READY = 1)) ∧
  (∀ (x : Side) (s : State), slotState s.pk x ≠ 4 ∨ laneState s.pk x ≠ 2 ∨ isActive s.pk x.other = false ∨ trialDiffers s.pk x = false ∨ rd s.pk x.helm I_LANE.UPD_RDY = 1 ∨ rd s.pk x.helm I_LANE.READY_TICKS < rd s.pk .sw UPD_CFG.UPD_SETTLE * 1000 ∨ rd s.pk x.helm SOL_CONSEC.OPT_RUN < 10 →
    ActsNot (.updReady x) s) ∧
  (∀ (r : Req) (t : Nat) (s : State), serves s.pk r 0x0404 3 [t] = true →
    t ≤ 2 →
    mayConfirm s.pk t = true →
    ledgerUp s.pk = true →
    Answers (.updConfirm r [t]) s r 0x0404 .ok [] (fun q => slotSt q t = 5 ∧ rd q .sw (restoredFld t) = 0 ∧
      rd q .sw UPD_DONE.V = (rd s.pk .sw UPD_DONE.V + 1) % 2 ^ 32 ∧ rd q .sw UPD_EVENT.CONFIRMED = 1 ∧
      (∀ k ∈ List.range 3, k ≠ t → slotSt q k = slotSt s.pk k) ∧
      rd q .sw UPD_FLOOR.LANE = (if slotSt q 0 = 5 ∧ slotSt q 1 = 5 ∧ rd q .sw UPD_SLOT_A.RESTORED = 0 ∧ rd q .sw UPD_SLOT_B.RESTORED = 0 ∧
        rdI s.pk .sw I_UPD.HASH 0 = rdI s.pk .sw I_UPD.HASH 1 then max (rd s.pk .sw UPD_FLOOR.LANE) (rd s.pk .sw UPD_SLOT_A.SECURITY_VERSION % 2 ^ UPD_FLOOR.LANE.w) else rd s.pk .sw UPD_FLOOR.LANE) ∧
      rd q .sw UPD_FLOOR.STEWARD = (if slotSt q 2 = 5 then max (rd s.pk .sw UPD_FLOOR.STEWARD) (rd s.pk .sw UPD_SLOT_SW.SECURITY_VERSION % 2 ^ UPD_FLOOR.STEWARD.w) else rd s.pk .sw UPD_FLOOR.STEWARD))) ∧
  (∀ (r : Req) (t : Nat) (s : State), serves s.pk r 0x0404 3 [t] = true →
    t ≤ 2 →
    mayConfirm s.pk t = false →
    Answers (.updConfirm r [t]) s r 0x0404 (.other 0x45) [] (fun q => OnlyAnswered r s.pk q ∧
      FieldsKept [(.sw, I_HST.TX), (.sw, HST_STATUS.QUEUE)] s.pk q)) ∧
  (∀ (r : Req) (t : Nat) (s : State), serves s.pk r 0x0405 3 [] = true →
    rd s.pk .sw UPD_STATUS.TARGET = t →
    t ≠ 3 ∧ (slotSt s.pk t = 1 ∨ slotSt s.pk t = 2) →
    ledgerUp s.pk = true →
    Answers (.updAbort r []) s r 0x0405 .ok [] (fun q => slotSt q t = (if t = 2 then 0 else 6) ∧ (t = 2 → rd q .sw UPD_SLOT_SW.BAD = 1) ∧
      rd q .sw UPD_FAIL.REASON = 10 ∧ rd q .sw UPD_FAIL.STAGE = slotSt s.pk t ∧
      rd q .sw UPD_FAILS.V = (rd s.pk .sw UPD_FAILS.V + 1) % 2 ^ 32 ∧ rd q .sw I_UPD.VERIFYING = 0 ∧ rd q .sw UPD_STATUS.VERIFIED = 0 ∧ q.parts = [] ∧
        q.lanes = s.pk.lanes ∧ q.settings = s.pk.settings)) ∧
  (∀ (r : Req) (t : Nat) (s : State), serves s.pk r 0x0405 3 [] = true →
    rd s.pk .sw UPD_STATUS.TARGET = t →
    t = 3 ∨ (slotSt s.pk t ≠ 1 ∧ slotSt s.pk t ≠ 2) →
    Answers (.updAbort r []) s r 0x0405 (.other 0x40) [] (fun q => OnlyAnswered r s.pk q ∧
      FieldsKept [(.sw, I_HST.TX), (.sw, HST_STATUS.QUEUE)] s.pk q)) ∧
  (∀ (x : Side) (s : State), running s.pk .sw = true →
    slotState s.pk x = 4 →
    trialEnd s.pk x.num ≤ now s.pk .sw →
    ActsWithin (OnlyFieldsLogAndJournal .sw [(x.helm, I_LANE.UPD_RDY), (.sw, UPD_FAIL.REASON), (.sw, UPD_FAIL.STAGE), (.sw, UPD_FAIL.BLOCK),
      (.sw, UPD_FAILS.V), (.sw, UPD_EVENT.FAILED), (.sw, UPD_STATUS.NO_REDUNDANCY), (.sw, UPD_STATUS.UPD_READY), (.sw, UPD_STATUS.VERIFIED), (.sw, UPD_TRIAL_LEFT.SECONDS), (.sw, UPD_SLOT_A.STATE), (.sw, UPD_SLOT_B.STATE), (.sw, UPD_STATUS.IN_PROGRESS), (.sw, I_DIE.SEQ)]) (.trialTimeout x) s (fun q =>
      slotState q x = 6 ∧ slotState q x.other = slotState s.pk x.other ∧ rd q .sw UPD_FAIL.REASON = 8 ∧ rd q .sw UPD_FAIL.STAGE = 4 ∧
        rd q .sw UPD_EVENT.FAILED = 1 ∧ rd q .sw UPD_FAILS.V = (rd s.pk .sw UPD_FAILS.V + 1) % 2 ^ 32)) ∧
  (∀ (x : Side) (s : State), running s.pk .sw = false ∨ slotState s.pk x ≠ 4 ∨ now s.pk .sw < trialEnd s.pk x.num →
    ActsNot (.trialTimeout x) s) ∧
  (∀ (s : State), running s.pk .sw = true →
    slotSt s.pk 2 = 4 →
    trialEnd s.pk 2 ≤ now s.pk .sw →
    ActsWithin (OnlyFieldsLogAndJournal .sw [(.sw, UPD_EVENT.UNCONFIRMED), (.sw, UPD_TRIAL_LEFT.SECONDS), (.sw, UPD_SLOT_SW.STATE),
      (.sw, UPD_STATUS.IN_PROGRESS), (.sw, UPD_STATUS.TARGET), (.sw, I_DIE.SEQ)]) .stewardTrialTimeout s (fun q =>
      rd q .sw UPD_EVENT.UNCONFIRMED = 1 ∧ slotSt q 2 = 0)) ∧
  (∀ (s : State), running s.pk .sw = false ∨ slotSt s.pk 2 ≠ 4 ∨ now s.pk .sw < trialEnd s.pk 2 →
    ActsNot .stewardTrialTimeout s) ∧
  (∀ (x : Side) (j : Two JCopy) (body : List Nat), journalNow j = some x →
    (j.get x).gen + 1 < 2 ^ 32 →
    (journalNow (journalPut j body)).map (fun y => ((journalPut j body).get y).body) = some body ∧ (journalPut j body).get x = j.get x)

/-- R453, R458, R466, R470, R474: restorations and the layout key. Restarting a failed restoration at block 0 is the model's choice. -/
def Obligations.RestorationsStreamTheImageAndFusesAreBlown : Prop :=
  (∀ (x : Side) (s : State), wantsRestore s.pk x = true →
    rd s.pk .sw I_UPD.ON = 0 →
    running s.pk x.other.helm = true →
    2 ≤ laneState s.pk x.other →
    ledgerFrom s.pk x.helm = true →
    Completes (.restoreStart x) s (fun t => let runsOn : Prop := (rd s.pk .sw UPD_FAIL.STAGE = 1 ∨ rd s.pk .sw UPD_FAIL.STAGE = 2) ∧ laneState s.pk x ≠ 0
      LedgerKept s t ∧ slotState t.pk x = 6 ∧ slotState t.pk x.other = slotState s.pk x.other ∧ rd t.pk .sw I_UPD.ON = 1 ∧
        rd t.pk .sw I_UPD.RESTORE_WORDS = 0 ∧ rd t.pk .sw UPD_STATUS.TARGET = x.num ∧ rd t.pk .sw UPD_EVENT.RESTORE_START = 1 ∧
      rdI t.pk .sw I_UPD.LEN x.num = rdI s.pk .sw I_UPD.LEN x.other.num ∧ t.pk.lanes.get x.other = s.pk.lanes.get x.other ∧
      (runsOn → laneState t.pk x = laneState s.pk x ∧ t.pk.lanes = s.pk.lanes) ∧ (¬ runsOn → isActive t.pk x = false ∧ (isActive s.pk x = false →
        laneState t.pk x = 0 ∧ t.pk.lanes.get x = Lane.empty)))) ∧
  (∀ (x : Side) (s : State), wantsRestore s.pk x = false ∨ rd s.pk .sw I_UPD.ON = 1 ∨ running s.pk x.other.helm = false ∨ laneState s.pk x.other < 2 ∨ ledgerFrom s.pk x.helm = false →
    ActsNot (.restoreStart x) s) ∧
  (∀ (x : Side) (s : State), slotState s.pk x = 6 →
    rd s.pk .sw I_UPD.ON = 1 →
    rdI s.pk .sw I_UPD.LEN x.num ≤ 4 * rd s.pk .sw I_UPD.RESTORE_WORDS →
    ledgerFrom s.pk x.helm = true →
    Completes (.restoreDone x) s (fun t => let f := imageCheck s.ledger.mram s.pk x.num none
      LedgerKept s t ∧ t.pk = { s.pk with regs := t.pk.regs, log := t.pk.log, journal := t.pk.journal } ∧
        DiesKept [.ha, .hb, .ga, .gb, .pa, .pb, .ld] s.pk t.pk ∧ rd t.pk .sw I_UPD.ON = 0 ∧ slotState t.pk x.other = slotState s.pk x.other ∧
      (f = none → slotState t.pk x = 0 ∧ rd t.pk .sw (restoredFld x.num) = 1 ∧ rd t.pk .sw (badFld x.num) = 0 ∧
        rd t.pk .sw UPD_RESTORES.V = (rd s.pk .sw UPD_RESTORES.V + 1) % 2 ^ 32 ∧ rd t.pk .sw UPD_EVENT.RESTORED = 1) ∧
      (f ≠ none → slotState t.pk x = 6 ∧ rd t.pk .sw I_UPD.RESTORE_WORDS = 0 ∧ rd t.pk .sw UPD_STATUS.BLOCKS = 0))) ∧
  (∀ (x : Side) (s : State), slotState s.pk x ≠ 6 ∨ rd s.pk .sw I_UPD.ON = 0 ∨ 4 * rd s.pk .sw I_UPD.RESTORE_WORDS < rdI s.pk .sw I_UPD.LEN x.num ∨ ledgerFrom s.pk x.helm = false →
    ActsNot (.restoreDone x) s) ∧
  (∀ (r : Req) (b : List Nat) (n : Nat) (s : State), serves s.pk r 0x0410 3 b = true →
    b.length = 32 →
    rd s.pk .sw I_OTP.LYT_KEYS = n →
    n < 4 →
    Answers (.fuseLayoutKey r b) s r 0x0410 .ok [] (fun q => rd q .sw I_OTP.LYT_KEYS = n + 1 ∧
      rdI q .sw I_OTP.LYT_KEY n = leNat b % 2 ^ I_OTP.LYT_KEY.w ∧
      (∀ k ∈ List.range 4, k ≠ n → rdI q .sw I_OTP.LYT_KEY k = rdI s.pk .sw I_OTP.LYT_KEY k) ∧
        rd q .sw I_DIE.SEQ = (rd s.pk .sw I_DIE.SEQ + 1) % 2 ^ I_DIE.SEQ.w ∧ q.settings = s.pk.settings ∧ q.lanes = s.pk.lanes)) ∧
  (∀ (r : Req) (b : List Nat) (s : State), serves s.pk r 0x0410 3 b = true →
    b.length = 32 →
    4 ≤ rd s.pk .sw I_OTP.LYT_KEYS →
    Answers (.fuseLayoutKey r b) s r 0x0410 .resourceHeld [] (fun q => OnlyAnswered r s.pk q ∧
      FieldsKept [(.sw, I_HST.TX), (.sw, HST_STATUS.QUEUE)] s.pk q))

/-- R36, R71, R380, R381, R446, R475 to R478, R490: resets, rails and qualification. What a single die's reset keeps is the model's choice.
-/
def Obligations.ResetsAndBrownOutsHoldTheDies : Prop :=
  (∀ (s : State), 
    Completes .resetAssert s (fun t => LedgerKept s t ∧ t.pk.settings = s.pk.settings ∧ t.pk.intake = ⟨[], [], []⟩ ∧
      t.pk.lanes = ⟨Lane.empty, Lane.empty⟩ ∧ t.pk.layouts = ⟨Layout.none, Layout.none⟩ ∧ t.pk.txn = Txn.none ∧ t.pk.xfers = [] ∧
      (∀ d : Die, rd t.pk d I_DIE.RUN = 0 ∧ ReadsReset d (storedIds ++ [CLK_STATUS.HOME_B, I_DIE.RUN].map (fun F => F.id)) t.pk) ∧
      (∀ x : Side, rd t.pk x.helm HG_LOCKOUT.LOCKED = rd s.pk x.helm HG_LOCKOUT.LOCKED ∧
        rd t.pk x.helm HG_STATUS.DRILL_FAIL = rd s.pk x.helm HG_STATUS.DRILL_FAIL ∧ slotState t.pk x = slotState s.pk x ∧ laneState t.pk x = 0 ∧
        lineLow t.pk x = false) ∧
      rd t.pk .sw I_RET.COUNT = rd s.pk .sw I_RET.COUNT ∧ rd t.pk .sw UPD_FLOOR.LANE = rd s.pk .sw UPD_FLOOR.LANE ∧
        rd t.pk .sw LOG_NEXT.NEXT = rd s.pk .sw LOG_NEXT.NEXT ∧ rd t.pk .sw I_PKG.RESET_LOW = 1)) ∧
  (∀ (straps : Nat) (good : Bool) (s : State), rd s.pk .sw I_PKG.RESET_LOW = 1 →
    ActsOn (.resetRelease straps good) s ([(.sw, I_PKG.RESET_LOW), (.sw, I_PKG.STRAPS), (.sw, I_PKG.PWR_GOOD), (.sw, I_PKG.PG_WAIT),
      (.sw, I_PKG.STAT)] ++ allDies.map (fun d => (d, I_DIE.RUN))) (fun q =>
      rd q .sw I_PKG.RESET_LOW = 0 ∧ rd q .sw I_PKG.STRAPS = straps % 2 ^ I_PKG.STRAPS.w ∧ rd q .sw I_PKG.PWR_GOOD = b2n good ∧
        rd q .sw I_PKG.PG_WAIT = b2n (!good) ∧
      ∀ d : Die, rd q d I_DIE.RUN = (if good = true ∧ rd s.pk d I_DIE.RAIL_BAD = 0 then 1 else rd s.pk d I_DIE.RUN))) ∧
  (∀ (straps : Nat) (good : Bool) (s : State), rd s.pk .sw I_PKG.RESET_LOW = 0 →
    ActsNot (.resetRelease straps good) s) ∧
  (∀ (s : State), 
    ActsAndLogs .pwrGoodFall s .sw [(.sw, I_PKG.PWR_GOOD), (.sw, I_DIE.SEQ)] (fun q => rd q .sw I_PKG.PWR_GOOD = 0 ∧
      ∀ d : Die, rd q d I_DIE.RUN = rd s.pk d I_DIE.RUN)) ∧
  (∀ (s : State), 
    ActsOn .pwrGoodWait s ([(.sw, I_PKG.PWR_GOOD), (.sw, I_PKG.PG_WAIT),
      (.sw, I_PKG.STAT)] ++ allDies.map (fun d => (d, I_DIE.RUN))) (fun q => rd q .sw I_PKG.PWR_GOOD = 1 ∧
      (rd s.pk .sw I_PKG.RESET_LOW = 0 → rd q .sw I_PKG.PG_WAIT = 0) ∧
      ∀ d : Die, rd q d I_DIE.RUN = (if rd s.pk .sw I_PKG.PG_WAIT = 1 ∧ rd s.pk .sw I_PKG.RESET_LOW = 0 ∧
        rd s.pk d I_DIE.RAIL_BAD = 0 then 1 else rd s.pk d I_DIE.RUN))) ∧
  (∀ (d : Die) (s : State), rd s.pk d I_DIE.RAIL_BAD = 0 →
    Completes (.brownOut d) s (fun t => LedgerKept s t ∧ rd t.pk d I_DIE.RUN = 0 ∧ rd t.pk d I_DIE.RAIL_BAD = 1 ∧ (∀ e : Die, e ≠ d →
      rd t.pk e I_DIE.RUN = rd s.pk e I_DIE.RUN) ∧
      (∀ x : Side, d = x.helm → laneState t.pk x = 0 ∧ t.pk.lanes.get x = Lane.empty ∧ t.pk.lanes.get x.other = s.pk.lanes.get x.other ∧
        (running s.pk d = true → lineLow t.pk x = false) ∧
      (rd s.pk .sw I_PKG.DRILL_PHASE = 0 → rd t.pk d HG_STATUS.DRILL_FAIL = rd s.pk d HG_STATUS.DRILL_FAIL)))) ∧
  (∀ (d : Die) (s : State), rd s.pk d I_DIE.RAIL_BAD = 1 →
    ActsNot (.brownOut d) s ∧
      ActsOn (.brownOutRelease d) s [(d, I_DIE.RAIL_BAD), (d, I_DIE.RUN), (.sw, I_PKG.STAT)] (fun q => rd q d I_DIE.RAIL_BAD = 0 ∧
      rd q d I_DIE.RUN = (if rd s.pk .sw I_PKG.RESET_LOW = 0 ∧ rd s.pk .sw I_PKG.PG_WAIT = 0 then 1 else rd s.pk d I_DIE.RUN))) ∧
  (∀ (d : Die) (s : State), rd s.pk d I_DIE.RAIL_BAD = 0 →
    ActsNot (.brownOutRelease d) s) ∧
  (∀ (d : Die) (s : State), rd s.pk d I_DIE.RUN = 1 →
    rd s.pk d I_CLK.RESTART = 1 →
    ActsOn (.qualRetry d) s [(d, I_CLK.RESTART), (d, CLK_STATUS.QUAL_IOSC), (d, CLK_STATUS.QUAL_A),
      (d, CLK_STATUS.QUAL_B)] (fun q => rd q d I_CLK.RESTART = 0 ∧ rd q d CLK_STATUS.QUAL_IOSC = 0 ∧ rd q d CLK_STATUS.QUAL_A = 0 ∧ rd q d CLK_STATUS.QUAL_B = 0)) ∧
  (∀ (d : Die) (s : State), rd s.pk d I_DIE.RUN ≠ 1 ∨ rd s.pk d I_CLK.RESTART = 0 →
    ActsNot (.qualRetry d) s) ∧
  (∀ (d : Die) (edges : Nat) (winA winB : List Nat) (sum : Nat) (fails : List (Nat × Nat)) (s : State), rd s.pk d I_DIE.RUN = 1 →
    rd s.pk d I_CLK.RESTART = 0 →
    edges < 87891 ∨ 107422 < edges →
    Completes (.qualificationDone d edges winA winB sum fails) s (fun t => t.pk.settings = s.pk.settings ∧ LedgerKept s t ∧ (∀ e : Die, e ≠ d →
      rd t.pk e I_DIE.RUN = rd s.pk e I_DIE.RUN) ∧ rd t.pk d I_DIE.RUN = 1 ∧ rd t.pk d I_CLK.STAT = 1 ∧ rd t.pk d CLK_STATUS.QUAL_IOSC = 0)) ∧
  (∀ (d : Die) (edges : Nat) (winA winB : List Nat) (sum : Nat) (fails : List (Nat × Nat)) (s : State), rd s.pk d I_DIE.RUN = 1 →
    rd s.pk d I_CLK.RESTART = 0 →
    87891 ≤ edges ∧ edges ≤ 107422 →
    (let v := if d.homeB then winB else winA; (v.length = 10 ∧ ∀ n ∈ v, 2548 ≤ n ∧ n ≤ 2652)) →
    Completes (.qualificationDone d edges winA winB sum fails) s (fun t => t.pk.settings = s.pk.settings ∧ LedgerKept s t ∧ (∀ e : Die, e ≠ d →
      rd t.pk e I_DIE.RUN = rd s.pk e I_DIE.RUN) ∧ rd t.pk d I_DIE.RUN = (if d = .sw then 3 else 2) ∧ rd t.pk d CLK_STATUS.QUAL_IOSC = 1 ∧
      rd t.pk d CLK_STATUS.SOURCE = 0 ∧ rd t.pk d CLK_STATUS.QUAL_A = b2n (rootPasses winA) ∧ rd t.pk d CLK_STATUS.QUAL_B = b2n (rootPasses winB) ∧
      rd t.pk d CLK_STATUS.ROOT_MISMATCH = b2n (!(rootPasses winA && rootPasses winB && rootsAgree sum)) ∧
        rd t.pk d I_CLK.STAT = (if (rootPasses winA && rootPasses winB && rootsAgree sum) = true then 0 else 4))) ∧
  (∀ (d : Die) (edges : Nat) (winA winB : List Nat) (sum : Nat) (fails : List (Nat × Nat)) (s : State), rd s.pk d I_DIE.RUN = 1 →
    rd s.pk d I_CLK.RESTART = 0 →
    87891 ≤ edges ∧ edges ≤ 107422 →
    (let v := if d.homeB then winB else winA; ¬ (v.length = 10 ∧ ∀ n ∈ v, 2548 ≤ n ∧ n ≤ 2652)) →
    (let v := if d.homeB then winA else winB; (v.length = 10 ∧ ∀ n ∈ v, 2548 ≤ n ∧ n ≤ 2652)) →
    Completes (.qualificationDone d edges winA winB sum fails) s (fun t => t.pk.settings = s.pk.settings ∧ LedgerKept s t ∧ (∀ e : Die, e ≠ d →
      rd t.pk e I_DIE.RUN = rd s.pk e I_DIE.RUN) ∧ rd t.pk d I_DIE.RUN = (if d = .sw then 3 else 2) ∧ rd t.pk d CLK_STATUS.SOURCE = 1 ∧
      rd t.pk d CLK_STATUS.ON_OTHER = 1 ∧ rd t.pk d I_CLK.STAT = 0)) ∧
  (∀ (d : Die) (edges : Nat) (winA winB : List Nat) (sum : Nat) (fails : List (Nat × Nat)) (s : State), rd s.pk d I_DIE.RUN = 1 →
    rd s.pk d I_CLK.RESTART = 0 →
    87891 ≤ edges ∧ edges ≤ 107422 →
    (let v := if d.homeB then winB else winA; ¬ (v.length = 10 ∧ ∀ n ∈ v, 2548 ≤ n ∧ n ≤ 2652)) →
    (let v := if d.homeB then winA else winB; ¬ (v.length = 10 ∧ ∀ n ∈ v, 2548 ≤ n ∧ n ≤ 2652)) →
    d ≠ .sw →
    Completes (.qualificationDone d edges winA winB sum fails) s (fun t => t.pk.settings = s.pk.settings ∧ LedgerKept s t ∧ (∀ e : Die, e ≠ d →
      rd t.pk e I_DIE.RUN = rd s.pk e I_DIE.RUN) ∧ rd t.pk d I_DIE.RUN = 1 ∧ rd t.pk d I_CLK.STAT = 3)) ∧
  (∀ (d : Die) (edges : Nat) (winA winB : List Nat) (sum : Nat) (fails : List (Nat × Nat)) (s : State), d = .sw →
    rd s.pk d I_DIE.RUN = 1 →
    rd s.pk d I_CLK.RESTART = 0 →
    87891 ≤ edges ∧ edges ≤ 107422 →
    (let v := if d.homeB then winB else winA; ¬ (v.length = 10 ∧ ∀ n ∈ v, 2548 ≤ n ∧ n ≤ 2652)) →
    (let v := if d.homeB then winA else winB; ¬ (v.length = 10 ∧ ∀ n ∈ v, 2548 ≤ n ∧ n ≤ 2652)) →
    Completes (.qualificationDone d edges winA winB sum fails) s (fun t => t.pk.settings = s.pk.settings ∧ LedgerKept s t ∧ (∀ e : Die, e ≠ d →
      rd t.pk e I_DIE.RUN = rd s.pk e I_DIE.RUN) ∧ rd t.pk d I_DIE.RUN = 3 ∧ rd t.pk d CLK_STATUS.SOURCE = 2 ∧ rd t.pk d I_CLK.STAT = 3)) ∧
  (∀ (d : Die) (edges : Nat) (winA winB : List Nat) (sum : Nat) (fails : List (Nat × Nat)) (s : State), rd s.pk d I_DIE.RUN ≠ 1 →
    rd s.pk d I_CLK.RESTART = 0 →
    ActsOn (.qualificationDone d edges winA winB sum fails) s [(d, CLK_STATUS.ROOT_MISMATCH), (d, I_CLK.STAT),
      (.sw, I_PKG.STAT)] (fun q => (rootPasses winA && rootPasses winB && rootsAgree sum) = true → rd q d CLK_STATUS.ROOT_MISMATCH = 0)) ∧
  (∀ (d : Die) (edges : Nat) (winA winB : List Nat) (sum : Nat) (fails : List (Nat × Nat)) (s : State), rd s.pk d I_CLK.RESTART = 1 →
    ActsNot (.qualificationDone d edges winA winB sum fails) s)

/-- R453, R470 to R473, R478 to R481: from reset to an elected lane. -/
def Obligations.BootsCheckTheirImagesAndTheLaneIsElected : Prop :=
  (∀ (x : Side) (fails : List (Nat × Nat)) (s : State), running s.pk x.helm = true →
    laneState s.pk x = 0 →
    bit (rd s.pk .sw I_PKG.STRAPS) 1 = false →
    slotState s.pk x ≠ 1 ∧ slotState s.pk x ≠ 2 ∧ slotState s.pk x ≠ 6 →
    rd s.pk .sw (badFld x.num) = 0 →
    ledgerFrom s.pk x.helm = true →
    ∀ c ∈ [Instr.laneBoot x fails, .bootLedgerRetry x.helm fails], Completes c s (fun t => let f := imageCheck s.ledger.mram s.pk x.num none
      LedgerKept s t ∧ t.pk.lanes.get x.other = s.pk.lanes.get x.other ∧ t.pk.settings = s.pk.settings ∧
      (f = none → laneState t.pk x ≠ 0 ∧ rd t.pk .sw (badFld x.num) = 0) ∧
      (f ≠ none → laneState t.pk x = 0 ∧ rd t.pk .sw (badFld x.num) = 1 ∧ rd t.pk .sw UPD_FAIL.REASON = 12 ∧
        rd t.pk .sw UPD_FAIL.BLOCK = (f.getD (0, 0)).2 % 2 ^ UPD_FAIL.BLOCK.w ∧
      slotState t.pk x = (if slotState s.pk x = 3 ∨ slotState s.pk x = 4 then 6 else slotState s.pk x)))) ∧
  (∀ (x : Side) (fails : List (Nat × Nat)) (s : State), running s.pk x.helm = false ∨ bit (rd s.pk .sw I_PKG.STRAPS) 1 = true ∨ slotState s.pk x = 6 ∨ 2 ≤ laneState s.pk x ∨ (laneState s.pk x = 0 ∧ (slotState s.pk x = 1 ∨ slotState s.pk x = 2 ∨ rd s.pk .sw (badFld x.num) = 1 ∨ ledgerFrom s.pk x.helm = false)) →
    ActsNot (.laneBoot x fails) s) ∧
  (∀ (x : Side) (l : Layout) (fails : List (Nat × Nat)) (s : State), running s.pk x.helm = true →
    laneState s.pk x = 1 →
    bit (rd s.pk .sw I_PKG.STRAPS) 1 = false →
    slotState s.pk x ≠ 6 ∧ slotState s.pk x ≠ 4 →
    rd s.pk .sw LYT_STATUS.PHASE ≠ 2 →
    pendingCopy s.pk = false →
    rd s.pk .sw I_LYT.BOOT = 3 ∨ running s.pk .sw = false →
    layoutFor s.ledger.mram s.pk x.helm = some l →
    Completes (.laneBoot x fails) s (fun t => LedgerKept s t ∧ t.pk.settings = s.pk.settings ∧ t.pk.layouts.get x = l ∧
      rd t.pk x.helm I_LANE.LAYOUT_APPLIED = 1 ∧ laneState t.pk x = (if rd s.pk x.helm HG_LOCKOUT.LOCKED = 0 then 2 else 5) ∧
      t.pk.lanes.get x.other = s.pk.lanes.get x.other)) ∧
  (∀ (s : State), rd s.pk .sw I_DIE.RUN = 3 →
    rd s.pk .sw I_STW.POWER_UP = 1 →
    ledgerFrom s.pk .sw = true →
    Completes .stewardBoot s (fun t => (rd s.pk .sw I_LYT.MARKER = 0 → LedgerKept s t) ∧ rd t.pk .sw I_DIE.RUN = 2 ∧ rd t.pk .sw I_STW.POWER_UP = 0 ∧
      rd t.pk .sw I_LYT.MARKER = 0 ∧ pendingCopy t.pk = false ∧
      ((bit (rd s.pk .sw I_PKG.STRAPS) 0 = true ∨ imageCheck s.ledger.mram s.pk 2 none ≠ none ∨ slotSt s.pk 2 = 1 ∨ slotSt s.pk 2 = 2) →
        rd t.pk .sw STW_STATUS.ROM_SERVICE = 1) ∧
      (bit (rd s.pk .sw I_PKG.STRAPS) 0 = false ∧ imageCheck s.ledger.mram s.pk 2 none = none ∧
        (slotSt s.pk 2 = 0 ∨ slotSt s.pk 2 = 3 ∨ slotSt s.pk 2 = 5) → rd t.pk .sw STW_STATUS.ROM_SERVICE = 0) ∧
      (∀ x : Side, slotState t.pk x = (if slotState s.pk x = 1 ∨ slotState s.pk x = 2 then 6 else slotState s.pk x)))) ∧
  (∀ (i : Instr) (s : State), i = .stewardBoot ∧ rd s.pk .sw I_STW.POWER_UP = 1 ∨ i = .stewardRestartDone ∧ rd s.pk .sw I_STW.POWER_UP = 0 →
    rd s.pk .sw I_DIE.RUN = 3 →
    ledgerFrom s.pk .sw = false →
    ActsOn i s [(.sw, I_DIE.RUN), (.sw, STW_STATUS.ROM_SERVICE), (.sw, I_STW.WAIT_LEDGER), (.sw, I_PKG.STAT)] (fun q => rd q .sw I_DIE.RUN = 2 ∧
      rd q .sw STW_STATUS.ROM_SERVICE = 1 ∧ rd q .sw I_STW.WAIT_LEDGER = 1)) ∧
  (∀ (fails : List (Nat × Nat)) (s : State), running s.pk .sw = true →
    rd s.pk .sw I_STW.WAIT_LEDGER = 1 →
    ledgerFrom s.pk .sw = true →
    Completes (.bootLedgerRetry .sw fails) s (fun t => (rd s.pk .sw I_LYT.MARKER = 0 ∨ rd s.pk .sw I_STW.POWER_UP = 0 → LedgerKept s t) ∧
      rd t.pk .sw I_DIE.RUN = 2 ∧ rd t.pk .sw I_STW.WAIT_LEDGER = 0 ∧ rd t.pk .sw I_STW.POWER_UP = 0)) ∧
  (∀ (d : Die) (fails : List (Nat × Nat)) (s : State), (d = .sw ∧
    (running s.pk .sw = false ∨ rd s.pk .sw I_STW.WAIT_LEDGER = 0 ∨ ledgerFrom s.pk .sw = false)) ∨ d ∈ [Die.ga, .gb, .pa, .pb, .ld] →
    ActsNot (.bootLedgerRetry d fails) s) ∧
  (∀ (s : State), rd s.pk .sw I_DIE.RUN ≠ 3 ∨ rd s.pk .sw I_STW.POWER_UP = 0 →
    ActsNot .stewardBoot s) ∧
  (∀ (s : State), ledgerUp s.pk = true →
    rd s.pk .sw I_STW.POWER_UP = 0 →
    rd s.pk .sw I_STW.WAIT_LEDGER = 0 →
    rd s.pk .sw I_LYT.BOOT = 0 →
    Completes .layoutCheckDone s (fun t => let b := imageAt s.ledger.mram (currentBase s.pk)
      let f := lytCheck s.pk b b.length
      LedgerKept s t ∧ OnlyRegsAndLog s.pk t.pk ∧ DiesKept [.ha, .hb, .ga, .gb, .pa, .pb, .ld] s.pk t.pk ∧
      (f = none → rd t.pk .sw I_LYT.BOOT = 1 ∧ rd t.pk .sw LYT_STATUS.CURRENT_VALID = 1 ∧
        rd t.pk .sw I_LYT.APPLY_AT = boundaryFrom s.pk (now s.pk .sw + 10000000) % 2 ^ I_LYT.APPLY_AT.w) ∧
      (f ≠ none → rd t.pk .sw I_LYT.BOOT = 2 ∧ rd t.pk .sw LYT_STATUS.CURRENT_VALID = 0 ∧ rd t.pk .sw LYT_EVENT.INVALID = 1 ∧
        rd t.pk .sw LYT_FAIL.STEP = (f.getD (0, 0, 0)).1 % 2 ^ LYT_FAIL.STEP.w ∧ rd t.pk .sw LYT_FAILS.V = (rd s.pk .sw LYT_FAILS.V + 1) % 2 ^ 32))) ∧
  (∀ (s : State), ledgerUp s.pk = false ∨ rd s.pk .sw I_STW.POWER_UP = 1 ∨ rd s.pk .sw I_STW.WAIT_LEDGER = 1 ∨ rd s.pk .sw I_LYT.BOOT ≠ 0 →
    ActsNot .layoutCheckDone s) ∧
  (∀ (x : Side) (s : State), mayElect s.pk x = true →
    rd s.pk x.helm I_LANE.ELIGIBLE = 0 →
    electsFirst s.pk x = true →
    ActsOn (.laneEligible x) s [(x.helm, I_LANE.ELIGIBLE), (x.helm, HG_STATUS.ARMED)] (fun q => rd q x.helm HG_STATUS.ARMED = 1)) ∧
  (∀ (x : Side) (s : State), mayElect s.pk x = true →
    rd s.pk x.helm I_LANE.ELIGIBLE = 0 →
    electsFirst s.pk x = false →
    ActsOn (.laneEligible x) s [(x.helm, I_LANE.ELIGIBLE), (x.helm, I_LANE.ELIG_AT)] (fun q => rd q x.helm I_LANE.ELIGIBLE = 1 ∧
      rd q x.helm I_LANE.ELIG_AT = now s.pk x.helm % 2 ^ I_LANE.ELIG_AT.w)) ∧
  (∀ (x : Side) (s : State), mayElect s.pk x = false ∨ rd s.pk x.helm I_LANE.ELIGIBLE = 1 →
    ActsNot (.laneEligible x) s) ∧
  (∀ (x : Side) (s : State), rd s.pk x.helm I_LANE.ELIGIBLE = 1 →
    rd s.pk x.helm I_LANE.ELIG_AT + 1000000000 ≤ now s.pk x.helm →
    ActsOn (.electWait x) s [(x.helm, I_LANE.ELIGIBLE), (x.helm, HG_STATUS.ARMED)] (fun q => rd q x.helm I_LANE.ELIGIBLE = 0 ∧
      rd q x.helm HG_STATUS.ARMED = (if mayElect s.pk x = true ∧ lineLow s.pk x.other = false then 1 else rd s.pk x.helm HG_STATUS.ARMED))) ∧
  (∀ (x : Side) (s : State), rd s.pk x.helm I_LANE.ELIGIBLE = 0 ∨ now s.pk x.helm < rd s.pk x.helm I_LANE.ELIG_AT + 1000000000 →
    ActsNot (.electWait x) s)

/-- R497: the test access port. The order of the boundary-scan register is the model's choice. -/
def Obligations.BoundaryScanFollowsItsInstruction : Prop :=
  (∀ (pins shifted : Nat) (s : State), 
    ActsOn (.jtagSamplePreload pins shifted) s [(.sw, I_JTAG.IR), (.sw, I_JTAG.CAP),
      (.sw, I_JTAG.BSR)] (fun q => rd q .sw I_JTAG.CAP = pins % 2 ^ 142 ∧ rd q .sw I_JTAG.BSR = shifted % 2 ^ 142 ∧ ∀ n ∈ List.range 142, padDrive q n = .function)) ∧
  (∀ (pins : Nat) (o : Option Nat) (s : State), 
    ActsOn (.jtagExtest pins o) s [(.sw, I_JTAG.IR), (.sw, I_JTAG.CAP), (.sw, I_JTAG.BSR)] (fun q => rd q .sw I_JTAG.CAP = pins % 2 ^ 142 ∧
      (∀ v ∈ o.toList, rd q .sw I_JTAG.BSR = v % 2 ^ 142) ∧ (o = none → rd q .sw I_JTAG.BSR = rd s.pk .sw I_JTAG.BSR) ∧
      ∀ n ∈ List.range 142, padDrive q n = .level (bit (rd q .sw I_JTAG.BSR) n))) ∧
  (∀ (s : State), 
    ActsOn .jtagBypass s [(.sw, I_JTAG.IR), (.sw, I_JTAG.DR)] (fun q => rd q .sw I_JTAG.DR = 0 ∧ ∀ n ∈ List.range 142, padDrive q n = .function)) ∧
  (∀ (s : State), 
    ActsOn .jtagIdcode s [(.sw, I_JTAG.IR), (.sw, I_JTAG.DR)] (fun q => rd q .sw I_JTAG.DR % 2 = 1 ∧ rd q .sw I_JTAG.DR / 4096 = 0x08A8 ∧
      ∀ n ∈ List.range 142, padDrive q n = .function)) ∧
  (∀ (s : State), 
    ActsOn .jtagHighz s [(.sw, I_JTAG.IR), (.sw, I_JTAG.DR)] (fun q => rd q .sw I_JTAG.DR = 0 ∧ ∀ n ∈ List.range 142, padDrive q n = .highZ)) ∧
  (∀ (s : State), 
    ActsOn .jtagClamp s [(.sw, I_JTAG.IR), (.sw, I_JTAG.DR)] (fun q => rd q .sw I_JTAG.DR = 0 ∧
      ∀ n ∈ List.range 142, padDrive q n = .level (bit (rd s.pk .sw I_JTAG.BSR) n)))

/-- R331 to R336, R345, R351: the Ethernet switch. -/
def Obligations.FramesAreCheckedLearnedAndForwarded : Prop :=
  (∀ (k stamp : Nat) (ok : Bool) (b : List Nat) (s : State), k < 6 → portUsable s.pk k = false →
    ActsNot (.ethFrameReceive k stamp ok b) s) ∧
  (∀ (k stamp : Nat) (b : List Nat) (s : State), k < 6 →
    portUsable s.pk k = true →
    ActsOn (.ethFrameReceive k stamp false b) s [((ethSide k).port, ETH_CNT.RX_ERR)] (fun q => rdI q (ethSide k).port ETH_CNT.RX_ERR (k % 3) = (rdI s.pk (ethSide k).port ETH_CNT.RX_ERR (k % 3) + 1) % 2 ^ 32)) ∧
  (∀ (k stamp : Nat) (b : List Nat) (s : State), k < 6 →
    portUsable s.pk k = true →
    1518 < b.length →
    ActsOn (.ethFrameReceive k stamp true b) s [((ethSide k).port, ETH_CNT.RX_FRAMES),
      ((ethSide k).port, ETH_CNT.OVERSIZE)] (fun q => rdI q (ethSide k).port ETH_CNT.OVERSIZE (k % 3) = (rdI s.pk (ethSide k).port ETH_CNT.OVERSIZE (k % 3) + 1) % 2 ^ 32)) ∧
  (∀ (k stamp : Nat) (b : List Nat) (s : State), k < 6 →
    portUsable s.pk k = true →
    b.length ≤ 1518 →
    (parseFrame b).etype = 0x8808 →
    beNat ((parseFrame b).pay.take 2) = 1 →
    ActsOn (.ethFrameReceive k stamp true b) s [((ethSide k).port, ETH_CNT.RX_FRAMES),
      ((ethSide k).port, ETH_CNT.PAUSE_RX)] (fun q => rdI q (ethSide k).port ETH_CNT.PAUSE_RX (k % 3) = (rdI s.pk (ethSide k).port ETH_CNT.PAUSE_RX (k % 3) + 1) % 2 ^ 32 ∧
      rdI q (ethSide k).port ETH_CNT.RX_FRAMES (k % 3) = (rdI s.pk (ethSide k).port ETH_CNT.RX_FRAMES (k % 3) + 1) % 2 ^ 32)) ∧
  (∀ (k stamp : Nat) (b : List Nat) (s : State), k < 6 →
    portUsable s.pk k = true →
    b.length ≤ 1518 →
    (parseFrame b).etype ≠ 0x8808 →
    (parseFrame b).tci = none →
    isMember s.pk (ethSide k).port (rdI s.pk (ethSide k).port ETH_PORT_CFG.PVID (k % 3)) k = false →
    ActsOn (.ethFrameReceive k stamp true b) s [((ethSide k).port, ETH_CNT.RX_FRAMES),
      ((ethSide k).port, I_ETH.VLAN_DROP)] (fun q => rdI q (ethSide k).port ETH_CNT.RX_FRAMES (k % 3) = (rdI s.pk (ethSide k).port ETH_CNT.RX_FRAMES (k % 3) + 1) % 2 ^ 32)) ∧
  (∀ (k stamp vid : Nat) (b : List Nat) (s : State), k < 6 →
    portUsable s.pk k = true →
    b.length ≤ 1518 →
    (parseFrame b).etype ≠ 0x8808 →
    (parseFrame b).tci = none →
    rdI s.pk (ethSide k).port ETH_PORT_CFG.PVID (k % 3) = vid →
    isMember s.pk (ethSide k).port vid k = true →
    (parseFrame b).dst = 2 ^ 48 - 1 →
    rdI s.pk (ethSide k).port I_ETH.STORM_MS (k % 3) = stamp / 1000000 →
    1 ≤ rdI s.pk (ethSide k).port ETH_PORT_STORM.BC_LIMIT (k % 3) ∧
      rdI s.pk (ethSide k).port ETH_PORT_STORM.BC_LIMIT (k % 3) ≤ rdI s.pk (ethSide k).port I_ETH.BC (k % 3) →
    ActsAndLogs (.ethFrameReceive k stamp true b) s (ethSide k).port [((ethSide k).port, ETH_CNT.RX_FRAMES), ((ethSide k).port, ETH_CNT.STORM_DROP),
      ((ethSide k).port, ETH_EVENT.STORM), ((ethSide k).port, I_ETH.STORM_AT), ((ethSide k).port, I_DIE.SEQ)] (fun q =>
      rdI q (ethSide k).port ETH_CNT.STORM_DROP (k % 3) = (rdI s.pk (ethSide k).port ETH_CNT.STORM_DROP (k % 3) + 1) % 2 ^ 32 ∧
        (rdI s.pk (ethSide k).port I_ETH.STORM_AT (k % 3) ≤ now s.pk (ethSide k).port → rd q (ethSide k).port ETH_EVENT.STORM = 1))) ∧
  (∀ (k stamp vid : Nat) (b : List Nat) (s : State), k < 6 →
    portUsable s.pk k = true →
    b.length ≤ 1518 →
    (parseFrame b).etype ≠ 0x8808 →
    (parseFrame b).tci = none →
    rdI s.pk (ethSide k).port ETH_PORT_CFG.PVID (k % 3) = vid →
    isMember s.pk (ethSide k).port vid k = true →
    isMember s.pk (ethSide k).port vid 6 = false →
    isGroup (parseFrame b).dst = true →
    isGroup (parseFrame b).src = false →
    rdI s.pk (ethSide k).port ETH_PORT_STORM.BC_LIMIT (k % 3) = 0 ∧ rdI s.pk (ethSide k).port ETH_PORT_STORM.MC_LIMIT (k % 3) = 0 →
    ptpAt (parseFrame b).plain = none →
    (s.pk.eth.get (ethSide k)).mac = [] →
    (s.pk.eth.get (ethSide k)).queues = [] →
    trunkUp s.pk = false →
    ActsWithin (OnlyPort (ethSide k)) (.ethFrameReceive k stamp true b) s (fun q => rdI q (ethSide k).port ETH_CNT.RX_FRAMES (k % 3) = (rdI s.pk (ethSide k).port ETH_CNT.RX_FRAMES (k % 3) + 1) % 2 ^ 32 ∧
      (q.eth.get (ethSide k)).mac = [⟨vid, (parseFrame b).src, k, now s.pk (ethSide k).port⟩] ∧
      ((parseFrame b).dst ≠ Config.macAddress →
        (q.eth.get (ethSide k)).queues = ((ethPorts (ethSide k)).filter (fun j => j != k && portUsable s.pk j && isMember s.pk (ethSide k).port vid j)).map (fun j =>
      (⟨j % 3, rdI s.pk (ethSide k).port ETH_PORT_CFG.DEF_PCP (k % 3) / 2, (parseFrame b).plain, egressTag s.pk j vid (rdI s.pk (ethSide k).port ETH_PORT_CFG.DEF_PCP (k % 3)), k, ingressPs s.pk k stamp, .forwarded⟩ : TxFrame))))) ∧
  (∀ (k stamp vid : Nat) (b m : List Nat) (s : State), k < 6 →
    portUsable s.pk k = true →
    b.length ≤ 1518 →
    (parseFrame b).etype = 0x88F7 →
    (parseFrame b).tci = none →
    rdI s.pk (ethSide k).port ETH_PORT_CFG.PVID (k % 3) = vid →
    isMember s.pk (ethSide k).port vid k = true →
    isGroup (parseFrame b).src = false →
    rdI s.pk (ethSide k).port ETH_PORT_STORM.BC_LIMIT (k % 3) = 0 ∧ rdI s.pk (ethSide k).port ETH_PORT_STORM.MC_LIMIT (k % 3) = 0 →
    ptpBody (parseFrame b).plain = some m →
    ptpType m = 2 ∨ ptpType m = 3 ∨ ptpType m = 10 →
    rd s.pk (ethSide k).port PTP_CFG.TC_MODE = 1 →
    ActsWithin (OnlyPort (ethSide k)) (.ethFrameReceive k stamp true b) s (fun q => (q.eth.get (ethSide k)).queues = (s.pk.eth.get (ethSide k)).queues ∧
      rdI q (ethSide k).port PTP_PORT.PDELAY_DROP (k % 3) = (rdI s.pk (ethSide k).port PTP_PORT.PDELAY_DROP (k % 3) + 1) % 2 ^ 32 ∧
        (rdI s.pk (ethSide k).port I_ETH.PDELAY_SEEN (k % 3) = 0 → rd q (ethSide k).port PTP_EVENT.PDELAY_DROPPED = 1))) ∧
  (∀ (y : Side) (vid mac : Nat) (s : State), running s.pk y.port = true →
    ActsWithin (OnlyPort y) (.macAge y vid mac) s (fun q => (q.eth.get y).mac = (s.pk.eth.get y).mac.filter (fun e => !(e.vid == vid && e.mac == mac && decide (e.at' + rd s.pk y.port ETH_SW_CFG.AGE_S * 1000000000 ≤ now s.pk y.port))) ∧
      rd q y.port ETH_SW_STATUS.MAC_ENTRIES = (q.eth.get y).mac.length % 2 ^ ETH_SW_STATUS.MAC_ENTRIES.w)) ∧
  (∀ (k : Nat) (s : State), k < 6 →
    running s.pk (ethSide k).port = true →
    ActsWithin OnlyRegsAndLog (.ptpPartnerWindow k) s (fun q => (∀ x ∈ partnerFlds, rdI q (ethSide k).port x.2 (k % 3) = rdI s.pk (ethSide k).port x.1 (k % 3) % 2 ^ x.2.w ∧ rdI q (ethSide k).port x.1 (k % 3) = 0) ∧
      (rdI s.pk (ethSide k).port I_PW.SYNC (k % 3) ≠ rdI s.pk (ethSide k).port ETH_PORT_PTP_SEEN.SYNC (k % 3) →
        rd q (ethSide k).port ETH_EVENT.PARTNER_CHANGED = 1))) ∧
  (∀ (k speed : Nat) (up an pause : Bool) (s : State), k < 6 →
    running s.pk (ethSide k).port = true →
    rdI s.pk (ethSide k).port ETH_PORT_CFG.MODE (k % 3) ≠ 0 →
    ActsWithin OnlyRegsAndLog (.ethLinkChange k up speed an pause) s (fun q => rdI q (ethSide k).port ETH_PORT_STATUS.LINK (k % 3) = b2n up ∧
      rdI q (ethSide k).port ETH_PORT_STATUS.SPEED (k % 3) = speed % 4 ∧
      rdI q (ethSide k).port ETH_PORT_STATUS.PARTNER_AN (k % 3) = b2n an ∧ rdI q (ethSide k).port ETH_PORT_STATUS.PARTNER_PAUSE (k % 3) = b2n pause ∧
        bit (rd q (ethSide k).port ETH_SW_STATUS.LINK) (k % 3) = up ∧
      (up = true ∧ rdI s.pk (ethSide k).port ETH_PORT_STATUS.LINK (k % 3) = 0 → rd q (ethSide k).port ETH_EVENT.LINK_UP = 1) ∧ (up = false ∧
        rdI s.pk (ethSide k).port ETH_PORT_STATUS.LINK (k % 3) = 1 → rd q (ethSide k).port ETH_EVENT.LINK_DOWN = 1))) ∧
  (∀ (k speed : Nat) (up an pause : Bool) (y : Side) (vid mac : Nat) (s : State), 6 ≤ k →
    running s.pk y.port = false →
    ActsNot (.ptpPartnerWindow k) s ∧ ActsNot (.ethLinkChange k up speed an pause) s ∧ ActsNot (.macAge y vid mac) s)

/-- R291, R338 to R340: the listeners. -/
def Obligations.SensorDatagramsReachTheirListeners : Prop :=
  (∀ (g : Dgram) (y : Side) (j : Nat) (s : State), g.port < 6 →
    portUsable s.pk g.port = true →
    (listenersOf s.pk g).filter (fun l => rdI s.pk l.1.port ETH_LIS.KIND l.2 == 1) = [(y, j)] →
    g.payload.take 6 ≠ [0x55, 0x64, 0x50, 0x62, 0x43, 0] ∨ g.payload.length = 6 ∨ (tagLines (g.payload.drop 6).length (g.payload.drop 6)).any (fun l => !(lineGood l.2) || l.1.any (fun t => !(tagGood t))) = true →
    ActsAndLogs (.iec61162450Datagram g) s y.port [(y.port, ETH_LIS.ERR), (y.port, ETH_EVENT.LISTEN_ERR),
      (y.port, I_DIE.SEQ)] (fun q => rdI q y.port ETH_LIS.ERR j = (rdI s.pk y.port ETH_LIS.ERR j + 1) % 2 ^ 32 ∧ rd q y.port ETH_EVENT.LISTEN_ERR = 1)) ∧
  (∀ (g : Dgram) (y : Side) (j : Nat) (s : State), g.port < 6 →
    portUsable s.pk g.port = true →
    (listenersOf s.pk g).filter (fun l => rdI s.pk l.1.port ETH_LIS.KIND l.2 == 1) = [(y, j)] →
    g.payload.take 6 = [0x55, 0x64, 0x50, 0x62, 0x43, 0] →
    6 < g.payload.length →
    (tagLines (g.payload.drop 6).length (g.payload.drop 6)).all (fun l => lineGood l.2 && l.1.all tagGood) = true →
    let tags := (tagLines (g.payload.drop 6).length (g.payload.drop 6)).filterMap (fun l => l.1)
      let key := (tagParam 0x73 tags).bind (fun s => (tagParam 0x6E tags).map (fun n => (s, decimal n)))
      if key.any (fun e => (s.pk.eth.get y).lines.contains e) = true then ActsOn (.iec61162450Datagram g) s [(y.port, ETH_LIS.DUP)] (fun q => rdI q y.port ETH_LIS.DUP j = (rdI s.pk y.port ETH_LIS.DUP j + 1) % 2 ^ 32)
      else Completes (.iec61162450Datagram g) s (fun t => LedgerKept s t ∧
        rdI t.pk y.port ETH_LIS.ACCEPTED j = (rdI s.pk y.port ETH_LIS.ACCEPTED j + 1) % 2 ^ 32 ∧
        rdI t.pk y.port ETH_LIS.ERR j = rdI s.pk y.port ETH_LIS.ERR j ∧
      key.all (fun e => (t.pk.eth.get y).lines.contains e) = true)) ∧
  (∀ (g : Dgram) (y : Side) (j : Nat) (s : State), g.port < 6 →
    portUsable s.pk g.port = true →
    (listenersOf s.pk g).filter (fun l => rdI s.pk l.1.port ETH_LIS.KIND l.2 == 2) = [(y, j)] →
    leNat (g.payload.take 2) ≠ 1 ∨ g.payload.length ≠ 32 + 4 * g.payload.getD 3 0 ∨ g.payload.getD 3 0 = 0 ∨ 8 < g.payload.getD 3 0 ∨ bit (g.payload.getD 12 0) 0 = false →
    ActsAndLogs (.udpSensorDatagram g) s y.port [(y.port, ETH_LIS.ERR), (y.port, ETH_EVENT.LISTEN_ERR),
      (y.port, I_DIE.SEQ)] (fun q => rdI q y.port ETH_LIS.ERR j = (rdI s.pk y.port ETH_LIS.ERR j + 1) % 2 ^ 32 ∧ rd q y.port ETH_EVENT.LISTEN_ERR = 1)) ∧
  (∀ (g : Dgram) (y : Side) (j : Nat) (m : SrcMatch) (s : State), g.port < 6 →
    portUsable s.pk g.port = true →
    (listenersOf s.pk g).filter (fun l => rdI s.pk l.1.port ETH_LIS.KIND l.2 == 2) = [(y, j)] →
    leNat (g.payload.take 2) = 1 ∧ g.payload.length = 32 + 4 * g.payload.getD 3 0 ∧ 1 ≤ g.payload.getD 3 0 ∧ g.payload.getD 3 0 ≤ 8 ∧
      bit (g.payload.getD 12 0) 0 = true →
    matchSource s.pk ⟨y.port, 4, j, leNat ((g.payload.drop 4).take 4), 0, 0, none, []⟩ = some m →
    stampFits (g.payload.getD 2 0) m.stampMode = true →
    let seq := leNat ((g.payload.drop 8).take 4)
      if (s.pk.eth.get y).streams.contains (m.src, seq) = true then ActsOn (.udpSensorDatagram g) s [(y.port, ETH_LIS.DUP)] (fun q => rdI q y.port ETH_LIS.DUP j = (rdI s.pk y.port ETH_LIS.DUP j + 1) % 2 ^ 32)
      else Completes (.udpSensorDatagram g) s (fun t => LedgerKept s t ∧
        rdI t.pk y.port ETH_LIS.ACCEPTED j = (rdI s.pk y.port ETH_LIS.ACCEPTED j + 1) % 2 ^ 32 ∧
        rdI t.pk y.port ETH_LIS.ERR j = rdI s.pk y.port ETH_LIS.ERR j ∧
      (t.pk.eth.get y).streams.contains (m.src, seq) = true)) ∧
  (∀ (g : Dgram) (s : State), g.port < 6 → portUsable s.pk g.port = false ∨ listenersOf s.pk g = [] →
    ActsNot (.iec61162450Datagram g) s ∧ ActsNot (.udpSensorDatagram g) s)

/-- R335, R341, R343, R344, R349: transmission, the transparent clock and the timestamp queue. -/
def Obligations.FramesLeaveWithTheirResidenceTime : Prop :=
  (∀ (k stamp : Nat) (s : State), k < 6 → portUsable s.pk k = false ∨ nextFrame (s.pk.eth.get (ethSide k)) (k % 3) = none →
    ActsNot (.ethFrameTransmit k stamp) s) ∧
  (∀ (k stamp : Nat) (f : TxFrame) (s : State), k < 6 →
    portUsable s.pk k = true →
    nextFrame (s.pk.eth.get (ethSide k)) (k % 3) = some f →
    f.what = .device ∨ (f.what = .forwarded ∧ rd s.pk (ethSide k).port PTP_CFG.TC_MODE = 0) →
    (s.pk.eth.get (ethSide k)).last.length = 3 →
    ActsWithin (OnlyPort (ethSide k)) (.ethFrameTransmit k stamp) s (fun q => FieldsKept [((ethSide k).port, ETH_CNT.TX_FRAMES)] s.pk q ∧
      rdI q (ethSide k).port ETH_CNT.TX_FRAMES (k % 3) = (rdI s.pk (ethSide k).port ETH_CNT.TX_FRAMES (k % 3) + 1) % 2 ^ 32 ∧
      (q.eth.get (ethSide k)).queues = (s.pk.eth.get (ethSide k)).queues.erase f ∧
        (q.eth.get (ethSide k)).last.getD (k % 3) [] = (match f.tag with | some v => f.bytes.take 12 ++ [0x81, 0x00] ++ beBytes 2 v ++ f.bytes.drop 12 | none => f.bytes))) ∧
  (∀ (k stamp : Nat) (f : TxFrame) (s : State), k < 6 →
    portUsable s.pk k = true →
    nextFrame (s.pk.eth.get (ethSide k)) (k % 3) = some f →
    f.what = .forwarded ∧ rd s.pk (ethSide k).port PTP_CFG.TC_MODE = 1 →
    ptpAt f.bytes = some 14 ∧ ptpEvent f.bytes = true →
    beNat ((f.bytes.drop 12).take 2) = 0x88F7 →
    f.tag = none →
    (s.pk.eth.get (ethSide k)).last.length = 3 →
    ActsWithin (OnlyPort (ethSide k)) (.ethFrameTransmit k stamp) s (fun q => let w := (q.eth.get (ethSide k)).last.getD (k % 3) []
      rdI q (ethSide k).port PTP_PORT.TC_CORRECTED (k % 3) = (rdI s.pk (ethSide k).port PTP_PORT.TC_CORRECTED (k % 3) + 1) % 2 ^ 32 ∧
        w.take 22 = f.bytes.take 22 ∧ w.drop 30 = f.bytes.drop 30 ∧
      (beNat ((w.drop 22).take 8) : Int) = ((beNat ((f.bytes.drop 22).take 8) : Int) + divRne (((stamp : Int) * 1000 + rdSI s.pk (ethSide k).port PTP_PORT.EGR_ASYM (k % 3) - f.at') * 65536) 1000) % 2 ^ 64)) ∧
  (∀ (k stamp kind seq : Nat) (f : TxFrame) (s : State), k < 6 →
    portUsable s.pk k = true →
    nextFrame (s.pk.eth.get (ethSide k)) (k % 3) = some f →
    f.what = .ocEvent kind seq →
    ActsWithin (OnlyPort (ethSide k)) (.ethFrameTransmit k stamp) s (fun q => (q.eth.get (ethSide k)).queues = (s.pk.eth.get (ethSide k)).queues.erase f ∧
      if ((s.pk.eth.get (ethSide k)).txq.filter (fun e => e.1 == k)).length < 16 then (q.eth.get (ethSide k)).txq = (s.pk.eth.get (ethSide k)).txq ++ [(k, seq, kind, egressPs s.pk k stamp / 1000)] ∧ rdI q (ethSide k).port PTP_TXQ.VALID (k % 3) = 1 ∧
      rdI q (ethSide k).port PTP_PORT.TXQ_DEPTH (k % 3) = ((s.pk.eth.get (ethSide k)).txq.filter (fun e => e.1 == k)).length + 1
      else (q.eth.get (ethSide k)).txq = (s.pk.eth.get (ethSide k)).txq ∧ rd q (ethSide k).port PTP_EVENT.TXQ_OVF = 1)) ∧
  (∀ (k : Nat) (s : State), k < 6 →
    running s.pk (ethSide k).port = true →
    portUsable s.pk k = true →
    rd s.pk (ethSide k).port PTP_CFG.TC_MODE = 2 →
    periodDue s.pk (ethSide k).port I_ETH.PDELAY_DUE (k % 3) (logNs (rdS s.pk (ethSide k).port PTP_OC_INTERVALS.LOG_PDELAY)) = true →
    (s.pk.eth.get (ethSide k)).pdelay.length = 3 →
    ActsWithin (OnlyPort (ethSide k)) (.pdelayReqTimer k) s (fun q => (pdelayOf q k).waiting = true ∧ (pdelayOf q k).t1 = none ∧
      (pdelayOf q k).seq = ((pdelayOf s.pk k).seq + 1) % 65536 ∧
      (pdelayOf q k).fails = (if (pdelayOf s.pk k).waiting = true then min 3 ((pdelayOf s.pk k).fails + 1) else (pdelayOf s.pk k).fails) ∧
      ((pdelayOf s.pk k).waiting = true ∧ (pdelayOf s.pk k).fails = 2 → rd q (ethSide k).port PTP_EVENT.PDELAY_FAIL = 1))) ∧
  (∀ (k : Nat) (s : State), k < 6 →
    portUsable s.pk k = false ∨ rd s.pk (ethSide k).port PTP_CFG.TC_MODE ≠ 2 ∨ periodDue s.pk (ethSide k).port I_ETH.PDELAY_DUE (k % 3) (logNs (rdS s.pk (ethSide k).port PTP_OC_INTERVALS.LOG_PDELAY)) = false →
    ActsNot (.pdelayReqTimer k) s) ∧
  (∀ (k : Nat) (e : Nat × Nat × Nat × Int) (s : State), k < 6 →
    running s.pk (ethSide k).port = true →
    running s.pk .sw = true →
    (s.pk.eth.get (ethSide k)).txq.find? (fun x => x.1 == k) = some e →
    0 ≤ e.2.2.2 ∧ e.2.2.2 < 9223372036854775808 →
    Completes (.ptpTxqKeyRead k false) s (fun t => LedgerKept s t ∧ (t.pk.eth.get (ethSide k)).txq = (s.pk.eth.get (ethSide k)).txq.erase e ∧
      rdSI t.pk (ethSide k).port PTP_TXQ.TS (k % 3) = e.2.2.2 ∧
      (e.2.2.1 ≠ 0 ∧ s.pk.oc.delay = some (e.2.1, none) → t.pk.oc.delay = some (e.2.1, some (e.2.2.2 * 65536))))) ∧
  (∀ (k : Nat) (host : Bool) (s : State), host = true ∨ (s.pk.eth.get (ethSide k)).txq.find? (fun x => x.1 == k) = none ∨ running s.pk .sw = false →
    ActsNot (.ptpTxqKeyRead k host) s)

/-- R348, R350, R361, R365: the ordinary clock. -/
def Obligations.TheOrdinaryClockMeasuresAnswersAndTimesOut : Prop :=
  (∀ (m : PtpMsg) (s : State), ocOn s.pk = false ∨ m.port ≠ ocPort s.pk ∨ m.version ≠ 2 ∨ m.domain ≠ rd s.pk (ocDie s.pk) PTP_CFG.DOMAIN →
    ActsNot (.ptpMessageReceive m) s) ∧
  (∀ (m : PtpMsg) (s : State), ocOn s.pk = true →
    m.port = ocPort s.pk ∧ m.version = 2 ∧ m.domain = rd s.pk (ocDie s.pk) PTP_CFG.DOMAIN →
    s.pk.oc.parent = some (m.src, m.srcPort) →
    ocState s.pk = 8 ∨ ocState s.pk = 9 →
    m.kind = 0 ∧ m.twoStep = true →
    m.src ≠ Config.clockIdentity →
    Completes (.ptpMessageReceive m) s (fun t => t = { s with pk := { s.pk with oc := { s.pk.oc with sync := some (m.seq, m.arrival, m.corr) } } })) ∧
  (∀ (m : PtpMsg) (t2 c v : Int) (s : State), ocOn s.pk = true →
    m.port = ocPort s.pk ∧ m.version = 2 ∧ m.domain = rd s.pk (ocDie s.pk) PTP_CFG.DOMAIN →
    s.pk.oc.parent = some (m.src, m.srcPort) →
    ocState s.pk = 8 ∨ ocState s.pk = 9 →
    m.kind = 8 →
    m.src ≠ Config.clockIdentity →
    s.pk.oc.sync = some (m.seq, t2, c) →
    s.pk.oc.mean = some v →
    rd s.pk (ocDie s.pk) PTP_CFG.TC_MODE ≠ 2 →
    Completes (.ptpMessageReceive m) s (fun t => LedgerKept s t ∧ OnlyRegsAndLog { s.pk with oc := t.pk.oc } t.pk ∧ t.pk.oc.sync = none ∧
      ocState t.pk = 9 ∧
      rdSI t.pk (ocDie s.pk) PTP_OFFSET.VALUE 0 = toSigned PTP_OFFSET.VALUE.w (ofSigned PTP_OFFSET.VALUE.w (t2 - (m.origin * 65536 + c + m.corr) - v)) ∧ rd t.pk (ocDie s.pk) PTP_OC_STATUS.SERVO_LOCKED = b2n (timeRef s.pk == 2))) ∧
  (∀ (m : PtpMsg) (t1 t2 t3 : Int) (s : State), ocOn s.pk = true →
    m.port = ocPort s.pk ∧ m.version = 2 ∧ m.domain = rd s.pk (ocDie s.pk) PTP_CFG.DOMAIN →
    s.pk.oc.parent = some (m.src, m.srcPort) →
    ocState s.pk = 8 ∨ ocState s.pk = 9 →
    m.kind = 9 →
    m.src ≠ Config.clockIdentity →
    s.pk.oc.delay = some (m.seq, some t3) ∧ s.pk.oc.lastSync = some (t1, t2) →
    m.req = (Config.clockIdentity, 1) →
    Completes (.ptpMessageReceive m) s (fun t => LedgerKept s t ∧ t.pk.oc.mean = some (divRne ((t2 - t1) + (m.origin * 65536 - m.corr - t3)) 2) ∧
      t.pk.oc.delay = none)) ∧
  (∀ (m : PtpMsg) (t1 t2 t3 : Int) (s : State), ocOn s.pk = true →
    m.port = ocPort s.pk ∧ m.version = 2 ∧ m.domain = rd s.pk (ocDie s.pk) PTP_CFG.DOMAIN →
    s.pk.oc.parent = some (m.src, m.srcPort) →
    ocState s.pk = 8 ∨ ocState s.pk = 9 →
    m.kind = 9 →
    m.src ≠ Config.clockIdentity →
    s.pk.oc.delay = some (m.seq, some t3) ∧ s.pk.oc.lastSync = some (t1, t2) →
    m.req ≠ (Config.clockIdentity, 1) →
    ActsNot (.ptpMessageReceive m) s) ∧
  (∀ (kind i : Nat) (s : State), ocOn s.pk = true →
    (kind = 0 ∧ i = 0 ∨ kind = 11 ∧ i = 1) ∧ ocState s.pk = 6 ∨ kind = 1 ∧ i = 2 ∧ (ocState s.pk = 8 ∨ ocState s.pk = 9) ∧
      rd s.pk (ocDie s.pk) PTP_CFG.TC_MODE ≠ 2 →
    s.pk.oc.seqs.length = 3 →
    Completes (.ptpMessageTimer kind) s (fun t => LedgerKept s t ∧
      t.pk = { s.pk with regs := t.pk.regs, log := t.pk.log, eth := t.pk.eth, oc := t.pk.oc } ∧
      t.pk.oc.seqs.getD i 0 = (s.pk.oc.seqs.getD i 0 + 1) % 65536 ∧
      (kind = 1 → t.pk.oc.delay = some (t.pk.oc.seqs.getD 2 0, none)) ∧ ((s.pk.eth.get (ethSide (ocPort s.pk))).queues = [] →
        (t.pk.eth.get (ethSide (ocPort s.pk))).queues.length ≤ 1))) ∧
  (∀ (kind : Nat) (s : State), ocOn s.pk = false ∨ kind ∉ [0, 1, 11] ∨ (kind = 1 ∧ ocState s.pk ≠ 8 ∧ ocState s.pk ≠ 9) ∨ (kind ≠ 1 ∧
    ocState s.pk ≠ 6) →
    ActsNot (.ptpMessageTimer kind) s) ∧
  (∀ (s : State), ocOn s.pk = true →
    ocState s.pk ∈ [4, 7, 8, 9] →
    s.pk.oc.annAt + rd s.pk (ocDie s.pk) PTP_OC_PRIO.ANN_TIMEOUT * logNs (rd s.pk (ocDie s.pk) PTP_OC_INTERVALS.LOG_ANNOUNCE) ≤ now s.pk .sw →
    Completes .announceTimeout s (fun t => LedgerKept s t ∧
      t.pk.oc = { s.pk.oc with foreign := [], parent := none, sync := none, lastSync := none, delay := none, mean := none } ∧
      OnlyRegsAndLog { s.pk with oc := t.pk.oc } t.pk ∧
      rd t.pk (ocDie s.pk) PTP_EVENT.ANNOUNCE_TIMEOUT = 1 ∧ ocState t.pk = (if rd s.pk (ocDie s.pk) PTP_CFG.OC_MODE = 2 then 6 else 4) ∧
      (timeRef s.pk = 2 ∧ (ocState s.pk = 8 ∨ ocState s.pk = 9) ∧ (timeState s.pk = 2 ∨ timeState s.pk = 3) → timeState t.pk = 4))) ∧
  (∀ (s : State), ocOn s.pk = false ∨ ocState s.pk ∉ [4, 7, 8, 9] ∨ now s.pk .sw < s.pk.oc.annAt + rd s.pk (ocDie s.pk) PTP_OC_PRIO.ANN_TIMEOUT * logNs (rd s.pk (ocDie s.pk) PTP_OC_INTERVALS.LOG_ANNOUNCE) →
    ActsNot .announceTimeout s)

/-- R43: a sluice refuses every write from a lane that is not its owner; the output is left unchanged, HG_STALE_WR counts the write, and it
is no error of the writing lane. -/
def Obligations.AStaleWriteIsRefusedAndCounted : Prop :=
  (∀ (x : Side) (y : Side) (k : OutKind) (i : Nat) (w : Nat) (s : State), portHears s.pk x y = true →
    rd s.pk y.port HG_OWNER.OWNER ≠ x.num + 1 →
    ActsOn (.sluiceWrite x y k i w) s [(y.port, HG_STALE_WR.COUNT), (x.helm, I_LANE.DIO_MAP)]
      (fun q => rd q y.port HG_STALE_WR.COUNT = (rd s.pk y.port HG_STALE_WR.COUNT + 1) % 2 ^ HG_STALE_WR.COUNT.w))

/-- R41: while a lane's inhibit pin is low its claim driver is disabled; an ACTIVE lane stays ACTIVE and raises INHIBIT_HELD; the pin never
releases a claim that is held. -/
def Obligations.ALowInhibitPinStopsClaimsAndReleasesNone : Prop :=
  (∀ (x : Side) (s : State), inhibited s.pk x = true →
    ActsNot (.claimAssert x) s) ∧
  (∀ (x : Side) (s : State), running s.pk x.helm = true →
    inhibited s.pk x = false →
    isActive s.pk x = false →
    Completes (.laneInhibitChange x true) s (fun t => LedgerKept s t ∧ t.pk = { s.pk with regs := t.pk.regs, log := t.pk.log } ∧
      inhibited t.pk x = true ∧ rd t.pk x.helm HG_STATUS.INHIBIT = 1 ∧ rdI t.pk .sw I_PKG.LINE_PULL x.num = 0)) ∧
  (∀ (x : Side) (s : State), running s.pk x.helm = true →
    inhibited s.pk x = false →
    isActive s.pk x = true →
    Completes (.laneInhibitChange x true) s (fun t => LedgerKept s t ∧ t.pk = { s.pk with regs := t.pk.regs, log := t.pk.log } ∧
      inhibited t.pk x = true ∧ isActive t.pk x = true ∧
      rd t.pk x.helm HG_EVENT.INHIBIT_HELD = 1 ∧ rdI t.pk .sw I_PKG.LINE_PULL x.num = rdI s.pk .sw I_PKG.LINE_PULL x.num))

/-- R358: a mark that does not come, and the next one. -/
def Obligations.AMissingMarkIsLostAndTheNextOneClearsIt : Prop :=
  (∀ (d : Die) (s : State), running s.pk d = true →
    d ≠ masterDie s.pk →
    ActsAndLogs (.spineMarkMissing d) s d [(d, TIM_STATUS.SPINE_LOST), (d, TIM_STATUS.SPINE_LOCKED), (d, I_TIM.GOOD_RUN), (d, I_TIM.MISSED),
      (d, TIM_EVENT.SPINE_LOST), (d, I_DIE.SEQ)]
      (fun q => rd q d TIM_STATUS.SPINE_LOST = 1 ∧ rd q d TIM_INCR.INCR = rd s.pk d TIM_INCR.INCR ∧ now q d = now s.pk d ∧
        rd q d I_TIM.MISSED = min (rd s.pk d I_TIM.MISSED + 1) (2 ^ I_TIM.MISSED.w - 1) ∧
      (rd s.pk d TIM_STATUS.SPINE_LOST = 0 → rd q d TIM_EVENT.SPINE_LOST = 1) ∧ (rd s.pk d TIM_STATUS.SPINE_LOST ≠ 0 → q.log = s.pk.log))) ∧
  (∀ (d : Die) (e : Int) (s : State), running s.pk d = true →
    d ≠ masterDie s.pk →
    running s.pk (masterDie s.pk) = true →
    Completes (.spineMark d e) s (fun t => LedgerKept s t ∧ rd t.pk d TIM_STATUS.SPINE_LOST = 0))

/-- R415: the two ends of an open transaction by request. -/
def Obligations.TransactionsAreAbortedOrBroken : Prop :=
  (∀ (r : Req) (s : State), serves s.pk r 0x0213 1 [] = true →
    rd s.pk .sw TXN_STATUS.STATE = 1 →
    rd s.pk .sw TXN_STATUS.SLOT = r.slot →
    Answers (.txnAbort r []) s r 0x0213 .ok [] (fun q => rd q .sw TXN_STATUS.STATE = 0 ∧ rd q .sw TXN_STATUS.STAGED = 0 ∧ q.txn = Txn.none ∧
      rd q .sw TXN_EVENT.ABORTED = 1 ∧ rd q .sw I_DIE.SEQ = (rd s.pk .sw I_DIE.SEQ + 1) % 2 ^ I_DIE.SEQ.w ∧ q.settings = s.pk.settings ∧
      q.lanes = s.pk.lanes ∧
      DiesKept [.ha, .hb, .ga, .gb, .ld] s.pk q)) ∧
  (∀ (r : Req) (s : State), serves s.pk r 0x0214 3 [] = true →
    rd s.pk .sw TXN_STATUS.STATE = 1 →
    Answers (.txnBreak r []) s r 0x0214 .ok [] (fun q => rd q .sw TXN_STATUS.STATE = 0 ∧ rd q .sw TXN_STATUS.STAGED = 0 ∧ q.txn = Txn.none ∧
      rd q .sw TXN_EVENT.BROKEN = 1 ∧ rd q .sw I_DIE.SEQ = (rd s.pk .sw I_DIE.SEQ + 1) % 2 ^ I_DIE.SEQ.w ∧ q.settings = s.pk.settings ∧
      q.lanes = s.pk.lanes ∧
      DiesKept [.ha, .hb, .ga, .gb, .ld] s.pk q))

/-- The block's queue is the model's convention, no rule of the spec. -/
def Obligations.StepRunsTheFrontCommand : Prop :=
  (∀ (c : Instr) (rest : List Instr) (s : State), s.pending = c :: rest →
    step s = exec c { s with pending := rest }) ∧
  (∀ (c : Instr) (s : State), 
    step (s.front c) = exec c s) ∧
  (∀ (s : State), s.pending = [] →
    step s = .next s)

/-- The rules answer, count or ignore what the device turns away; none of them stops the machine. -/
def Obligations.EveryCommandCompletesAndKeepsTheQueue : Prop :=
  (∀ (c : Instr) (s : State), 
    Completes c s (fun _ => True))

/-- R10, R376, R477: the machine right after reset. Reset values that the spec does not give are the model's (its log entries name them). -/
def Obligations.ResetHoldsTheResetColumn : Prop :=
  (∀ (d : Die) (F : Fld) (i : Nat), i < F.count →
    F.count ≤ 65536 →
    F.id ≠ CLK_STATUS.HOME_B.id ∧ F.id ≠ UPD_STATUS.TARGET.id →
    rdI State.reset.pk d F i = F.reset i) ∧
  (∀ (d : Die), 
    rd State.reset.pk d CLK_STATUS.HOME_B = b2n d.homeB ∧ rd State.reset.pk d I_DIE.RUN = 1) ∧
  (
    rd State.reset.pk .sw UPD_STATUS.TARGET = 3 ∧ State.reset.pending = [] ∧ State.reset.ledger.mram = [] ∧ activeLane State.reset.pk = none ∧
      lineLow State.reset.pk .a = false ∧ lineLow State.reset.pk .b = false)

/-- The base of EveryStepKeepsTheLedgerCanonical. -/
def Obligations.ResetIsCanonical : Prop :=
  (
    State.wf State.reset = true)

/-- Tier 3: the invariant of the ledger's memory, over every command and every state that has it. -/
def Obligations.EveryStepKeepsTheLedgerCanonical : Prop :=
  (∀ (s t : State), Memory.wf s.ledger.mram = true →
    step s = .next t →
    Memory.wf t.ledger.mram = true)

/-- Tier 3: R27 names the functions that reach the ledger; of these only R457 and R466 write an image region. -/
def Obligations.OnlyUpdatesWriteTheFirmwareImages : Prop :=
  (∀ (c : Instr) (a : Nat) (s t : State), a < 0x800000 →
    ∀ r b, c ≠ .updData r b →
    ∀ x f, c ≠ .leatFlitReceive x f →
    exec c s = .next t →
    mramGet t.ledger.mram a = mramGet s.ledger.mram a)
end

