-- ==== Sys2Proof/Laws/Memory.lean ====
section
/-! SUPPORT. Laws of the ledger's memory: its canonical form is kept by every memory operation, a byte reads what was written to it,
and no other byte changes. -/

namespace Sys2Proof.Machine

theorem memory_wf_cons (c : Host.Cell) (l : List Host.Cell) :
    Memory.wf (c :: l) = true ↔ c.1 < mramSize ∧ c.2 ≠ 0 ∧ (∀ e ∈ l, c.1 < e.1) ∧ Memory.wf l = true := by
  induction l generalizing c with
  | nil => obtain ⟨a, b⟩ := c; simp [Memory.wf]
  | cons e r ih =>
    obtain ⟨a, b⟩ := c
    obtain ⟨a', b'⟩ := e
    simp only [Memory.wf, Bool.and_eq_true, bne_iff_ne, decide_eq_true_eq, List.mem_cons, forall_eq_or_imp]
    constructor
    · rintro ⟨⟨h1, h2⟩, h3⟩
      have h4 := (ih (a', b')).mp h3
      refine ⟨Nat.lt_trans h1 h4.1, h2, ⟨h1, ?_⟩, h3⟩
      intro e he
      exact Nat.lt_trans h1 (h4.2.2.1 e he)
    · rintro ⟨_, h2, ⟨h3, _⟩, h4⟩
      exact ⟨⟨h3, h2⟩, h4⟩

theorem memory_wf_append {l r : List Host.Cell} (hl : Memory.wf l = true) (hr : Memory.wf r = true) (h : ∀ c ∈ l, ∀ e ∈ r, c.1 < e.1) :
    Memory.wf (l ++ r) = true := by
  induction l with
  | nil => simpa using hr
  | cons c l ih =>
    obtain ⟨h1, h2, h3, h4⟩ := (memory_wf_cons _ _).mp hl
    rw [List.cons_append]
    refine (memory_wf_cons _ _).mpr ⟨h1, h2, ?_, ih h4 (fun c hc e he => h c (by simp [hc]) e he)⟩
    intro e he
    rcases List.mem_append.mp he with he | he
    · exact h3 e he
    · exact h c (by simp) e he

theorem memory_wf_filter (f : Host.Cell → Bool) (l : List Host.Cell) (h : Memory.wf l = true) : Memory.wf (l.filter f) = true := by
  induction l with
  | nil => rfl
  | cons c r ih =>
    obtain ⟨h1, h2, h3, h4⟩ := (memory_wf_cons _ _).mp h
    by_cases hc : f c
    · rw [List.filter_cons_of_pos hc]
      exact (memory_wf_cons _ _).mpr ⟨h1, h2, fun e he => h3 e (List.mem_filter.mp he).1, ih h4⟩
    · rw [List.filter_cons_of_neg hc]
      exact ih h4

theorem mem_cellsOf {a : Nat} {l : List Nat} {c : Host.Cell} (h : c ∈ cellsOf a l) : a ≤ c.1 ∧ c.1 < a + l.length := by
  induction l generalizing a with
  | nil => simp [cellsOf] at h
  | cons b r ih =>
    simp only [cellsOf] at h
    split at h
    · have := ih h; simp only [List.length_cons]; omega
    · rcases List.mem_cons.mp h with rfl | h
      · simp
      · have := ih h; simp only [List.length_cons]; omega

theorem cellsOf_wf (a : Nat) (l : List Nat) (h : a + l.length ≤ mramSize) : Memory.wf (cellsOf a l) = true := by
  induction l generalizing a with
  | nil => rfl
  | cons b r ih =>
    simp only [List.length_cons] at h
    simp only [cellsOf]
    split
    · exact ih (a + 1) (by omega)
    · rename_i hb
      refine (memory_wf_cons _ _).mpr ⟨by show a < mramSize; omega, hb, ?_, ih (a + 1) (by omega)⟩
      intro e he
      have := (mem_cellsOf he).1
      show a < e.1
      omega

/-- Writing bytes keeps the canonical form. -/
theorem mramPut_wf (m : List Host.Cell) (lo : Nat) (bytes : List Nat) (h : Memory.wf m = true) : Memory.wf (mramPut m lo bytes) = true := by
  unfold mramPut
  simp only
  have hl : (bytes.take (mramSize - lo)).length ≤ mramSize - lo := by simp only [List.length_take]; omega
  have h1 := memory_wf_filter (fun c => decide (c.1 < lo)) m h
  have h3 := memory_wf_filter (fun c => decide (lo + (bytes.take (mramSize - lo)).length ≤ c.1)) m h
  by_cases hlo : lo ≤ mramSize
  · refine memory_wf_append (memory_wf_append h1 (cellsOf_wf _ _ (by omega)) ?_) h3 ?_
    · intro c hc e he
      have := (mem_cellsOf he).1
      have := (List.mem_filter.mp hc).2
      simp only [decide_eq_true_eq] at this
      omega
    · intro c hc e he
      have h5 := (List.mem_filter.mp he).2
      simp only [decide_eq_true_eq] at h5
      rcases List.mem_append.mp hc with hc | hc
      · have := (List.mem_filter.mp hc).2
        simp only [decide_eq_true_eq] at this
        omega
      · have := (mem_cellsOf hc).2
        omega
  · have h0 : bytes.take (mramSize - lo) = [] := by simp [Nat.sub_eq_zero_of_le (Nat.le_of_not_le hlo)]
    rw [h0] at h3 ⊢
    refine memory_wf_append (memory_wf_append h1 rfl (by simp [cellsOf])) h3 ?_
    intro c hc e he
    simp only [cellsOf, List.append_nil] at hc
    have h4 := (List.mem_filter.mp hc).2
    have h5 := (List.mem_filter.mp he).2
    simp only [decide_eq_true_eq, List.length_nil] at h4 h5
    omega

/-- Clearing a region keeps the canonical form. -/
theorem mramClear_wf (m : List Host.Cell) (lo n : Nat) (h : Memory.wf m = true) : Memory.wf (mramClear m lo n) = true := by
  refine memory_wf_append (memory_wf_filter _ _ h) (memory_wf_filter _ _ h) ?_
  intro c hc e he
  have h4 := (List.mem_filter.mp hc).2
  have h5 := (List.mem_filter.mp he).2
  simp only [decide_eq_true_eq] at h4 h5
  omega

theorem mramGet_append (l r : List Host.Cell) (x : Nat) :
    mramGet (l ++ r) x = if (∃ c ∈ l, c.1 = x) then mramGet l x else mramGet r x := by
  induction l with
  | nil => simp
  | cons c l ih =>
    obtain ⟨a, b⟩ := c
    by_cases h : a = x
    · simp [mramGet, h]
    · simp [mramGet, h, ih]

theorem mramGet_none (l : List Host.Cell) (x : Nat) (h : ∀ c ∈ l, c.1 ≠ x) : mramGet l x = 0 := by
  induction l with
  | nil => rfl
  | cons c l ih =>
    obtain ⟨a, b⟩ := c
    have : a ≠ x := h (a, b) (by simp)
    simp [mramGet, this, ih (fun c hc => h c (by simp [hc]))]

theorem mramGet_filter (f : Host.Cell → Bool) (l : List Host.Cell) (x : Nat) (h : ∀ c : Host.Cell, c.1 = x → f c = true) :
    mramGet (l.filter f) x = mramGet l x := by
  induction l with
  | nil => rfl
  | cons c l ih =>
    obtain ⟨a, b⟩ := c
    by_cases ha : a = x
    · rw [List.filter_cons_of_pos (h _ ha)]
      simp [mramGet, ha]
    · by_cases hf : f (a, b)
      · rw [List.filter_cons_of_pos hf]
        simp [mramGet, ha, ih]
      · rw [List.filter_cons_of_neg hf]
        simp [mramGet, ha, ih]

theorem mramGet_append_left (l r : List Host.Cell) (x : Nat) (h : ∀ c ∈ r, c.1 ≠ x) : mramGet (l ++ r) x = mramGet l x := by
  rw [mramGet_append]
  split
  · rfl
  · rename_i hn
    rw [mramGet_none r x h, mramGet_none l x (fun c hc hx => hn ⟨c, hc, hx⟩)]

theorem mramGet_append_right (l r : List Host.Cell) (x : Nat) (h : ∀ c ∈ l, c.1 ≠ x) : mramGet (l ++ r) x = mramGet r x := by
  rw [mramGet_append, if_neg]
  rintro ⟨c, hc, hx⟩
  exact h c hc hx

theorem mramGet_cellsOf (a : Nat) (l : List Nat) (k : Nat) (h : k < l.length) : mramGet (cellsOf a l) (a + k) = l.getD k 0 % 256 := by
  induction l generalizing a k with
  | nil => simp at h
  | cons b r ih =>
    simp only [cellsOf]
    cases k with
    | zero =>
      split
      · rename_i hb
        have h0 : b % 256 = 0 := by simpa using congrArg BitVec.toNat hb
        rw [mramGet_none]
        · simp [h0]
        · intro c hc
          have := (mem_cellsOf hc).1
          omega
      · simp [mramGet]
    | succ k =>
      simp only [List.length_cons] at h
      have h1 := ih (a + 1) k (by omega)
      rw [show a + (k + 1) = a + 1 + k by omega]
      split
      · simpa using h1
      · rw [mramGet, if_neg (by omega)]
        simpa using h1

/-- A byte that was written reads as written. -/
theorem mramGet_put_inside (m : List Host.Cell) (lo k : Nat) (bytes : List Nat) (h : k < bytes.length) (hm : lo + k < mramSize) :
    mramGet (mramPut m lo bytes) (lo + k) = bytes.getD k 0 % 256 := by
  unfold mramPut
  simp only
  rw [mramGet_append_left, mramGet_append_right, mramGet_cellsOf]
  · congr 1
    simp only [List.getD_eq_getElem?_getD]
    rw [List.getElem?_take_of_lt (by omega)]
  · simp only [List.length_take]; omega
  · intro c hc
    have := (List.mem_filter.mp hc).2
    simp only [decide_eq_true_eq] at this
    omega
  · intro c hc
    have := (List.mem_filter.mp hc).2
    simp only [decide_eq_true_eq, List.length_take] at this
    omega

/-- A byte outside those written reads as before. -/
theorem mramGet_put_outside (m : List Host.Cell) (lo x : Nat) (bytes : List Nat) (h : x < lo ∨ lo + bytes.length ≤ x) :
    mramGet (mramPut m lo bytes) x = mramGet m x := by
  unfold mramPut
  simp only
  rcases h with h | h
  · rw [mramGet_append_left, mramGet_append_left, mramGet_filter]
    · intro c hc; simp [hc, h]
    · intro c hc
      have := (mem_cellsOf hc).1
      omega
    · intro c hc
      have := (List.mem_filter.mp hc).2
      simp only [decide_eq_true_eq] at this
      omega
  · have hl : (bytes.take (mramSize - lo)).length ≤ bytes.length := by simp only [List.length_take]; omega
    rw [mramGet_append_right, mramGet_filter]
    · intro c hc; simp only [decide_eq_true_eq]; omega
    · intro c hc
      rcases List.mem_append.mp hc with hc | hc
      · have := (List.mem_filter.mp hc).2
        simp only [decide_eq_true_eq] at this
        omega
      · have := (mem_cellsOf hc).2
        omega

end Sys2Proof.Machine
end

