-- ==== Sys2Proof/Laws/State.lean ====
section
/-! SUPPORT. One lemma for each component of the package under each of the two basic updates: a register write, and a change of a
die's log side; and for each part of the state under the two forms in which a command answers. -/

namespace Sys2Proof.Machine

@[simp] theorem wrI_log (d : Die) (F : Fld) (i v : Nat) (p : Pkg) : (wrI d F i v p).log = p.log := rfl
@[simp] theorem wrI_intake (d : Die) (F : Fld) (i v : Nat) (p : Pkg) : (wrI d F i v p).intake = p.intake := rfl
@[simp] theorem wrI_faultTimes (d : Die) (F : Fld) (i v : Nat) (p : Pkg) : (wrI d F i v p).faultTimes = p.faultTimes := rfl
@[simp] theorem wrI_lanes (d : Die) (F : Fld) (i v : Nat) (p : Pkg) : (wrI d F i v p).lanes = p.lanes := rfl
@[simp] theorem wrI_layouts (d : Die) (F : Fld) (i v : Nat) (p : Pkg) : (wrI d F i v p).layouts = p.layouts := rfl
@[simp] theorem wrI_matching (d : Die) (F : Fld) (i v : Nat) (p : Pkg) : (wrI d F i v p).matching = p.matching := rfl
@[simp] theorem wrI_sealsOut (d : Die) (F : Fld) (i v : Nat) (p : Pkg) : (wrI d F i v p).sealsOut = p.sealsOut := rfl
@[simp] theorem wrI_stamped (d : Die) (F : Fld) (i v : Nat) (p : Pkg) : (wrI d F i v p).stamped = p.stamped := rfl
@[simp] theorem wrI_settings (d : Die) (F : Fld) (i v : Nat) (p : Pkg) : (wrI d F i v p).settings = p.settings := rfl
@[simp] theorem wrI_retiring (d : Die) (F : Fld) (i v : Nat) (p : Pkg) : (wrI d F i v p).retiring = p.retiring := rfl
@[simp] theorem wrI_faults (d : Die) (F : Fld) (i v : Nat) (p : Pkg) : (wrI d F i v p).faults = p.faults := rfl
@[simp] theorem wrI_tel (d : Die) (F : Fld) (i v : Nat) (p : Pkg) : (wrI d F i v p).tel = p.tel := rfl
@[simp] theorem wrI_ports (d : Die) (F : Fld) (i v : Nat) (p : Pkg) : (wrI d F i v p).ports = p.ports := rfl
@[simp] theorem wrI_bbs (d : Die) (F : Fld) (i v : Nat) (p : Pkg) : (wrI d F i v p).bbs = p.bbs := rfl
@[simp] theorem wrI_nhp (d : Die) (F : Fld) (i v : Nat) (p : Pkg) : (wrI d F i v p).nhp = p.nhp := rfl
@[simp] theorem wrI_eth (d : Die) (F : Fld) (i v : Nat) (p : Pkg) : (wrI d F i v p).eth = p.eth := rfl
@[simp] theorem wrI_oc (d : Die) (F : Fld) (i v : Nat) (p : Pkg) : (wrI d F i v p).oc = p.oc := rfl
@[simp] theorem wrI_xfers (d : Die) (F : Fld) (i v : Nat) (p : Pkg) : (wrI d F i v p).xfers = p.xfers := rfl
@[simp] theorem wrI_txn (d : Die) (F : Fld) (i v : Nat) (p : Pkg) : (wrI d F i v p).txn = p.txn := rfl
@[simp] theorem wrI_taken (d : Die) (F : Fld) (i v : Nat) (p : Pkg) : (wrI d F i v p).taken = p.taken := rfl
@[simp] theorem wrI_parts (d : Die) (F : Fld) (i v : Nat) (p : Pkg) : (wrI d F i v p).parts = p.parts := rfl
@[simp] theorem wrI_staged (d : Die) (F : Fld) (i v : Nat) (p : Pkg) : (wrI d F i v p).staged = p.staged := rfl
@[simp] theorem wrI_journal (d : Die) (F : Fld) (i v : Nat) (p : Pkg) : (wrI d F i v p).journal = p.journal := rfl
@[simp] theorem wrI_banks (d : Die) (F : Fld) (i v : Nat) (p : Pkg) : (wrI d F i v p).banks = p.banks := rfl
@[simp] theorem wrI_regs (d : Die) (F : Fld) (i v : Nat) (p : Pkg) : (wrI d F i v p).regs = storeSet p.regs d.num F i v := rfl

@[simp] theorem onLog_regs (d : Die) (f : DieLog → DieLog) (p : Pkg) : (onLog d f p).regs = p.regs := rfl
@[simp] theorem onLog_intake (d : Die) (f : DieLog → DieLog) (p : Pkg) : (onLog d f p).intake = p.intake := rfl
@[simp] theorem onLog_faultTimes (d : Die) (f : DieLog → DieLog) (p : Pkg) : (onLog d f p).faultTimes = p.faultTimes := rfl
@[simp] theorem onLog_lanes (d : Die) (f : DieLog → DieLog) (p : Pkg) : (onLog d f p).lanes = p.lanes := rfl
@[simp] theorem onLog_layouts (d : Die) (f : DieLog → DieLog) (p : Pkg) : (onLog d f p).layouts = p.layouts := rfl
@[simp] theorem onLog_matching (d : Die) (f : DieLog → DieLog) (p : Pkg) : (onLog d f p).matching = p.matching := rfl
@[simp] theorem onLog_sealsOut (d : Die) (f : DieLog → DieLog) (p : Pkg) : (onLog d f p).sealsOut = p.sealsOut := rfl
@[simp] theorem onLog_stamped (d : Die) (f : DieLog → DieLog) (p : Pkg) : (onLog d f p).stamped = p.stamped := rfl
@[simp] theorem onLog_settings (d : Die) (f : DieLog → DieLog) (p : Pkg) : (onLog d f p).settings = p.settings := rfl
@[simp] theorem onLog_retiring (d : Die) (f : DieLog → DieLog) (p : Pkg) : (onLog d f p).retiring = p.retiring := rfl
@[simp] theorem onLog_faults (d : Die) (f : DieLog → DieLog) (p : Pkg) : (onLog d f p).faults = p.faults := rfl
@[simp] theorem onLog_tel (d : Die) (f : DieLog → DieLog) (p : Pkg) : (onLog d f p).tel = p.tel := rfl
@[simp] theorem onLog_ports (d : Die) (f : DieLog → DieLog) (p : Pkg) : (onLog d f p).ports = p.ports := rfl
@[simp] theorem onLog_bbs (d : Die) (f : DieLog → DieLog) (p : Pkg) : (onLog d f p).bbs = p.bbs := rfl
@[simp] theorem onLog_nhp (d : Die) (f : DieLog → DieLog) (p : Pkg) : (onLog d f p).nhp = p.nhp := rfl
@[simp] theorem onLog_eth (d : Die) (f : DieLog → DieLog) (p : Pkg) : (onLog d f p).eth = p.eth := rfl
@[simp] theorem onLog_oc (d : Die) (f : DieLog → DieLog) (p : Pkg) : (onLog d f p).oc = p.oc := rfl
@[simp] theorem onLog_xfers (d : Die) (f : DieLog → DieLog) (p : Pkg) : (onLog d f p).xfers = p.xfers := rfl
@[simp] theorem onLog_txn (d : Die) (f : DieLog → DieLog) (p : Pkg) : (onLog d f p).txn = p.txn := rfl
@[simp] theorem onLog_taken (d : Die) (f : DieLog → DieLog) (p : Pkg) : (onLog d f p).taken = p.taken := rfl
@[simp] theorem onLog_parts (d : Die) (f : DieLog → DieLog) (p : Pkg) : (onLog d f p).parts = p.parts := rfl
@[simp] theorem onLog_staged (d : Die) (f : DieLog → DieLog) (p : Pkg) : (onLog d f p).staged = p.staged := rfl
@[simp] theorem onLog_journal (d : Die) (f : DieLog → DieLog) (p : Pkg) : (onLog d f p).journal = p.journal := rfl
@[simp] theorem onLog_banks (d : Die) (f : DieLog → DieLog) (p : Pkg) : (onLog d f p).banks = p.banks := rfl
@[simp] theorem onLog_log (d : Die) (f : DieLog → DieLog) (p : Pkg) : (onLog d f p).log = p.log.set d (f (p.log.get d)) := rfl

@[simp] theorem onPk_pending (s : State) (f : Pkg → Pkg) : (s.onPk f).pending = s.pending := rfl
@[simp] theorem onPk_ledger (s : State) (f : Pkg → Pkg) : (s.onPk f).ledger = s.ledger := rfl
@[simp] theorem onPk_pk (s : State) (f : Pkg → Pkg) : (s.onPk f).pk = f s.pk := rfl

/-! A value set for a die or a side is what that die or side then reads; the others read theirs. -/

@[simp] theorem PerDie.get_set_self {α : Type} (t : PerDie α) (d : Die) (x : α) : (t.set d x).get d = x := by cases d <;> rfl

theorem PerDie.get_set_ne {α : Type} (t : PerDie α) {d e : Die} (x : α) (h : d ≠ e) : (t.set d x).get e = t.get e := by
  cases d <;> cases e <;> first | rfl | exact absurd rfl h

@[simp] theorem PerDie.set_get {α : Type} (t : PerDie α) (d : Die) : t.set d (t.get d) = t := by cases d <;> rfl

@[simp] theorem PerDie.set_set {α : Type} (t : PerDie α) (d : Die) (x y : α) : (t.set d x).set d y = t.set d y := by cases d <;> rfl

@[simp] theorem Two.get_set_self {α : Type} (t : Two α) (x : Side) (v : α) : (t.set x v).get x = v := by cases x <;> rfl

@[simp] theorem Two.get_set_other {α : Type} (t : Two α) (x : Side) (v : α) : (t.set x v).get x.other = t.get x.other := by cases x <;> rfl

@[simp] theorem Two.set_get {α : Type} (t : Two α) (x : Side) : t.set x (t.get x) = t := by cases x <;> rfl

end Sys2Proof.Machine
end

