-- ==== Sys2Proof/Laws/Store.lean ====
section
/-! SUPPORT. Laws of the register store: a field reads what was written to it, and no other field changes. -/

namespace Sys2Proof.Machine

theorem cellsGet_filter_ne (l : Cells) (x y : Nat) (h : y ≠ x) : cellsGet (l.filter (fun c => c.1 != x)) y = cellsGet l y := by
  induction l with
  | nil => rfl
  | cons c r ih =>
    obtain ⟨k, u⟩ := c
    by_cases hk : k = x
    · subst hk; simp [cellsGet, ih, Ne.symm h]
    · simp [hk, cellsGet, ih]

theorem cellsGet_filter_self (l : Cells) (x : Nat) : cellsGet (l.filter (fun c => c.1 != x)) x = 0 := by
  induction l with
  | nil => rfl
  | cons c r ih =>
    obtain ⟨k, u⟩ := c
    by_cases hk : k = x
    · simp [hk, ih]
    · simp [hk, cellsGet, ih]

theorem cellsGet_ins_self (l : Cells) (x v : Nat) (h : ∀ c ∈ l, c.1 ≠ x) : cellsGet (cellsIns l x v) x = v := by
  induction l with
  | nil => simp [cellsIns, cellsGet]
  | cons c r ih =>
    obtain ⟨k, u⟩ := c
    have hk : k ≠ x := h (k, u) (by simp)
    by_cases hlt : x < k
    · simp [cellsIns, hlt, cellsGet]
    · simp [cellsIns, hlt, cellsGet, hk, ih (fun c hc => h c (by simp [hc]))]

theorem cellsGet_ins_ne (l : Cells) (x v y : Nat) (h : y ≠ x) : cellsGet (cellsIns l x v) y = cellsGet l y := by
  induction l with
  | nil => simp [cellsIns, cellsGet, Ne.symm h]
  | cons c r ih =>
    obtain ⟨k, u⟩ := c
    by_cases hlt : x < k
    · simp [cellsIns, hlt, cellsGet, Ne.symm h]
    · simp only [cellsIns, hlt, if_false, cellsGet, ih]

/-- What a key reads after a write of a key. -/
theorem cellsGet_put (l : Cells) (x v y : Nat) : cellsGet (cellsPut l x v) y = if y = x then v else cellsGet l y := by
  unfold cellsPut
  by_cases h : y = x
  · subst h
    by_cases hv : v = 0
    · simp [hv, cellsGet_filter_self]
    · simp only [hv, if_false, if_true]
      exact cellsGet_ins_self _ _ _ (fun c hc => by simpa using (List.mem_filter.mp hc).2)
  · by_cases hv : v = 0
    · simp [hv, h, cellsGet_filter_ne]
    · simp [hv, h, cellsGet_ins_ne, cellsGet_filter_ne]

theorem Die.num_lt (d : Die) : d.num < 8 := by cases d <;> decide

theorem Die.num_inj {d e : Die} (h : d.num = e.num) : d = e := by cases d <;> cases e <;> first | rfl | simp [Die.num] at h

/-- Keys of existing entries tell the field, the die and the entry apart. -/
theorem Fld.key_inj {F G : Fld} {d e : Die} {i j : Nat} (hi : i < 65536) (hj : j < 65536) (h : F.key d.num i = G.key e.num j) :
    F.id = G.id ∧ d = e ∧ i = j := by
  have hd := Die.num_lt d
  have he := Die.num_lt e
  unfold Fld.key at h
  have h1 : F.id = G.id := by omega
  have h2 : d.num = e.num := by omega
  exact ⟨h1, Die.num_inj h2, by omega⟩

theorem xor_xor_cancel (a b : Nat) : a ^^^ b ^^^ b = a := by rw [Nat.xor_assoc, Nat.xor_self, Nat.xor_zero]

/-- An entry reads what was written to it, cut to its width. -/
theorem storeGet_storeSet_self (c : Cells) (d : Nat) (F : Fld) (i v : Nat) (h : i < F.count) :
    storeGet (storeSet c d F i v) d F i = trunc F.w v := by
  simp [storeGet, storeSet, h, cellsGet_put, xor_xor_cancel]

/-- An entry of another field, of another die or of another number keeps its contents. -/
theorem storeGet_storeSet_ne (c : Cells) (d e : Die) (F G : Fld) (i j v : Nat) (hF : F.count ≤ 65536) (hG : G.count ≤ 65536)
    (h : ¬(F.id = G.id ∧ d = e ∧ i = j)) : storeGet (storeSet c d.num F i v) e.num G j = storeGet c e.num G j := by
  unfold storeGet storeSet
  by_cases hi : i < F.count
  · by_cases hj : j < G.count
    · have hne : G.key e.num j ≠ F.key d.num i := by
        intro hk
        obtain ⟨h1, h2, h3⟩ := Fld.key_inj (by omega) (by omega) hk
        exact h ⟨h1.symm, h2.symm, h3.symm⟩
      simp [hi, hj, cellsGet_put, hne]
    · simp [hj]
  · simp [hi]

/-! The canonical form. -/

theorem cellsWf_cons (c : Nat × Nat) (l : Cells) :
    cellsWf (c :: l) = true ↔ c.2 ≠ 0 ∧ (∀ e ∈ l, c.1 < e.1) ∧ cellsWf l = true := by
  induction l generalizing c with
  | nil => obtain ⟨k, v⟩ := c; simp [cellsWf]
  | cons e r ih =>
    obtain ⟨k, v⟩ := c
    obtain ⟨k', v'⟩ := e
    simp only [cellsWf, Bool.and_eq_true, bne_iff_ne, decide_eq_true_eq, List.mem_cons, forall_eq_or_imp]
    constructor
    · rintro ⟨⟨h1, h2⟩, h3⟩
      refine ⟨h1, ⟨h2, ?_⟩, h3⟩
      intro e he
      exact Nat.lt_trans h2 (((ih (k', v')).mp h3).2.1 e he)
    · rintro ⟨h1, ⟨h2, _⟩, h3⟩
      exact ⟨⟨h1, h2⟩, h3⟩

/-- Taking cells out keeps the form. -/
theorem cellsWf_filter (f : Nat × Nat → Bool) (l : Cells) (h : cellsWf l = true) : cellsWf (l.filter f) = true := by
  induction l with
  | nil => rfl
  | cons c r ih =>
    obtain ⟨h1, h2, h3⟩ := (cellsWf_cons c r).mp h
    by_cases hc : f c
    · rw [List.filter_cons_of_pos hc]
      exact (cellsWf_cons _ _).mpr ⟨h1, fun e he => h2 e (List.mem_filter.mp he).1, ih h3⟩
    · rw [List.filter_cons_of_neg hc]
      exact ih h3

theorem mem_cellsIns {l : Cells} {x v : Nat} {e : Nat × Nat} (h : e ∈ cellsIns l x v) : e = (x, v) ∨ e ∈ l := by
  induction l with
  | nil => simpa [cellsIns] using h
  | cons c r ih =>
    obtain ⟨k, u⟩ := c
    by_cases hlt : x < k
    · simpa [cellsIns, hlt] using h
    · simp only [cellsIns, hlt, if_false, List.mem_cons] at h
      rcases h with h | h
      · exact .inr (by simp [h])
      · exact (ih h).imp id (fun h => by simp [h])

theorem cellsWf_ins (l : Cells) (x v : Nat) (hv : v ≠ 0) (hx : ∀ c ∈ l, c.1 ≠ x) (h : cellsWf l = true) :
    cellsWf (cellsIns l x v) = true := by
  induction l with
  | nil => simpa [cellsIns, cellsWf] using hv
  | cons c r ih =>
    obtain ⟨k, u⟩ := c
    obtain ⟨h1, h2, h3⟩ := (cellsWf_cons _ _).mp h
    by_cases hlt : x < k
    · simp only [cellsIns, hlt, if_true]
      exact (cellsWf_cons _ _).mpr ⟨hv, by
        intro e he
        rcases List.mem_cons.mp he with rfl | he
        · exact hlt
        · exact Nat.lt_trans hlt (h2 e he), h⟩
    · simp only [cellsIns, hlt, if_false]
      have hk : k ≠ x := hx (k, u) (by simp)
      exact (cellsWf_cons _ _).mpr ⟨h1, by
        intro e he
        rcases mem_cellsIns he with rfl | he
        · show k < x; omega
        · exact h2 e he, ih (fun c hc => hx c (by simp [hc])) h3⟩

/-- A write keeps the form. -/
theorem cellsWf_put (l : Cells) (x v : Nat) (h : cellsWf l = true) : cellsWf (cellsPut l x v) = true := by
  unfold cellsPut
  by_cases hv : v = 0
  · simpa [hv] using cellsWf_filter _ l h
  · simp only [hv, if_false]
    exact cellsWf_ins _ _ _ hv (fun c hc => by simpa using (List.mem_filter.mp hc).2) (cellsWf_filter _ l h)

/-- Writing a field keeps the form. -/
theorem storeSet_wf (c : Cells) (d : Nat) (F : Fld) (i v : Nat) (h : cellsWf c = true) : cellsWf (storeSet c d F i v) = true := by
  unfold storeSet
  split
  · exact cellsWf_put _ _ _ h
  · exact h

end Sys2Proof.Machine
end

