-- ==== Sys2Proof/Laws/Ops.lean ====
section
/-! SUPPORT. What each shared operation over the package can do: one lemma for the value it leaves, one for all it leaves alone. -/

namespace Sys2Proof.Machine

/-! One spelling: every read is `rdI`, every write `wrI`. -/

@[simp] theorem rd_eq (p : Pkg) (d : Die) (F : Fld) : rd p d F = rdI p d F 0 := rfl
@[simp] theorem wr_eq (d : Die) (F : Fld) (v : Nat) (p : Pkg) : wr d F v p = wrI d F 0 v p := rfl
@[simp] theorem flagI_eq (p : Pkg) (d : Die) (F : Fld) (i : Nat) : flagI p d F i = (rdI p d F i != 0) := rfl
@[simp] theorem flag_eq (p : Pkg) (d : Die) (F : Fld) : flag p d F = (rdI p d F 0 != 0) := rfl
@[simp] theorem onlyIf_true (f : Pkg → Pkg) (p : Pkg) : onlyIf true f p = f p := rfl
@[simp] theorem onlyIf_false (f : Pkg → Pkg) (p : Pkg) : onlyIf false f p = p := rfl

/-- An entry reads what was written to it, cut to the field's width. -/
theorem rdI_wrI_self (p : Pkg) (d : Die) (F : Fld) (i v : Nat) (h : i < F.count) : rdI (wrI d F i v p) d F i = v % 2 ^ F.w :=
  storeGet_storeSet_self _ _ _ _ _ h

/-- Another field keeps its contents. -/
theorem rdI_wrI_field (p : Pkg) (d e : Die) (F G : Fld) (i j v : Nat) (hF : F.count ≤ 65536) (hG : G.count ≤ 65536) (h : F.id ≠ G.id) :
    rdI (wrI d F i v p) e G j = rdI p e G j := storeGet_storeSet_ne _ _ _ _ _ _ _ _ hF hG (fun x => h x.1)

/-- Another die keeps its contents. -/
theorem rdI_wrI_die (p : Pkg) (d e : Die) (F G : Fld) (i j v : Nat) (hF : F.count ≤ 65536) (hG : G.count ≤ 65536) (h : d ≠ e) :
    rdI (wrI d F i v p) e G j = rdI p e G j := storeGet_storeSet_ne _ _ _ _ _ _ _ _ hF hG (fun x => h x.2.1)

/-- Another entry keeps its contents. -/
theorem rdI_wrI_entry (p : Pkg) (d e : Die) (F G : Fld) (i j v : Nat) (hF : F.count ≤ 65536) (hG : G.count ≤ 65536) (h : i ≠ j) :
    rdI (wrI d F i v p) e G j = rdI p e G j := storeGet_storeSet_ne _ _ _ _ _ _ _ _ hF hG (fun x => h x.2.2)

@[simp] theorem rdI_onLog (d e : Die) (f : DieLog → DieLog) (p : Pkg) (G : Fld) (j : Nat) : rdI (onLog d f p) e G j = rdI p e G j := rfl

/-! Frames. -/

theorem FieldsKept.refl (l : List (Die × Fld)) (p : Pkg) : FieldsKept l p p := fun _ _ _ _ _ => rfl

theorem FieldsKept.trans {a b : List (Die × Fld)} {p q r : Pkg} (h : FieldsKept a p q) (k : FieldsKept b q r) : FieldsKept (a ++ b) p r :=
  fun d F i hF hn => (k d F i hF (fun g hg => hn g (by simp [hg]))).trans (h d F i hF (fun g hg => hn g (by simp [hg])))

theorem FieldsKept.mono {a b : List (Die × Fld)} {p q : Pkg} (h : FieldsKept a p q) (hs : ∀ g ∈ a, g ∈ b) : FieldsKept b p q :=
  fun d F i hF hn => h d F i hF (fun g hg => hn g (hs g hg))

theorem FieldsKept.wrI (d : Die) (F : Fld) (i v : Nat) (p : Pkg) (hF : F.count ≤ 65536) : FieldsKept [(d, F)] p (wrI d F i v p) :=
  fun e G j hG hn => storeGet_storeSet_ne _ _ _ _ _ _ _ _ hF hG (fun x => hn (d, F) (by simp) ⟨x.2.1, x.1⟩)

theorem OnlyFields.refl (l : List (Die × Fld)) (p : Pkg) : OnlyFields l p p := ⟨rfl, FieldsKept.refl l p⟩

theorem OnlyFields.trans {a b : List (Die × Fld)} {p q r : Pkg} (h : OnlyFields a p q) (k : OnlyFields b q r) : OnlyFields (a ++ b) p r := by
  refine ⟨?_, h.2.trans k.2⟩
  rw [k.1, h.1]

theorem OnlyFields.mono {a b : List (Die × Fld)} {p q : Pkg} (h : OnlyFields a p q) (hs : ∀ g ∈ a, g ∈ b) : OnlyFields b p q :=
  ⟨h.1, h.2.mono hs⟩

theorem OnlyFields.wrI (d : Die) (F : Fld) (i v : Nat) (p : Pkg) (hF : F.count ≤ 65536) : OnlyFields [(d, F)] p (wrI d F i v p) :=
  ⟨rfl, FieldsKept.wrI d F i v p hF⟩

theorem OnlyFieldsAndLog.mono {d : Die} {a b : List (Die × Fld)} {p q : Pkg} (h : OnlyFieldsAndLog d a p q) (hs : ∀ g ∈ a, g ∈ b) :
    OnlyFieldsAndLog d b p q := ⟨h.1, h.2.mono hs⟩

theorem OnlyFieldsAndLog.trans {d : Die} {a b : List (Die × Fld)} {p q r : Pkg} (h : OnlyFieldsAndLog d a p q)
    (k : OnlyFieldsAndLog d b q r) : OnlyFieldsAndLog d (a ++ b) p r := by
  refine ⟨?_, h.2.trans k.2⟩
  have h1 := h.1
  have k1 := k.1
  rw [k1, h1]
  simp

/-- A change of registers alone is one in which the log stays too. -/
theorem OnlyFields.andLog {a : List (Die × Fld)} {p q : Pkg} (d : Die) (h : OnlyFields a p q) : OnlyFieldsAndLog d a p q := by
  refine ⟨?_, h.2⟩
  have h1 : q.log = p.log := by rw [h.1]
  rw [h1]
  simpa using h.1

theorem OnlyFieldsAndLog.onLog (d : Die) (f : DieLog → DieLog) (p : Pkg) : OnlyFieldsAndLog d [] p (onLog d f p) := by
  refine ⟨?_, fun _ _ _ _ _ => rfl⟩
  simp [Machine.onLog]

/-- A record of a class below NME: the die's log side takes it and the die's sequence number goes on; nothing else changes. -/
theorem logRec_eq (d : Die) (code origin slot keyId : Nat) (pl : Payload) (p : Pkg) (h : codeClass code ≠ clsNme) :
    logRec d code origin slot keyId pl p =
      wrI d I_DIE.SEQ 0 (rdI p d I_DIE.SEQ 0 + 1)
        (onLog d (fun l => l.place (logPath p d) (mkRec p d code origin slot keyId pl)) p) := by
  have h' : (codeClass code == clsNme) = false := by simpa using h
  simp [logRec, h', inc, incI]

/-- The class of a code is the class it was made with. -/
theorem codeClass_eventCode (c b x : Nat) (hc : c < 16) (hb : b < 64) (hx : x < 64) : codeClass (eventCode c b x) = c := by
  unfold codeClass eventCode; omega

/-- A record of a class below NME leaves every entry but the die's sequence number. -/
theorem rdI_logRec (p : Pkg) (d e : Die) (code o s k : Nat) (pl : Payload) (G : Fld) (j : Nat) (hc : codeClass code ≠ clsNme)
    (hG : G.count ≤ 65536) (h : I_DIE.SEQ.id ≠ G.id) : rdI (logRec d code o s k pl p) e G j = rdI p e G j := by
  rw [logRec_eq _ _ _ _ _ _ _ hc, rdI_wrI_field _ _ _ _ _ _ _ _ (by decide) hG h, rdI_onLog]

theorem logRec_frame (d : Die) (code origin slot keyId : Nat) (pl : Payload) (p : Pkg) (h : codeClass code ≠ clsNme) :
    OnlyFieldsAndLog d (logFields d) p (logRec d code origin slot keyId pl p) := by
  rw [logRec_eq d code origin slot keyId pl p h]
  exact ((OnlyFieldsAndLog.onLog d _ p).trans ((OnlyFields.wrI d I_DIE.SEQ 0 _ _ (by decide)).andLog d)).mono (by simp [logFields])

/-- Raising an event of a class below NME: its bit is set, a record is written, and nothing else changes. -/
theorem raiseWith_frame (d : Die) (cls : Nat) (F : Fld) (pl : Payload) (p : Pkg) (hF : F.count ≤ 65536)
    (h : codeClass (eventCode cls (blockCode F.off) F.lo) ≠ clsNme) :
    OnlyFieldsAndLog d ((d, F) :: logFields d) p (raiseWith d cls F pl p) :=
  (((OnlyFields.wrI d F 0 1 p hF).andLog d).trans (logRec_frame d _ _ _ _ _ _ h)).mono (by simp [logFields])

/-- The event bit stands after the event was raised. -/
theorem raiseWith_sets (d : Die) (cls : Nat) (F : Fld) (pl : Payload) (p : Pkg) (hc : 0 < F.count) (hF : F.count ≤ 65536) (hw : F.w = 1)
    (hs : F.id ≠ I_DIE.SEQ.id) (h : codeClass (eventCode cls (blockCode F.off) F.lo) ≠ clsNme) :
    rdI (raiseWith d cls F pl p) d F 0 = 1 := by
  simp only [raiseWith, logAt, wr_eq]
  rw [logRec_eq _ _ _ _ _ _ _ h, rdI_wrI_field _ _ _ _ _ _ _ _ (by decide) hF (Ne.symm hs), rdI_onLog, rdI_wrI_self _ _ _ _ _ hc]
  simp [hw]

/-! The other writes of a register are writes of one field. -/

theorem OnlyFields.wrSI (d : Die) (F : Fld) (i : Nat) (v : Int) (p : Pkg) (hF : F.count ≤ 65536) :
    OnlyFields [(d, F)] p (wrSI d F i v p) := OnlyFields.wrI d F i _ p hF

theorem OnlyFields.incI (d : Die) (F : Fld) (i : Nat) (p : Pkg) (hF : F.count ≤ 65536) : OnlyFields [(d, F)] p (incI d F i p) :=
  OnlyFields.wrI d F i _ p hF

theorem OnlyFields.addSatI (d : Die) (F : Fld) (i n : Nat) (p : Pkg) (hF : F.count ≤ 65536) : OnlyFields [(d, F)] p (addSatI d F i n p) :=
  OnlyFields.wrI d F i _ p hF

/-- What is done only under a condition stays within what it does. -/
theorem OnlyFields.onlyIf {l : List (Die × Fld)} (c : Bool) (f : Pkg → Pkg) (p : Pkg) (h : c = true → OnlyFields l p (f p)) :
    OnlyFields l p (onlyIf c f p) := by
  cases c
  · exact (OnlyFields.refl [] p).mono (by simp)
  · exact h rfl

/-! The lists of a lane, a baseband, a port die, a switch half and a staging change by themselves: no register reads otherwise, and
the other side's lists stay. -/

@[simp] theorem rdI_onLane (x : Side) (f : Lane → Lane) (p : Pkg) (d : Die) (F : Fld) (i : Nat) : rdI (onLane x f p) d F i = rdI p d F i := rfl
@[simp] theorem rdI_onBb (x : Side) (f : Bb → Bb) (p : Pkg) (d : Die) (F : Fld) (i : Nat) : rdI (onBb x f p) d F i = rdI p d F i := rfl
@[simp] theorem rdI_onPort (y : Side) (f : Port → Port) (p : Pkg) (d : Die) (F : Fld) (i : Nat) : rdI (onPort y f p) d F i = rdI p d F i := rfl
@[simp] theorem rdI_onEth (y : Side) (f : Eth → Eth) (p : Pkg) (d : Die) (F : Fld) (i : Nat) : rdI (onEth y f p) d F i = rdI p d F i := rfl
@[simp] theorem rdI_onStage (x : Side) (f : Stage → Stage) (p : Pkg) (d : Die) (F : Fld) (i : Nat) :
    rdI (onStage x f p) d F i = rdI p d F i := rfl

@[simp] theorem onLane_get_self (x : Side) (f : Lane → Lane) (p : Pkg) : (onLane x f p).lanes.get x = f (p.lanes.get x) := by simp [onLane]
@[simp] theorem onLane_get_other (x : Side) (f : Lane → Lane) (p : Pkg) : (onLane x f p).lanes.get x.other = p.lanes.get x.other := by
  simp [onLane]
@[simp] theorem onBb_get_self (x : Side) (f : Bb → Bb) (p : Pkg) : (onBb x f p).bbs.get x = f (p.bbs.get x) := by simp [onBb]
@[simp] theorem onPort_get_self (y : Side) (f : Port → Port) (p : Pkg) : (onPort y f p).ports.get y = f (p.ports.get y) := by simp [onPort]
@[simp] theorem onEth_get_self (y : Side) (f : Eth → Eth) (p : Pkg) : (onEth y f p).eth.get y = f (p.eth.get y) := by simp [onEth]
@[simp] theorem onStage_get_self (x : Side) (f : Stage → Stage) (p : Pkg) : (onStage x f p).staged.get x = f (p.staged.get x) := by
  simp [onStage]

/-- A change of a lane's lists is nothing else. -/
theorem onLane_frame (x : Side) (f : Lane → Lane) (p : Pkg) : onLane x f p = { p with lanes := (onLane x f p).lanes } := rfl

end Sys2Proof.Machine
end

