-- ==== Sys2Proof/Tests/Slice0.lean ====
section
/-! SUPPORT. The model's own tests: well-formedness on ill-formed commands, worked examples of the manual, single steps, and one witness
theorem for each statement, which shows states and operands that meet the hypotheses of every one of its clauses. -/

namespace Sys2Proof.Tests

open Sys2Proof Sys2Proof.Machine

set_option Elab.async false

/-- The machine right after reset with some register entries written. -/
def wst (l : List (Die × Fld × Nat × Nat)) : State :=
  { State.reset with pk := { Pkg.reset with regs := l.foldl (fun c x => storeSet c x.1.num x.2.1 x.2.2.1 x.2.2.2) State.resetCells } }

/-- The register word at an address, for a witness. -/
def hitAt (d : Die) (off : Nat) : RegRow × Nat × Nat := (wordAt d off).getD (⟨0, 0, 0, 0, [], [], []⟩, 0, 0)

/-- The bytes of an OPEN message before its tag. -/
def openBody : List Nat := [0x4E, 0x48, 1, 0, 1, 0, 1, 0] ++ leBytes 8 77 ++ leBytes 4 0 ++ [0, 0, 24, 0] ++ leBytes 8 0 ++ List.replicate 16 9 ++ leBytes 8 5

/-- An OPEN message with its tag. -/
def openBytes : List Nat := openBody ++ hmacSha (keyBytes 0) openBody

/-- A leat flit of a header word and zero payload, with its CRC. -/
def flitOf (h : Nat) : List Nat := let b := leBytes 8 h ++ List.replicate 244 0; b ++ leBytes 4 (crc32c b)

/-! Well-formedness. -/

/-- A raw sample in its ranges. -/
def rawGood : RawSample := ⟨.pa, 0, 0, 0, 0, 0, none, [0]⟩

/-- A CAN frame in its ranges. -/
def frameGood : CanFrame := ⟨0x7FF, false, false, false, false, false, 8, List.replicate 8 0⟩

/-- A datagram in its ranges. -/
def dgramGood : Dgram := ⟨0, 1, 0, 0, 2000, 0, [1]⟩

/-- A PTP message in its ranges. -/
def ptpGood : PtpMsg := ⟨0, 0, 2, 0, false, 0, 0, 0, 0, 0, 0, (0, 0), ⟨0, 0, 0, 0, 0, 0, 0, 0, 0, 0, false, false, false⟩⟩

/-- Commands with every operand in its range. -/
def goodCommands1 : List Instr :=
  [.claimAssert .a, .laneInhibitChange .a true, .leatFlitReceive .a (List.replicate 256 0), .leatNak .a 0, .leatDown .a true,
   .leatRetrainTimer true, .retrain .a true, .loopback .a true, .digestReceive .a true, .standbyReady .a, .readyLost .a,
   .handshake .a, .release .a, .arm .a, .disarm .a, .lockstepMismatch .a, .tickDoneTimeout .a, .sramUe .a true 0, .faultHistoryAge .a,
   .clearLockout 0 .a, .clearDrill 0 .a, .swapReqPin true, .swapRelease .a, .reversion .a, .drillDwellEnd, .sampleReceive rawGood,
   .frameCutoff .ha, .sealReceive .a .ha, .frameClose .a, .sealShort .a, .posReacquire .a, .convGained .a, .srcReturned .a 0,
   .estFreeze .a true, .windLost .a, .joyLost .a, .waypointDwell .a, .reinit .a, .redatum .a, .demandSpill .a 0]

/-- Commands with every operand in its range. -/
def goodCommands2 : List Instr :=
  [.antMonitorSample .a 0, .antBiasRetry .a, .antRetry .a, .channelPlan .a .a [], .lockLoss .a ⟨0, 0, 0⟩, .reacqTimeout .a 0,
   .cycleSlip .a ⟨0, 0⟩, .channelLocked .a 0, .acqDwell .a true, .gnssEpoch .a 0 0 0 0 [] true, .navPage .a 0 0 0 0 true,
   .rtcmFrame .a 0 0 [0], .corrStale .a 0, .sbasResume .a, .reflectStart .a, .reflectDone .a 0, .hwWake .a, .hwSleep .a true,
   .snapTrigger .a, .captureStart .a 0, .captureDone .a [0], .snapRelease .a, .snapDiscarded .a, .gnsWeirFire .a 0,
   .gnsWeirRearm .a 0, .canMsgCompose .a 0, .pushFrame .a .a 0 0, .cancel .a .a 0 0 true, .canArbitrationLost .a 0,
   .canFrameSent .a 0 0 none, .canError .a 0 true true true true none, .busOn .a 0, .canFrameReceive .a 0 0 frameGood true,
   .canPairLatch .a 0, .canCensusWindow .a, .canSpareTakeover .a 0, .sluiceWrite .a .a .can 0 0, .deadhandRefresh .a .a,
   .deadhandTrip .a, .deadhandRampStep .a]

/-- Commands with every operand in its range. -/
def goodCommands3 : List Instr :=
  [.analogOutput .a 0 0, .firstStageSample .a 0 0, .syncReset .a 0, .sigSync .a 0, .weirFire .a 0, .sentenceReceive .a 0 0 [0],
   .dioInputChange .a 0 true 0, .pulseEdge .a 0 0, .feedbackStale .a 0, .dacLoadMeasure .a 0 0, .occurrenceAge .ha 0 0,
   .assemblyRun .a, .solverRun .a true true, .solverDeadline .a ⟨1, false, 0⟩ true, .furrowParityError .a 0 ⟨1, false, 0⟩,
   .solTraceFreeze .a true, .loopTick ⟨false, false⟩ ⟨false, false⟩, .regionSwap .a 0, .bfpExit .a 0, .rcHold .a 0, .plausFault .a 0,
   .plausAck .a 0, .loopTraceFreeze .a true, .vesselCycleBoundary, .releaseTick, .frameRecordEmit .a, .modeCmd ⟨0, 5, 1, 7, 42, [1]⟩,
   .targetPos ⟨0, 5, 1, 7, 42, [1]⟩, .moveRel ⟨0, 5, 1, 7, 42, [1]⟩, .targetHdg ⟨0, 5, 1, 7, 42, [1]⟩,
   .joystick ⟨0, 5, 1, 7, 42, [1]⟩, .thrusterManual ⟨0, 5, 1, 7, 42, [1]⟩, .waypoints ⟨0, 5, 1, 7, 42, [1]⟩,
   .takeCommand ⟨0, 5, 1, 7, 42, [1]⟩, .stopCmd ⟨0, 5, 1, 7, 42, [1]⟩, .telSub ⟨0, 5, 1, 7, 42, [1]⟩, .spineMark .ha 0,
   .spineMarkMissing .ha, .spineMasterTakeover .a, .servoUpdate 0 0]

/-- Commands with every operand in its range. -/
def goodCommands4 : List Instr :=
  [.refTimeout, .incrTimeout, .timeLocked, .stepAccept 0, .stepMark, .utcLeap, .timePulseEdge .a 0, .timIncrWrite .ha none 0,
   .timSlewWrite .ha none 0, .slewDone, .clockMonitorWindow .ha none 0 0, .fastDetectorTrip .ha, .clockResume .ha 0,
   .fallbackTrim .ha 0 0, .moveOther .ha, .moveRetry .ha, .moveRelockDone .ha, .moveHome .ha, .requalified .ha true, .clkNmeAck .ha,
   .gateDisable .ha true, .ethFrameReceive 0 0 true [0], .macAge .a 0 0, .iec61162450Datagram dgramGood, .udpSensorDatagram dgramGood,
   .ethFrameTransmit 0 0, .pdelayReqTimer 0, .ptpMessageTimer 0, .ptpMessageReceive ptpGood, .announceTimeout, .ptpTxqKeyRead 0 true,
   .ptpPartnerWindow 0, .ethLinkChange 0 true 0 true true, .moreTimeout .a 0, .keepalive .a 0 0,
   .registerWrite .firmware .ha 0 0 true, .pairLowRead 0 0, .pairLowWrite .firmware .ha 0 0, .pairHighWrite .firmware .ha 0 0,
   .sigTest .a 0]

/-- Commands with every operand in its range. -/
def goodCommands5 : List Instr :=
  [.logRecordReceive .ha, .logRecordWrite, .spillFlush, .auditHoldSend .ha, .logPathReturn .ha, .culvertCrcError 0 true,
   .linkDown 0 true, .culvertLinkUp 0 true, .openSession .pa ⟨0, 0⟩ true [0], .closeSession ⟨.pa, 1, 9⟩ [0], .ident ⟨.pa, 1, 9⟩ [0],
   .readWords ⟨.pa, 1, 9⟩ [0], .writeWord ⟨.pa, 1, 9⟩ [0] true, .sessionTimeExchange, .sessionIdleTimeout 0, .keySet none [0],
   .swap ⟨.pa, 1, 9⟩ [0], .drill ⟨.pa, 1, 9⟩ [0], .drillAbort ⟨.pa, 1, 9⟩ [0], .clkMove ⟨.pa, 1, 9⟩ [0], .snapExport ⟨.pa, 1, 9⟩ [0],
   .dataAck ⟨.pa, 1, 9⟩ [0], .dataResend 0, .dataTransferFail 0, .flumeSpaceReturn .a, .txnBegin ⟨.pa, 1, 9⟩ [0],
   .txnWrite ⟨.pa, 1, 9⟩ [0], .txnCommit ⟨.pa, 1, 9⟩ [0], .txnAbort ⟨.pa, 1, 9⟩ [0], .txnBreak ⟨.pa, 1, 9⟩ [0], .txnAckDeadline true,
   .txnApply, .txnExpired, .lytBegin ⟨.pa, 1, 9⟩ [0], .lytData ⟨.pa, 1, 9⟩ [0], .lytVerify ⟨.pa, 1, 9⟩ [0], .lytVerifyDone,
   .lytApply ⟨.pa, 1, 9⟩ [0], .lytAbort ⟨.pa, 1, 9⟩ [0], .lytExport ⟨.pa, 1, 9⟩ [0]]

/-- Commands with every operand in its range. -/
def goodCommands6 : List Instr :=
  [.migrateDone, .lytReady, .lytConvTimeout, .firstApply, .headgateLineChange .a true, .portDieRestart .a, .stewardHeartbeat,
   .stewardSilent .a, .stewardWatchdog, .stewardRestartWindow .a, .railSample 0 0, .tempSample 0 0, .currentSample 0 0,
   .resourceOccurrence .ha 0 0 true, .logExport ⟨.pa, 1, 9⟩ [0], .logMark ⟨.pa, 1, 9⟩ [0], .nmeAck ⟨.pa, 1, 9⟩ [0],
   .retireClear ⟨.pa, 1, 9⟩ [0], .updBegin ⟨.pa, 1, 9⟩ [0], .updData ⟨.pa, 1, 9⟩ [0], .updPartTimeout, .updVerify ⟨.pa, 1, 9⟩ [0],
   .updVerifyDone, .updActivate ⟨.pa, 1, 9⟩ [0], .updReady .a, .updConfirm ⟨.pa, 1, 9⟩ [0], .updAbort ⟨.pa, 1, 9⟩ [0],
   .trialTimeout .a, .stewardTrialTimeout, .restoreStart .a, .restoreDone .a, .fuseLayoutKey ⟨.pa, 1, 9⟩ [0], .stewardRestartDone,
   .qualRetry .ha, .qualificationDone .ha 0 [0] [0] 0 [], .bootLedgerRetry .ha [], .laneBoot .a [], .stewardBoot, .layoutCheckDone,
   .resetAssert]

/-- Commands with every operand in its range. -/
def goodCommands7 : List Instr :=
  [.resetRelease 0 true, .pwrGoodFall, .pwrGoodWait, .brownOut .ha, .brownOutRelease .ha, .laneEligible .a, .electWait .a,
   .jtagBypass, .jtagIdcode, .jtagSamplePreload 0 0, .jtagExtest 0 none, .jtagHighz, .jtagClamp]

/-- Commands with one operand out of its range each. -/
def badCommands1 : List Instr :=
  [.leatFlitReceive .a (List.replicate 255 0), .leatFlitReceive .a (List.replicate 256 256), .leatNak .a 65536,
   .sramUe .a true (2 ^ 13), .clearLockout 8 .a, .clearDrill 8 .a, .sampleReceive { rawGood with comps := [2 ^ 64] },
   .srcReturned .a 64, .demandSpill .a 8, .antMonitorSample .a (2 ^ 16), .channelPlan .a .a [(256, 0, 0)],
   .channelPlan .a .a [(0, 256, 0)], .lockLoss .a ⟨160, 0, 0⟩, .reacqTimeout .a 160, .cycleSlip .a ⟨160, 0⟩, .channelLocked .a 160,
   .gnssEpoch .a 0 0 0 0 [⟨160, true, true, true, 0, 0, 0, 0, [], []⟩] true, .navPage .a 160 0 0 0 true,
   .navPage .a 0 0 0 (2 ^ 600) true, .rtcmFrame .a 8 0 [0], .rtcmFrame .a 0 0 [256], .corrStale .a 4, .captureStart .a 1000000,
   .captureDone .a [256], .gnsWeirFire .a 4, .gnsWeirRearm .a 4, .canMsgCompose .a 64, .pushFrame .a .a 4 0, .pushFrame .a .a 0 256,
   .cancel .a .a 4 0 true, .cancel .a .a 0 256 true, .canArbitrationLost .a 4, .canFrameSent .a 4 0 none,
   .canError .a 4 true true true true none, .busOn .a 4, .canFrameReceive .a 4 0 frameGood true,
   .canFrameReceive .a 0 0 { frameGood with id := 2 ^ 11 } true,
   .canFrameReceive .a 0 0 { frameGood with id := 2 ^ 29, ide := true } true,
   .canFrameReceive .a 0 0 { frameGood with dlc := 16 } true,
   .canFrameReceive .a 0 0 { frameGood with data := List.replicate 65 0 } true]

/-- Commands with one operand out of its range each. -/
def badCommands2 : List Instr :=
  [.canFrameReceive .a 0 0 { frameGood with data := [256] } true, .canSpareTakeover .a 4, .sluiceWrite .a .a .can 128 0,
   .sluiceWrite .a .a .uart 8 0, .sluiceWrite .a .a .dac 16 0, .sluiceWrite .a .a .dio 24 0, .sluiceWrite .a .a .dio 0 2,
   .sluiceWrite .a .a .can 0 (2^32), .sluiceWrite .a .a .uart 0 (256^82), .analogOutput .a 16 0, .firstStageSample .a 16 0,
   .syncReset .a 16, .sigSync .a (2 ^ 32), .weirFire .a 64, .sentenceReceive .a 8 0 [0], .sentenceReceive .a 0 0 [256],
   .dioInputChange .a 24 true 0, .pulseEdge .a 24 0, .feedbackStale .a 128, .dacLoadMeasure .a 40 0, .occurrenceAge .ha 16 0,
   .solverDeadline .a ⟨0, false, 0⟩ true, .solverDeadline .a ⟨41, false, 0⟩ true, .furrowParityError .a 9 ⟨1, false, 0⟩,
   .furrowParityError .a 0 ⟨41, false, 0⟩, .regionSwap .a 256, .bfpExit .a 256, .rcHold .a 256, .plausFault .a 256, .plausAck .a 256,
   .modeCmd ⟨0, 4, 1, 7, 42, []⟩, .modeCmd ⟨0, 5, 8, 7, 42, []⟩, .modeCmd ⟨0, 5, 1, 256, 42, []⟩, .modeCmd ⟨0, 5, 1, 7, 2 ^ 64, []⟩,
   .modeCmd ⟨0, 5, 1, 7, 42, [256]⟩, .targetPos ⟨0, 4, 1, 7, 42, []⟩, .targetPos ⟨0, 5, 8, 7, 42, []⟩,
   .targetPos ⟨0, 5, 1, 256, 42, []⟩, .targetPos ⟨0, 5, 1, 7, 2 ^ 64, []⟩, .targetPos ⟨0, 5, 1, 7, 42, [256]⟩]

/-- Commands with one operand out of its range each. -/
def badCommands3 : List Instr :=
  [.moveRel ⟨0, 4, 1, 7, 42, []⟩, .moveRel ⟨0, 5, 8, 7, 42, []⟩, .moveRel ⟨0, 5, 1, 256, 42, []⟩, .moveRel ⟨0, 5, 1, 7, 2 ^ 64, []⟩,
   .moveRel ⟨0, 5, 1, 7, 42, [256]⟩, .targetHdg ⟨0, 4, 1, 7, 42, []⟩, .targetHdg ⟨0, 5, 8, 7, 42, []⟩,
   .targetHdg ⟨0, 5, 1, 256, 42, []⟩, .targetHdg ⟨0, 5, 1, 7, 2 ^ 64, []⟩, .targetHdg ⟨0, 5, 1, 7, 42, [256]⟩,
   .joystick ⟨0, 4, 1, 7, 42, []⟩, .joystick ⟨0, 5, 8, 7, 42, []⟩, .joystick ⟨0, 5, 1, 256, 42, []⟩,
   .joystick ⟨0, 5, 1, 7, 2 ^ 64, []⟩, .joystick ⟨0, 5, 1, 7, 42, [256]⟩, .thrusterManual ⟨0, 4, 1, 7, 42, []⟩,
   .thrusterManual ⟨0, 5, 8, 7, 42, []⟩, .thrusterManual ⟨0, 5, 1, 256, 42, []⟩, .thrusterManual ⟨0, 5, 1, 7, 2 ^ 64, []⟩,
   .thrusterManual ⟨0, 5, 1, 7, 42, [256]⟩, .waypoints ⟨0, 4, 1, 7, 42, []⟩, .waypoints ⟨0, 5, 8, 7, 42, []⟩,
   .waypoints ⟨0, 5, 1, 256, 42, []⟩, .waypoints ⟨0, 5, 1, 7, 2 ^ 64, []⟩, .waypoints ⟨0, 5, 1, 7, 42, [256]⟩,
   .takeCommand ⟨0, 4, 1, 7, 42, []⟩, .takeCommand ⟨0, 5, 8, 7, 42, []⟩, .takeCommand ⟨0, 5, 1, 256, 42, []⟩,
   .takeCommand ⟨0, 5, 1, 7, 2 ^ 64, []⟩, .takeCommand ⟨0, 5, 1, 7, 42, [256]⟩, .stopCmd ⟨0, 4, 1, 7, 42, []⟩,
   .stopCmd ⟨0, 5, 8, 7, 42, []⟩, .stopCmd ⟨0, 5, 1, 256, 42, []⟩, .stopCmd ⟨0, 5, 1, 7, 2 ^ 64, []⟩,
   .stopCmd ⟨0, 5, 1, 7, 42, [256]⟩, .telSub ⟨0, 4, 1, 7, 42, []⟩, .telSub ⟨0, 5, 8, 7, 42, []⟩, .telSub ⟨0, 5, 1, 256, 42, []⟩,
   .telSub ⟨0, 5, 1, 7, 2 ^ 64, []⟩, .telSub ⟨0, 5, 1, 7, 42, [256]⟩]

/-- Commands with one operand out of its range each. -/
def badCommands4 : List Instr :=
  [.stepAccept 8, .timePulseEdge .a 4, .timIncrWrite .ha none (2 ^ 64), .timIncrWrite .ha (some 8) 0, .timSlewWrite .ha (some 8) 0,
   .ethFrameReceive 6 0 true [0], .ethFrameReceive 0 0 true [256], .macAge .a 4096 0, .macAge .a 0 (2 ^ 48),
   .iec61162450Datagram { dgramGood with port := 6 }, .iec61162450Datagram { dgramGood with vid := 4096 },
   .iec61162450Datagram { dgramGood with dst := 2 ^ 32 }, .iec61162450Datagram { dgramGood with src := 2 ^ 32 },
   .iec61162450Datagram { dgramGood with udp := 65536 }, .iec61162450Datagram { dgramGood with payload := [256] },
   .udpSensorDatagram { dgramGood with port := 6 }, .udpSensorDatagram { dgramGood with vid := 4096 },
   .udpSensorDatagram { dgramGood with dst := 2 ^ 32 }, .udpSensorDatagram { dgramGood with src := 2 ^ 32 },
   .udpSensorDatagram { dgramGood with udp := 65536 }, .udpSensorDatagram { dgramGood with payload := [256] }, .ethFrameTransmit 6 0,
   .pdelayReqTimer 6, .ptpMessageTimer 16, .ptpMessageReceive { ptpGood with port := 6 },
   .ptpMessageReceive { ptpGood with kind := 16 }, .ptpTxqKeyRead 6 true, .ptpPartnerWindow 6, .ethLinkChange 6 true 0 true true,
   .ethLinkChange 0 true 3 true true, .moreTimeout .a 8, .keepalive .a 8 0, .keepalive .a 0 (2 ^ 64),
   .registerWrite .firmware .ha (2 ^ 28) 0 true, .registerWrite .firmware .ha 2 0 true, .registerWrite .firmware .ha 0 (2 ^ 32) true,
   .pairLowRead 8 0, .pairLowRead 0 (2 ^ 32), .pairLowRead 0 2, .pairLowWrite .firmware .ha (2 ^ 28) 0]

/-- Commands with one operand out of its range each. -/
def badCommands5 : List Instr :=
  [.pairLowWrite .firmware .ha 2 0, .pairLowWrite .firmware .ha 0 (2 ^ 32), .pairHighWrite .firmware .ha (2 ^ 28) 0,
   .pairHighWrite .firmware .ha 2 0, .pairHighWrite .firmware .ha 0 (2 ^ 32), .sigTest .a (2 ^ 32), .culvertCrcError 9 true,
   .linkDown 9 true, .culvertLinkUp 9 true, .openSession .ha ⟨0, 0⟩ true [0], .openSession .pa ⟨2 ^ 128, 0⟩ true [0],
   .openSession .pa ⟨0, 65536⟩ true [0], .openSession .pa ⟨0, 0⟩ true [256], .closeSession ⟨.ha, 1, 9⟩ [0],
   .closeSession ⟨.pa, 8, 9⟩ [0], .closeSession ⟨.pa, 1, 2 ^ 64⟩ [0], .closeSession ⟨.pa, 1, 9⟩ [256], .ident ⟨.ha, 1, 9⟩ [0],
   .ident ⟨.pa, 8, 9⟩ [0], .ident ⟨.pa, 1, 2 ^ 64⟩ [0], .ident ⟨.pa, 1, 9⟩ [256], .readWords ⟨.ha, 1, 9⟩ [0],
   .readWords ⟨.pa, 8, 9⟩ [0], .readWords ⟨.pa, 1, 2 ^ 64⟩ [0], .readWords ⟨.pa, 1, 9⟩ [256], .writeWord ⟨.ha, 1, 9⟩ [0] true,
   .writeWord ⟨.pa, 8, 9⟩ [0] true, .writeWord ⟨.pa, 1, 2 ^ 64⟩ [0] true, .writeWord ⟨.pa, 1, 9⟩ [256] true, .sessionIdleTimeout 8,
   .keySet (some ⟨.ha, 1, 9⟩) [0], .keySet (some ⟨.pa, 8, 9⟩) [0], .keySet (some ⟨.pa, 1, 2 ^ 64⟩) [0], .keySet none [256],
   .swap ⟨.ha, 1, 9⟩ [0], .swap ⟨.pa, 8, 9⟩ [0], .swap ⟨.pa, 1, 2 ^ 64⟩ [0], .swap ⟨.pa, 1, 9⟩ [256], .drill ⟨.ha, 1, 9⟩ [0],
   .drill ⟨.pa, 8, 9⟩ [0]]

/-- Commands with one operand out of its range each. -/
def badCommands6 : List Instr :=
  [.drill ⟨.pa, 1, 2 ^ 64⟩ [0], .drill ⟨.pa, 1, 9⟩ [256], .drillAbort ⟨.ha, 1, 9⟩ [0], .drillAbort ⟨.pa, 8, 9⟩ [0],
   .drillAbort ⟨.pa, 1, 2 ^ 64⟩ [0], .drillAbort ⟨.pa, 1, 9⟩ [256], .clkMove ⟨.ha, 1, 9⟩ [0], .clkMove ⟨.pa, 8, 9⟩ [0],
   .clkMove ⟨.pa, 1, 2 ^ 64⟩ [0], .clkMove ⟨.pa, 1, 9⟩ [256], .snapExport ⟨.ha, 1, 9⟩ [0], .snapExport ⟨.pa, 8, 9⟩ [0],
   .snapExport ⟨.pa, 1, 2 ^ 64⟩ [0], .snapExport ⟨.pa, 1, 9⟩ [256], .dataAck ⟨.ha, 1, 9⟩ [0], .dataAck ⟨.pa, 8, 9⟩ [0],
   .dataAck ⟨.pa, 1, 2 ^ 64⟩ [0], .dataAck ⟨.pa, 1, 9⟩ [256], .dataResend 8, .dataTransferFail 8, .txnBegin ⟨.ha, 1, 9⟩ [0],
   .txnBegin ⟨.pa, 8, 9⟩ [0], .txnBegin ⟨.pa, 1, 2 ^ 64⟩ [0], .txnBegin ⟨.pa, 1, 9⟩ [256], .txnWrite ⟨.ha, 1, 9⟩ [0],
   .txnWrite ⟨.pa, 8, 9⟩ [0], .txnWrite ⟨.pa, 1, 2 ^ 64⟩ [0], .txnWrite ⟨.pa, 1, 9⟩ [256], .txnCommit ⟨.ha, 1, 9⟩ [0],
   .txnCommit ⟨.pa, 8, 9⟩ [0], .txnCommit ⟨.pa, 1, 2 ^ 64⟩ [0], .txnCommit ⟨.pa, 1, 9⟩ [256], .txnAbort ⟨.ha, 1, 9⟩ [0],
   .txnAbort ⟨.pa, 8, 9⟩ [0], .txnAbort ⟨.pa, 1, 2 ^ 64⟩ [0], .txnAbort ⟨.pa, 1, 9⟩ [256], .txnBreak ⟨.ha, 1, 9⟩ [0],
   .txnBreak ⟨.pa, 8, 9⟩ [0], .txnBreak ⟨.pa, 1, 2 ^ 64⟩ [0], .txnBreak ⟨.pa, 1, 9⟩ [256]]

/-- Commands with one operand out of its range each. -/
def badCommands7 : List Instr :=
  [.lytBegin ⟨.ha, 1, 9⟩ [0], .lytBegin ⟨.pa, 8, 9⟩ [0], .lytBegin ⟨.pa, 1, 2 ^ 64⟩ [0], .lytBegin ⟨.pa, 1, 9⟩ [256],
   .lytData ⟨.ha, 1, 9⟩ [0], .lytData ⟨.pa, 8, 9⟩ [0], .lytData ⟨.pa, 1, 2 ^ 64⟩ [0], .lytData ⟨.pa, 1, 9⟩ [256],
   .lytVerify ⟨.ha, 1, 9⟩ [0], .lytVerify ⟨.pa, 8, 9⟩ [0], .lytVerify ⟨.pa, 1, 2 ^ 64⟩ [0], .lytVerify ⟨.pa, 1, 9⟩ [256],
   .lytApply ⟨.ha, 1, 9⟩ [0], .lytApply ⟨.pa, 8, 9⟩ [0], .lytApply ⟨.pa, 1, 2 ^ 64⟩ [0], .lytApply ⟨.pa, 1, 9⟩ [256],
   .lytAbort ⟨.ha, 1, 9⟩ [0], .lytAbort ⟨.pa, 8, 9⟩ [0], .lytAbort ⟨.pa, 1, 2 ^ 64⟩ [0], .lytAbort ⟨.pa, 1, 9⟩ [256],
   .lytExport ⟨.ha, 1, 9⟩ [0], .lytExport ⟨.pa, 8, 9⟩ [0], .lytExport ⟨.pa, 1, 2 ^ 64⟩ [0], .lytExport ⟨.pa, 1, 9⟩ [256],
   .railSample 12 0, .tempSample 15 0, .currentSample 12 0, .resourceOccurrence .ha 16 0 true, .logExport ⟨.ha, 1, 9⟩ [0],
   .logExport ⟨.pa, 8, 9⟩ [0], .logExport ⟨.pa, 1, 2 ^ 64⟩ [0], .logExport ⟨.pa, 1, 9⟩ [256], .logMark ⟨.ha, 1, 9⟩ [0],
   .logMark ⟨.pa, 8, 9⟩ [0], .logMark ⟨.pa, 1, 2 ^ 64⟩ [0], .logMark ⟨.pa, 1, 9⟩ [256], .nmeAck ⟨.ha, 1, 9⟩ [0],
   .nmeAck ⟨.pa, 8, 9⟩ [0], .nmeAck ⟨.pa, 1, 2 ^ 64⟩ [0], .nmeAck ⟨.pa, 1, 9⟩ [256]]

/-- Commands with one operand out of its range each. -/
def badCommands8 : List Instr :=
  [.retireClear ⟨.ha, 1, 9⟩ [0], .retireClear ⟨.pa, 8, 9⟩ [0], .retireClear ⟨.pa, 1, 2 ^ 64⟩ [0], .retireClear ⟨.pa, 1, 9⟩ [256],
   .updBegin ⟨.ha, 1, 9⟩ [0], .updBegin ⟨.pa, 8, 9⟩ [0], .updBegin ⟨.pa, 1, 2 ^ 64⟩ [0], .updBegin ⟨.pa, 1, 9⟩ [256],
   .updData ⟨.ha, 1, 9⟩ [0], .updData ⟨.pa, 8, 9⟩ [0], .updData ⟨.pa, 1, 2 ^ 64⟩ [0], .updData ⟨.pa, 1, 9⟩ [256],
   .updVerify ⟨.ha, 1, 9⟩ [0], .updVerify ⟨.pa, 8, 9⟩ [0], .updVerify ⟨.pa, 1, 2 ^ 64⟩ [0], .updVerify ⟨.pa, 1, 9⟩ [256],
   .updActivate ⟨.ha, 1, 9⟩ [0], .updActivate ⟨.pa, 8, 9⟩ [0], .updActivate ⟨.pa, 1, 2 ^ 64⟩ [0], .updActivate ⟨.pa, 1, 9⟩ [256],
   .updConfirm ⟨.ha, 1, 9⟩ [0], .updConfirm ⟨.pa, 8, 9⟩ [0], .updConfirm ⟨.pa, 1, 2 ^ 64⟩ [0], .updConfirm ⟨.pa, 1, 9⟩ [256],
   .updAbort ⟨.ha, 1, 9⟩ [0], .updAbort ⟨.pa, 8, 9⟩ [0], .updAbort ⟨.pa, 1, 2 ^ 64⟩ [0], .updAbort ⟨.pa, 1, 9⟩ [256],
   .fuseLayoutKey ⟨.ha, 1, 9⟩ [0], .fuseLayoutKey ⟨.pa, 8, 9⟩ [0], .fuseLayoutKey ⟨.pa, 1, 2 ^ 64⟩ [0],
   .fuseLayoutKey ⟨.pa, 1, 9⟩ [256], .resetRelease 16 true, .jtagSamplePreload (2 ^ 142) 0, .jtagSamplePreload 0 (2 ^ 142),
   .jtagExtest (2 ^ 142) none, .jtagExtest 0 (some (2 ^ 142))]

theorem test_wellFormed_takes_1 : goodCommands1.all WellFormed = true := by decide +kernel

theorem test_wellFormed_takes_2 : goodCommands2.all WellFormed = true := by decide +kernel

theorem test_wellFormed_takes_3 : goodCommands3.all WellFormed = true := by decide +kernel

theorem test_wellFormed_takes_4 : goodCommands4.all WellFormed = true := by decide +kernel

theorem test_wellFormed_takes_5 : goodCommands5.all WellFormed = true := by decide +kernel

theorem test_wellFormed_takes_6 : goodCommands6.all WellFormed = true := by decide +kernel

theorem test_wellFormed_takes_7 : goodCommands7.all WellFormed = true := by decide +kernel

theorem test_wellFormed_refuses_1 : badCommands1.all (fun i => !WellFormed i) = true := by decide +kernel

theorem test_wellFormed_refuses_2 : badCommands2.all (fun i => !WellFormed i) = true := by decide +kernel

theorem test_wellFormed_refuses_3 : badCommands3.all (fun i => !WellFormed i) = true := by decide +kernel

theorem test_wellFormed_refuses_4 : badCommands4.all (fun i => !WellFormed i) = true := by decide +kernel

theorem test_wellFormed_refuses_5 : badCommands5.all (fun i => !WellFormed i) = true := by decide +kernel

theorem test_wellFormed_refuses_6 : badCommands6.all (fun i => !WellFormed i) = true := by decide +kernel

theorem test_wellFormed_refuses_7 : badCommands7.all (fun i => !WellFormed i) = true := by decide +kernel

theorem test_wellFormed_refuses_8 : badCommands8.all (fun i => !WellFormed i) = true := by decide +kernel

/-! Worked examples of the manual and check values of the standards that it names. -/

/-- A change of velocity with the limits of the worked example of spec/05: A 0.05 m/s2, J 0.02 m/s3. -/
def worked (v v1 : Nat) : List Seg := changeVelocity v 0 v1 (frat 1 20) (frat 1 50)

/-- Within a millimetre, a millisecond or a millimetre per second of a decimal. -/
def near (x : Nat) (a : Int) (b : Nat) : Bool := fle (fabs (fsub x (frat a b))) epsLC

/-- spec/05: the velocity change from rest to 0.5 m/s holds the acceleration for 7.5 s. -/
theorem test_ramp_up : (worked 0 fhalf).map (fun g => near g.dur 5 2) = [true, false, true] := by decide +kernel

/-- spec/05: its hold is 7.5 s. -/
theorem test_ramp_hold : (worked 0 fhalf).map (fun g => near g.dur 15 2) = [false, true, false] := by decide +kernel

/-- spec/05: the reversal from 0.5 m/s to -0.5 m/s holds for 17.5 s. -/
theorem test_ramp_reversal : (worked fhalf (fneg fhalf)).map (fun g => near g.dur 35 2) = [false, true, false] := by decide +kernel

/-- spec/05: the change to 0.5 m/s covers 3.125 m. -/
theorem test_ramp_distance : near ((Axis.mk 0 0 0).run (worked 0 fhalf)).p 25 8 = true := by decide +kernel

/-- spec/10, worked example: S = 2 and L = 325 give a GD_NS of 10,029,808. -/
theorem test_group_delay : groupDelay 2 325 = 10029808 := by decide +kernel

/-- The check value of CRC-32C (its catalogue entry). -/
theorem test_crc32c_check : crc32c [0x31, 0x32, 0x33, 0x34, 0x35, 0x36, 0x37, 0x38, 0x39] = 0xE3069283 := by decide +kernel

/-- FIPS 180-4: SHA-256 of "abc". -/
theorem test_sha256_abc :
    sha256 [0x61, 0x62, 0x63] = beBytes 32 0xba7816bf8f01cfea414140de5dae2223b00361a396177a9cb410ff61f20015ad := by decide +kernel

/-! Single steps on small states. -/

/-- The package after one command. -/
def after (c : Instr) (s : State) : Pkg :=
  match exec c s with
  | .next t => t.pk
  | _ => s.pk

/-- Die HA runs with lane A ACTIVE, and both port dies run. -/
def sailing : State :=
  wst [(.sw, I_DIE.RUN, 0, 2), (.ha, I_DIE.RUN, 0, 2), (.hb, I_DIE.RUN, 0, 2), (.pa, I_DIE.RUN, 0, 2), (.pb, I_DIE.RUN, 0, 2),
    (.ha, I_LANE.LAYOUT_APPLIED, 0, 1), (.hb, I_LANE.LAYOUT_APPLIED, 0, 1), (.ha, HG_STATUS.LANE_STATE, 0, 4),
    (.sw, I_PKG.LINE_LOW, 0, 1), (.sw, I_PKG.LINE_PULL, 0, 1)]

/-- The queue is first in, first out: the front command leaves, the rest stays (the host's form of a step). -/
theorem test_queue_order : (match step { sailing with pending := [.jtagBypass, .jtagIdcode] } with
    | .next t => t.pending
    | _ => []) = [.jtagIdcode] := by decide +kernel

/-- No word spells a command. -/
theorem test_no_word_spells : decodeTableWord 32 0xFFFFFFFF = none := rfl

/-- spec/01, worked example: with lane B active, the alias of window 0x8 names HB. -/
theorem test_alias_resolves :
    resolve (wst [(.hb, HG_STATUS.LANE_STATE, 0, 4)]).pk 0x80300010 = .at' .hb 0x300010 ∧
    resolve (wst [(.ha, HG_STATUS.LANE_STATE, 0, 4)]).pk 0x80300010 = .at' .ha 0x300010 ∧
    resolve State.reset.pk 0x80300010 = .laneNone 0x300010 := by decide +kernel

/-- spec/01, worked example: GA implements no SOL_ block, so the read gives 0. -/
theorem test_unimplemented_reads_zero : readAt State.reset.pk .ga 0x300010 = none := by decide +kernel

/-- spec/14, worked example: the fast detector sets CLKFAIL in the helm, which lets its headgate line go under cause 4. -/
theorem test_clock_loss : rd (after (.fastDetectorTrip .ha) sailing) .ha CLK_EVENT.CLKFAIL = 1 ∧
    rdI (after (.fastDetectorTrip .ha) sailing) .sw I_PKG.LINE_PULL 0 = 0 ∧ rd (after (.fastDetectorTrip .ha) sailing) .ha I_LANE.RELEASE_CAUSE = 4 := by decide +kernel

/-- spec/13, worked example: the accepted step of -7,600 ns moves the tally back and the step epoch on. -/
theorem test_step_mark :
    let s := wst [(.sw, I_DIE.RUN, 0, 2), (.sw, I_TIM.STEP_DUE, 0, 1), (.sw, I_TIM.STEP, 0, 2 ^ 32 - 7600), (.sw, TIM_STATUS.STEP_EPOCH, 0, 1), (.sw, TIM_NOW.NOW, 0, 1000000000)]
    rd (after .stepMark s) .sw TIM_STATUS.STEP_EPOCH = 2 ∧ rd (after .stepMark s) .sw TIM_EVENT.STEP_APPLIED = 1 := by decide +kernel

/-- R41: a low inhibit pin releases no line. -/
theorem test_inhibit_releases_none : rdI (after (.laneInhibitChange .a true) sailing) .sw I_PKG.LINE_PULL 0 = 1 := by decide +kernel

/-- R447: MODE_CHANGED, bit 0 of SP's event register, has class INFO, block 0x14 and detail 0. -/
theorem test_mode_event_code : eventCode clsInfo (blockCode SP_EVENT.MODE_CHANGED.off) SP_EVENT.MODE_CHANGED.lo = 0x0500 := by decide +kernel

/-- spec/17, worked example: the codes of an SRAM page's occurrence and retirement. -/
theorem test_sram_codes : eventCode clsTransient 0x31 36 = 0x3C64 ∧ eventCode clsPermanent 0x31 36 = 0x4C64 ∧
    eventCode clsPermanent 0x31 35 = 0x4C63 := by decide

/-- R447: a lockstep mismatch has class NME, block HG and detail 40. -/
theorem test_lockstep_code : eventCode clsNme 0x10 40 = 0x6428 := by decide

/-! Witnesses. -/

theorem test_ClaimsMoveTheArbitersAndGrant :
    (∃ (x : Side) (s : State), mayArm s.pk x = true) ∧
    (∃ (x : Side) (s : State), mayArm s.pk x = false) ∧
    (∃ (x : Side) (s : State), rd s.pk x.helm HG_STATUS.ARMED = 1 ∧ claimBarred s.pk x = false ∧ lineLow s.pk x.other = false) ∧
    (∃ (x : Side) (s : State), (rd s.pk x.helm HG_STATUS.ARMED = 0 ∨ claimBarred s.pk x = true ∨ lineLow s.pk x.other = true)) ∧
    (∃ (y : Side) (s : State), running s.pk y.port = true ∧ rd s.pk y.port I_PORT.ARB_HELD = 0) ∧
    (∃ (x : Side) (s : State), activeLane s.pk = none ∧ s.pk.taken = none ∧ rd s.pk .sw LYT_STATUS.PHASE ≠ 4 ∧ lineLow s.pk x.other = false ∧
      ((∀ y : Side, running s.pk y.port = true ∧ rd s.pk y.port I_PORT.ARB_HELD = 0))) :=
  ⟨⟨.a, wst [(.ha, I_DIE.RUN, 0, 2), (.ha, HG_STATUS.LANE_STATE, 0, 3)], by decide +kernel⟩,
    ⟨.a, wst [], by decide +kernel⟩,
    ⟨.a, wst [(.ha, HG_STATUS.ARMED, 0, 1), (.ha, I_DIE.RUN, 0, 2), (.ha, HG_STATUS.LANE_STATE, 0, 3)], by decide +kernel⟩,
    ⟨.a, wst [(.ha, HG_STATUS.ARMED, 0, 0)], by decide +kernel⟩,
    ⟨.a, wst [(.pa, I_DIE.RUN, 0, 2), (.pa, I_PORT.ARB_HELD, 0, 0)], by decide +kernel⟩,
    ⟨.a, wst [(.pa, I_DIE.RUN, 0, 2),
      (.pb, I_DIE.RUN, 0, 2)], by decide +kernel, by decide +kernel, by decide +kernel, by decide +kernel, fun y => by cases y <;> decide +kernel⟩⟩

theorem test_ActiveLaneReleasesUnderItsCause :
    (∃ (x : Side) (s : State), rd s.pk x.helm HG_STATUS.LANE_STATE = 4) ∧
    (∃ (x : Side) (s : State), rd s.pk x.helm HG_STATUS.LANE_STATE ≠ 4) ∧
    (∃ (x : Side) (s : State), rd s.pk x.helm HG_STATUS.LANE_STATE = 4) ∧
    (∃ (x : Side) (s : State), rd s.pk x.helm HG_STATUS.LANE_STATE = 4 ∧ rd s.pk x.helm I_LANE.TICK_DONE = 0 ∧
      rd s.pk x.helm I_LANE.MISSED_TICKS = 1) ∧
    (∃ (x : Side) (s : State), rd s.pk x.helm I_LANE.TICK_DONE = 0 ∧ rd s.pk x.helm I_LANE.MISSED_TICKS = 0) ∧
    (∃ (x : Side) (page : Nat) (s : State), rd s.pk x.helm HG_STATUS.LANE_STATE = 4 ∧ page < spareBase) :=
  ⟨⟨.a, wst [(.ha, HG_STATUS.LANE_STATE, 0, 4)], by decide +kernel⟩,
    ⟨.a, wst [], by decide +kernel⟩,
    ⟨.a, wst [(.ha, HG_STATUS.LANE_STATE, 0, 4)], by decide +kernel⟩,
    ⟨.a, wst [(.ha, HG_STATUS.LANE_STATE, 0, 4), (.ha, I_LANE.TICK_DONE, 0, 0), (.ha, I_LANE.MISSED_TICKS, 0, 1)], by decide +kernel⟩,
    ⟨.a, wst [(.ha, I_LANE.TICK_DONE, 0, 0), (.ha, I_LANE.MISSED_TICKS, 0, 0)], by decide +kernel⟩,
    ⟨.a, 0, wst [(.ha, HG_STATUS.LANE_STATE, 0, 4)], by decide +kernel⟩⟩

theorem test_PlannedSwapsStartReleaseOrCancel :
    (∃ (x : Side) (s : State) (c : Nat), rd s.pk x.helm I_LANE.SWAP_CAUSE = c ∧ 0 < c ∧ c < 16 ∧ isActive s.pk x = true ∧
      rd s.pk x.helm I_LANE.RELEASE_CAUSE = 0 ∧ swapTick s.pk x = true ∧ partnerFit s.pk x c = true) ∧
    (∃ (x : Side) (s : State) (c : Nat), rd s.pk x.helm I_LANE.SWAP_CAUSE = c ∧ 0 < c ∧ c ≠ 9 ∧ c ≠ 10 ∧ isActive s.pk x = true ∧
      rd s.pk x.helm I_LANE.RELEASE_CAUSE = 0 ∧ swapTick s.pk x = true ∧ partnerFit s.pk x c = false) ∧
    (∃ (x : Side) (s : State), activeLane s.pk = some x ∧ rd s.pk .sw I_PKG.SWAP_REQ_LOW = 0 ∧ rd s.pk x.helm HG_CFG.SWAP_PIN_EN = 1 ∧
      swapAnswer s.pk x 8 = .accepted) ∧
    (∃ (x : Side) (s : State), isPrimary s.pk x = true ∧ laneState s.pk x = 3 ∧ isActive s.pk x.other = true ∧
      rd s.pk x.helm HG_POLICY.REVERT_HOLDOFF * 1000 ≤ rd s.pk x.helm I_LANE.HOLDOFF_MS ∧ inhibited s.pk x = false ∧ drillInProgress s.pk = false ∧
      lytInProgress s.pk = false ∧ updInProgress s.pk = false ∧ rd s.pk x.helm HG_STATUS.REVERT_PENDING = 0 ∧
      swapAnswer s.pk x.other 11 = .accepted) ∧
    (∃ (x : Side) (s : State), isPrimary s.pk x = true ∧ laneState s.pk x = 3 ∧ isActive s.pk x.other = true ∧
      rd s.pk x.helm HG_POLICY.REVERT_HOLDOFF * 1000 ≤ rd s.pk x.helm I_LANE.HOLDOFF_MS ∧ inhibited s.pk x = false ∧ drillInProgress s.pk = false ∧
      lytInProgress s.pk = false ∧ updInProgress s.pk = false ∧ rd s.pk x.helm HG_STATUS.REVERT_PENDING = 0 ∧
      swapAnswer s.pk x.other 11 ≠ .accepted) :=
  ⟨⟨.a, wst [(.ha, I_LANE.SWAP_CAUSE, 0, 8), (.ha, HG_STATUS.LANE_STATE, 0, 4), (.ha, I_LANE.RELEASE_CAUSE, 0, 0), (.ha, I_LANE.SWAP_CAUSE, 0, 8),
    (.ha, I_LANE.TICK_EDGE, 0, 2000000), (.sw, I_PKG.OPERATING_MS, 0, 2), (.hb, HG_STATUS.ARMED, 0, 1), (.hb, HG_STATUS.LANE_STATE, 0, 3), (.ha, I_TIME.CYCLE_MS, 0, 50)], 8, by decide +kernel⟩,
    ⟨.a, wst [(.ha, I_LANE.SWAP_CAUSE, 0, 8), (.ha, HG_STATUS.LANE_STATE, 0, 4), (.ha, I_LANE.RELEASE_CAUSE, 0, 0), (.ha, I_LANE.SWAP_CAUSE, 0, 8),
      (.ha, I_LANE.TICK_EDGE, 0, 2000000), (.sw, I_PKG.OPERATING_MS, 0, 2), (.ha, I_TIME.CYCLE_MS, 0, 50)], 8, by decide +kernel⟩,
    ⟨.a, wst [(.sw, I_PKG.SWAP_REQ_LOW, 0, 0), (.ha, HG_CFG.SWAP_PIN_EN, 0, 1), (.ha, HG_STATUS.LANE_STATE, 0, 4), (.hb, HG_STATUS.ARMED, 0, 1),
      (.hb, HG_STATUS.LANE_STATE, 0, 3)], by decide +kernel⟩,
    ⟨.a, wst [(.ha, HG_STATUS.LANE_STATE, 0, 3), (.ha, I_DIE.RUN, 0, 2), (.hb, HG_STATUS.LANE_STATE, 0, 4), (.ha, HG_STATUS.REVERT_PENDING, 0, 0),
      (.ha, I_LANE.HOLDOFF_MS, 0, 4000000), (.ha, HG_STATUS.ARMED, 0, 1)], by decide +kernel⟩,
    ⟨.a, wst [(.ha, HG_STATUS.LANE_STATE, 0, 3), (.ha, I_DIE.RUN, 0, 2), (.hb, HG_STATUS.LANE_STATE, 0, 4), (.ha, HG_STATUS.REVERT_PENDING, 0, 0),
      (.ha, I_LANE.HOLDOFF_MS, 0, 4000000)], by decide +kernel⟩⟩

theorem test_DrillsAndLockoutsEndOrAreCleared :
    (∃ (s : State), rd s.pk .sw I_PKG.DRILL_PHASE = 2 ∧
      rd s.pk .sw I_PKG.DRILL_START + rd s.pk (drilledLane s.pk).helm HG_POLICY2.DRILL_DWELL * 1000 ≤ rd s.pk .sw I_PKG.OPERATING_MS) ∧
    (∃ (slot : Nat) (s : State), sessionHolds s.pk slot 2 = true) ∧
    (∃ (slot : Nat) (s : State), sessionHolds s.pk slot 2 = true) ∧
    (∃ (slot : Nat) (s : State), sessionHolds s.pk slot 2 = false) :=
  ⟨⟨wst [(.sw, I_PKG.DRILL_PHASE, 0, 2), (.sw, I_PKG.OPERATING_MS, 0, 10000000)], by decide +kernel⟩,
    ⟨0, wst [(.pa, I_DIE.RUN, 0, 2), (.pa, I_HST.OPEN, 0, 1), (.pa, I_HST.ROLE, 0, 2), (.ha, HG_LOCKOUT.LOCKED, 0, 1),
      (.ha, HG_STATUS.LANE_STATE, 0, 5), (.ha, I_DIE.RUN, 0, 2)], by decide +kernel⟩,
    ⟨0, wst [(.pa, I_DIE.RUN, 0, 2), (.pa, I_HST.OPEN, 0, 1), (.pa, I_HST.ROLE, 0, 2), (.ha, HG_STATUS.DRILL_FAIL, 0, 1)], by decide +kernel⟩,
    ⟨0, wst [], by decide +kernel⟩⟩

theorem test_StandbyComparesGainsAndLosesReadiness :
    (∃ (x : Side) (s : State), ((laneState s.pk x = 2 ∨ laneState s.pk x = 3)) ∧ isActive s.pk x.other = true ∧
      rd s.pk x.helm HG_STATUS.FW_INCOMPAT = 0 ∧ rd s.pk x.helm HG_STATUS.LAYOUT_DIFF = 0 ∧ rd s.pk x.helm I_LANE.TICK_DIGEST_VALID = 1 ∧
      rd s.pk x.other.helm I_LANE.TICK_DIGEST_VALID = 1 ∧ rd s.pk x.helm I_LANE.TICK_COPY_APPLIED = 1 ∧
      rd s.pk x.helm I_LANE.TICK_DIGEST = rd s.pk x.other.helm I_LANE.TICK_DIGEST) ∧
    (∃ (x : Side) (s : State), ((laneState s.pk x = 2 ∨ laneState s.pk x = 3)) ∧ isActive s.pk x.other = true ∧
      rd s.pk x.helm HG_STATUS.FW_INCOMPAT = 0 ∧ rd s.pk x.helm HG_STATUS.LAYOUT_DIFF = 0 ∧ rd s.pk x.helm I_LANE.TICK_DIGEST_VALID = 1 ∧
      rd s.pk x.other.helm I_LANE.TICK_DIGEST_VALID = 1 ∧ rd s.pk x.helm I_LANE.TICK_COPY_APPLIED = 1 ∧
      rd s.pk x.helm I_LANE.TICK_DIGEST ≠ rd s.pk x.other.helm I_LANE.TICK_DIGEST) ∧
    (∃ (x : Side) (s : State), laneState s.pk x = 2 ∧ readyGained s.pk x = true) ∧
    (∃ (x : Side) (s : State), (laneState s.pk x ≠ 2 ∨ readyGained s.pk x = false)) ∧
    (∃ (x : Side) (s : State), laneState s.pk x = 3 ∧ ((readyHeld s.pk x = false ∨ rd s.pk x.helm HG_STATUS.MISS_LIMIT = 1))) ∧
    (∃ (x : Side) (s : State), rd s.pk x.helm LEAT_STATUS.UP = 1 ∧ running s.pk x.other.helm = true ∧ laneState s.pk x.other ≠ 0) :=
  ⟨⟨.a, wst [(.ha, HG_STATUS.LANE_STATE, 0, 2), (.ha, I_DIE.RUN, 0, 2), (.hb, HG_STATUS.LANE_STATE, 0, 4), (.ha, HG_STATUS.FW_INCOMPAT, 0, 0),
    (.ha, HG_STATUS.LAYOUT_DIFF, 0, 0), (.ha, I_LANE.TICK_DIGEST_VALID, 0, 1), (.hb, I_LANE.TICK_DIGEST_VALID, 0, 1), (.ha, I_LANE.TICK_COPY_APPLIED, 0, 1)], by decide +kernel⟩,
    ⟨.a, wst [(.ha, HG_STATUS.LANE_STATE, 0, 2), (.ha, I_DIE.RUN, 0, 2), (.hb, HG_STATUS.LANE_STATE, 0, 4), (.ha, HG_STATUS.FW_INCOMPAT, 0, 0),
      (.ha, HG_STATUS.LAYOUT_DIFF, 0, 0), (.ha, I_LANE.TICK_DIGEST_VALID, 0, 1), (.hb, I_LANE.TICK_DIGEST_VALID, 0, 1), (.ha, I_LANE.TICK_COPY_APPLIED, 0, 1), (.ha, I_LANE.TICK_DIGEST, 0, 7)], by decide +kernel⟩,
    ⟨.a, wst [(.ha, HG_STATUS.LANE_STATE, 0, 2), (.ha, I_DIE.RUN, 0, 2), (.ha, HG_STATUS.LANE_STATE, 0, 2), (.hb, HG_STATUS.LANE_STATE, 0, 4),
      (.ha, LEAT_STATUS.UP, 0, 1), (.ha, LEAT_STATUS.TICK_CURRENT, 0, 1), (.ha, LEAT_STATUS.CYCLE_CURRENT, 0, 1), (.ha, HG_CMP.CLEAN_RUN, 0, 5000), (.ha, I_DIE.RUN, 0, 2)], by decide +kernel⟩,
    ⟨.a, wst [], by decide +kernel⟩,
    ⟨.a, wst [(.ha, HG_STATUS.LANE_STATE, 0, 3), (.ha, I_DIE.RUN, 0, 2), (.ha, HG_STATUS.LANE_STATE, 0, 3)], by decide +kernel⟩,
    ⟨.a, wst [(.ha, LEAT_STATUS.UP, 0, 1), (.hb, I_DIE.RUN, 0, 2)], by decide +kernel⟩⟩

theorem test_LeatRecoversByGoBackN :
    (∃ (x : Side) (f : List Nat) (s : State), rd s.pk x.helm LEAT_STATUS.UP = 1 ∧ flitGood f = false) ∧
    (∃ (x : Side) (f : List Nat) (s : State), rd s.pk x.helm LEAT_STATUS.UP = 1 ∧ flitGood f = true ∧ flitSeq f = rd s.pk x.helm I_LEAT.RX_SEQ ∧
      flitType f ≠ 1 ∧ flitType f ≠ 2 ∧ flitType f ≠ 3 ∧ flitType f ≠ 4 ∧ flitType f ≠ 6 ∧ flitType f ≠ 7) ∧
    (∃ (x : Side) (f : List Nat) (s : State), rd s.pk x.helm LEAT_STATUS.UP = 1 ∧ flitGood f = true ∧ flitType f ≠ 4 ∧
      flitSeq f ≠ rd s.pk x.helm I_LEAT.RX_SEQ) ∧
    (∃ (x : Side) (f : List Nat) (s : State), rd s.pk x.helm LEAT_STATUS.UP = 1 ∧ flitGood f = true ∧ ((flitType f = 1 ∨ flitType f = 2)) ∧
      flitSeq f = rd s.pk x.helm I_LEAT.RX_SEQ) ∧
    (∃ (x : Side) (seq : Nat) (s : State), rd s.pk x.helm LEAT_STATUS.UP = 1 ∧ rd s.pk x.other.helm I_LEAT.NAK_PENDING = 1 ∧
      rd s.pk x.other.helm I_LEAT.NAK_SEQ = seq ∧ (rd s.pk x.helm I_LEAT.TX_SEQ + 65536 - seq) % 65536 ≤ rd s.pk x.helm LEAT_STATUS.REPLAY_USED) ∧
    (∃ (x : Side) (seq : Nat) (s : State), ((rd s.pk x.other.helm I_LEAT.NAK_PENDING = 0 ∨ rd s.pk x.other.helm I_LEAT.NAK_SEQ ≠ seq ∨ rd s.pk x.helm LEAT_STATUS.UP = 0))) ∧
    (∃ (x : Side) (silent : Bool) (s : State), rd s.pk x.helm LEAT_STATUS.UP = 1 ∧ ((silent = true ∨ 32 ≤ rd s.pk x.helm I_LEAT.FAIL_RUN))) ∧
    (∃ (s : State), rd s.pk .ha LEAT_STATUS.UP = 0 ∧ running s.pk .ha = true ∧ running s.pk .hb = true ∧ rd s.pk .ha LEAT_CTRL.LOOPBACK = 0 ∧
      rd s.pk .hb LEAT_CTRL.LOOPBACK = 0) ∧
    (∃ (x : Side) (s : State), isActive s.pk x = false) ∧
    (∃ (x : Side) (s : State), isActive s.pk x = true ∧ laneState s.pk x.other = 3) ∧
    (∃ (x : Side) (s : State), ((laneState s.pk x = 0 ∨ laneState s.pk x = 1))) ∧
    (∃ (x : Side) (s : State), laneState s.pk x ≠ 0 ∧ laneState s.pk x ≠ 1) :=
  ⟨⟨.a, [1], wst [(.ha, LEAT_STATUS.UP, 0, 1)], by decide +kernel⟩,
    ⟨.a, List.replicate 252 0 ++ leBytes 4 (crc32c (List.replicate 252 0)), wst [(.ha, LEAT_STATUS.UP, 0, 1)], by decide +kernel⟩,
    ⟨.a, List.replicate 252 0 ++ leBytes 4 (crc32c (List.replicate 252 0)), wst [(.ha, LEAT_STATUS.UP, 0, 1),
      (.ha, I_LEAT.RX_SEQ, 0, 3)], by decide +kernel⟩,
    ⟨.a, flitOf 0x1000000100000000, wst [(.ha, LEAT_STATUS.UP, 0, 1)], by decide +kernel⟩,
    ⟨.a, 5, wst [(.ha, LEAT_STATUS.UP, 0, 1), (.hb, I_LEAT.NAK_PENDING, 0, 1), (.hb, I_LEAT.NAK_SEQ, 0, 5), (.ha, I_LEAT.TX_SEQ, 0, 9),
      (.ha, LEAT_STATUS.REPLAY_USED, 0, 9), (.hb, I_LEAT.NAK_SEQ, 0, 5)], by decide +kernel⟩,
    ⟨.a, 0, wst [(.hb, I_LEAT.NAK_PENDING, 0, 0)], by decide +kernel⟩,
    ⟨.a, true, wst [(.ha, LEAT_STATUS.UP, 0, 1)], by decide +kernel⟩,
    ⟨wst [(.ha, LEAT_STATUS.UP, 0, 0), (.ha, I_DIE.RUN, 0, 2), (.hb, I_DIE.RUN, 0, 2), (.ha, LEAT_CTRL.LOOPBACK, 0, 0),
      (.hb, LEAT_CTRL.LOOPBACK, 0, 0)], by decide +kernel⟩,
    ⟨.a, wst [], by decide +kernel⟩,
    ⟨.a, wst [(.ha, HG_STATUS.LANE_STATE, 0, 4), (.hb, HG_STATUS.LANE_STATE, 0, 3), (.hb, I_DIE.RUN, 0, 2)], by decide +kernel⟩,
    ⟨.a, wst [(.ha, HG_STATUS.LANE_STATE, 0, 0), (.ha, I_DIE.RUN, 0, 2)], by decide +kernel⟩,
    ⟨.a, wst [(.ha, HG_STATUS.LANE_STATE, 0, 3), (.ha, I_DIE.RUN, 0, 2)], by decide +kernel⟩⟩

theorem test_SamplesSealsAndFramesReachTheirLanes :
    (∃ (r : RawSample) (s : State), running s.pk r.die = true ∧ matchSource s.pk r = none) ∧
    (∃ (r : RawSample) (m : SrcMatch) (st : Int) (s : State), running s.pk r.die = true ∧ matchSource s.pk r = some m ∧
      sourceStamp s.pk m r = some st ∧ m.src < 64) ∧
    (∃ (r : RawSample) (s : State), running s.pk r.die = false) ∧
    (∃ (d : Die) (s : State), running s.pk d = true ∧ s.pk.matching.any (fun m => m.die == d.num) = true ∧ running s.pk .ha = true ∧
      s.pk.sealsOut.any (fun q => q.die == d.num && q.cutoff == cutoffOf s.pk d) = false) ∧
    (∃ (x : Side) (d : Die) (v : Seal) (s : State), running s.pk x.helm = true ∧ reaches s.pk d x.helm = true ∧
      s.pk.sealsOut.find? (fun q => q.die == d.num) = some v) ∧
    (∃ (x : Side) (s : State), running s.pk x.helm = true ∧ rd s.pk x.helm I_CFL.FRAME_OPEN = 1 ∧ s.pk.txn.ordered = false ∧
      framesComplete s.pk x = true) ∧
    (∃ (x : Side) (s : State), ((running s.pk x.helm = false ∨ rd s.pk x.helm I_CFL.FRAME_OPEN = 0 ∨ applyDue s.pk (rd s.pk x.helm I_CFL.FRAME_T) = true))) ∧
    (∃ (x : Side) (s : State), framesComplete s.pk x = false) ∧
    (∃ (x : Side) (s : State), running s.pk x.helm = true ∧ rd s.pk x.helm I_CFL.FRAME_OPEN = 1 ∧ s.pk.txn.ordered = false ∧
      framesComplete s.pk x = false) :=
  ⟨⟨⟨.pa, 0, 0, 0, 5, 0, none, [7]⟩, wst [(.pa, I_DIE.RUN, 0, 2)], by decide +kernel⟩,
    ⟨⟨.pa, 0, 0, 0, 5, 0, none, [7]⟩, ⟨3, 0, 0, 0, 5, 0, 0, 0, 0⟩, 5, wst [(.pa, I_DIE.RUN, 0, 2),
      (.ha, I_DIE.RUN, 0, 2)] |> fun s => { s with pk := { s.pk with matching := [⟨3, 0, 0, 0, 5, 0, 0, 0, 0⟩] } }, by decide +kernel⟩,
    ⟨⟨.pa, 0, 0, 0, 5, 0, none, [7]⟩, wst [], by decide +kernel⟩,
    ⟨.pa, wst [(.pa, I_DIE.RUN, 0, 2), (.ha, I_DIE.RUN, 0, 2), (.pa, I_DIE.RUN, 0, 2), (.ha, I_DIE.RUN, 0, 2), (.ha, CFL_STATUS.FRAME_MS, 0, 10),
      (.pa, TIM_NOW.NOW, 0, 123456789)] |> fun s => { s with pk := { s.pk with matching := [⟨3, 0, 0, 0, 5, 0, 0, 0, 0⟩] } }, by decide +kernel⟩,
    ⟨.a, .pa, ⟨5, 40, [(1, 0, 2)]⟩, wst [(.ha, I_DIE.RUN, 0, 2),
      (.pa, I_DIE.RUN, 0, 2)] |> fun s => { s with pk := { s.pk with sealsOut := [⟨5, 40, [(1, 0, 2)]⟩] } }, by decide +kernel⟩,
    ⟨.a, wst [(.ha, I_DIE.RUN, 0, 2), (.ha, I_CFL.FRAME_OPEN, 0, 1), (.ha, I_CFL.FRAME_T, 0, 20000000),
      (.ha, CFL_STATUS.FRAME_MS, 0, 10)], by decide +kernel⟩,
    ⟨.a, wst [], by decide +kernel⟩,
    ⟨.a, wst [(.ha, CFL_SRC.KIND, 1, 1), (.ha, CFL_SRC.DIE, 1, 5)], by decide +kernel⟩,
    ⟨.a, wst [(.ha, I_DIE.RUN, 0, 2), (.ha, I_CFL.FRAME_OPEN, 0, 1), (.ha, CFL_SRC.KIND, 1, 1), (.ha, CFL_SRC.DIE, 1, 5),
      (.ha, I_CFL.FRAME_T, 0, 20000000), (.ha, CFL_STATUS.FRAME_MS, 0, 10)], by decide +kernel⟩⟩

theorem test_EstimatorAndModeEventsStayInTheirLane :
    (∃ (x : Side) (s : State), rd s.pk x.helm EST_STATUS.PHASE ≠ 0 ∧ rd s.pk x.helm EST_STATUS.DEAD_RECKONING = 1 ∧
      rd s.pk x.helm EST_POSLOST.POS_LOST_FRAMES ≤ rd s.pk x.helm I_EST.DR_FRAMES ∧ rd s.pk x.helm I_EST.INFLATED = 0) ∧
    (∃ (x : Side) (s : State), rd s.pk x.helm I_EST.INFLATED = 1) ∧
    (∃ (x : Side) (s : State), rd s.pk x.helm EST_STATUS.PHASE = 1 ∧ rd s.pk x.helm I_EST.CONV_HELD = 1 ∧
      rd s.pk x.helm I_EST.CONV_SINCE + rd s.pk x.helm EST_CONV.CONV_HOLD * 1000000000 ≤ rd s.pk x.helm I_EST.T0) ∧
    (∃ (x : Side) (n : Nat) (s : State), n < 64 ∧ rdI s.pk x.helm EST_SRC.STATE n = 2 ∧ 1 ≤ rdI s.pk x.helm CFL_SRC.KIND n ∧
      rdI s.pk x.helm CFL_SRC.KIND n ≤ 4 ∧ rd s.pk x.helm EST_GATE.RETURN_RUN ≤ rdI s.pk x.helm I_EST.OK_RUN n) ∧
    (∃ (x : Side) (s : State), running s.pk x.helm = true) ∧
    (∃ (x : Side) (s : State), running s.pk x.helm = true) ∧
    (∃ (x : Side) (s : State), running s.pk x.helm = true ∧ rd s.pk x.helm EST_STATUS.PHASE ≠ 0) ∧
    (∃ (x : Side) (s : State), rd s.pk x.helm ASM_STATUS.WIND_LOST = 0 ∧
      fle (fmul (f32 s.pk x.helm ASM_WIND_HOLD.V 0) (fint 1000)) (fint (rd s.pk x.helm I_ASM.WIND_AGE)) = true) ∧
    (∃ (x : Side) (s : State), ((modeOf s.pk x = 2 ∨ modeOf s.pk x = 3)) ∧ rd s.pk x.helm SP_STATUS.JOY_LOST = 0 ∧
      rd s.pk x.helm I_SP.JOY_AT + rd s.pk x.helm SP_CFG.JOY_TIMEOUT * 10000000 ≤ now s.pk x.helm) ∧
    (∃ (x : Side) (s : State), modeOf s.pk x ≠ 2 ∧ modeOf s.pk x ≠ 3) ∧
    (∃ (x : Side) (s : State), modeOf s.pk x = 5 ∧ standsAtBoundary s.pk x = true ∧ rd s.pk x.helm SP_STATUS.DWELLING = 1 ∧
      rd s.pk x.helm SP_STATUS.WP_INDEX + 1 < (s.pk.lanes.get x).waypoints.length ∧ (s.pk.lanes.get x).waypoints.length ≤ 64 ∧
      rd s.pk x.helm I_SP.DWELL_AT + (wpAt (s.pk.lanes.get x).waypoints (rd s.pk x.helm SP_STATUS.WP_INDEX)).dwell * 1000000000 ≤ now s.pk x.helm ∧
      (s.pk.lanes.get x).ramp.h.reached epsH (now s.pk x.helm) = true) :=
  ⟨⟨.a, wst [(.ha, EST_STATUS.DEAD_RECKONING, 0, 1), (.ha, I_EST.INFLATED, 0, 0), (.ha, EST_STATUS.PHASE, 0, 2),
    (.ha, I_EST.DR_FRAMES, 0, 60000)], by decide +kernel⟩,
    ⟨.a, wst [(.ha, I_EST.INFLATED, 0, 1)], by decide +kernel⟩,
    ⟨.a, wst [(.ha, EST_STATUS.PHASE, 0, 1), (.ha, I_EST.CONV_HELD, 0, 1), (.ha, I_EST.T0, 0, 900000000000000)], by decide +kernel⟩,
    ⟨.a, 5, wst [(.ha, EST_SRC.STATE, 5, 2), (.ha, EST_SRC.STATE, 5, 2), (.ha, CFL_SRC.KIND, 5, 2),
      (.ha, I_EST.OK_RUN, 5, 60000)], by decide +kernel⟩,
    ⟨.a, wst [(.ha, I_DIE.RUN, 0, 2)], by decide +kernel⟩,
    ⟨.a, wst [(.ha, I_DIE.RUN, 0, 2), (.ha, EST_STATUS.PHASE, 0, 2)], by decide +kernel⟩,
    ⟨.a, wst [(.ha, I_DIE.RUN, 0, 2), (.ha, EST_STATUS.PHASE, 0, 2)], by decide +kernel⟩,
    ⟨.a, wst [(.ha, ASM_STATUS.WIND_LOST, 0, 0), (.ha, ASM_WIND_HOLD.V, 0, 0)], by decide +kernel⟩,
    ⟨.a, wst [(.ha, SP_STATUS.JOY_LOST, 0, 0), (.ha, SP_STATUS.MODE, 0, 2), (.ha, TIM_NOW.NOW, 0, 99000000000000)], by decide +kernel⟩,
    ⟨.a, wst [], by decide +kernel⟩,
    ⟨.a, wst [(.ha, SP_STATUS.DWELLING, 0, 1), (.ha, SP_STATUS.MODE, 0, 5), (.ha, TIM_NOW.NOW, 0, 99000000000000),
      (.ha, I_TIME.BOUND_AT, 0, 99000000000000), (.ha, SP_STATUS.WP_INDEX, 0, 1)] |> fun s => { s with pk := { s.pk with lanes := s.pk.lanes.set .a { Lane.empty with waypoints := [⟨0, 0, 0, 0, 0, true⟩, ⟨0, 0, 0, 0, 5, true⟩, ⟨0x4059000000000000, 0, 0x3F800000, 0, 0, false⟩] } } }, by decide +kernel⟩⟩

theorem test_AntennaMonitorReflectometerAndHarbourWatch :
    (∃ (x : Side) (cur : Nat) (k : Nat) (s : State), running s.pk x.bb = true ∧ periodDue s.pk x.bb I_GNS.ANT_DUE 0 10000000 = true ∧
      rd s.pk x.bb GNS_ANT_CFG.BIAS_EN = 1 ∧ rd s.pk x.bb I_GNS.BIAS_OFF = 0 ∧ antClass s.pk x.bb cur = k ∧ rd s.pk x.bb I_GNS.ANT_CLASS = k ∧
      rd s.pk x.bb I_GNS.ANT_RUN = 9) ∧
    (∃ (x : Side) (s : State), running s.pk x.bb = true ∧ periodDue s.pk x.bb I_GNS.ANT_DUE 0 10000000 = true ∧
      rd s.pk x.bb GNS_ANT_CFG.BIAS_EN = 0) ∧
    (∃ (x : Side) (s : State), running s.pk x.bb = true ∧ rd s.pk x.bb I_GNS.BIAS_OFF = 1) ∧
    (∃ (x : Side) (s : State), rd s.pk x.bb I_GNS.OFF_AT + rd s.pk x.bb GNS_ANT_CFG.RETRY_S * 1000000000 ≤ now s.pk x.bb ∧
      rd s.pk x.bb I_GNS.BIAS_OFF = 1) ∧
    (∃ (x : Side) (s : State), now s.pk x.bb < rd s.pk x.bb I_GNS.OFF_AT + rd s.pk x.bb GNS_ANT_CFG.RETRY_S * 1000000000) ∧
    (∃ (x : Side) (s : State), running s.pk x.bb = true ∧ reflectRefused s.pk x = false) ∧
    (∃ (x : Side) (s : State), reflectRefused s.pk x = true) ∧
    (∃ (x : Side) (s : State), rd s.pk x.bb GNS_STATUS.REFLECT_BUSY = 1 ∧ rd s.pk x.bb I_GNS.REFLECT_AT + 100000000 ≤ now s.pk x.bb) ∧
    (∃ (x : Side) (s : State), rd s.pk x.bb I_GNS.WATCH = 1 ∧ rd s.pk x.bb GNS_STATUS.STATE = 4 ∧
      rd s.pk x.bb I_GNS.WATCH_AT + rd s.pk x.bb GNS_HARBOUR.HW_INTERVAL * 60000000000 ≤ now s.pk x.bb) ∧
    (∃ (x : Side) (s : State), rd s.pk x.bb I_GNS.WATCH = 1 ∧ rd s.pk x.bb GNS_STATUS.STATE = 5 ∧ gnssSolution s.pk = true) ∧
    (∃ (x : Side) (s : State), rd s.pk x.bb I_GNS.WATCH = 1 ∧ rd s.pk x.bb GNS_STATUS.STATE = 5 ∧
      rd s.pk x.bb I_GNS.WATCH_AT + rd s.pk x.bb GNS_HARBOUR.HW_WAKE_MAX * 1000000000 ≤ now s.pk x.bb) ∧
    (∃ (x : Side) (s : State), rd s.pk x.bb I_GNS.WATCH = 0) :=
  ⟨⟨.a, 300, 1, wst [(.ga, I_DIE.RUN, 0, 2), (.ga, GNS_ANT_CFG.BIAS_EN, 0, 1), (.ga, I_GNS.BIAS_OFF, 0, 0), (.ga, I_GNS.ANT_CLASS, 0, 1),
    (.ga, I_GNS.ANT_RUN, 0, 9), (.ga, GNS_ANT_CFG.SHORT_MA, 0, 100)], by decide +kernel⟩,
    ⟨.a, wst [(.ga, I_DIE.RUN, 0, 2), (.ga, GNS_ANT_CFG.BIAS_EN, 0, 0)], by decide +kernel⟩,
    ⟨.a, wst [(.ga, I_DIE.RUN, 0, 2), (.ga, I_GNS.BIAS_OFF, 0, 1)], by decide +kernel⟩,
    ⟨.a, wst [(.ga, I_GNS.BIAS_OFF, 0, 1), (.ga, TIM_NOW.NOW, 0, 9000000000000)], by decide +kernel⟩,
    ⟨.a, wst [(.ga, I_GNS.OFF_AT, 0, 5)], by decide +kernel⟩,
    ⟨.a, wst [(.ga, I_DIE.RUN, 0, 2)], by decide +kernel⟩,
    ⟨.a, wst [(.ga, GNS_SNAP_STATUS.SNAP_STATE, 0, 2)], by decide +kernel⟩,
    ⟨.a, wst [(.ga, GNS_STATUS.REFLECT_BUSY, 0, 1), (.ga, GNS_REFLECT_CFG.VF, 0, 80), (.ga, TIM_NOW.NOW, 0, 900000000)], by decide +kernel⟩,
    ⟨.a, wst [(.ga, I_GNS.WATCH, 0, 1), (.ga, GNS_STATUS.STATE, 0, 4), (.ga, TIM_NOW.NOW, 0, 90000000000000000)], by decide +kernel⟩,
    ⟨.a, wst [(.ga, I_GNS.WATCH, 0, 1), (.ga, GNS_STATUS.STATE, 0, 5), (.ga, GNS_CHAN.STATE, 7, 2), (.ga, GNS_CHAN.STATE, 9, 4),
      (.ha, HG_STATUS.LANE_STATE, 0, 4), (.ha, EST_STATUS.PHASE, 0, 2), (.ha, CFL_SRC.KIND, 3, 1), (.ha, I_EST.FUSED_SRC, 0, 8)], by decide +kernel⟩,
    ⟨.a, wst [(.ga, I_GNS.WATCH, 0, 1), (.ga, GNS_STATUS.STATE, 0, 5), (.ga, TIM_NOW.NOW, 0, 90000000000000000)], by decide +kernel⟩,
    ⟨.a, wst [(.ga, I_GNS.WATCH, 0, 0)], by decide +kernel⟩⟩

theorem test_ChannelsLoseRegainAndFreeTheirSignals :
    (∃ (x : Side) (c : Nat) (pliMs : Nat) (cn0Ms : Nat) (s : State), c < 160 ∧ gnsIdle s.pk x.bb = false ∧ chanState s.pk x.bb c = 2 ∧
      ((100 ≤ pliMs ∨ 1000 ≤ cn0Ms))) ∧
    (∃ (x : Side) (c : Nat) (pliMs : Nat) (cn0Ms : Nat) (s : State), (gnsIdle s.pk x.bb = true ∨ chanState s.pk x.bb c ≠ 2 ∨ pliMs < 100 ∧
      cn0Ms < 1000)) ∧
    (∃ (x : Side) (c : Nat) (s : State), c < 160 ∧ chanState s.pk x.bb c = 3 ∧
      rdI s.pk x.bb I_CHAN.REACQ_AT c + rd s.pk x.bb GNS_TRACK_CFG.REACQ_S * 1000000000 ≤ now s.pk x.bb) ∧
    (∃ (x : Side) (c : Nat) (intervals : Nat) (s : State), c < 160 ∧ chanState s.pk x.bb c = 2 ∧ 1 ≤ intervals) ∧
    (∃ (x : Side) (c : Nat) (s : State), c < 160 ∧ gnsIdle s.pk x.bb = false ∧ ((chanState s.pk x.bb c = 1 ∨ chanState s.pk x.bb c = 3 ∧
      reacqOver s.pk x.bb c = false))) ∧
    (∃ (x : Side) (v : Nat × Nat × Nat) (c : Nat) (s : State), gnsIdle s.pk x.bb = false ∧ rd s.pk x.bb GNS_STATUS.SEARCH_SUSPENDED = 0 ∧
      (s.pk.bbs.get x).verify = some v ∧ (chansIn s.pk x.bb 0).head? = some c) ∧
    (∃ (x : Side) (v : Nat × Nat × Nat) (s : State), gnsIdle s.pk x.bb = false ∧ rd s.pk x.bb GNS_STATUS.SEARCH_SUSPENDED = 0 ∧
      (s.pk.bbs.get x).verify = some v) ∧
    (∃ (x : Side) (v : (Nat × Nat × Nat) × Nat) (s : State), gnsIdle s.pk x.bb = false ∧ rd s.pk x.bb GNS_STATUS.SEARCH_SUSPENDED = 0 ∧
      (s.pk.bbs.get x).verify = none ∧ nextSearch s.pk x = some v) ∧
    (∃ (x : Side) (y : Side) (s : State), running s.pk x.bb = true ∧ running s.pk y.helm = true ∧ followed s.pk = y ∧
      reaches s.pk y.helm x.bb = true) ∧
    (∃ (y : Side) (s : State), followed s.pk ≠ y) :=
  ⟨⟨.a, 7, 100, 0, wst [(.ga, I_DIE.RUN, 0, 2), (.ga, GNS_STATUS.STATE, 0, 2), (.ga, GNS_CHAN.STATE, 7, 2)], by decide +kernel⟩,
    ⟨.a, 0, 0, 0, wst [], by decide +kernel⟩,
    ⟨.a, 7, wst [(.ga, GNS_CHAN.STATE, 7, 3), (.ga, TIM_NOW.NOW, 0, 9000000000000)], by decide +kernel⟩,
    ⟨.a, 7, 1, wst [(.ga, GNS_CHAN.STATE, 7, 2)], by decide +kernel⟩,
    ⟨.a, 7, wst [(.ga, I_DIE.RUN, 0, 2), (.ga, GNS_STATUS.STATE, 0, 3), (.ga, GNS_CHAN.STATE, 7, 1)], by decide +kernel⟩,
    ⟨.a, (1, 9, 0), 0, wst [(.ga, GNS_STATUS.SEARCH_SUSPENDED, 0, 0), (.ga, I_DIE.RUN, 0, 2),
      (.ga, GNS_STATUS.STATE, 0, 2)] |> fun s => { s with pk := { s.pk with bbs := s.pk.bbs.set .a { Bb.empty with verify := some (1, 9, 0) } } }, by decide +kernel⟩,
    ⟨.a, (1, 9, 0), wst [(.ga, GNS_STATUS.SEARCH_SUSPENDED, 0, 0), (.ga, I_DIE.RUN, 0, 2),
      (.ga, GNS_STATUS.STATE, 0, 2)] |> fun s => { s with pk := { s.pk with bbs := s.pk.bbs.set .a { Bb.empty with verify := some (1, 9, 0) } } }, by decide +kernel⟩,
    ⟨.a, ((1, 9, 0), 42), wst [(.ga, GNS_STATUS.SEARCH_SUSPENDED, 0, 0), (.ga, I_DIE.RUN, 0, 2),
      (.ga, GNS_STATUS.STATE, 0, 1)] |> fun s => { s with pk := { s.pk with bbs := s.pk.bbs.set .a { Bb.empty with plan := some [⟨1, 9, 0, none⟩] } } }, by decide +kernel⟩,
    ⟨.a, .a, wst [(.ga, I_DIE.RUN, 0, 2), (.ha, I_DIE.RUN, 0, 2), (.ga, I_DIE.RUN, 0, 2), (.ha, I_DIE.RUN, 0, 2), (.pa, I_DIE.RUN, 0, 2),
      (.pa, I_PORT.TICK_OWNER, 0, 1)], by decide +kernel⟩,
    ⟨.a, wst [(.pa, I_DIE.RUN, 0, 2), (.pa, I_PORT.TICK_OWNER, 0, 2)], by decide +kernel⟩⟩

theorem test_EpochsPagesAndCorrectionsReachTheLanes :
    (∃ (x : Side) (s : State), epochDue s.pk x.bb = true) ∧
    (∃ (x : Side) (c : Nat) (s : State), gnsIdle s.pk x.bb = false ∧ c < 160 ∧ chanState s.pk x.bb c = 2 ∧ (chanSignal s.pk x.bb c).2.2 = 0) ∧
    (∃ (x : Side) (c : Nat) (s : State), gnsIdle s.pk x.bb = false ∧ c < 160 ∧ chanState s.pk x.bb c = 2 ∧ (chanSignal s.pk x.bb c).2.2 = 0) ∧
    (∃ (x : Side) (c : Nat) (s : State), ((gnsIdle s.pk x.bb = true ∨ chanState s.pk x.bb c ≠ 2 ∨ (chanSignal s.pk x.bb c).2.2 ≠ 0))) ∧
    (∃ (y : Side) (u : Nat) (frame : List Nat) (s : State), u < 8 ∧ running s.pk y.port = true ∧ rdI s.pk y.port SIG_UART.MODE u = 2 ∧
      rtcmGood frame = true) ∧
    (∃ (y : Side) (u : Nat) (frame : List Nat) (s : State), u < 8 ∧ running s.pk y.port = true ∧ rdI s.pk y.port SIG_UART.MODE u = 2 ∧
      rtcmGood frame = false) ∧
    (∃ (x : Side) (g : Nat) (s : State), g < 4 ∧ corrFalls s.pk x g (now s.pk x.helm) = true ∧ rdI s.pk x.helm I_EST.CORR_STALE g = 0) ∧
    (∃ (x : Side) (s : State), rd s.pk x.helm I_EST.SBAS_AT + 60000000000 ≤ now s.pk x.helm) ∧
    (∃ (x : Side) (s : State), now s.pk x.helm < rd s.pk x.helm I_EST.SBAS_AT + 60000000000) :=
  ⟨⟨.a, wst [(.ga, I_DIE.RUN, 0, 2), (.ga, TIM_NOW.NOW, 0, 10000000), (.ga, GNS_STATUS.STATE, 0, 2), (.ga, GNS_CHAN.STATE, 7, 2),
    (.ga, GNS_CHAN.SYS, 7, 1), (.ga, I_CHAN.RETIRE_DUE, 9, 1)], by decide +kernel⟩,
    ⟨.a, 7, wst [(.ga, I_DIE.RUN, 0, 2), (.ha, I_DIE.RUN, 0, 2), (.pa, I_DIE.RUN, 0, 2), (.ga, GNS_STATUS.STATE, 0, 2), (.ga, GNS_CHAN.STATE, 7, 2),
      (.ga, GNS_CHAN.SYS, 7, 1)], by decide +kernel⟩,
    ⟨.a, 7, wst [(.ga, I_DIE.RUN, 0, 2), (.ga, GNS_STATUS.STATE, 0, 2), (.ga, GNS_CHAN.STATE, 7, 2)], by decide +kernel⟩,
    ⟨.a, 7, wst [(.ga, I_DIE.RUN, 0, 2), (.ga, GNS_STATUS.STATE, 0, 2), (.ga, GNS_CHAN.STATE, 7, 2), (.ga, GNS_CHAN.SIG, 7, 1)], by decide +kernel⟩,
    ⟨.a, 3, [0xD3, 0, 0, 0x47, 0xEA, 0x4B], wst [(.pa, I_DIE.RUN, 0, 2), (.pa, SIG_UART.MODE, 3, 2), (.pa, SIG_UART.MODE, 3, 2),
      (.ha, I_DIE.RUN, 0, 2)], by decide +kernel⟩,
    ⟨.a, 3, [0xD3, 0, 0, 0x47, 0xEA, 0x4C], wst [(.pa, I_DIE.RUN, 0, 2), (.pa, SIG_UART.MODE, 3, 2), (.pa, SIG_UART.MODE, 3, 2)], by decide +kernel⟩,
    ⟨.a, 1, wst [(.ha, I_EST.CORR_STALE, 1, 0),
      (.ha, TIM_NOW.NOW, 0, 900000000000)] |> fun s => { s with pk := { s.pk with lanes := s.pk.lanes.set .a { Lane.empty with corr := [⟨5, 1240, []⟩] } } }, by decide +kernel⟩,
    ⟨.a, wst [(.ha, TIM_NOW.NOW, 0, 900000000000), (.ha, I_EST.SBAS_OFF, 0, 1)], by decide +kernel⟩,
    ⟨.a, wst [], by decide +kernel⟩⟩

theorem test_SnapshotCapturesFollowTheirStates :
    (∃ (x : Side) (s : State), running s.pk x.bb = true ∧ onFallback s.pk x.bb = false ∧ rd s.pk x.bb GNS_SNAP_STATUS.SNAP_STATE = 0) ∧
    (∃ (x : Side) (s : State), running s.pk x.bb = true ∧ ((onFallback s.pk x.bb = true ∨ rd s.pk x.bb GNS_SNAP_STATUS.SNAP_STATE ≠ 0))) ∧
    (∃ (x : Side) (t0 : Nat) (s : State), t0 < 1000000 ∧ rd s.pk x.bb GNS_SNAP_STATUS.SNAP_STATE = 1 ∧ running s.pk x.bb = true ∧
      rd s.pk x.bb I_GNS.TRIG_AT + 4000000 ≤ now s.pk x.bb + t0) ∧
    (∃ (x : Side) (t0 : Nat) (s : State), captureMayStart s.pk x (now s.pk x.bb + t0) = false) ∧
    (∃ (x : Side) (s : State), rd s.pk x.bb GNS_SNAP_STATUS.SNAP_STATE = 2 ∧
      rd s.pk x.bb GNS_SNAP_T0.T0 + rd s.pk x.bb GNS_SNAP_STATUS.LENGTH_MS * 1000000 ≤ now s.pk x.bb) ∧
    (∃ (x : Side) (s : State), rd s.pk x.bb GNS_SNAP_STATUS.SNAP_STATE = 3) ∧
    (∃ (x : Side) (s : State), rd s.pk x.bb GNS_SNAP_STATUS.SNAP_STATE = 3 ∧
      rd s.pk x.bb I_GNS.HOLD_AT + rd s.pk x.bb GNS_SNAP_CFG.HOLD_MAX * 1000000000 ≤ now s.pk x.bb) ∧
    (∃ (x : Side) (s : State), rd s.pk x.bb GNS_SNAP_STATUS.SNAP_STATE = 0) ∧
    (∃ (x : Side) (k : Nat) (s : State), k < 4 ∧ running s.pk x.bb = true ∧ rdI s.pk x.bb GNS_WEIR.EN k = 1 ∧ rdI s.pk x.bb I_GWEIR.FIRED k = 0 ∧
      rdI s.pk x.bb I_GWEIR.RUN k = 1 ∧ rdI s.pk x.bb I_GWEIR.SINCE k + rdI s.pk x.bb GNS_WEIR.MIN_DUR k * 10000000 ≤ now s.pk x.bb) ∧
    (∃ (x : Side) (k : Nat) (s : State), k < 4 ∧ rdI s.pk x.bb I_GWEIR.FIRED k = 1 ∧ rdI s.pk x.bb GNS_WEIR.DIR k = 1 ∧
      gweirValue s.pk x.bb k + rdI s.pk x.bb GNS_WEIR.HYST k ≤ rdI s.pk x.bb GNS_WEIR.THRESH k) :=
  ⟨⟨.a, wst [(.ga, I_DIE.RUN, 0, 2), (.ga, GNS_SNAP_STATUS.SNAP_STATE, 0, 0)], by decide +kernel⟩,
    ⟨.a, wst [(.ga, I_DIE.RUN, 0, 2), (.ga, GNS_SNAP_STATUS.SNAP_STATE, 0, 3)], by decide +kernel⟩,
    ⟨.a, 0, wst [(.ga, GNS_SNAP_STATUS.SNAP_STATE, 0, 1), (.ga, I_DIE.RUN, 0, 2), (.ga, GNS_STATUS.REFLECT_BUSY, 0, 1),
      (.ga, TIM_NOW.NOW, 0, 4000077), (.ga, I_GNS.TRIG_AT, 0, 5)], by decide +kernel⟩,
    ⟨.a, 0, wst [(.ga, I_DIE.RUN, 0, 2), (.ga, GNS_STATUS.STATE, 0, 2), (.ga, GNS_SNAP_STATUS.SNAP_STATE, 0, 1)], by decide +kernel⟩,
    ⟨.a, wst [(.ga, GNS_SNAP_STATUS.SNAP_STATE, 0, 2), (.ga, GNS_SNAP_T0.T0, 0, 5), (.ga, GNS_SNAP_STATUS.LENGTH_MS, 0, 3),
      (.ga, TIM_NOW.NOW, 0, 90000000)], by decide +kernel⟩,
    ⟨.a, wst [(.ga, GNS_SNAP_STATUS.SNAP_STATE, 0, 3)], by decide +kernel⟩,
    ⟨.a, wst [(.ga, GNS_SNAP_STATUS.SNAP_STATE, 0, 3), (.ga, TIM_NOW.NOW, 0, 90000000000000000)], by decide +kernel⟩,
    ⟨.a, wst [(.ga, GNS_SNAP_STATUS.SNAP_STATE, 0, 0)], by decide +kernel⟩,
    ⟨.a, 2, wst [(.ga, I_DIE.RUN, 0, 2), (.ga, GNS_WEIR.EN, 2, 1), (.ga, I_GWEIR.FIRED, 2, 0), (.ga, I_GWEIR.RUN, 2, 1),
      (.ga, TIM_NOW.NOW, 0, 90000000000000000), (.ga, GNS_WEIR.TO_LOG, 2, 1), (.ga, GNS_WEIR.TO_SNAP, 2, 1), (.ga, GNS_SNAP_CFG.TRIG_MASK, 0, 15), (.ga, GNS_WEIR.EN, 2, 1), (.ga, I_GWEIR.RUN, 2, 1)], by decide +kernel⟩,
    ⟨.a, 1, wst [(.ga, I_GWEIR.FIRED, 1, 1), (.ga, GNS_WEIR.DIR, 1, 1), (.ga, I_GWEIR.FIRED, 1, 1), (.ga, GNS_WEIR.DIR, 1, 1),
      (.ga, GNS_WEIR.THRESH, 1, 9), (.ga, GNS_WEIR.SIGNAL, 1, 1)], by decide +kernel⟩⟩

theorem test_SluicesLatchAndTheDeadHandActs :
    (∃ (x : Side) (y : Side) (i : Nat) (s : State), portHears s.pk x y = true ∧ rd s.pk y.port HG_OWNER.OWNER = x.num + 1 ∧ i < 16 ∧
      rdI s.pk y.port SIG_OUT.USER i ≠ 2 ∧ rd s.pk y.port HG_DH_STATUS.TRIPPED = 0) ∧
    (∃ (x : Side) (y : Side) (i : Nat) (s : State), portHears s.pk x y = true ∧ rd s.pk y.port HG_OWNER.OWNER = x.num + 1 ∧ i < 16 ∧
      rdI s.pk y.port SIG_OUT.USER i ≠ 2 ∧ rd s.pk y.port HG_DH_STATUS.TRIPPED = 1) ∧
    (∃ (x : Side) (y : Side) (i : Nat) (s : State), portHears s.pk x y = true ∧ rd s.pk y.port HG_OWNER.OWNER = x.num + 1 ∧ i < 24 ∧
      rdI s.pk y.port SIG_OUT.USER (16 + i) ≠ 2 ∧ ((rdI s.pk y.port SIG_DIO.FUNC i = 2 ∨ rdI s.pk y.port SIG_DIO.FUNC i = 3)) ∧
      rd s.pk y.port HG_DH_STATUS.TRIPPED = 0) ∧
    (∃ (x : Side) (y : Side) (i : Nat) (s : State), portHears s.pk x y = true ∧ rd s.pk y.port HG_OWNER.OWNER = x.num + 1 ∧ i < 128) ∧
    (∃ (x : Side) (y : Side) (i : Nat) (s : State), portHears s.pk x y = true ∧ rd s.pk y.port HG_OWNER.OWNER = x.num + 1 ∧ i < 8 ∧
      rdI s.pk y.port SIG_UART.MODE i ≠ 0) ∧
    (∃ (x : Side) (y : Side) (s : State), portHears s.pk x y = true ∧ rd s.pk y.port HG_OWNER.OWNER = x.num + 1) ∧
    (∃ (x : Side) (y : Side) (s : State), (portHears s.pk x y = false ∨ rd s.pk y.port HG_OWNER.OWNER ≠ x.num + 1)) ∧
    (∃ (y : Side) (s : State), running s.pk y.port = true ∧ rd s.pk y.port HG_DH_STATUS.TRIPPED = 0 ∧
      rd s.pk y.port HG_DH_CFG.DH_TIMEOUT ≤ rd s.pk y.port HG_DH_STATUS.SINCE_REFRESH) ∧
    (∃ (y : Side) (s : State), rd s.pk y.port HG_DH_STATUS.SINCE_REFRESH < rd s.pk y.port HG_DH_CFG.DH_TIMEOUT) ∧
    (∃ (y : Side) (s : State), running s.pk y.port = true ∧ rd s.pk y.port HG_DH_STATUS.TRIPPED = 1 ∧ rd s.pk y.port SIG_STATUS.LAYOUT = 1 ∧
      rd s.pk y.port I_PORT.RAMP_DUE = 1) ∧
    (∃ (y : Side) (s : State), (rd s.pk y.port HG_DH_STATUS.TRIPPED = 0 ∨ rd s.pk y.port I_PORT.RAMP_DUE = 0)) :=
  ⟨⟨.a, .a, 3, wst [(.pa, HG_DH_STATUS.TRIPPED, 0, 0), (.ha, I_DIE.RUN, 0, 2), (.pa, I_DIE.RUN, 0, 2), (.pa, HG_OWNER.OWNER, 0, 1),
    (.pa, SIG_OUT.SPAN, 3, 30000), (.pa, SIG_OUT.ZERO, 3, 32768)], by decide +kernel⟩,
    ⟨.a, .a, 3, wst [(.pa, HG_DH_STATUS.TRIPPED, 0, 1), (.ha, I_DIE.RUN, 0, 2), (.pa, I_DIE.RUN, 0, 2),
      (.pa, HG_OWNER.OWNER, 0, 1)], by decide +kernel⟩,
    ⟨.a, .a, 3, wst [(.pa, SIG_DIO.FUNC, 3, 2), (.pa, HG_DH_STATUS.TRIPPED, 0, 0), (.ha, I_DIE.RUN, 0, 2), (.pa, I_DIE.RUN, 0, 2),
      (.pa, HG_OWNER.OWNER, 0, 1), (.pa, SIG_DIO.FUNC, 3, 2)], by decide +kernel⟩,
    ⟨.a, .a, 3, wst [(.ha, I_DIE.RUN, 0, 2), (.pa, I_DIE.RUN, 0, 2), (.pa, HG_OWNER.OWNER, 0, 1)], by decide +kernel⟩,
    ⟨.a, .a, 3, wst [(.ha, I_DIE.RUN, 0, 2), (.pa, I_DIE.RUN, 0, 2), (.pa, HG_OWNER.OWNER, 0, 1), (.pa, SIG_UART.MODE, 3, 1)], by decide +kernel⟩,
    ⟨.a, .a, wst [(.ha, I_DIE.RUN, 0, 2), (.pa, I_DIE.RUN, 0, 2), (.pa, HG_OWNER.OWNER, 0, 1), (.pa, HG_DH_STATUS.TRIPPED, 0, 1),
      (.pa, I_OUT.WRITTEN, 2, 1), (.pa, SIG_OUT.LATCHED, 2, 99)], by decide +kernel⟩,
    ⟨.a, .a, wst [], by decide +kernel⟩,
    ⟨.a, wst [(.pa, I_DIE.RUN, 0, 2), (.pa, HG_DH_STATUS.TRIPPED, 0, 0), (.pa, HG_DH_STATUS.SINCE_REFRESH, 0, 60000), (.pa, SIG_OUT.DH_ACTION, 2, 1),
      (.pa, SIG_OUT.DH_VALUE, 2, 777)], by decide +kernel⟩,
    ⟨.a, wst [(.pa, HG_DH_CFG.DH_TIMEOUT, 0, 50), (.pa, HG_DH_STATUS.SINCE_REFRESH, 0, 0)], by decide +kernel⟩,
    ⟨.a, wst [(.pa, I_DIE.RUN, 0, 2), (.pa, HG_DH_STATUS.TRIPPED, 0, 1), (.pa, SIG_STATUS.LAYOUT, 0, 1), (.pa, I_PORT.RAMP_DUE, 0, 1),
      (.pa, SIG_OUT.DH_ACTION, 2, 2), (.pa, SIG_OUT.DH_VALUE, 2, 777), (.pa, SIG_OUT.DH_RATE, 2, 5)], by decide +kernel⟩,
    ⟨.a, wst [(.pa, HG_DH_STATUS.TRIPPED, 0, 0)], by decide +kernel⟩⟩

theorem test_AnalogChannelsResetFillAndDeliver :
    (∃ (y : Side) (s : State), running s.pk y.port = true ∧ (s.pk.ports.get y).ain.length = 16) ∧
    (∃ (y : Side) (n : Nat) (s : State), running s.pk y.port = true ∧ n < 16 ∧ (s.pk.ports.get y).ain.length = 16 ∧ (ainAt s.pk y n).sync = true) ∧
    (∃ (y : Side) (n : Nat) (s : State), (ainAt s.pk y n).sync = false) ∧
    (∃ (y : Side) (n : Nat) (s : State), running s.pk y.port = true ∧ n < 16 ∧ rdI s.pk y.port SIG_AIN.EN n = 1 ∧ (s.pk.ports.get y).ain.length = 16 ∧
      0 < (ainAt s.pk y n).skip) ∧
    (∃ (y : Side) (n : Nat) (s : State), running s.pk y.port = true ∧ n < 16 ∧ rdI s.pk y.port SIG_AIN.EN n = 1 ∧ (s.pk.ports.get y).ain.length = 16 ∧
      (ainAt s.pk y n).skip = 0 ∧ (ainAt s.pk y n).sync = false) ∧
    (∃ (y : Side) (n : Nat) (s : State), running s.pk y.port = true ∧ n < 16 ∧ rdI s.pk y.port SIG_AIN.EN n = 1 ∧ (ainAt s.pk y n).count ≠ 0 ∧
      rdI s.pk y.port SIG_AIN.D n ≠ 0 ∧ (ainAt s.pk y n).count % rdI s.pk y.port SIG_AIN.D n = 0 ∧ rdI s.pk y.port SIG_AIN.L n ≠ 0 ∧
      rdI s.pk y.port I_AIN.DONE n ≠ (ainAt s.pk y n).count) ∧
    (∃ (y : Side) (k : Nat) (s : State), running s.pk y.port = true ∧ k < 64 ∧ bit (rdI s.pk y.port SIG_WEIR.CFG k) 0 = true ∧
      rdI s.pk y.port SIG_WEIR.STATE k = 0 ∧ rdI s.pk y.port I_WEIR.RUN k = 1 ∧
      rdI s.pk y.port I_WEIR.SINCE k + rdI s.pk y.port SIG_WEIR.MIN_DUR k * 1000000 ≤ rdI s.pk y.port I_AIN.AT (rdI s.pk y.port SIG_WEIR.CHANNEL k)) :=
  ⟨⟨.a, wst [(.pa, I_DIE.RUN, 0, 2)] |> fun s => { s with pk := { s.pk with ports := s.pk.ports.set .a { Port.empty with ain := List.replicate 16 ⟨[3], 1, 0, false, 0⟩ } } }, by decide +kernel⟩,
    ⟨.a, 3, wst [(.pa, I_DIE.RUN, 0, 2)], by decide +kernel⟩,
    ⟨.a, 3, wst [] |> fun s => { s with pk := { s.pk with ports := s.pk.ports.set .a { Port.empty with ain := List.replicate 16 ⟨[3], 1, 0, false, 0⟩ } } }, by decide +kernel⟩,
    ⟨.a, 3, wst [(.pa, I_DIE.RUN, 0, 2), (.pa, SIG_AIN.EN, 3, 1),
      (.pa, SIG_AIN.EN, 3, 1)] |> fun s => { s with pk := { s.pk with ports := s.pk.ports.set .a { Port.empty with ain := List.replicate 16 ⟨[3], 1, 0, false, 2⟩ } } }, by decide +kernel⟩,
    ⟨.a, 3, wst [(.pa, I_DIE.RUN, 0, 2), (.pa, SIG_AIN.EN, 3, 1),
      (.pa, SIG_AIN.EN, 3, 1)] |> fun s => { s with pk := { s.pk with ports := s.pk.ports.set .a { Port.empty with ain := List.replicate 16 ⟨[3], 1, 0, false, 0⟩ } } }, by decide +kernel⟩,
    ⟨.a, 3, wst [(.pa, I_DIE.RUN, 0, 2), (.pa, SIG_AIN.EN, 3, 1), (.pa, SIG_AIN.EN, 3, 1), (.pa, SIG_AIN.D, 3, 1), (.pa, SIG_AIN.L, 3, 1),
      (.pa, SIG_AIN.S, 3, 1)] |> fun s => { s with pk := { s.pk with ports := s.pk.ports.set .a { Port.empty with ain := List.replicate 16 ⟨[300], 1, 0, false, 0⟩ } } }, by decide +kernel⟩,
    ⟨.a, 9, wst [(.pa, I_DIE.RUN, 0, 2), (.pa, SIG_WEIR.STATE, 9, 0), (.pa, I_WEIR.RUN, 9, 1), (.pa, SIG_WEIR.CFG, 9, 125), (.pa, I_WEIR.RUN, 9, 1),
      (.pa, SIG_WEIR.STATE, 9, 0), (.ha, I_DIE.RUN, 0, 2)], by decide +kernel⟩⟩

theorem test_PinsAndFramersAreLatched :
    (∃ (y : Side) (n : Nat) (heldUs : Nat) (s : State), running s.pk y.port = true ∧ n < 24 ∧ rdI s.pk y.port SIG_DIO.FUNC n = 0 ∧
      rdI s.pk y.port SIG_DIO.DEBOUNCE_US n ≤ heldUs) ∧
    (∃ (y : Side) (n : Nat) (heldUs : Nat) (s : State), heldUs < rdI s.pk y.port SIG_DIO.DEBOUNCE_US n) ∧
    (∃ (y : Side) (n : Nat) (stamp : Nat) (s : State), running s.pk y.port = true ∧ n < 24 ∧ rdI s.pk y.port SIG_DIO.FUNC n = 1 ∧
      ((rdI s.pk y.port I_DIO.EDGES n = 0 ∨ rdI s.pk y.port I_DIO.EDGE_AT n + rdI s.pk y.port SIG_DIO.DEBOUNCE_US n * 1000 ≤ stamp))) ∧
    (∃ (y : Side) (f : Nat) (s : State), running s.pk y.port = true ∧ f < 128 ∧ (feedbackNow s.pk y.port f).2 = true) ∧
    (∃ (y : Side) (f : Nat) (s : State), (feedbackNow s.pk y.port f).2 = false) ∧
    (∃ (y : Side) (u : Nat) (chars : List Nat) (s : State), running s.pk y.port = true ∧ u < 8 ∧ rdI s.pk y.port SIG_UART.MODE u = 1 ∧
      (frameChars chars none).1 = 0 ∧
      (frameChars chars none).2.filter (sentenceGood (rdI s.pk y.port SIG_UART.CHK_REQ u != 0)) = (frameChars chars none).2) ∧
    (∃ (y : Side) (u : Nat) (chars : List Nat) (s : State), running s.pk y.port = true ∧ u < 8 ∧ rdI s.pk y.port SIG_UART.MODE u = 1 ∧
      (frameChars chars none).2 = [] ∧ 0 < (frameChars chars none).1) ∧
    (∃ (y : Side) (o : Nat) (na : Nat) (s : State), running s.pk y.port = true ∧ o < 16 ∧ periodDue s.pk y.port I_OUT.MEASURE_DUE o 10000000 = true ∧
      65535 < rdI s.pk y.port SIG_OUT.CODE o * 25 ∧ na * 1000000 * 65535 < rdI s.pk y.port SIG_OUT.CODE o * 2500000000 ∧
      rdI s.pk y.port I_OUT.OPEN_RUN o = 9 ∧ rdI s.pk y.port SIG_OUT.LOAD o ≠ 2) ∧
    (∃ (y : Side) (o : Nat) (v : Nat) (s : State), running s.pk y.port = true ∧ o < 16 ∧ v < 65536 ∧ rdI s.pk y.port SIG_OUT.USER o = 2) ∧
    (∃ (y : Side) (o : Nat) (s : State), running s.pk y.port = true ∧ o < 16 ∧ rdI s.pk y.port SIG_OUT.USER o ≠ 2) :=
  ⟨⟨.a, 4, 70000, wst [(.pa, I_DIE.RUN, 0, 2), (.pa, SIG_DIO.FUNC, 4, 0), (.pa, SIG_DIO.FUNC, 4, 0)], by decide +kernel⟩,
    ⟨.a, 4, 0, wst [(.pa, SIG_DIO.DEBOUNCE_US, 4, 50)], by decide +kernel⟩,
    ⟨.a, 4, 9000000, wst [(.pa, I_DIE.RUN, 0, 2), (.pa, SIG_DIO.FUNC, 4, 1), (.pa, I_DIO.EDGES, 4, 0), (.pa, SIG_DIO.FUNC, 4, 1),
      (.pa, I_DIO.EDGES, 4, 1), (.pa, I_DIO.EDGE_AT, 4, 4000000)], by decide +kernel⟩,
    ⟨.a, 5, wst [(.pa, I_DIE.RUN, 0, 2), (.pa, SIG_FB.SRC, 5, 3)], by decide +kernel⟩,
    ⟨.a, 5, wst [(.pa, SIG_FB.SRC, 5, 2)], by decide +kernel⟩,
    ⟨.a, 2, [0x24, 0x41, 0x42, 0x0D, 0x0A], wst [(.pa, I_DIE.RUN, 0, 2), (.pa, SIG_UART.MODE, 2, 1), (.pa, SIG_UART.MODE, 2, 1)], by decide +kernel⟩,
    ⟨.a, 2, [0x24, 0x41, 300], wst [(.pa, I_DIE.RUN, 0, 2), (.pa, SIG_UART.MODE, 2, 1), (.pa, SIG_UART.MODE, 2, 1)], by decide +kernel⟩,
    ⟨.a, 3, 0, wst [(.pa, I_DIE.RUN, 0, 2), (.pa, I_OUT.OPEN_RUN, 3, 9), (.pa, SIG_OUT.CODE, 3, 50000),
      (.pa, I_OUT.OPEN_RUN, 3, 9)], by decide +kernel⟩,
    ⟨.a, 3, 500, wst [(.pa, I_DIE.RUN, 0, 2), (.pa, SIG_OUT.USER, 3, 2), (.pa, SIG_OUT.USER, 3, 2)], by decide +kernel⟩,
    ⟨.a, 3, wst [(.pa, I_DIE.RUN, 0, 2)], by decide +kernel⟩⟩

theorem test_CanPortsSendCancelAndCountErrors :
    (∃ (x : Side) (y : Side) (k : Nat) (s : State), portHears s.pk x y = true ∧ rd s.pk y.port HG_OWNER.OWNER = x.num + 1 ∧ k < 4 ∧
      (s.pk.ports.get y).fifo.length = 4 ∧ (canFifo s.pk y k).length < 32 ∧ rd s.pk y.port CAN_DIE_STATUS.FD_SUSPENDED = 0) ∧
    (∃ (x : Side) (y : Side) (k : Nat) (s : State), portHears s.pk x y = true ∧ rd s.pk y.port HG_OWNER.OWNER = x.num + 1 ∧ k < 4 ∧
      32 ≤ (canFifo s.pk y k).length) ∧
    (∃ (x : Side) (y : Side) (k : Nat) (s : State), portHears s.pk x y = true ∧ rd s.pk y.port HG_OWNER.OWNER ≠ x.num + 1 ∧ k < 4) ∧
    (∃ (x : Side) (y : Side) (k : Nat) (tag : Nat) (e : CanEntry) (s : State), portHears s.pk x y = true ∧ rd s.pk y.port HG_OWNER.OWNER = x.num + 1 ∧
      k < 4 ∧ (s.pk.ports.get y).fifo.length = 4 ∧ rd s.pk y.port CAN_DIE_STATUS.FD_SUSPENDED = 0 ∧
      (canFifo s.pk y k).find? (fun v => v.writer != 2 && v.tag == tag) = some e) ∧
    (∃ (y : Side) (k : Nat) (e : CanEntry) (r : List CanEntry) (s : State), canSends s.pk y k = true ∧ (s.pk.ports.get y).fifo.length = 4 ∧
      canFifo s.pk y k = e :: r ∧ rd s.pk y.port CAN_DIE_STATUS.FD_SUSPENDED = 0) ∧
    (∃ (y : Side) (k : Nat) (e : CanEntry) (r : List CanEntry) (s : State), canSends s.pk y k = true ∧ (s.pk.ports.get y).fifo.length = 4 ∧
      canFifo s.pk y k = e :: r ∧ e.cancel = false ∧
      ((rdI s.pk y.port CAN_CFG.REQUEUE_LOSSES k = 0 ∨ e.losses + 1 < rdI s.pk y.port CAN_CFG.REQUEUE_LOSSES k))) ∧
    (∃ (y : Side) (k : Nat) (s : State), canSends s.pk y k = false) ∧
    (∃ (y : Side) (k : Nat) (s : State), k < 4 ∧ running s.pk y.port = true ∧ rdI s.pk y.port CAN_STATUS.STATE k = 2) ∧
    (∃ (y : Side) (m : Nat) (k : Nat) (s : State), running s.pk y.port = true ∧ m < 64 ∧ rdI s.pk y.port CAN_TXM.PORT m = k ∧ k < 4 ∧
      rdI s.pk y.port CAN_CFG.MODE k = 1 ∧ rdI s.pk y.port I_CAN.DEAD k = 0 ∧ msgDue s.pk y.port m = true ∧ (s.pk.ports.get y).fifo.length = 4 ∧
      (canFifo s.pk y k).all (fun e => !(e.writer == 2 && e.tag == m)) = true ∧ (canFifo s.pk y k).length < 32 ∧
      rd s.pk y.port CAN_DIE_STATUS.FD_SUSPENDED = 0) :=
  ⟨⟨.a, .a, 2, wst [(.pa, CAN_DIE_STATUS.FD_SUSPENDED, 0, 0), (.ha, I_DIE.RUN, 0, 2), (.pa, I_DIE.RUN, 0, 2), (.pa, HG_OWNER.OWNER, 0, 1),
    (.pa, CAN_RAW.ID, 2, 77)], by decide +kernel⟩,
    ⟨.a, .a, 1, wst [(.ha, I_DIE.RUN, 0, 2), (.pa, I_DIE.RUN, 0, 2),
      (.pa, HG_OWNER.OWNER, 0, 1)] |> fun s => { s with pk := { s.pk with ports := s.pk.ports.set .a { Port.empty with fifo := [[], List.replicate 32 ⟨0, 1, ⟨1, false, false, false, false, false, 0, []⟩, false, 0, 0, false⟩, [], []] } } }, by decide +kernel⟩,
    ⟨.a, .a, 2, wst [(.ha, I_DIE.RUN, 0, 2), (.pa, I_DIE.RUN, 0, 2), (.pa, HG_OWNER.OWNER, 0, 2)], by decide +kernel⟩,
    ⟨.a, .a, 1, 9, ⟨0, 9, ⟨1, false, false, false, false, false, 0, []⟩, false, 0, 2, false⟩, wst [(.pa, CAN_DIE_STATUS.FD_SUSPENDED, 0, 0),
      (.ha, I_DIE.RUN, 0, 2), (.pa, I_DIE.RUN, 0, 2), (.pa, HG_OWNER.OWNER, 0, 1)] |> fun s => { s with pk := { s.pk with ports := s.pk.ports.set .a { Port.empty with fifo := [[], [⟨0, 3, ⟨1, false, false, false, false, false, 0, []⟩, false, 0, 2, false⟩, ⟨0, 9, ⟨1, false, false, false, false, false, 0, []⟩, false, 0, 2, false⟩], [], []] } } }, by decide +kernel⟩,
    ⟨.a, 1, ⟨0, 9, ⟨1, false, false, false, false, false, 0, []⟩, false, 0, 2, false⟩, [], wst [(.pa, CAN_DIE_STATUS.FD_SUSPENDED, 0, 0),
      (.pa, I_DIE.RUN, 0, 2), (.pa, CAN_CFG.MODE, 1, 1), (.pa, CAN_STATUS.STATE, 1, 0)] |> fun s => { s with pk := { s.pk with ports := s.pk.ports.set .a { Port.empty with fifo := [[], [⟨0, 9, ⟨1, false, false, false, false, false, 0, []⟩, false, 0, 2, false⟩], [], []] } } }, by decide +kernel⟩,
    ⟨.a, 1, ⟨0, 9, ⟨1, false, false, false, false, false, 0, []⟩, false, 0, 2, false⟩, [], wst [(.pa, CAN_CFG.REQUEUE_LOSSES, 1, 0),
      (.pa, I_DIE.RUN, 0, 2), (.pa, CAN_CFG.MODE, 1, 1), (.pa, CAN_STATUS.STATE, 1, 0)] |> fun s => { s with pk := { s.pk with ports := s.pk.ports.set .a { Port.empty with fifo := [[], [⟨0, 9, ⟨1, false, false, false, false, false, 0, []⟩, false, 0, 2, false⟩], [], []] } } }, by decide +kernel⟩,
    ⟨.a, 0, wst [], by decide +kernel⟩,
    ⟨.a, 1, wst [(.pa, I_DIE.RUN, 0, 2), (.pa, CAN_STATUS.STATE, 1, 2), (.pa, CAN_STATUS.STATE, 1, 2)], by decide +kernel⟩,
    ⟨.a, 9, 1, wst [(.pa, I_DIE.RUN, 0, 2), (.pa, CAN_TXM.PORT, 9, 1), (.pa, CAN_CFG.MODE, 1, 1), (.pa, I_CAN.DEAD, 1, 0),
      (.pa, CAN_DIE_STATUS.FD_SUSPENDED, 0, 0), (.pa, CAN_TXM.PORT, 9, 1), (.pa, CAN_CFG.MODE, 1, 1), (.pa, CAN_TXM.PERIOD_MS, 9, 10), (.pa, CAN_TXS.LEN, 3, 8), (.pa, CAN_TXS.MSG, 3, 9), (.pa, CAN_TXM.DLC, 9, 8), (.pa, TIM_NOW.NOW, 0, 50000000)], by decide +kernel⟩⟩

theorem test_CanPortsReceiveAndWatchTheBus :
    (∃ (y : Side) (k : Nat) (frame : CanFrame) (i : Nat) (s : State), running s.pk y.port = true ∧ k < 4 ∧
      ((rdI s.pk y.port CAN_CFG.MODE k = 1 ∨ rdI s.pk y.port CAN_CFG.MODE k = 2)) ∧ rdI s.pk y.port I_CAN.DEAD k = 0 ∧
      rdI s.pk y.port CAN_STATUS.STATE k = 0 ∧ frame.fdf = false ∧ canFilter s.pk y.port k (canKey frame) = some i ∧
      rdI s.pk y.port CAN_FILT.ACTION i = 1) ∧
    (∃ (y : Side) (k : Nat) (s : State), (running s.pk y.port = false ∨ rdI s.pk y.port CAN_CFG.MODE k = 0 ∨ rdI s.pk y.port CAN_STATUS.STATE k = 2)) ∧
    (∃ (y : Side) (k : Nat) (s : State), k < 4 ∧ canSends s.pk y k = true ∧ rdI s.pk y.port CAN_STATUS.STATE k = 0 ∧
      rdI s.pk y.port I_CAN.TEC k < 128) ∧
    (∃ (y : Side) (s : State), running s.pk y.port = true ∧ ((s.pk.ports.get y).latches.head?.map (fun l => l.2)) ≠ some (now s.pk y.port)) ∧
    (∃ (y : Side) (k : Nat) (s : State), k < 4 ∧ running s.pk y.port = true ∧ rdI s.pk y.port I_CAN.TAKEOVER k = 1 ∧
      (s.pk.ports.get y).fifo.length = 4) ∧
    (∃ (y : Side) (k : Nat) (s : State), rdI s.pk y.port I_CAN.TAKEOVER k = 0) ∧
    (∃ (y : Side) (s : State), running s.pk y.port = true ∧ periodDue s.pk y.port I_PORT.CENSUS_DUE 0 10000000000 = true) :=
  ⟨⟨.a, 1, ⟨77, false, false, false, false, false, 2, [1, 2]⟩, 130, wst [(.pa, I_DIE.RUN, 0, 2), (.pa, CAN_CFG.MODE, 1, 1), (.pa, I_CAN.DEAD, 1, 0),
    (.pa, CAN_STATUS.STATE, 1, 0), (.pa, CAN_FILT.ACTION, 130, 1), (.pa, CAN_CFG.MODE, 1, 1), (.pa, CAN_STATUS.STATE, 1, 0), (.pa, CAN_FILT.ACTION, 130, 1), (.pa, CAN_FILT.ID, 130, 77), (.pa, CAN_FILT.MASK, 130, 2047), (.pa, CAN_RXS.LEN, 4, 8), (.pa, CAN_RXS.PORT, 4, 1), (.pa, CAN_RXS.ID, 4, 77)], by decide +kernel⟩,
    ⟨.a, 0, wst [], by decide +kernel⟩,
    ⟨.a, 1, wst [(.pa, CAN_STATUS.STATE, 1, 0), (.pa, I_DIE.RUN, 0, 2), (.pa, CAN_CFG.MODE, 1, 1), (.pa, CAN_STATUS.STATE, 1, 0),
      (.pa, I_CAN.TEC, 1, 125)], by decide +kernel⟩,
    ⟨.a, wst [(.pa, I_DIE.RUN, 0, 2)], by decide +kernel⟩,
    ⟨.a, 1, wst [(.pa, I_DIE.RUN, 0, 2), (.pa, I_CAN.TAKEOVER, 1, 1),
      (.pa, I_CAN.TAKEOVER, 1, 1)] |> fun s => { s with pk := { s.pk with ports := s.pk.ports.set .a { Port.empty with fifo := [[], [⟨0, 9, ⟨1, false, false, false, false, false, 0, []⟩, false, 0, 2, false⟩], [], []] } } }, by decide +kernel⟩,
    ⟨.a, 1, wst [(.pa, I_CAN.TAKEOVER, 1, 0)], by decide +kernel⟩,
    ⟨.a, wst [(.pa, I_DIE.RUN, 0, 2), (.pa, I_CEN.ERR, 2, 5)], by decide +kernel⟩⟩

theorem test_AssemblyAndSolverRunInTheirLane :
    (∃ (x : Side) (s : State), running s.pk x.helm = true ∧ 2 ≤ laneState s.pk x ∧ rd s.pk x.helm I_LANE.LAYOUT_APPLIED = 1 ∧ modeOf s.pk x < 2) ∧
    (∃ (x : Side) (s : State), running s.pk x.helm = true ∧ 2 ≤ laneState s.pk x ∧ rd s.pk x.helm I_LANE.LAYOUT_APPLIED = 1 ∧ 2 ≤ modeOf s.pk x) ∧
    (∃ (x : Side) (s : State), (running s.pk x.helm = false ∨ laneState s.pk x < 2 ∨ rd s.pk x.helm I_LANE.LAYOUT_APPLIED = 0)) ∧
    (∃ (x : Side) (room : Bool) (pass : Bool) (s : State), solverOn s.pk x = true ∧ modeOf s.pk x < 2 ∧ ((room = false ∨ pass = true))) ∧
    (∃ (x : Side) (e : Nat) (s : State), solverOn s.pk x = true ∧ modeOf s.pk x < 2 ∧ rd s.pk x.helm SOL_FURROW_STATE.BIST_NEXT = e ∧ e < 9 ∧
      resourceRetired s.pk x.helm 2 e = false) ∧
    (∃ (x : Side) (s : State), solverOn s.pk x = true ∧ 2 ≤ modeOf s.pk x) ∧
    (∃ (x : Side) (r : SolRun) (s : State), (s.pk.lanes.get x).sol.run = some r ∧ r.stale = false) ∧
    (∃ (x : Side) (s : State), (s.pk.lanes.get x).sol.run = none) ∧
    (∃ (x : Side) (e : Nat) (s : State), running s.pk x.helm = true ∧ e < 9 ∧ resourceRetired s.pk x.helm 2 e = false) ∧
    (∃ (x : Side) (s : State), running s.pk x.helm = true) :=
  ⟨⟨.a, wst [(.ha, I_DIE.RUN, 0, 2), (.ha, I_LANE.LAYOUT_APPLIED, 0, 1), (.ha, HG_STATUS.LANE_STATE, 0, 4)], by decide +kernel⟩,
    ⟨.a, wst [(.ha, I_DIE.RUN, 0, 2), (.ha, I_LANE.LAYOUT_APPLIED, 0, 1), (.ha, HG_STATUS.LANE_STATE, 0, 4),
      (.ha, SP_STATUS.MODE, 0, 4)], by decide +kernel⟩,
    ⟨.a, wst [], by decide +kernel⟩,
    ⟨.a, true, true, wst [(.ha, SOL_FURROW_STATE.BIST_NEXT, 0, 8), (.ha, HG_STATUS.LANE_STATE, 0, 4), (.ha, I_DIE.RUN, 0, 2),
      (.ha, I_LANE.LAYOUT_APPLIED, 0, 1)], by decide +kernel⟩,
    ⟨.a, 5, wst [(.ha, SOL_FURROW_STATE.BIST_NEXT, 0, 5), (.ha, HG_STATUS.LANE_STATE, 0, 4), (.ha, I_DIE.RUN, 0, 2),
      (.ha, I_LANE.LAYOUT_APPLIED, 0, 1)], by decide +kernel⟩,
    ⟨.a, wst [(.ha, HG_STATUS.LANE_STATE, 0, 4), (.ha, SP_STATUS.MODE, 0, 4), (.ha, I_DIE.RUN, 0, 2), (.ha, I_LANE.LAYOUT_APPLIED, 0, 1),
      (.ha, ASM_STATUS.RESULT, 0, 2)], by decide +kernel⟩,
    ⟨.a, ⟨⟨[], [], [], [], [], []⟩, false, false, [], none, 0, 1, 0, 0, false, false, 0, none, [], []⟩, wst [] |> fun s => { s with pk := { s.pk with lanes := s.pk.lanes.set .a { Lane.empty with sol := { SolverSt.empty with run := some ⟨⟨[], [], [], [], [], []⟩, false, false, [], none, 0, 1, 0, 0, false, false, 0, none, [], []⟩ } } } }, by decide +kernel⟩,
    ⟨.a, wst [], by decide +kernel⟩,
    ⟨.a, 5, wst [(.ha, I_DIE.RUN, 0, 2)], by decide +kernel⟩,
    ⟨.a, wst [(.ha, I_DIE.RUN, 0, 2)], by decide +kernel⟩⟩

theorem test_TicksAndLoopSlotEventsActByTheirRules :
    (∃ (x : Side) (i : Nat) (s : State), laneComputes s.pk x = true ∧ slotDefined s.pk x.helm i = true ∧ i < 256 ∧
      (s.pk.lanes.get x).slots.length = 256 ∧ 1 < (slotCfg s.pk x.helm i).nreg ∧ (slotRec s.pk x i).cand ≠ (slotRec s.pk x i).region ∧
      max 1 (slotCfg s.pk x.helm i).dwell ≤ (slotRec s.pk x i).dwell ∧ (slotRec s.pk x i).lost = false) ∧
    (∃ (x : Side) (i : Nat) (s : State), laneComputes s.pk x = true ∧ slotDefined s.pk x.helm i = true ∧ i < 256 ∧
      (s.pk.lanes.get x).slots.length = 256 ∧ 0 < (slotRec s.pk x i).bx ∧ max 1 (slotCfg s.pk x.helm i).bfpDwell ≤ (slotRec s.pk x i).bfpCnt) ∧
    (∃ (x : Side) (i : Nat) (s : State), laneComputes s.pk x = true ∧ slotDefined s.pk x.helm i = true ∧ i < 256 ∧
      (s.pk.lanes.get x).slots.length = 256 ∧ (slotRec s.pk x i).rcHold = false ∧ (slotCfg s.pk x.helm i).rcEn = true ∧
      rcOut s.pk x i (tickEdge s.pk x) = true) ∧
    (∃ (x : Side) (i : Nat) (s : State), laneComputes s.pk x = true ∧ slotDefined s.pk x.helm i = true ∧ i < 256 ∧
      (s.pk.lanes.get x).slots.length = 256 ∧ (slotCfg s.pk x.helm i).plausEn = true ∧
      max 1 (slotCfg s.pk x.helm i).plTime ≤ (slotRec s.pk x i).plCnt ∧ (slotRec s.pk x i).plaus = false) ∧
    (∃ (x : Side) (i : Nat) (s : State), running s.pk x.helm = true ∧ slotDefined s.pk x.helm i = true ∧ i < 256 ∧
      (s.pk.lanes.get x).slots.length = 256) ∧
    (∃ (x : Side) (i : Nat) (s : State), slotDefined s.pk x.helm i = false) ∧
    (∃ (x : Side) (s : State), running s.pk x.helm = true) ∧
    (∃ (x : Side) (r : SolRun) (s : State), laneUp s.pk x = true ∧ 2 ≤ modeOf s.pk x ∧ rd s.pk x.helm I_TIME.RELEASE_DUE = 1 ∧
      (s.pk.lanes.get x).sol.run = some r ∧ r.status < 5) ∧
    (∃ (s : State), rd s.pk .ha I_TIME.RELEASE_DUE = 0 ∧ rd s.pk .hb I_TIME.RELEASE_DUE = 0) :=
  ⟨⟨.a, 3, wst [(.ha, I_DIE.RUN, 0, 2), (.ha, HG_STATUS.LANE_STATE, 0, 4), (.ha, I_LANE.LAYOUT_APPLIED, 0, 1), (.ha, LOOP_DESC.ROLE, 3, 1),
    (.ha, LOOP_DESC.NREG, 3, 2)] |> fun s => { s with pk := { s.pk with lanes := s.pk.lanes.set .a { Lane.empty with slots := List.replicate 256 { SlotRec.zero with cand := 1, dwell := 9 } } } }, by decide +kernel⟩,
    ⟨.a, 3, wst [(.ha, I_DIE.RUN, 0, 2), (.ha, HG_STATUS.LANE_STATE, 0, 4), (.ha, I_LANE.LAYOUT_APPLIED, 0, 1), (.ha, LOOP_DESC.ROLE, 3, 1),
      (.ha, LOOP_DESC.NREG, 3, 2)] |> fun s => { s with pk := { s.pk with lanes := s.pk.lanes.set .a { Lane.empty with slots := List.replicate 256 { SlotRec.zero with bx := 1, bfpCnt := 60000, integ := -7 } } } }, by decide +kernel⟩,
    ⟨.a, 3, wst [(.ha, I_DIE.RUN, 0, 2), (.ha, HG_STATUS.LANE_STATE, 0, 4), (.ha, I_LANE.LAYOUT_APPLIED, 0, 1), (.ha, LOOP_DESC.ROLE, 3, 1),
      (.ha, LOOP_DESC.RC_PERIOD_US, 3, 9), (.ha, LOOP_DESC.OPTIONS, 3, 0xFFFF)], by decide +kernel⟩,
    ⟨.a, 3, wst [(.ha, I_DIE.RUN, 0, 2), (.ha, HG_STATUS.LANE_STATE, 0, 4), (.ha, I_LANE.LAYOUT_APPLIED, 0, 1), (.ha, LOOP_DESC.ROLE, 3, 1),
      (.ha, LOOP_DESC.OPTIONS, 3, 0xFFFF)] |> fun s => { s with pk := { s.pk with lanes := s.pk.lanes.set .a { Lane.empty with slots := List.replicate 256 { SlotRec.zero with plCnt := 60000 } } } }, by decide +kernel⟩,
    ⟨.a, 3, wst [(.ha, I_DIE.RUN, 0, 2),
      (.ha, LOOP_DESC.ROLE, 3, 1)] |> fun s => { s with pk := { s.pk with lanes := s.pk.lanes.set .a { Lane.empty with slots := List.replicate 256 { SlotRec.zero with plaus := true } } } }, by decide +kernel⟩,
    ⟨.a, 3, wst [], by decide +kernel⟩,
    ⟨.a, wst [(.ha, I_DIE.RUN, 0, 2)], by decide +kernel⟩,
    ⟨.a, ⟨⟨[], [], [], [], [], []⟩, false, false, [], none, 1, 1, 0, 0, false, false, 0, none, [7], []⟩, wst [(.ha, I_TIME.RELEASE_DUE, 0, 1),
      (.ha, I_DIE.RUN, 0, 2), (.ha, HG_STATUS.LANE_STATE, 0, 4), (.ha, I_LANE.LAYOUT_APPLIED, 0, 1), (.ha, SP_STATUS.MODE, 0, 4)] |> fun s => { s with pk := { s.pk with lanes := s.pk.lanes.set .a { Lane.empty with sol := { SolverSt.empty with run := some ⟨⟨[], [], [], [], [], []⟩, false, false, [], none, 1, 1, 0, 0, false, false, 0, none, [7], []⟩ } } } }, by decide +kernel⟩,
    ⟨wst [(.ha, I_TIME.RELEASE_DUE, 0, 0), (.hb, I_TIME.RELEASE_DUE, 0, 0), (.ha, I_DIE.RUN, 0, 2), (.ha, HG_STATUS.LANE_STATE, 0, 4),
      (.ha, I_LANE.LAYOUT_APPLIED, 0, 1), (.ha, SP_STATUS.MODE, 0, 4)], by decide +kernel⟩⟩

theorem test_CommandsAreAppliedOrAnsweredInEveryLane :
    (∃ (x : Side) (c : Cmd) (s : State), rowAdmits s.pk x c = true ∧ (s.pk.lanes.get x).seen.contains (c.slot, c.counter) = false ∧
      testCommand s.pk x (now s.pk x.helm) 1 c = .accepted) ∧
    (∃ (x : Side) (c : Cmd) (s : State), rowAdmits s.pk x c = true ∧ (s.pk.lanes.get x).seen.contains (c.slot, c.counter) = false ∧
      wellFormedCmd 2 c.payload = true ∧ hasRight s.pk x 2 c = true ∧ modeAllows 2 (modeOf s.pk x) = true) ∧
    (∃ (x : Side) (c : Cmd) (s : State), rowAdmits s.pk x c = true ∧ (s.pk.lanes.get x).seen.contains (c.slot, c.counter) = false ∧
      wellFormedCmd 3 c.payload = true ∧ hasRight s.pk x 3 c = true ∧ modeAllows 3 (modeOf s.pk x) = true) ∧
    (∃ (x : Side) (c : Cmd) (s : State), rowAdmits s.pk x c = true ∧ (s.pk.lanes.get x).seen.contains (c.slot, c.counter) = false ∧
      testCommand s.pk x (now s.pk x.helm) 4 c = .accepted) ∧
    (∃ (x : Side) (c : Cmd) (s : State), rowAdmits s.pk x c = true ∧ (s.pk.lanes.get x).seen.contains (c.slot, c.counter) = false ∧
      testCommand s.pk x (now s.pk x.helm) 5 c = .accepted) ∧
    (∃ (x : Side) (c : Cmd) (s : State), rowAdmits s.pk x c = true ∧ (s.pk.lanes.get x).seen.contains (c.slot, c.counter) = false ∧
      testCommand s.pk x (now s.pk x.helm) 6 c = .accepted) ∧
    (∃ (x : Side) (c : Cmd) (s : State), rowAdmits s.pk x c = true ∧ (s.pk.lanes.get x).seen.contains (c.slot, c.counter) = false ∧
      testCommand s.pk x (now s.pk x.helm) 7 c = .accepted ∧ modeOf s.pk x ≠ 5) ∧
    (∃ (x : Side) (c : Cmd) (s : State), rowAdmits s.pk x c = true ∧ (s.pk.lanes.get x).seen.contains (c.slot, c.counter) = false ∧
      testCommand s.pk x (now s.pk x.helm) 8 c = .accepted) ∧
    (∃ (x : Side) (c : Cmd) (s : State), rowAdmits s.pk x c = true ∧ (s.pk.lanes.get x).seen.contains (c.slot, c.counter) = false ∧
      testCommand s.pk x (now s.pk x.helm) 9 c = .accepted) ∧
    (∃ (x : Side) (c : Cmd) (s : State), rowAdmits s.pk x c = true ∧ (s.pk.lanes.get x).seen.contains (c.slot, c.counter) = false ∧
      testCommand s.pk x (now s.pk x.helm) 0x80 c = .accepted ∧ c.slot < 8) ∧
    (∃ (x : Side) (k : Nat) (c : Cmd) (i : Instr) (s : State), (k, i) ∈ [(1, Instr.modeCmd c), (2, .targetPos c), (3, .moveRel c), (4, .targetHdg c),
      (5, .joystick c), (6, .thrusterManual c), (7, .waypoints c), (8, .takeCommand c), (9, .stopCmd c), (0x80, .telSub c)] ∧ rowAdmits s.pk x c = true ∧ (s.pk.lanes.get x).seen.contains (c.slot, c.counter) = false ∧ testCommand s.pk x (now s.pk x.helm) k c ≠ .accepted) ∧
    (∃ (c : Cmd) (i : Instr) (s : State), i ∈ [Instr.modeCmd c, .targetPos c, .moveRel c, .targetHdg c, .joystick c, .thrusterManual c, .waypoints c, .takeCommand c, .stopCmd c, .telSub c] ∧ laneUp s.pk .a = false ∧ laneUp s.pk .b = false) ∧
    (∃ (x : Side) (k : Nat) (c : Cmd) (i : Instr) (s : State), (k, i) ∈ [(1, Instr.modeCmd c), (2, .targetPos c), (3, .moveRel c), (4, .targetHdg c),
      (5, .joystick c), (6, .thrusterManual c), (7, .waypoints c), (8, .takeCommand c), (9, .stopCmd c), (0x80, .telSub c)] ∧ rowAdmits s.pk x c = true ∧ (s.pk.lanes.get x).seen.contains (c.slot, c.counter) = true) ∧
    (∃ (x : Side) (k : Nat) (c : Cmd) (i : Instr) (s : State), (k, i) ∈ [(1, Instr.modeCmd c), (2, .targetPos c), (3, .moveRel c), (4, .targetHdg c),
      (5, .joystick c), (6, .thrusterManual c), (7, .waypoints c), (8, .takeCommand c), (9, .stopCmd c), (0x80, .telSub c)] ∧ laneUp s.pk x = true ∧ rowAdmits s.pk x c = false) :=
  ⟨⟨.a, ⟨0, 5, 1, 7, 42, [2]⟩, wst [(.ha, I_DIE.RUN, 0, 2), (.ha, I_LANE.LAYOUT_APPLIED, 0, 1), (.ha, HG_STATUS.LANE_STATE, 0, 4),
    (.ha, SP_STATUS.CMD_SLOT, 0, 1)], by decide +kernel⟩,
    ⟨.a, ⟨0, 5, 1, 7, 42, List.replicate 16 0⟩, wst [(.ha, I_DIE.RUN, 0, 2), (.ha, I_LANE.LAYOUT_APPLIED, 0, 1), (.ha, HG_STATUS.LANE_STATE, 0, 4),
      (.ha, SP_STATUS.CMD_SLOT, 0, 1), (.ha, SP_STATUS.MODE, 0, 4)], by decide +kernel⟩,
    ⟨.a, ⟨0, 5, 1, 7, 42, List.replicate 8 0⟩, wst [(.ha, I_DIE.RUN, 0, 2), (.ha, I_LANE.LAYOUT_APPLIED, 0, 1), (.ha, HG_STATUS.LANE_STATE, 0, 4),
      (.ha, SP_STATUS.CMD_SLOT, 0, 1), (.ha, SP_STATUS.MODE, 0, 4)], by decide +kernel⟩,
    ⟨.a, ⟨0, 5, 1, 7, 42, List.replicate 9 0⟩, wst [(.ha, I_DIE.RUN, 0, 2), (.ha, I_LANE.LAYOUT_APPLIED, 0, 1), (.ha, HG_STATUS.LANE_STATE, 0, 4),
      (.ha, SP_STATUS.CMD_SLOT, 0, 1), (.ha, SP_STATUS.MODE, 0, 4)], by decide +kernel⟩,
    ⟨.a, ⟨0, 5, 1, 7, 42, List.replicate 12 0⟩, wst [(.ha, I_DIE.RUN, 0, 2), (.ha, I_LANE.LAYOUT_APPLIED, 0, 1), (.ha, HG_STATUS.LANE_STATE, 0, 4),
      (.ha, SP_STATUS.CMD_SLOT, 0, 1), (.ha, SP_STATUS.MODE, 0, 2)], by decide +kernel⟩,
    ⟨.a, ⟨0, 5, 1, 7, 42, List.replicate 9 0⟩, wst [(.ha, I_DIE.RUN, 0, 2), (.ha, I_LANE.LAYOUT_APPLIED, 0, 1), (.ha, HG_STATUS.LANE_STATE, 0, 4),
      (.ha, SP_STATUS.CMD_SLOT, 0, 1), (.ha, SP_STATUS.MODE, 0, 1)] |> fun s => { s with pk := { s.pk with layouts := s.pk.layouts.set .a { Layout.none with thrusters := [⟨0, 0, 0, [], [], [], [], 0, 0, 0, 0, none, none, 0, 0, 0, 0, 0, 0, 0, [], 0⟩] } } }, by decide +kernel⟩,
    ⟨.a, ⟨0, 5, 1, 7, 42, 2 :: List.replicate 64 0⟩, wst [(.ha, I_DIE.RUN, 0, 2), (.ha, I_LANE.LAYOUT_APPLIED, 0, 1),
      (.ha, HG_STATUS.LANE_STATE, 0, 4), (.ha, SP_STATUS.CMD_SLOT, 0, 1), (.ha, SP_STATUS.MODE, 0, 1)], by decide +kernel⟩,
    ⟨.a, ⟨0, 5, 1, 7, 42, []⟩, wst [(.ha, I_DIE.RUN, 0, 2), (.pa, I_DIE.RUN, 0, 2), (.pa, I_HST.ROLE, 1, 1), (.pa, I_HST.OPEN, 1, 1),
      (.ha, I_LANE.LAYOUT_APPLIED, 0, 1), (.ha, HG_STATUS.LANE_STATE, 0, 4), (.ha, SP_STATUS.MODE, 0, 1)], by decide +kernel⟩,
    ⟨.a, ⟨0, 5, 1, 7, 42, []⟩, wst [(.ha, I_DIE.RUN, 0, 2), (.ha, I_LANE.LAYOUT_APPLIED, 0, 1), (.ha, HG_STATUS.LANE_STATE, 0, 4),
      (.ha, SP_STATUS.CMD_SLOT, 0, 1), (.ha, SP_STATUS.MODE, 0, 5)], by decide +kernel⟩,
    ⟨.a, ⟨0, 5, 1, 7, 42, [3, 9]⟩, wst [(.ha, I_DIE.RUN, 0, 2), (.ha, I_LANE.LAYOUT_APPLIED, 0, 1),
      (.ha, HG_STATUS.LANE_STATE, 0, 4)], by decide +kernel⟩,
    ⟨.a, 3, ⟨0, 5, 1, 7, 42, []⟩, .moveRel ⟨0, 5, 1, 7, 42, []⟩, wst [(.ha, I_DIE.RUN, 0, 2), (.ha, I_LANE.LAYOUT_APPLIED, 0, 1),
      (.ha, HG_STATUS.LANE_STATE, 0, 4)], by decide +kernel⟩,
    ⟨⟨0, 5, 1, 7, 42, []⟩, .stopCmd ⟨0, 5, 1, 7, 42, []⟩, wst [], by decide +kernel⟩,
    ⟨.a, 9, ⟨0, 5, 1, 7, 42, []⟩, .stopCmd ⟨0, 5, 1, 7, 42, []⟩, wst [(.ha, I_DIE.RUN, 0, 2), (.ha, I_LANE.LAYOUT_APPLIED, 0, 1),
      (.ha, HG_STATUS.LANE_STATE, 0, 4)] |> fun s => { s with pk := { s.pk with lanes := ⟨{ Lane.empty with seen := [(1, 42)] }, { Lane.empty with seen := [(1, 42)] }⟩ } }, by decide +kernel⟩,
    ⟨.a, 9, ⟨7, 5, 1, 7, 42, []⟩, .stopCmd ⟨7, 5, 1, 7, 42, []⟩, wst [(.ha, I_DIE.RUN, 0, 2), (.ha, I_LANE.LAYOUT_APPLIED, 0, 1),
      (.ha, HG_STATUS.LANE_STATE, 0, 4)], by decide +kernel⟩⟩

theorem test_BoundariesFrameRecordsAndDemandCounts :
    (∃ (x : Side) (s : State), running s.pk x.helm = true ∧ rd s.pk x.helm I_LANE.LAYOUT_APPLIED = 1 ∧
      rd s.pk x.helm I_CFL.PREV_T ≠ rd s.pk x.helm I_CFL.EMITTED) ∧
    (∃ (x : Side) (s : State), (running s.pk x.helm = false ∨ rd s.pk x.helm I_LANE.LAYOUT_APPLIED = 0 ∨ rd s.pk x.helm I_CFL.PREV_T = rd s.pk x.helm I_CFL.EMITTED)) ∧
    (∃ (x : Side) (k : Nat) (s : State), isActive s.pk x = true ∧ k < 8 ∧ rdI s.pk x.helm I_SP.DEMANDS k ≠ 0) ∧
    (∃ (x : Side) (k : Nat) (s : State), (isActive s.pk x = false ∨ rdI s.pk x.helm I_SP.DEMANDS k = 0)) :=
  ⟨⟨.a, wst [(.ha, I_DIE.RUN, 0, 2), (.ha, I_LANE.LAYOUT_APPLIED, 0, 1), (.ha, I_CFL.PREV_T, 0, 10000000)], by decide +kernel⟩,
    ⟨.a, wst [], by decide +kernel⟩,
    ⟨.a, 3, wst [(.ha, HG_STATUS.LANE_STATE, 0, 4), (.ha, I_SP.DEMANDS, 3, 5)], by decide +kernel⟩,
    ⟨.a, 0, wst [], by decide +kernel⟩⟩

theorem test_RegisterWritesAndReadsActFieldByField :
    (∃ (by' : By) (d : Die) (off : Nat) (w : Nat) (env : Bool) (h : RegRow × Nat × Nat) (s : State), running s.pk d = true ∧
      running s.pk (byDie d by') = true ∧ reaches s.pk (byDie d by') d = true ∧ wordAt d off = some h ∧ holdsTx h = false ∧
      (directPair h).isSome = false ∧ writeSpecial by' env d h.2.1 h.2.2 w s.pk = none) ∧
    (∃ (by' : By) (d : Die) (off : Nat) (s : State), running s.pk d = true ∧ running s.pk (byDie d by') = true ∧ reaches s.pk (byDie d by') d = true ∧
      wordAt d off = none) ∧
    (∃ (by' : By) (d : Die) (off : Nat) (h : RegRow × Nat × Nat) (s : State), running s.pk d = true ∧ running s.pk (byDie d by') = true ∧
      reaches s.pk (byDie d by') d = true ∧ wordAt d off = some h ∧ holdsTx h = true) ∧
    (∃ (by' : By) (d : Die) (s : State), running s.pk (byDie d by') = false) ∧
    (∃ (by' : By) (d : Die) (off : Nat) (w : Nat) (env : Bool) (i : Instr) (s : State), i ∈ [Instr.registerWrite by' d off w env, .pairLowWrite by' d off w, .pairHighWrite by' d off w] ∧ running s.pk (byDie d by') = true ∧ ((running s.pk d = false ∨ reaches s.pk (byDie d by') d = false))) ∧
    (∃ (by' : By) (d : Die) (off : Nat) (h : RegRow × Nat × Nat) (F : Fld) (s : State), running s.pk d = true ∧ running s.pk (byDie d by') = true ∧
      reaches s.pk (byDie d by') d = true ∧ wordAt d off = some h ∧ holdsTx h = false ∧ directPair h = some F ∧
      (byHost by' && firmwareOnly.contains F) = false ∧ h.2.2 = F.off) ∧
    (∃ (by' : By) (d : Die) (off : Nat) (h : RegRow × Nat × Nat) (F : Fld) (s : State), running s.pk d = true ∧ running s.pk (byDie d by') = true ∧
      reaches s.pk (byDie d by') d = true ∧ wordAt d off = some h ∧ holdsTx h = false ∧ directPair h = some F ∧
      (byHost by' && firmwareOnly.contains F) = false ∧ h.2.2 ≠ F.off ∧ ((F = TIM_INCR.INCR →
      (running s.pk .sw && reaches s.pk .sw d && d == masterDie s.pk) = true))) ∧
    (∃ (by' : By) (d : Die) (off : Nat) (w : Nat) (env : Bool) (h : RegRow × Nat × Nat) (q : Pkg) (s : State), running s.pk d = true ∧
      running s.pk (byDie d by') = true ∧ reaches s.pk (byDie d by') d = true ∧ wordAt d off = some h ∧ holdsTx h = false ∧
      (directPair h).isSome = false ∧ writeSpecial by' env d h.2.1 h.2.2 w s.pk = some q) ∧
    (∃ (k : Nat) (addr : Nat) (d : Die) (off : Nat) (v : Nat) (s : State), k < 8 ∧
      s.pk.nhp.latched.find? (fun x => x.slot == k && x.addr == addr) = none ∧ resolve s.pk addr = .at' d off ∧ stewardReaches s.pk d = true ∧
      readAt s.pk d off = some v) ∧
    (∃ (k : Nat) (addr : Nat) (x : Half) (s : State), k < 8 ∧ s.pk.nhp.latched.find? (fun x => x.slot == k && x.addr == addr) = some x) ∧
    (∃ (k : Nat) (addr : Nat) (d : Die) (off : Nat) (s : State), k < 8 ∧ s.pk.nhp.latched.find? (fun x => x.slot == k && x.addr == addr) = none ∧
      resolve s.pk addr = .at' d off ∧ stewardReaches s.pk d = true ∧ readAt s.pk d off = none) ∧
    (∃ (k : Nat), 8 ≤ k) :=
  ⟨⟨.host 2, .ha, SP_EVENT.CMD_TAKEN.off, 0x12345, true, hitAt .ha SP_EVENT.CMD_TAKEN.off, wst [(.ha, I_DIE.RUN, 0, 2), (.sw, I_DIE.RUN, 0, 2),
    (.pa, I_DIE.RUN, 0, 2), (.ha, SP_EVENT.CMD_TAKEN, 0, 1)], by decide +kernel⟩,
    ⟨.firmware, .ha, 0x281234, wst [(.ha, I_DIE.RUN, 0, 2)], by decide +kernel⟩,
    ⟨.firmware, .ha, SP_CFG.JOY_TIMEOUT.off, hitAt .ha SP_CFG.JOY_TIMEOUT.off, wst [(.ha, I_DIE.RUN, 0, 2)], by decide +kernel⟩,
    ⟨.helm .b, .ha, wst [], by decide +kernel⟩,
    ⟨.helm .a, .pa, 0x281234, 0, true, .pairLowWrite (.helm .a) .pa 0x281234 0, wst [(.ha, I_DIE.RUN, 0, 2)], by decide +kernel⟩,
    ⟨.firmware, .pa, TIM_INCR.INCR.off, hitAt .pa TIM_INCR.INCR.off, TIM_INCR.INCR, wst [(.pa, I_DIE.RUN, 0, 2)], by decide +kernel⟩,
    ⟨.firmware, .pa, TIM_INCR.INCR.off + 4, hitAt .pa (TIM_INCR.INCR.off + 4), TIM_INCR.INCR, wst [(.pa, I_DIE.RUN, 0, 2), (.sw, I_DIE.RUN, 0, 2),
      (.pa, TIM_STATUS.SPINE_MASTER, 0, 1)] |> fun s => { s with pk := { s.pk with nhp := { s.pk.nhp with staged := [⟨8, TIM_INCR.INCR.off + 4, 5, 77⟩] } } }, by decide +kernel⟩,
    ⟨.firmware, .ha, SOL_TRACE_CTRL.FREEZE.off, 1, true, hitAt .ha SOL_TRACE_CTRL.FREEZE.off, ((writeSpecial .firmware true .ha 0 SOL_TRACE_CTRL.FREEZE.off 1 (wst [(.ha, I_DIE.RUN, 0, 2)]).pk).getD Pkg.reset), wst [(.ha, I_DIE.RUN, 0, 2)], by decide +kernel⟩,
    ⟨2, TIM_NOW.NOW.off, .sw, TIM_NOW.NOW.off, 7, wst [(.sw, I_DIE.RUN, 0, 2), (.sw, TIM_NOW.NOW, 0, 0x500000007)], by decide +kernel⟩,
    ⟨2, 8, ⟨2, 8, 0, 99⟩, wst [] |> fun s => { s with pk := { s.pk with nhp := { s.pk.nhp with latched := [⟨2, 8, 0, 99⟩] } } }, by decide +kernel⟩,
    ⟨2, 0xFFFFFF0, .sw, 0xFFFFFF0, wst [], by decide +kernel⟩,
    ⟨8, by decide +kernel⟩⟩

theorem test_SpineMarksAlignTrimAndHandOver :
    (∃ (d : Die) (s : State), running s.pk d = true ∧ d ≠ masterDie s.pk ∧ running s.pk (masterDie s.pk) = true ∧ rd s.pk d I_TIM.ALIGN_DUE = 1) ∧
    (∃ (d : Die) (e : Int) (s : State), running s.pk d = true ∧ d ≠ masterDie s.pk ∧ running s.pk (masterDie s.pk) = true ∧
      rd s.pk d I_TIM.ALIGN_DUE = 0 ∧ rd s.pk d I_TIM.FRESH = 1 ∧ 16000 < e.natAbs) ∧
    (∃ (d : Die) (e : Int) (s : State), running s.pk d = true ∧ d ≠ masterDie s.pk ∧ running s.pk (masterDie s.pk) = true ∧
      rd s.pk d I_TIM.ALIGN_DUE = 0 ∧ (rd s.pk d I_TIM.FRESH = 0 ∨ e.natAbs ≤ 16000)) ∧
    (∃ (y : Side) (s : State), running s.pk y.port = true ∧ y.port ≠ masterDie s.pk ∧
      (2 ≤ rd s.pk y.port I_TIM.MISSED ∨ (running s.pk y.other.port = true ∧ onFallback s.pk y.other.port = true ∧ onFallback s.pk y.port = false))) ∧
    (∃ (y : Side) (s : State), running s.pk y.port = true ∧ y.port ≠ masterDie s.pk ∧ rd s.pk y.port I_TIM.MISSED < 2 ∧
      (running s.pk y.other.port = false ∨ onFallback s.pk y.other.port = false ∨ onFallback s.pk y.port = true)) ∧
    (∃ (d : Die) (s : State), (running s.pk d = false ∨ d = masterDie s.pk)) :=
  ⟨⟨.ga, wst [(.ga, I_DIE.RUN, 0, 2), (.ga, I_TIM.ALIGN_DUE, 0, 1), (.pa, I_DIE.RUN, 0, 2), (.ga, I_DIE.RUN, 0, 2),
    (.ga, I_TIM.ALIGN_DUE, 0, 1)], by decide +kernel⟩,
    ⟨.ga, -16001, wst [(.ga, I_DIE.RUN, 0, 2), (.ga, I_TIM.ALIGN_DUE, 0, 0), (.ga, I_TIM.FRESH, 0, 1), (.pa, I_DIE.RUN, 0, 2), (.ga, I_DIE.RUN, 0, 2),
      (.ga, I_TIM.FRESH, 0, 1)], by decide +kernel⟩,
    ⟨.ga, -60, wst [(.ga, I_DIE.RUN, 0, 2), (.ga, I_TIM.ALIGN_DUE, 0, 0), (.ga, I_TIM.FRESH, 0, 0), (.pa, I_DIE.RUN, 0, 2), (.ga, I_DIE.RUN, 0, 2),
      (.ga, I_TIM.GOOD_RUN, 0, 15)], by decide +kernel⟩,
    ⟨.b, wst [(.pb, I_DIE.RUN, 0, 2), (.pb, I_TIM.MISSED, 0, 2)], by decide +kernel⟩,
    ⟨.b, wst [(.pb, I_DIE.RUN, 0, 2)], by decide +kernel⟩,
    ⟨.ha, wst [], by decide +kernel⟩⟩

theorem test_ReferenceUpdatesSteerTheMaster :
    (∃ (theta : Int) (fmeas : Nat) (s : State), running s.pk .sw = true ∧ timeRef s.pk ≠ 0 ∧ rd s.pk .sw I_TIM.REF_DUE = 1 ∧
      rdS s.pk .sw I_TIM.REF_THETA = theta ∧ rd s.pk .sw I_TIM.REF_F = fmeas ∧ timeState s.pk = 0) ∧
    (∃ (theta : Int) (fmeas : Nat) (s : State), running s.pk .sw = true ∧ timeRef s.pk ≠ 0 ∧ rd s.pk .sw I_TIM.REF_DUE = 1 ∧
      rdS s.pk .sw I_TIM.REF_THETA = theta ∧ rd s.pk .sw I_TIM.REF_F = fmeas ∧ timeState s.pk ≠ 0 ∧ timeState s.pk ≠ 5 ∧
      rd s.pk .sw TIM_LIMITS.STEP_LIMIT < theta.natAbs) ∧
    (∃ (theta : Int) (fmeas : Nat) (s : State), running s.pk .sw = true ∧ timeRef s.pk ≠ 0 ∧ rd s.pk .sw I_TIM.REF_DUE = 1 ∧
      rdS s.pk .sw I_TIM.REF_THETA = theta ∧ rd s.pk .sw I_TIM.REF_F = fmeas ∧ timeState s.pk ≠ 0 ∧ timeState s.pk ≠ 5 ∧
      theta.natAbs ≤ rd s.pk .sw TIM_LIMITS.STEP_LIMIT) ∧
    (∃ (theta : Int) (fmeas : Nat) (s : State), updateWaits theta fmeas s.pk = false) ∧
    (∃ (i : Instr) (s : State), (i = .refTimeout ∧ running s.pk .sw = true ∧ timeRef s.pk ≠ 0 ∧
      rd s.pk .sw I_TIM.REF_AT + rd s.pk .sw TIM_SERVO_CFG2.REF_TIMEOUT * 1000000 ≤ now s.pk .sw ∨
      i = .incrTimeout ∧ running s.pk (masterDie s.pk) = true ∧
        rd s.pk (masterDie s.pk) I_TIM.INCR_AT + rd s.pk .sw TIM_SERVO_CFG2.REF_TIMEOUT * 1000000 ≤ now s.pk (masterDie s.pk)) ∧
        (timeState s.pk = 2 ∨ timeState s.pk = 3)) ∧
    (∃ (s : State), timeState s.pk = 2 ∧ rd s.pk .sw I_TIM.IN_LOCK = 1 ∧
      rd s.pk .sw I_TIM.LOCK_SINCE + rd s.pk .sw TIM_SERVO_CFG.LOCK_HOLD * 1000000000 ≤ now s.pk .sw) ∧
    (∃ (s : State), (timeState s.pk ≠ 2 ∨ rd s.pk .sw I_TIM.IN_LOCK = 0 ∨ now s.pk .sw < rd s.pk .sw I_TIM.LOCK_SINCE + rd s.pk .sw TIM_SERVO_CFG.LOCK_HOLD * 1000000000)) ∧
    (∃ (k : Nat) (s : State), sessionHolds s.pk k 3 = true ∧ rd s.pk .sw TIM_STATUS.STEP_PENDING = 1) ∧
    (∃ (k : Nat) (s : State), sessionHolds s.pk k 3 = false) ∧
    (∃ (s : State), running s.pk .sw = true ∧ ((rd s.pk .sw TIM_UTC.LEAP61 = 1 ∨ rd s.pk .sw TIM_UTC.LEAP59 = 1)) ∧ leapDayOver s.pk = true ∧
      atSomeBoundary s.pk = true) ∧
    (∃ (s : State), ((rd s.pk .sw TIM_UTC.LEAP61 = 0 ∧ rd s.pk .sw TIM_UTC.LEAP59 = 0 ∨ leapDayOver s.pk = false ∨ atSomeBoundary s.pk = false))) ∧
    (∃ (d : Die) (s : State), running s.pk .sw = true ∧ running s.pk d = true ∧ reaches s.pk .sw d = true ∧ d = masterDie s.pk) ∧
    (∃ (d : Die) (s : State), running s.pk .sw = true ∧ running s.pk d = true ∧ reaches s.pk .sw d = true ∧ d = masterDie s.pk) ∧
    (∃ (s : State), rdS s.pk .sw I_TIM.SLEW_LEFT = 0) :=
  ⟨⟨-12345, 0, wst [(.sw, I_DIE.RUN, 0, 2), (.sw, I_TIM.REF_DUE, 0, 1), (.sw, I_TIM.REF_F, 0, 0), (.sw, TIM_CFG.REFERENCE, 0, 1),
    (.sw, I_TIM.REF_THETA, 0, (ofSigned I_TIM.REF_THETA.w (-12345)))], by decide +kernel⟩,
    ⟨123456789, 0, wst [(.sw, I_DIE.RUN, 0, 2), (.sw, I_TIM.REF_DUE, 0, 1), (.sw, I_TIM.REF_F, 0, 0), (.sw, I_TIM.REF_THETA, 0, 123456789),
      (.sw, TIM_CFG.REFERENCE, 0, 1), (.pa, TIM_STATUS.STATE, 0, 3), (.sw, TIM_LIMITS.STEP_LIMIT, 0, 500)], by decide +kernel⟩,
    ⟨-100, 0, wst [(.sw, I_DIE.RUN, 0, 2), (.sw, I_TIM.REF_DUE, 0, 1), (.sw, I_TIM.REF_F, 0, 0),
      (.sw, I_TIM.REF_THETA, 0, (ofSigned I_TIM.REF_THETA.w (-100))), (.sw, TIM_CFG.REFERENCE, 0, 1), (.pa, TIM_STATUS.STATE, 0, 4), (.sw, TIM_LIMITS.STEP_LIMIT, 0, 500), (.sw, TIM_SERVO_CFG.LOCK_THRESH, 0, 200)], by decide +kernel⟩,
    ⟨0, 0, wst [], by decide +kernel⟩,
    ⟨.incrTimeout, wst [(.sw, I_DIE.RUN, 0, 2), (.sw, TIM_CFG.REFERENCE, 0, 1), (.pa, TIM_STATUS.STATE, 0, 3),
      (.sw, TIM_SERVO_CFG2.REF_TIMEOUT, 0, 1), (.pa, TIM_NOW.NOW, 0, 2000000000), (.pa, I_TIM.INCR_AT, 0, 0), (.pa, I_DIE.RUN, 0, 2)], by decide +kernel⟩,
    ⟨wst [(.sw, I_TIM.IN_LOCK, 0, 1), (.pa, TIM_STATUS.STATE, 0, 2), (.sw, TIM_NOW.NOW, 0, 2000000000000),
      (.sw, I_DIE.RUN, 0, 2)], by decide +kernel⟩,
    ⟨wst [], by decide +kernel⟩,
    ⟨2, wst [(.sw, TIM_STATUS.STEP_PENDING, 0, 1), (.pa, I_DIE.RUN, 0, 2), (.pa, I_HST.OPEN, 2, 1), (.pa, I_HST.ROLE, 2, 3),
      (.sw, TIM_STEP_PENDING.PENDING, 0, 99)], by decide +kernel⟩,
    ⟨0, wst [], by decide +kernel⟩,
    ⟨wst [(.sw, I_DIE.RUN, 0, 2), (.sw, TIM_UTC.LEAP61, 0, 1), (.sw, TIM_UTC.LEAP61, 0, 1), (.sw, TIM_UTC.UTC_OFFSET, 0, 37),
      (.sw, TIM_NOW.NOW, 0, 90000000000000)], by decide +kernel⟩,
    ⟨wst [(.sw, TIM_UTC.LEAP61, 0, 0), (.sw, TIM_UTC.LEAP59, 0, 0)], by decide +kernel⟩,
    ⟨.pa, wst [(.sw, I_DIE.RUN, 0, 2), (.pa, I_DIE.RUN, 0, 2)], by decide +kernel⟩,
    ⟨.pa, wst [(.sw, I_DIE.RUN, 0, 2), (.pa, I_DIE.RUN, 0, 2)], by decide +kernel⟩,
    ⟨wst [(.pa, TIM_SLEW.REMAIN, 0, 5)], by decide +kernel⟩⟩

theorem test_StepsReachEveryDieAndPulsesFire :
    (∃ (s : State), rd s.pk .sw I_TIM.STEP_DUE = 1 ∧ rd s.pk .sw I_TIM.STEP_AT < now s.pk .sw) ∧
    (∃ (s : State), (rd s.pk .sw I_TIM.STEP_DUE = 0 ∨ now s.pk .sw ≤ rd s.pk .sw I_TIM.STEP_AT)) ∧
    (∃ (y : Side) (k : Nat) (s : State), running s.pk y.port = true ∧ k < 4 ∧ rdI s.pk y.port TIM_TP.RUNNING k = 1 ∧ pulseDue s.pk y.port k = true ∧
      rdI s.pk y.port TIM_TP.MODE k = 1) ∧
    (∃ (y : Side) (k : Nat) (s : State), running s.pk y.port = true ∧ k < 4 ∧ rdI s.pk y.port TIM_TP.RUNNING k = 1 ∧ pulseDue s.pk y.port k = true ∧
      rdI s.pk y.port TIM_TP.MODE k ≠ 1) ∧
    (∃ (y : Side) (k : Nat) (s : State), (running s.pk y.port = false ∨ rdI s.pk y.port TIM_TP.RUNNING k = 0 ∨ pulseDue s.pk y.port k = false)) :=
  ⟨⟨wst [(.sw, I_TIM.STEP_DUE, 0, 1), (.pa, I_DIE.RUN, 0, 2), (.ha, I_DIE.RUN, 0, 2), (.sw, I_DIE.RUN, 0, 2), (.sw, I_TIM.STEP, 0, 5000),
    (.sw, TIM_NOW.NOW, 0, 9), (.sw, I_TIM.STEP_AT, 0, 8), (.ha, TIM_NOW.NOW, 0, 77), (.ha, HG_STATUS.LANE_STATE, 0, 4), (.ha, I_LANE.LAYOUT_APPLIED, 0, 1)], by decide +kernel⟩,
    ⟨wst [(.sw, I_TIM.STEP_DUE, 0, 0)], by decide +kernel⟩,
    ⟨.a, 2, wst [(.pa, I_DIE.RUN, 0, 2), (.pa, TIM_TP.RUNNING, 2, 1), (.pa, TIM_TP.MODE, 2, 1)], by decide +kernel⟩,
    ⟨.a, 2, wst [(.pa, I_DIE.RUN, 0, 2), (.pa, TIM_TP.RUNNING, 2, 1), (.pa, TIM_TP.MODE, 2, 2), (.pa, TIM_TP.PERIOD, 2, 1000)], by decide +kernel⟩,
    ⟨.a, 0, wst [], by decide +kernel⟩⟩

theorem test_ClockWindowsAttributeAndTripsFallBack :
    (∃ (d : Die) (n : Nat) (s : State), running s.pk d = true ∧ rd s.pk d CLK_STATUS.SOURCE ≠ 2 ∧ rd s.pk d CLK_STATUS.OTHER_LOST = 0 ∧
      ((n : Int) - 208000).natAbs ≤ rd s.pk d CLK_CFG.MON_TOL * 2080 / 1000) ∧
    (∃ (d : Die) (n : Nat) (s : State), running s.pk d = true ∧ rd s.pk d CLK_STATUS.SOURCE ≠ 2 ∧ rd s.pk d CLK_STATUS.OTHER_LOST = 0 ∧
      rd s.pk d CLK_CFG.MON_TOL * 2080 / 1000 < ((n : Int) - 208000).natAbs ∧ rd s.pk d I_CLK.BAD_RUN = 0) ∧
    (∃ (d : Die) (n : Nat) (own : Nat) (other : Nat) (s : State), running s.pk d = true ∧ rd s.pk d CLK_STATUS.SOURCE < 2 ∧
      rd s.pk d CLK_STATUS.OTHER_LOST = 0 ∧ rd s.pk d CLK_CFG.MON_TOL * 2080 / 1000 < ((n : Int) - 208000).natAbs ∧ rd s.pk d I_CLK.BAD_RUN = 1 ∧
      other + 100 ≤ own) ∧
    (∃ (d : Die) (n : Nat) (own : Nat) (other : Nat) (s : State), running s.pk d = true ∧ rd s.pk d CLK_STATUS.SOURCE < 2 ∧
      rd s.pk d CLK_STATUS.OTHER_LOST = 0 ∧ rd s.pk d CLK_CFG.MON_TOL * 2080 / 1000 < ((n : Int) - 208000).natAbs ∧ rd s.pk d I_CLK.BAD_RUN = 1 ∧
      own < other + 100) ∧
    (∃ (d : Die) (s : State), running s.pk d = true ∧ rd s.pk d CLK_STATUS.SOURCE < 2) ∧
    (∃ (d : Die) (s : State), running s.pk d = true ∧ rd s.pk d CLK_STATUS.SOURCE < 2) ∧
    (∃ (d : Die) (s : State), rd s.pk d I_DIE.RUN = 1 ∧ rd s.pk d CLK_STATUS.QUAL_IOSC = 0) ∧
    (∃ (d : Die) (s : State), running s.pk d = true ∧ rd s.pk d I_CLK.PAUSES ≠ 0) ∧
    (∃ (d : Die) (s : State), rd s.pk d I_CLK.PAUSES = 0) ∧
    (∃ (d : Die) (s : State), running s.pk d = true ∧ rd s.pk d CLK_STATUS.SOURCE ≠ 2 ∧ periodDue s.pk d I_CLK.TRIM_DUE 0 100000000 = true) ∧
    (∃ (d : Die) (s : State), (rd s.pk d CLK_STATUS.SOURCE = 2 ∨ periodDue s.pk d I_CLK.TRIM_DUE 0 100000000 = false)) ∧
    (∃ (d : Die) (s : State), running s.pk d = false) :=
  ⟨⟨.ha, 208001, wst [(.ha, I_DIE.RUN, 0, 2), (.ha, CLK_STATUS.OTHER_LOST, 0, 0), (.ha, CLK_CFG.MON_TOL, 0, 500),
    (.ha, I_CLK.BAD_RUN, 0, 1)], by decide +kernel⟩,
    ⟨.ha, 200000, wst [(.ha, I_DIE.RUN, 0, 2), (.ha, CLK_STATUS.OTHER_LOST, 0, 0), (.ha, I_CLK.BAD_RUN, 0, 0),
      (.ha, CLK_CFG.MON_TOL, 0, 500)], by decide +kernel⟩,
    ⟨.ha, 200000, 100, 0, wst [(.ha, I_DIE.RUN, 0, 2), (.ha, CLK_STATUS.OTHER_LOST, 0, 0), (.ha, I_CLK.BAD_RUN, 0, 1), (.ha, CLK_CFG.MON_TOL, 0, 500),
      (.ha, HG_STATUS.LANE_STATE, 0, 4), (.ha, CLK_STATUS.QUAL_A, 0, 1)], by decide +kernel⟩,
    ⟨.ha, 200000, 0, 100, wst [(.ha, I_DIE.RUN, 0, 2), (.ha, CLK_STATUS.OTHER_LOST, 0, 0), (.ha, I_CLK.BAD_RUN, 0, 1), (.ha, CLK_CFG.MON_TOL, 0, 500),
      (.ha, CLK_STATUS.QUAL_B, 0, 1)], by decide +kernel⟩,
    ⟨.ha, wst [(.ha, I_DIE.RUN, 0, 2), (.ha, CLK_STATUS.QUAL_B, 0, 1)], by decide +kernel⟩,
    ⟨.ha, wst [(.ha, I_DIE.RUN, 0, 2), (.ha, CLK_STATUS.QUAL_A, 0, 1), (.ha, HG_STATUS.LANE_STATE, 0, 4),
      (.sw, I_PKG.LINE_PULL, 0, 1)], by decide +kernel⟩,
    ⟨.pa, wst [(.pa, I_DIE.RUN, 0, 1), (.pa, CLK_STATUS.QUAL_IOSC, 0, 0), (.pa, I_DIE.RUN, 0, 1)], by decide +kernel⟩,
    ⟨.pa, wst [(.pa, I_DIE.RUN, 0, 2), (.pa, I_CLK.PAUSES, 0, 2)], by decide +kernel⟩,
    ⟨.pa, wst [(.pa, I_CLK.PAUSES, 0, 0)], by decide +kernel⟩,
    ⟨.pa, wst [(.pa, I_DIE.RUN, 0, 2)], by decide +kernel⟩,
    ⟨.pa, wst [(.pa, CLK_STATUS.SOURCE, 0, 2), (.pa, CLK_STATUS.SOURCE, 0, 2)], by decide +kernel⟩,
    ⟨.pa, wst [], by decide +kernel⟩⟩

theorem test_RootsMoveOnlyWhenTheyMay :
    (∃ (d : Die) (s : State), running s.pk d = true ∧ rd s.pk d CLK_STATUS.SOURCE = 2 ∧ moveReady s.pk d = true) ∧
    (∃ (d : Die) (s : State), running s.pk d = true ∧ rd s.pk d CLK_STATUS.SOURCE = 2 ∧ moveReady s.pk d = false) ∧
    (∃ (d : Die) (s : State), running s.pk d = true ∧ rd s.pk d CLK_STATUS.SOURCE ≠ 2) ∧
    (∃ (d : Die) (s : State), running s.pk d = true ∧ rd s.pk d CLK_STATUS.MOVE_BUSY = 1) ∧
    (∃ (d : Die) (s : State), running s.pk d = true ∧ mayMoveHome s.pk d = true) ∧
    (∃ (d : Die) (s : State), running s.pk d = true ∧ mayMoveHome s.pk d = false) ∧
    (∃ (d : Die) (b : Bool) (s : State), running s.pk d = true ∧ rd s.pk d CLK_STATUS.SOURCE ≠ 2 ∧ rd s.pk d (qualFld b) = 0 ∧
      rd s.pk d I_CLK.BAD_AT + 1000000000 ≤ now s.pk d) ∧
    (∃ (d : Die) (b : Bool) (s : State), (running s.pk d = false ∨ rd s.pk d CLK_STATUS.SOURCE = 2 ∨ rd s.pk d (qualFld b) = 1 ∨ now s.pk d < rd s.pk d I_CLK.BAD_AT + 1000000000)) ∧
    (∃ (d : Die) (s : State), running s.pk d = true) ∧
    (∃ (d : Die) (s : State), running s.pk d = true) ∧
    (∃ (d : Die) (s : State), running s.pk d = false) :=
  ⟨⟨.ha, wst [(.ha, I_DIE.RUN, 0, 2), (.ha, CLK_STATUS.SOURCE, 0, 2), (.ha, I_CLK.PENDING, 0, 1), (.ha, CLK_STATUS.QUAL_B, 0, 1),
    (.ha, TIM_NOW.NOW, 0, 2000000)], by decide +kernel⟩,
    ⟨.ha, wst [(.ha, I_DIE.RUN, 0, 2), (.ha, CLK_STATUS.SOURCE, 0, 2)], by decide +kernel⟩,
    ⟨.ha, wst [(.ha, I_DIE.RUN, 0, 2), (.ha, I_CLK.PENDING, 0, 1)], by decide +kernel⟩,
    ⟨.ga, wst [(.ga, I_DIE.RUN, 0, 2), (.ga, CLK_STATUS.MOVE_BUSY, 0, 1), (.ga, CLK_STATUS.SOURCE, 0, 2)], by decide +kernel⟩,
    ⟨.ga, wst [(.ga, I_DIE.RUN, 0, 2), (.ga, CLK_STATUS.SOURCE, 0, 1), (.ga, CLK_STATUS.QUAL_A, 0, 1)], by decide +kernel⟩,
    ⟨.ga, wst [(.ga, I_DIE.RUN, 0, 2)], by decide +kernel⟩,
    ⟨.ga, true, wst [(.ga, I_DIE.RUN, 0, 2), (.ga, TIM_NOW.NOW, 0, 1000000000)], by decide +kernel⟩,
    ⟨.ga, true, wst [], by decide +kernel⟩,
    ⟨.ga, wst [(.ga, I_DIE.RUN, 0, 2), (.ga, I_DIE.CLKFAIL, 0, 1), (.sw, I_DIE.RUN, 0, 2)], by decide +kernel⟩,
    ⟨.ga, wst [(.ga, I_DIE.RUN, 0, 2)], by decide +kernel⟩,
    ⟨.ga, wst [], by decide +kernel⟩⟩

theorem test_CulvertLinksGoDownAndUp :
    (∃ (l : Nat) (b : Bool) (s : State), l < 9 ∧ (¬(l = 8 ∧ b = true)) ∧ linkUp s.pk l b = true) ∧
    (∃ (l : Nat) (b : Bool) (s : State), l < 9 ∧ (¬(l = 8 ∧ b = true)) ∧ linkUp s.pk l b = true) ∧
    (∃ (l : Nat) (b : Bool) (s : State), l < 9 ∧ (¬(l = 8 ∧ b = true)) ∧ linkUp s.pk l b = false ∧
      bit (rdI s.pk .sw STW_LINK.STATE l) (2 + b2n b) = false) ∧
    (∃ (l : Nat) (b : Bool), (9 ≤ l ∨ (l = 8 ∧ b = true))) :=
  ⟨⟨3, true, wst [(.sw, I_DIE.RUN, 0, 2)], by decide +kernel⟩,
    ⟨3, true, wst [(.sw, I_DIE.RUN, 0, 2), (.sw, STW_LINK.STATE, 3, 3)], by decide +kernel⟩,
    ⟨3, false, wst [(.sw, I_DIE.RUN, 0, 2), (.sw, I_PKG.CULVERT_DOWN, 6, 1)], by decide +kernel⟩,
    ⟨8, true, by decide +kernel⟩⟩

theorem test_RecordsReachIntakeAndTheRing :
    (∃ (d : Die) (r : LogRec) (l : List LogRec) (s : State), (s.pk.log.get d).out = r :: l ∧ logPath s.pk d = true ∧ intakeGeneral s.pk < 192 ∧
      s.pk.intake.recs.length < 256) ∧
    (∃ (d : Die) (r : LogRec) (l : List LogRec) (s : State), (s.pk.log.get d).out = r :: l ∧ logPath s.pk d = true ∧
      (192 ≤ intakeGeneral s.pk ∨ 256 ≤ s.pk.intake.recs.length)) ∧
    (∃ (d : Die) (r : LogRec) (l : List LogRec) (s : State), (s.pk.log.get d).out = r :: l ∧ logPath s.pk d = false) ∧
    (∃ (d : Die) (s : State), (s.pk.log.get d).out = []) ∧
    (∃ (d : Die) (s : State), logPath s.pk d = true) ∧
    (∃ (d : Die) (s : State), logPath s.pk d = false) ∧
    (∃ (t0 : Nat) (r : LogRec) (s : State), ledgerUp s.pk = true ∧ Memory.wf s.ledger.mram = true ∧
      s.pk.intake.recs.filter (fun e => decide (e.1 + 2 ≤ rd s.pk .sw I_PKG.OPERATING_MS)) = [(t0, r)]) ∧
    (∃ (s : State), ledgerUp s.pk = true) ∧
    (∃ (s : State), running s.pk .sw = true ∧ intakeGeneral s.pk < 96) ∧
    (∃ (s : State), (running s.pk .sw = false ∨ 96 ≤ intakeGeneral s.pk)) ∧
    (∃ (d : Die) (r : LogRec) (s : State), d ≠ .sw ∧ logPath s.pk d = true ∧
      (s.pk.log.get d).hold.find? (fun r => !(s.pk.intake.recs.any (fun e => e.2.die == r.die && e.2.seq == r.seq && e.2.isAudit))) = some r ∧
      (intakeAudit s.pk < 64 ∨ (s.pk.intake.recs.length < 256 ∧ intakeGeneral s.pk < 192))) ∧
    (∃ (d : Die) (s : State), d ≠ .sw ∧
      (logPath s.pk d = false ∨ (s.pk.log.get d).hold.all (fun r => s.pk.intake.recs.any (fun e => e.2.die == r.die && e.2.seq == r.seq && e.2.isAudit)) = true ∨ (64 ≤ intakeAudit s.pk ∧ (256 ≤ s.pk.intake.recs.length ∨ 192 ≤ intakeGeneral s.pk)))) ∧
    (∃ (s : State), ledgerUp s.pk = true) ∧
    (∃ (s : State), ledgerUp s.pk = false) :=
  ⟨⟨.ha, ⟨5, 6, 1, 0, 0x2000, 0, 255, 0, false, false, .unstated⟩, [], wst [(.sw, I_DIE.RUN, 0, 2), (.ha, I_DIE.RUN, 0, 2),
    (.pa, I_DIE.RUN, 0, 2)] |> fun s => { s with pk := { s.pk with log := s.pk.log.set .ha ⟨[⟨5, 6, 1, 0, 0x2000, 0, 255, 0, false, false, .unstated⟩], [], [], [], []⟩ } }, by decide +kernel⟩,
    ⟨.ha, ⟨5, 6, 1, 0, 0x2000, 0, 255, 0, false, false, .unstated⟩, [], wst [(.sw, I_DIE.RUN, 0, 2), (.ha, I_DIE.RUN, 0, 2),
      (.pa, I_DIE.RUN, 0, 2)] |> fun s => { s with pk := { s.pk with log := s.pk.log.set .ha ⟨[⟨5, 6, 1, 0, 0x2000, 0, 255, 0, false, false, .unstated⟩], [], [], [], []⟩, intake := ⟨List.replicate 192 (0, ⟨5, 6, 1, 0, 0x2000, 0, 255, 0, false, false, .unstated⟩), [], []⟩ } }, by decide +kernel⟩,
    ⟨.ha, ⟨5, 6, 1, 0, 0x2000, 0, 255, 0, false, false, .unstated⟩, [], wst [(.ha, I_DIE.RUN, 0, 2)] |> fun s => { s with pk := { s.pk with log := s.pk.log.set .ha ⟨[⟨5, 6, 1, 0, 0x2000, 0, 255, 0, false, false, .unstated⟩], [], [], [], []⟩ } }, by decide +kernel⟩,
    ⟨.ha, wst [], by decide +kernel⟩,
    ⟨.ha, wst [(.sw, I_DIE.RUN, 0, 2), (.ha, I_DIE.RUN, 0, 2),
      (.pa, I_DIE.RUN, 0, 2)] |> fun s => { s with pk := { s.pk with log := s.pk.log.set .ha ⟨[], [⟨5, 6, 1, 0, 0x2000, 0, 255, 0, false, false, .unstated⟩], [⟨0x2001, 1, 4, 5, 6⟩], [⟨0x2FE2, 1, 4, 5, 6⟩], []⟩ } }, by decide +kernel⟩,
    ⟨.ha, wst [(.ha, I_DIE.RUN, 0, 2)], by decide +kernel⟩,
    ⟨98, ⟨5, 6, 1, 0, 0x2000, 0, 255, 0, false, false, .words [3]⟩, wst [(.sw, I_DIE.RUN, 0, 2), (.ld, I_DIE.RUN, 0, 2), (.pa, I_DIE.RUN, 0, 2),
      (.pb, I_DIE.RUN, 0, 2), (.sw, I_PKG.OPERATING_MS, 0, 100)] |> fun s => { s with pk := { s.pk with intake := ⟨[(98, ⟨5, 6, 1, 0, 0x2000, 0, 255, 0, false, false, .words [3]⟩), (99, ⟨5, 7, 1, 0, 0x2000, 0, 255, 0, false, false, .unstated⟩)], [], []⟩ } }, by decide +kernel⟩,
    ⟨wst [(.sw, I_DIE.RUN, 0, 2), (.ld, I_DIE.RUN, 0, 2), (.pa, I_DIE.RUN, 0, 2), (.pb, I_DIE.RUN, 0, 2),
      (.sw, I_PKG.OPERATING_MS, 0, 100)] |> fun s => { s with pk := { s.pk with intake := ⟨[(98, ⟨5, 6, 1, 0, 0x2000, 0, 255, 0, false, false, .words [3]⟩), (99, ⟨5, 7, 1, 0, 0x2000, 0, 255, 0, false, false, .unstated⟩)], [], []⟩ } }, by decide +kernel⟩,
    ⟨wst [(.sw, I_DIE.RUN, 0, 2)] |> fun s => { s with pk := { s.pk with intake := ⟨[], [⟨0x2001, 1, 4, 5, 6⟩], [⟨0x2FE2, 1, 4, 5, 6⟩]⟩ } }, by decide +kernel⟩,
    ⟨wst [], by decide +kernel⟩,
    ⟨.ha, ⟨5, 6, 1, 0, 0x1421, 0, 255, 0, false, false, .unstated⟩, wst [(.sw, I_DIE.RUN, 0, 2), (.ha, I_DIE.RUN, 0, 2),
      (.pa, I_DIE.RUN, 0, 2)] |> fun s => { s with pk := { s.pk with log := s.pk.log.set .ha ⟨[], [], [], [], [⟨5, 6, 1, 0, 0x1421, 0, 255, 0, false, false, .unstated⟩]⟩ } }, by decide +kernel⟩,
    ⟨.ha, wst [], by decide +kernel⟩,
    ⟨wst [(.sw, I_DIE.RUN, 0, 2), (.ld, I_DIE.RUN, 0, 2), (.pa, I_DIE.RUN, 0, 2),
      (.pb, I_DIE.RUN, 0, 2)] |> fun s => { s with pk := { s.pk with log := s.pk.log.set .sw ⟨[], [], [], [], [⟨5, 0, 1, 0, 0x1421, 0, 255, 0, false, false, .unstated⟩]⟩ } }, by decide +kernel⟩,
    ⟨wst [], by decide +kernel⟩⟩

theorem test_RequestsInTheWayAreAnsweredAndDoNothing :
    (∃ (r : Req) (b : List Nat) (env : Bool) (i : Instr) (op : Nat) (least : Nat) (s : State), asked s.pk r b env (i, op, least) = true ∧
      myTurn s.pk r = false ∧ s.pk.nhp.queue.any (fun q => q.from' r) = false ∧ stewardServes s.pk r.die = true ∧ s.pk.nhp.queue.length < 32) ∧
    (∃ (r : Req) (b : List Nat) (env : Bool) (i : Instr) (op : Nat) (least : Nat) (s : State), asked s.pk r b env (i, op, least) = true ∧
      myTurn s.pk r = false ∧ s.pk.nhp.queue.any (fun q => q.from' r) = true) ∧
    (∃ (r : Req) (b : List Nat) (env : Bool) (i : Instr) (op : Nat) (least : Nat) (s : State), asked s.pk r b env (i, op, least) = true ∧
      myTurn s.pk r = false ∧ s.pk.nhp.queue.any (fun q => q.from' r) = false ∧ stewardServes s.pk r.die = true ∧ 32 ≤ s.pk.nhp.queue.length) ∧
    (∃ (r : Req) (b : List Nat) (env : Bool) (i : Instr) (op : Nat) (least : Nat) (s : State), asked s.pk r b env (i, op, least) = true ∧
      myTurn s.pk r = true ∧ sessionOpen s.pk r.slot = false) ∧
    (∃ (r : Req) (b : List Nat) (env : Bool) (i : Instr) (op : Nat) (least : Nat) (m : Msg) (s : State), asked s.pk r b env (i, op, least) = true ∧
      myTurn s.pk r = true ∧ sessionOpen s.pk r.slot = true ∧ stewardServes s.pk r.die = true ∧
      s.pk.nhp.later.any (fun q => q.is r.slot r.counter) = false ∧
      s.pk.nhp.answered.find? (fun m => m.slot == r.slot && m.req == r.counter) = some m) ∧
    (∃ (r : Req) (b : List Nat) (env : Bool) (i : Instr) (op : Nat) (least : Nat) (s : State), asked s.pk r b env (i, op, least) = true ∧
      myTurn s.pk r = true ∧ sessionOpen s.pk r.slot = true ∧ stewardServes s.pk r.die = true ∧
      s.pk.nhp.later.any (fun q => q.is r.slot r.counter) = false ∧ s.pk.nhp.answered.find? (fun m => m.slot == r.slot && m.req == r.counter) = none ∧
      rd s.pk .sw HST_STATUS.MGMT_BUSY = 1) ∧
    (∃ (r : Req) (b : List Nat) (env : Bool) (i : Instr) (op : Nat) (least : Nat) (s : State), asked s.pk r b env (i, op, least) = true ∧
      serves s.pk r op 0 b = true ∧ rdI s.pk .sw HST_SLOT.ROLE r.slot < least) ∧
    (∃ (r : Req) (b : List Nat) (env : Bool) (i : Instr) (op : Nat) (least : Nat) (s : State), asked s.pk r b env (i, op, least) = true ∧
      myTurn s.pk r = true ∧ sessionOpen s.pk r.slot = true ∧ stewardServes s.pk r.die = false) :=
  ⟨⟨⟨.pa, 1, 9⟩, [], true, .swap ⟨.pa, 1, 9⟩ [], 0x0220, 1, wst [(.sw, I_DIE.RUN, 0, 2),
    (.pa, I_DIE.RUN, 0, 2)] |> fun s => { s with pk := { s.pk with nhp := { s.pk.nhp with queue := [⟨5, 2, 8, 0x0220, []⟩] } } }, by decide +kernel⟩,
    ⟨⟨.pa, 1, 9⟩, [], true, .swap ⟨.pa, 1, 9⟩ [], 0x0220, 1, wst [(.sw, I_DIE.RUN, 0, 2),
      (.pa, I_DIE.RUN, 0, 2)] |> fun s => { s with pk := { s.pk with nhp := { s.pk.nhp with queue := [⟨5, 2, 8, 0x0220, []⟩, ⟨5, 1, 9, 0x0220, []⟩] } } }, by decide +kernel⟩,
    ⟨⟨.pa, 1, 9⟩, [], true, .swap ⟨.pa, 1, 9⟩ [], 0x0220, 1, wst [(.sw, I_DIE.RUN, 0, 2),
      (.pa, I_DIE.RUN, 0, 2)] |> fun s => { s with pk := { s.pk with nhp := { s.pk.nhp with queue := List.replicate 32 ⟨5, 2, 8, 0x0220, []⟩ } } }, by decide +kernel⟩,
    ⟨⟨.pa, 1, 9⟩, [], true, .swap ⟨.pa, 1, 9⟩ [], 0x0220, 1, wst [(.sw, I_DIE.RUN, 0, 2)] |> fun s => { s with pk := { s.pk with nhp := { s.pk.nhp with queue := [⟨5, 1, 9, 0x0220, []⟩, ⟨5, 2, 8, 0x0220, []⟩] } } }, by decide +kernel⟩,
    ⟨⟨.pa, 1, 9⟩, [], true, .swap ⟨.pa, 1, 9⟩ [], 0x0220, 1, ⟨0, 1, 0, 0, 0x0220, 0x20, 9, [7], 0, (0, 0)⟩, wst [(.sw, I_DIE.RUN, 0, 2),
      (.pa, I_DIE.RUN, 0, 2), (.pa, I_HST.OPEN, 1, 1)] |> fun s => { s with pk := { s.pk with nhp := { s.pk.nhp with answered := [⟨0, 1, 0, 0, 0x0220, 0x20, 9, [7], 0, (0, 0)⟩] } } }, by decide +kernel⟩,
    ⟨⟨.pa, 1, 9⟩, [], true, .swap ⟨.pa, 1, 9⟩ [], 0x0220, 1, wst [(.sw, HST_STATUS.MGMT_BUSY, 0, 1), (.sw, I_DIE.RUN, 0, 2), (.pa, I_DIE.RUN, 0, 2),
      (.pa, I_HST.OPEN, 1, 1)], by decide +kernel⟩,
    ⟨⟨.pa, 1, 9⟩, [], true, .swap ⟨.pa, 1, 9⟩ [], 0x0220, 1, wst [(.sw, I_DIE.RUN, 0, 2), (.pa, I_DIE.RUN, 0, 2), (.pa, I_HST.OPEN, 1, 1),
      (.pa, I_HST.ROLE, 1, 3), (.sw, HST_SLOT.OPEN, 1, 1), (.sw, HST_SLOT.ROLE, 1, 3), (.sw, HST_SLOT.ROLE, 1, 0)], by decide +kernel⟩,
    ⟨⟨.pa, 1, 9⟩, [], true, .swap ⟨.pa, 1, 9⟩ [], 0x0220, 1, wst [(.pa, I_DIE.RUN, 0, 2), (.pa, I_HST.OPEN, 1, 1)], by decide +kernel⟩⟩

theorem test_SessionsOpenCloseAndChangeTheirKeys :
    (∃ (d : Die) (b : List Nat) (s : State), running s.pk d = true ∧ stewardServes s.pk d = true ∧ (b.take 3 = [0x4E, 0x48, 1] ∧ b.length = 88 ∧
      leNat ((b.drop 22).take 2) = 24 ∧ leNat ((b.drop 6).take 2) = 1 ∧ leNat ((b.drop 16).take 4) = 0 ∧ b.getD 4 0 < 8) ∧
      rdI s.pk .sw HST_SLOT.KEYED (b.getD 4 0) = 1 ∧ b.drop 56 = hmacSha (keyBytes (rdI s.pk .sw I_HST.PSK (b.getD 4 0))) (b.take 56) ∧
      s.pk.nhp.answered.find? (fun m => m.slot == b.getD 4 0 && m.opcode == 1 && m.req == leNat ((b.drop 8).take 8) && rdI s.pk .sw I_HST.NONCE (b.getD 4 0) == leNat (((b.take 56).drop 32).take 16)) = none ∧ rd s.pk .sw HST_STATUS.MGMT_BUSY = 0) ∧
    (∃ (d : Die) (b : List Nat) (s : State), running s.pk d = true ∧ stewardServes s.pk d = true ∧
      (rdI s.pk .sw HST_SLOT.KEYED (b.getD 4 0) = 0 ∨ b.length ≠ 64 + leNat ((b.drop 22).take 2) ∨ 8 ≤ b.getD 4 0 ∨ b.take 3 ≠ [0x4E, 0x48, 1] ∨ leNat ((b.drop 6).take 2) ≠ 1 ∨ b.drop (32 + leNat ((b.drop 22).take 2)) ≠ hmacSha (keyBytes (rdI s.pk .sw I_HST.PSK (b.getD 4 0))) (b.take (32 + leNat ((b.drop 22).take 2))))) ∧
    (∃ (d : Die) (b : List Nat) (s : State), running s.pk d = true ∧ stewardServes s.pk d = true ∧ (b.take 3 = [0x4E, 0x48, 1] ∧ b.length = 88 ∧
      leNat ((b.drop 22).take 2) = 24 ∧ leNat ((b.drop 6).take 2) = 1 ∧ leNat ((b.drop 16).take 4) = 0 ∧ b.getD 4 0 < 8) ∧
      rdI s.pk .sw HST_SLOT.KEYED (b.getD 4 0) = 1 ∧ b.drop 56 = hmacSha (keyBytes (rdI s.pk .sw I_HST.PSK (b.getD 4 0))) (b.take 56) ∧
      s.pk.nhp.answered.find? (fun m => m.slot == b.getD 4 0 && m.opcode == 1 && m.req == leNat ((b.drop 8).take 8) && rdI s.pk .sw I_HST.NONCE (b.getD 4 0) == leNat (((b.take 56).drop 32).take 16)) = none ∧ rd s.pk .sw HST_STATUS.MGMT_BUSY = 1) ∧
    (∃ (d : Die) (b : List Nat) (m : Msg) (s : State), running s.pk d = true ∧ stewardServes s.pk d = true ∧ (b.take 3 = [0x4E, 0x48, 1] ∧
      b.length = 88 ∧ leNat ((b.drop 22).take 2) = 24 ∧ leNat ((b.drop 6).take 2) = 1 ∧ leNat ((b.drop 16).take 4) = 0 ∧ b.getD 4 0 < 8) ∧
      rdI s.pk .sw HST_SLOT.KEYED (b.getD 4 0) = 1 ∧ b.drop 56 = hmacSha (keyBytes (rdI s.pk .sw I_HST.PSK (b.getD 4 0))) (b.take 56) ∧
      s.pk.nhp.answered.find? (fun m => m.slot == b.getD 4 0 && m.opcode == 1 && m.req == leNat ((b.drop 8).take 8) && rdI s.pk .sw I_HST.NONCE (b.getD 4 0) == leNat (((b.take 56).drop 32).take 16)) = some m) ∧
    (∃ (d : Die) (s : State), (running s.pk d = false ∨ stewardServes s.pk d = false)) ∧
    (∃ (r : Req) (s : State), serves s.pk r 2 0 [] = true) ∧
    (∃ (k : Nat) (s : State), running s.pk .sw = true ∧ sessionOpen s.pk k = true ∧
      (∀ d ∈ [Die.pa, .pb], running s.pk d = false ∨ rdI s.pk d I_HST.LAST k + rd s.pk d I_HST.IDLE_S * 1000000000 ≤ now s.pk d)) ∧
    (∃ (k : Nat) (s : State), ((sessionOpen s.pk k = false ∧ rdI s.pk .sw HST_SLOT.OPEN k = 0) ∨ ∃ d ∈ [Die.pa, .pb], running s.pk d = true ∧
      now s.pk d < rdI s.pk d I_HST.LAST k + rd s.pk d I_HST.IDLE_S * 1000000000)) ∧
    (∃ (k : Nat) (s : State), running s.pk .sw = false ∧ sessionOpen s.pk k = true ∧
      (∀ d ∈ [Die.pa, .pb], running s.pk d = false ∨ rdI s.pk d I_HST.LAST k + rd s.pk d I_HST.IDLE_S * 1000000000 ≤ now s.pk d)) ∧
    (∃ (r : Req) (b : List Nat) (s : State), serves s.pk r 0x0230 3 b = true ∧ ledgerUp s.pk = true ∧ (b.length = 36 ∧ b.getD 0 0 < 8 ∧
      b.getD 1 0 < 4 ∧ b.getD 0 0 ≠ r.slot)) ∧
    (∃ (r : Req) (b : List Nat) (s : State), serves s.pk r 0x0230 3 b = true ∧ ledgerUp s.pk = true ∧ (b.length = 36 ∧ b.getD 0 0 < 8 ∧
      b.getD 1 0 < 4 ∧ b.getD 0 0 = r.slot)) ∧
    (∃ (b : List Nat) (s : State), running s.pk .sw = true ∧ ledgerUp s.pk = true ∧ rdI s.pk .sw HST_SLOT.KEYED 0 = 0 ∧ (b.length = 36 ∧
      b.getD 0 0 = 0 ∧ b.getD 1 0 < 4)) ∧
    (∃ (b : List Nat) (s : State), (rdI s.pk .sw HST_SLOT.KEYED 0 = 1 ∨ b.length ≠ 36 ∨ ledgerUp s.pk = false)) ∧
    (∃ (y : Side) (s : State), running s.pk y.port = true) ∧
    (∃ (y : Side) (k : Nat) (s : State), running s.pk y.port = true ∧ rdI s.pk y.port I_HST.OPEN k = 1 ∧ k < 8) ∧
    (∃ (y : Side) (s : State), running s.pk y.port = false) :=
  ⟨⟨.pa, openBytes, wst [(.pa, I_DIE.RUN, 0, 2), (.sw, HST_STATUS.MGMT_BUSY, 0, 0), (.sw, I_DIE.RUN, 0, 2), (.pa, I_DIE.RUN, 0, 2),
    (.sw, HST_SLOT.KEYED, 1, 1), (.pa, I_HST.OPEN, 1, 1)], by decide +kernel⟩,
    ⟨.pa, openBytes, wst [(.pa, I_DIE.RUN, 0, 2), (.sw, I_DIE.RUN, 0, 2), (.pa, I_DIE.RUN, 0, 2)], by decide +kernel⟩,
    ⟨.pa, openBytes, wst [(.pa, I_DIE.RUN, 0, 2), (.sw, HST_STATUS.MGMT_BUSY, 0, 1), (.sw, I_DIE.RUN, 0, 2), (.pa, I_DIE.RUN, 0, 2),
      (.sw, HST_SLOT.KEYED, 1, 1)], by decide +kernel⟩,
    ⟨.pa, openBytes, ⟨0, 1, 0, 0, 1, 0, 77, [7], 0, (0, 0)⟩, wst [(.pa, I_DIE.RUN, 0, 2), (.sw, I_DIE.RUN, 0, 2), (.pa, I_DIE.RUN, 0, 2),
      (.sw, HST_SLOT.KEYED, 1, 1), (.sw, I_HST.NONCE, 1, 0x09090909090909090909090909090909)] |> fun s => { s with pk := { s.pk with nhp := { s.pk.nhp with answered := [⟨0, 1, 0, 0, 1, 0, 77, [7], 0, (0, 0)⟩] } } }, by decide +kernel⟩,
    ⟨.pa, wst [], by decide +kernel⟩,
    ⟨⟨.pa, 1, 9⟩, wst [(.sw, I_DIE.RUN, 0, 2), (.pa, I_DIE.RUN, 0, 2), (.pa, I_HST.OPEN, 1, 1), (.pa, I_HST.ROLE, 1, 3), (.sw, HST_SLOT.OPEN, 1, 1),
      (.sw, HST_SLOT.ROLE, 1, 3), (.ha, SP_STATUS.CMD_SLOT, 0, 1), (.sw, TXN_STATUS.STATE, 0, 1), (.sw, TXN_STATUS.SLOT, 0, 1)], by decide +kernel⟩,
    ⟨3, wst [(.sw, I_DIE.RUN, 0, 2), (.pa, I_DIE.RUN, 0, 2), (.pa, I_HST.OPEN, 3, 1), (.pa, TIM_NOW.NOW, 0, 900000000000000)], by decide +kernel⟩,
    ⟨3, wst [(.sw, HST_SLOT.OPEN, 3, 0)], by decide +kernel⟩,
    ⟨3, wst [(.pa, I_DIE.RUN, 0, 2), (.pa, I_HST.OPEN, 3, 1), (.pa, TIM_NOW.NOW, 0, 900000000000000), (.sw, I_DIE.RUN, 0, 0)], by decide +kernel⟩,
    ⟨⟨.pa, 1, 9⟩, [2, 1, 5, 0] ++ List.replicate 32 7, wst [(.sw, I_DIE.RUN, 0, 2), (.pa, I_DIE.RUN, 0, 2), (.pa, I_HST.OPEN, 1, 1),
      (.pa, I_HST.ROLE, 1, 3), (.sw, HST_SLOT.OPEN, 1, 1), (.sw, HST_SLOT.ROLE, 1, 3), (.pb, I_DIE.RUN, 0, 2), (.ld, I_DIE.RUN, 0, 2), (.pa, I_HST.OPEN, 2, 1)], by decide +kernel⟩,
    ⟨⟨.pa, 1, 9⟩, [1, 3, 5, 0] ++ List.replicate 32 7, wst [(.sw, I_DIE.RUN, 0, 2), (.pa, I_DIE.RUN, 0, 2), (.pa, I_HST.OPEN, 1, 1),
      (.pa, I_HST.ROLE, 1, 3), (.sw, HST_SLOT.OPEN, 1, 1), (.sw, HST_SLOT.ROLE, 1, 3), (.pb, I_DIE.RUN, 0, 2), (.ld, I_DIE.RUN, 0, 2)], by decide +kernel⟩,
    ⟨[0, 3, 5, 0] ++ List.replicate 32 7, wst [(.sw, I_DIE.RUN, 0, 2), (.sw, HST_SLOT.KEYED, 0, 0), (.pa, I_DIE.RUN, 0, 2), (.pb, I_DIE.RUN, 0, 2),
      (.ld, I_DIE.RUN, 0, 2)], by decide +kernel⟩,
    ⟨[0], wst [(.sw, HST_SLOT.KEYED, 0, 1)], by decide +kernel⟩,
    ⟨.a, wst [(.pa, I_DIE.RUN, 0, 2),
      (.pa, TIM_NOW.NOW, 0, 200000000)] |> fun s => { s with pk := { s.pk with nhp := { s.pk.nhp with parts := [⟨⟨5, 3, 7, 0x201, [1]⟩, 5⟩, ⟨⟨5, 3, 9, 0x201, [1]⟩, 150000000⟩, ⟨⟨6, 3, 7, 0x201, [1]⟩, 5⟩] } } }, by decide +kernel⟩,
    ⟨.a, 3, wst [(.pa, I_DIE.RUN, 0, 2), (.pa, I_HST.OPEN, 3, 1)], by decide +kernel⟩,
    ⟨.a, wst [], by decide +kernel⟩⟩

theorem test_HostReadsWritesAndLaneRequestsAreServed :
    (∃ (r : Req) (s : State), serves s.pk r 4 0 [] = true) ∧
    (∃ (r : Req) (b : List Nat) (addr : Nat) (d : Die) (off : Nat) (v : Nat) (s : State), serves s.pk r 0x0200 0 b = true ∧
      b = leBytes 4 addr ++ [1, 0] ∧ addr / 2 ^ 28 < 8 ∧ resolve s.pk addr = .at' d off ∧ stewardReaches s.pk d = true ∧
      s.pk.nhp.latched.find? (fun x => x.slot == r.slot && x.addr == addr) = none ∧ readAt s.pk d off = some v ∧ off / 0x10000 ≠ 4) ∧
    (∃ (r : Req) (b : List Nat) (s : State), serves s.pk r 0x0200 0 b = true ∧ b.length ≠ 6) ∧
    (∃ (r : Req) (b : List Nat) (env : Bool) (addr : Nat) (word : Nat) (d : Die) (off : Nat) (h : RegRow × Nat × Nat) (s : State), serves s.pk r 0x0201 2 b = true ∧ auditFull s.pk = false ∧ b = leBytes 4 addr ++ leBytes 4 word ∧ (addr < 2 ^ 32 ∧ word < 2 ^ 32) ∧ resolve s.pk addr = .at' d off ∧ stewardReaches s.pk d = true ∧ running s.pk d = true ∧ heldFrom d off word s.pk = false ∧ wordAt d off = some h ∧ (directPair h).isSome = false ∧ writeSpecial (.host r.slot) env d h.2.1 h.2.2 word s.pk = none ∧ (∀ F ∈ wordFlds h, F.acc = .w1c)) ∧
    (∃ (r : Req) (s : State), serves s.pk r 0x0220 2 [] = true ∧ activeLane s.pk = none) ∧
    (∃ (r : Req) (x : Side) (s : State), serves s.pk r 0x0220 1 [] = true ∧ activeLane s.pk = some x ∧ stewardReaches s.pk x.helm = true ∧
      swapAnswer s.pk x 7 = .accepted) ∧
    (∃ (r : Req) (x : Side) (s : State), serves s.pk r 0x0220 1 [] = true ∧ activeLane s.pk = some x ∧ stewardReaches s.pk x.helm = true ∧
      swapAnswer s.pk x 7 ≠ .accepted) ∧
    (∃ (r : Req) (x : Side) (s : State), serves s.pk r 0x0221 2 [] = true ∧ activeLane s.pk = some x ∧ stewardReaches s.pk x.helm = true ∧
      drillMayStart s.pk x = true) ∧
    (∃ (r : Req) (x : Side) (s : State), serves s.pk r 0x0221 2 [] = true ∧ activeLane s.pk = some x ∧ stewardReaches s.pk x.helm = true ∧
      drillMayStart s.pk x = false) ∧
    (∃ (r : Req) (x : Side) (s : State), serves s.pk r 0x0222 2 [] = true ∧ activeLane s.pk = some x ∧ stewardReaches s.pk x.helm = true ∧
      rd s.pk .sw I_PKG.DRILL_PHASE = 1 ∧ drillOut s.pk = false) ∧
    (∃ (r : Req) (x : Side) (s : State), serves s.pk r 0x0221 2 [] = true ∧ activeLane s.pk = some x ∧ stewardReaches s.pk x.helm = true ∧
      drillInProgress s.pk = false) ∧
    (∃ (r : Req) (x : Side) (s : State), serves s.pk r 0x0222 2 [] = true ∧ activeLane s.pk = some x ∧ stewardReaches s.pk x.helm = true ∧
      rd s.pk .sw I_PKG.DRILL_PHASE = 2) ∧
    (∃ (r : Req) (b : List Nat) (d : Die) (s : State), serves s.pk r 0x0223 3 b = true ∧ b = [d.num, 0] ∧ stewardReaches s.pk d = true ∧
      running s.pk d = true ∧ rd s.pk d CLK_STATUS.SOURCE = 2) ∧
    (∃ (r : Req) (b : List Nat) (d : Die) (s : State), serves s.pk r 0x0223 3 b = true ∧ b = [d.num, 0] ∧ stewardReaches s.pk d = true ∧
      running s.pk d = true ∧ rd s.pk d CLK_STATUS.SOURCE ≠ 2) ∧
    (∃ (r : Req) (b : List Nat) (d : Die) (s : State), serves s.pk r 0x0223 3 b = true ∧ b = [d.num, 1] ∧ stewardReaches s.pk d = true ∧
      running s.pk d = true ∧ mayMoveHome s.pk d = true) ∧
    (∃ (r : Req) (b : List Nat) (d : Die) (s : State), serves s.pk r 0x0223 3 b = true ∧ b = [d.num, 1] ∧ stewardReaches s.pk d = true ∧
      running s.pk d = true ∧ mayMoveHome s.pk d = false) :=
  ⟨⟨⟨.pa, 1, 9⟩, wst [(.sw, I_DIE.RUN, 0, 2), (.pa, I_DIE.RUN, 0, 2), (.pa, I_HST.OPEN, 1, 1), (.pa, I_HST.ROLE, 1, 3), (.sw, HST_SLOT.OPEN, 1, 1),
    (.sw, HST_SLOT.ROLE, 1, 3)], by decide +kernel⟩,
    ⟨⟨.pa, 1, 9⟩, leBytes 4 (TIM_NOW.NOW.off + 4) ++ [1, 0], TIM_NOW.NOW.off + 4, .sw, TIM_NOW.NOW.off + 4, 5, wst [(.sw, I_DIE.RUN, 0, 2),
      (.pa, I_DIE.RUN, 0, 2), (.pa, I_HST.OPEN, 1, 1), (.pa, I_HST.ROLE, 1, 3), (.sw, HST_SLOT.OPEN, 1, 1), (.sw, HST_SLOT.ROLE, 1, 3), (.sw, TIM_NOW.NOW, 0, 0x500000000)], by decide +kernel⟩,
    ⟨⟨.pa, 1, 9⟩, [1], wst [(.sw, I_DIE.RUN, 0, 2), (.pa, I_DIE.RUN, 0, 2), (.pa, I_HST.OPEN, 1, 1), (.pa, I_HST.ROLE, 1, 3),
      (.sw, HST_SLOT.OPEN, 1, 1), (.sw, HST_SLOT.ROLE, 1, 3)], by decide +kernel⟩,
    ⟨⟨.pa, 1, 9⟩, leBytes 4 (0x10000000 + HG_EVENT.SWAP_DONE.off) ++ leBytes 4 5, true, 0x10000000 + HG_EVENT.SWAP_DONE.off, 5, .ha, HG_EVENT.SWAP_DONE.off, hitAt .ha HG_EVENT.SWAP_DONE.off, wst [(.ha, I_DIE.RUN, 0, 2), (.sw, I_DIE.RUN, 0, 2), (.pa, I_DIE.RUN, 0, 2), (.pa, I_HST.OPEN, 1, 1), (.pa, I_HST.ROLE, 1, 3), (.sw, HST_SLOT.OPEN, 1, 1), (.sw, HST_SLOT.ROLE, 1, 3), (.ha, HG_EVENT.SWAP_DONE, 0, 1), (.ha, HG_EVENT.TAKEOVER, 0, 1)], by decide +kernel⟩,
    ⟨⟨.pa, 1, 9⟩, wst [(.sw, I_DIE.RUN, 0, 2), (.pa, I_DIE.RUN, 0, 2), (.pa, I_HST.OPEN, 1, 1), (.pa, I_HST.ROLE, 1, 3), (.sw, HST_SLOT.OPEN, 1, 1),
      (.sw, HST_SLOT.ROLE, 1, 3)], by decide +kernel⟩,
    ⟨⟨.pa, 1, 9⟩, .a, wst [(.sw, I_DIE.RUN, 0, 2), (.pa, I_DIE.RUN, 0, 2), (.pa, I_HST.OPEN, 1, 1), (.pa, I_HST.ROLE, 1, 3),
      (.sw, HST_SLOT.OPEN, 1, 1), (.sw, HST_SLOT.ROLE, 1, 3), (.ha, I_DIE.RUN, 0, 2), (.ha, HG_STATUS.LANE_STATE, 0, 4), (.hb, I_DIE.RUN, 0, 2), (.pb, I_DIE.RUN, 0, 2), (.hb, HG_STATUS.LANE_STATE, 0, 3), (.hb, HG_STATUS.ARMED, 0, 1)], by decide +kernel⟩,
    ⟨⟨.pa, 1, 9⟩, .a, wst [(.sw, I_DIE.RUN, 0, 2), (.pa, I_DIE.RUN, 0, 2), (.pa, I_HST.OPEN, 1, 1), (.pa, I_HST.ROLE, 1, 3),
      (.sw, HST_SLOT.OPEN, 1, 1), (.sw, HST_SLOT.ROLE, 1, 3), (.ha, I_DIE.RUN, 0, 2), (.ha, HG_STATUS.LANE_STATE, 0, 4)], by decide +kernel⟩,
    ⟨⟨.pa, 1, 9⟩, .a, wst [(.sw, I_DIE.RUN, 0, 2), (.pa, I_DIE.RUN, 0, 2), (.pa, I_HST.OPEN, 1, 1), (.pa, I_HST.ROLE, 1, 3),
      (.sw, HST_SLOT.OPEN, 1, 1), (.sw, HST_SLOT.ROLE, 1, 3), (.ha, I_DIE.RUN, 0, 2), (.ha, HG_STATUS.LANE_STATE, 0, 4), (.hb, I_DIE.RUN, 0, 2), (.pb, I_DIE.RUN, 0, 2), (.hb, HG_STATUS.LANE_STATE, 0, 3), (.hb, HG_STATUS.ARMED, 0, 1)], by decide +kernel⟩,
    ⟨⟨.pa, 1, 9⟩, .a, wst [(.sw, I_DIE.RUN, 0, 2), (.pa, I_DIE.RUN, 0, 2), (.pa, I_HST.OPEN, 1, 1), (.pa, I_HST.ROLE, 1, 3),
      (.sw, HST_SLOT.OPEN, 1, 1), (.sw, HST_SLOT.ROLE, 1, 3), (.ha, I_DIE.RUN, 0, 2), (.ha, HG_STATUS.LANE_STATE, 0, 4)], by decide +kernel⟩,
    ⟨⟨.pa, 1, 9⟩, .a, wst [(.sw, I_PKG.DRILL_PHASE, 0, 1), (.sw, I_DIE.RUN, 0, 2), (.pa, I_DIE.RUN, 0, 2), (.pa, I_HST.OPEN, 1, 1),
      (.pa, I_HST.ROLE, 1, 3), (.sw, HST_SLOT.OPEN, 1, 1), (.sw, HST_SLOT.ROLE, 1, 3), (.ha, I_DIE.RUN, 0, 2), (.ha, HG_STATUS.LANE_STATE, 0, 4), (.ha, I_LANE.SWAP_CAUSE, 0, 9), (.sw, I_PKG.DRILLED_B, 0, 1)], by decide +kernel⟩,
    ⟨⟨.pa, 1, 9⟩, .a, wst [(.sw, I_DIE.RUN, 0, 2), (.pa, I_DIE.RUN, 0, 2), (.pa, I_HST.OPEN, 1, 1), (.pa, I_HST.ROLE, 1, 3),
      (.sw, HST_SLOT.OPEN, 1, 1), (.sw, HST_SLOT.ROLE, 1, 3), (.ha, I_DIE.RUN, 0, 2), (.ha, HG_STATUS.LANE_STATE, 0, 4)], by decide +kernel⟩,
    ⟨⟨.pa, 1, 9⟩, .a, wst [(.sw, I_PKG.DRILL_PHASE, 0, 2), (.sw, I_DIE.RUN, 0, 2), (.pa, I_DIE.RUN, 0, 2), (.pa, I_HST.OPEN, 1, 1),
      (.pa, I_HST.ROLE, 1, 3), (.sw, HST_SLOT.OPEN, 1, 1), (.sw, HST_SLOT.ROLE, 1, 3), (.ha, I_DIE.RUN, 0, 2), (.ha, HG_STATUS.LANE_STATE, 0, 4)], by decide +kernel⟩,
    ⟨⟨.pa, 1, 9⟩, [3, 0], .ga, wst [(.ga, I_DIE.RUN, 0, 2), (.ga, CLK_STATUS.SOURCE, 0, 2), (.sw, I_DIE.RUN, 0, 2), (.pa, I_DIE.RUN, 0, 2),
      (.pa, I_HST.OPEN, 1, 1), (.pa, I_HST.ROLE, 1, 3), (.sw, HST_SLOT.OPEN, 1, 1), (.sw, HST_SLOT.ROLE, 1, 3), (.ga, I_DIE.RUN, 0, 2)], by decide +kernel⟩,
    ⟨⟨.pa, 1, 9⟩, [3, 0], .ga, wst [(.ga, I_DIE.RUN, 0, 2), (.sw, I_DIE.RUN, 0, 2), (.pa, I_DIE.RUN, 0, 2), (.pa, I_HST.OPEN, 1, 1),
      (.pa, I_HST.ROLE, 1, 3), (.sw, HST_SLOT.OPEN, 1, 1), (.sw, HST_SLOT.ROLE, 1, 3), (.ga, I_DIE.RUN, 0, 2)], by decide +kernel⟩,
    ⟨⟨.pa, 1, 9⟩, [3, 1], .ga, wst [(.ga, I_DIE.RUN, 0, 2), (.sw, I_DIE.RUN, 0, 2), (.pa, I_DIE.RUN, 0, 2), (.pa, I_HST.OPEN, 1, 1),
      (.pa, I_HST.ROLE, 1, 3), (.sw, HST_SLOT.OPEN, 1, 1), (.sw, HST_SLOT.ROLE, 1, 3), (.ga, I_DIE.RUN, 0, 2), (.ga, CLK_STATUS.SOURCE, 0, 1), (.ga, CLK_STATUS.QUAL_A, 0, 1)], by decide +kernel⟩,
    ⟨⟨.pa, 1, 9⟩, [3, 1], .ga, wst [(.ga, I_DIE.RUN, 0, 2), (.sw, I_DIE.RUN, 0, 2), (.pa, I_DIE.RUN, 0, 2), (.pa, I_HST.OPEN, 1, 1),
      (.pa, I_HST.ROLE, 1, 3), (.sw, HST_SLOT.OPEN, 1, 1), (.sw, HST_SLOT.ROLE, 1, 3), (.ga, I_DIE.RUN, 0, 2), (.ga, CLK_STATUS.SOURCE, 0, 2)], by decide +kernel⟩⟩

theorem test_TransfersAndFlumeSpaceRunTheirCourse :
    (∃ (r : Req) (y : Side) (b : List Nat) (c : Capture) (s : State), serves s.pk r 0x0240 2 b = true ∧ commitWaits s.pk = false ∧ b = [y.bb.num] ∧
      stewardReaches s.pk y.bb = true ∧ (s.pk.bbs.get y).capture = some c ∧ rd s.pk y.bb GNS_SNAP_STATUS.SNAP_STATE = 3 ∧ xferOf s.pk r.slot = none) ∧
    (∃ (s : State), commitWaits s.pk = true) ∧
    (∃ (r : Req) (off : Nat) (x : Xfer) (s : State), sessionOpen s.pk r.slot = true ∧ stewardServes s.pk r.die = true ∧
      (rd s.pk .sw HST_STATUS.MGMT_BUSY = 0 ∨ rd s.pk .sw I_HST.BUSY_SLOT = r.slot) ∧ myTurn s.pk r = true ∧ xferOf s.pk r.slot = some x ∧
      x.acked < off ∧ off ≤ x.sent ∧ off < x.bytes.length ∧ off < 2 ^ 32) ∧
    (∃ (r : Req) (x : Xfer) (s : State), sessionOpen s.pk r.slot = true ∧ stewardServes s.pk r.die = true ∧
      (rd s.pk .sw HST_STATUS.MGMT_BUSY = 0 ∨ rd s.pk .sw I_HST.BUSY_SLOT = r.slot) ∧ myTurn s.pk r = true ∧ xferOf s.pk r.slot = some x ∧
      x.acked < x.bytes.length ∧ x.sent = x.bytes.length ∧ x.bytes.length < 2 ^ 32) ∧
    (∃ (k : Nat) (x : Xfer) (s : State), running s.pk .sw = true ∧ xferOf s.pk k = some x ∧ x.ackAt + 1000000000 ≤ now s.pk .sw) ∧
    (∃ (k : Nat) (x : Xfer) (s : State), running s.pk .sw = true ∧ xferOf s.pk k = some x ∧ x.progAt + 10000000000 ≤ now s.pk .sw) ∧
    (∃ (k : Nat) (s : State), (xferOf s.pk k = none ∨ running s.pk .sw = false)) ∧
    (∃ (x : Side) (s : State), running s.pk x.helm = true ∧ rd s.pk x.helm I_LANE.LAYOUT_APPLIED = 1 ∧
      rd s.pk x.helm I_TIME.BOUND_AT + 1000000 ≤ now s.pk x.helm) ∧
    (∃ (x : Side) (s : State), running s.pk x.helm = true ∧ rd s.pk x.helm I_LANE.LAYOUT_APPLIED = 1 ∧
      now s.pk x.helm < rd s.pk x.helm I_TIME.BOUND_AT + 1000000 ∧ (∀ e ∈ (s.pk.lanes.get x).flume, 0 < e.cmd.stamp)) ∧
    (∃ (x : Side) (s : State), running s.pk x.helm = true ∧ rd s.pk x.helm I_LANE.LAYOUT_APPLIED = 0) ∧
    (∃ (x : Side) (s : State), running s.pk x.helm = false) :=
  ⟨⟨⟨.pa, 1, 9⟩, .a, [3], ⟨1, 0, 1, 0, 0, 0, 0, 0, [1, 2]⟩, wst [(.ga, GNS_SNAP_STATUS.SNAP_STATE, 0, 3), (.sw, I_DIE.RUN, 0, 2),
    (.pa, I_DIE.RUN, 0, 2), (.pa, I_HST.OPEN, 1, 1), (.pa, I_HST.ROLE, 1, 3), (.sw, HST_SLOT.OPEN, 1, 1), (.sw, HST_SLOT.ROLE, 1, 3), (.ga, I_DIE.RUN, 0, 2), (.ga, GNS_SNAP_STATUS.SNAP_STATE, 0, 3)] |> fun s => { s with pk := { s.pk with bbs := s.pk.bbs.set .a { Bb.empty with capture := some ⟨1, 0, 1, 0, 0, 0, 0, 0, [1, 2]⟩ } } }, by decide +kernel⟩,
    ⟨wst [(.sw, TXN_STATUS.STATE, 0, 2)], by decide +kernel⟩,
    ⟨⟨.pa, 1, 9⟩, 100, ⟨1, 2, none, List.replicate 3000 5, 2560, 0, 0, 0⟩, wst [(.sw, HST_STATUS.MGMT_BUSY, 0, 0), (.sw, I_DIE.RUN, 0, 2),
      (.pa, I_DIE.RUN, 0, 2), (.pa, I_HST.OPEN, 1, 1)] |> fun s => { s with pk := { s.pk with xfers := [⟨1, 2, none, List.replicate 3000 5, 2560, 0, 0, 0⟩] } }, by decide +kernel⟩,
    ⟨⟨.pa, 1, 9⟩, ⟨1, 4, some 0, List.replicate 3000 5, 3000, 0, 0, 0⟩, wst [(.sw, HST_STATUS.MGMT_BUSY, 0, 0), (.sw, I_DIE.RUN, 0, 2),
      (.pa, I_DIE.RUN, 0, 2), (.pa, I_HST.OPEN, 1, 1), (.ga, GNS_SNAP_STATUS.EXPORTING, 0, 1), (.ga, GNS_SNAP_STATUS.SNAP_STATE, 0, 3)] |> fun s => { s with pk := { s.pk with xfers := [⟨1, 4, some 0, List.replicate 3000 5, 3000, 0, 0, 0⟩] } }, by decide +kernel⟩,
    ⟨1, ⟨1, 2, none, List.replicate 3000 5, 2560, 10, 0, 0⟩, wst [(.sw, I_DIE.RUN, 0, 2),
      (.sw, TIM_NOW.NOW, 0, 1000000000)] |> fun s => { s with pk := { s.pk with xfers := [⟨1, 2, none, List.replicate 3000 5, 2560, 10, 0, 0⟩] } }, by decide +kernel⟩,
    ⟨1, ⟨1, 2, none, List.replicate 3000 5, 2560, 10, 0, 0⟩, wst [(.sw, I_DIE.RUN, 0, 2),
      (.sw, TIM_NOW.NOW, 0, 10000000000)] |> fun s => { s with pk := { s.pk with xfers := [⟨1, 2, none, List.replicate 3000 5, 2560, 10, 0, 0⟩] } }, by decide +kernel⟩,
    ⟨1, wst [], by decide +kernel⟩,
    ⟨.a, wst [(.ha, I_DIE.RUN, 0, 2), (.ha, I_LANE.LAYOUT_APPLIED, 0, 1), (.ha, TIM_NOW.NOW, 0, 1001000000),
      (.ha, I_TIME.BOUND_AT, 0, 1000000000)] |> fun s => { s with pk := { s.pk with lanes := s.pk.lanes.set .a { Lane.empty with flume := [⟨9, ⟨5, 5, 1, 7, 42, []⟩, true⟩, ⟨9, ⟨6, 5, 1, 7, 43, []⟩, false⟩, ⟨9, ⟨2000000000, 5, 1, 7, 43, []⟩, false⟩] } } }, by decide +kernel⟩,
    ⟨.a, wst [(.ha, I_DIE.RUN, 0, 2), (.ha, I_LANE.LAYOUT_APPLIED, 0, 1), (.ha, TIM_NOW.NOW, 0, 1000999999),
      (.ha, I_TIME.BOUND_AT, 0, 1000000000)] |> fun s => { s with pk := { s.pk with lanes := s.pk.lanes.set .a { Lane.empty with flume := [⟨9, ⟨5, 5, 1, 7, 42, []⟩, true⟩, ⟨9, ⟨6, 5, 1, 7, 43, []⟩, false⟩, ⟨9, ⟨2000000000, 5, 1, 7, 43, []⟩, false⟩] } } }, by decide +kernel⟩,
    ⟨.a, wst [(.ha, I_DIE.RUN, 0, 2), (.ha, I_LANE.LAYOUT_APPLIED, 0, 0),
      (.ha, TIM_NOW.NOW, 0, 1001000000)] |> fun s => { s with pk := { s.pk with lanes := s.pk.lanes.set .a { Lane.empty with flume := [⟨9, ⟨5, 5, 1, 7, 42, []⟩, true⟩, ⟨9, ⟨6, 5, 1, 7, 43, []⟩, false⟩, ⟨9, ⟨2000000000, 5, 1, 7, 43, []⟩, false⟩] } } }, by decide +kernel⟩,
    ⟨.a, wst [], by decide +kernel⟩⟩

theorem test_TransactionsStageAndEnd :
    (∃ (r : Req) (s : State), serves s.pk r 0x0210 1 [] = true ∧ rd s.pk .sw TXN_STATUS.STATE = 0) ∧
    (∃ (r : Req) (b : List Nat) (s : State), serves s.pk r 0x0211 1 b = true ∧ rd s.pk .sw TXN_STATUS.STATE = 1 ∧
      rd s.pk .sw TXN_STATUS.SLOT = r.slot ∧ b.length = 8 ∧ (txWord (canonAddr (leNat (b.take 4)))).isSome = true ∧
      txRole (canonAddr (leNat (b.take 4)) % 2 ^ 28) ≤ rdI s.pk .sw HST_SLOT.ROLE r.slot ∧
      (recPut (canonAddr (leNat (b.take 4))) (leNat (b.drop 4)) s.pk.txn.staged).length ≤ 1024) ∧
    (∃ (r : Req) (b : List Nat) (s : State), serves s.pk r 0x0211 1 b = true ∧ rd s.pk .sw TXN_STATUS.STATE = 1 ∧
      rd s.pk .sw TXN_STATUS.SLOT = r.slot ∧ b.length = 8 ∧ txWord (canonAddr (leNat (b.take 4))) = none) ∧
    (∃ (r : Req) (b : List Nat) (s : State), serves s.pk r 0x0211 1 b = true ∧ rd s.pk .sw TXN_STATUS.STATE = 1 ∧
      rd s.pk .sw TXN_STATUS.SLOT = r.slot ∧ b.length = 8 ∧ (txWord (canonAddr (leNat (b.take 4)))).isSome = true ∧
      txRole (canonAddr (leNat (b.take 4)) % 2 ^ 28) ≤ rdI s.pk .sw HST_SLOT.ROLE r.slot ∧
      1024 < (recPut (canonAddr (leNat (b.take 4))) (leNat (b.drop 4)) s.pk.txn.staged).length) ∧
    (∃ (r : Req) (b : List Nat) (i : Instr) (op : Nat) (s : State), (i, op) ∈ [(Instr.txnBegin r b, 0x0210), (.txnWrite r b, 0x0211),
      (.txnCommit r b, 0x0212), (.txnAbort r b, 0x0213)] ∧ serves s.pk r op 1 b = true ∧ ((rd s.pk .sw TXN_STATUS.STATE = 1 ∧ rd s.pk .sw TXN_STATUS.SLOT ≠ r.slot) ∨ rd s.pk .sw TXN_STATUS.STATE = 2)) ∧
    (∃ (s : State), running s.pk .sw = true ∧ rd s.pk .sw TXN_STATUS.STATE = 1 ∧ lytInProgress s.pk = false ∧
      rd s.pk .sw I_TXN.AT + rd s.pk .sw TXN_CFG.TXN_IDLE * 1000000000 ≤ now s.pk .sw) ∧
    (∃ (s : State), (rd s.pk .sw TXN_STATUS.STATE ≠ 1 ∨ lytInProgress s.pk = true ∨ now s.pk .sw < rd s.pk .sw I_TXN.AT + rd s.pk .sw TXN_CFG.TXN_IDLE * 1000000000)) :=
  ⟨⟨⟨.pa, 1, 9⟩, wst [(.sw, TXN_STATUS.STATE, 0, 0), (.sw, I_DIE.RUN, 0, 2), (.pa, I_DIE.RUN, 0, 2), (.pa, I_HST.OPEN, 1, 1), (.pa, I_HST.ROLE, 1, 3),
    (.sw, HST_SLOT.OPEN, 1, 1), (.sw, HST_SLOT.ROLE, 1, 3), (.sw, TXN_ID.ID, 0, 6)], by decide +kernel⟩,
    ⟨⟨.pa, 1, 9⟩, leBytes 4 (0x20000000 + SP_CFG.JOY_TIMEOUT.off) ++ leBytes 4 3, wst [(.sw, TXN_STATUS.STATE, 0, 1), (.sw, I_DIE.RUN, 0, 2),
      (.pa, I_DIE.RUN, 0, 2), (.pa, I_HST.OPEN, 1, 1), (.pa, I_HST.ROLE, 1, 3), (.sw, HST_SLOT.OPEN, 1, 1), (.sw, HST_SLOT.ROLE, 1, 3), (.sw, TXN_STATUS.SLOT, 0, 1)], by decide +kernel⟩,
    ⟨⟨.pa, 1, 9⟩, leBytes 4 0x20000002 ++ leBytes 4 3, wst [(.sw, TXN_STATUS.STATE, 0, 1), (.sw, I_DIE.RUN, 0, 2), (.pa, I_DIE.RUN, 0, 2),
      (.pa, I_HST.OPEN, 1, 1), (.pa, I_HST.ROLE, 1, 3), (.sw, HST_SLOT.OPEN, 1, 1), (.sw, HST_SLOT.ROLE, 1, 3), (.sw, TXN_STATUS.SLOT, 0, 1)], by decide +kernel⟩,
    ⟨⟨.pa, 1, 9⟩, leBytes 4 (0x20000000 + SP_CFG.JOY_TIMEOUT.off) ++ leBytes 4 3, wst [(.sw, TXN_STATUS.STATE, 0, 1), (.sw, I_DIE.RUN, 0, 2),
      (.pa, I_DIE.RUN, 0, 2), (.pa, I_HST.OPEN, 1, 1), (.pa, I_HST.ROLE, 1, 3), (.sw, HST_SLOT.OPEN, 1, 1), (.sw, HST_SLOT.ROLE, 1, 3), (.sw, TXN_STATUS.SLOT, 0, 1)] |> fun s => { s with pk := { s.pk with txn := { Txn.none with staged := List.replicate 1024 (7, 7) } } }, by decide +kernel⟩,
    ⟨⟨.pa, 1, 9⟩, [], .txnCommit ⟨.pa, 1, 9⟩ [], 0x0212, wst [(.sw, TXN_STATUS.STATE, 0, 1), (.sw, I_DIE.RUN, 0, 2), (.pa, I_DIE.RUN, 0, 2),
      (.pa, I_HST.OPEN, 1, 1), (.pa, I_HST.ROLE, 1, 3), (.sw, HST_SLOT.OPEN, 1, 1), (.sw, HST_SLOT.ROLE, 1, 3), (.sw, TXN_STATUS.STATE, 0, 2)], by decide +kernel⟩,
    ⟨wst [(.sw, I_DIE.RUN, 0, 2), (.sw, TXN_STATUS.STATE, 0, 1), (.sw, TIM_NOW.NOW, 0, 900000000000000)], by decide +kernel⟩,
    ⟨wst [], by decide +kernel⟩⟩

theorem test_CommitsApplyAtTheirBoundaryOrNotAtAll :
    (∃ (r : Req) (s : State), serves s.pk r 0x0212 1 [] = true ∧ rd s.pk .sw TXN_STATUS.STATE = 1 ∧ rd s.pk .sw TXN_STATUS.SLOT = r.slot ∧
      lytInProgress s.pk = false ∧ ledgerUp s.pk = true ∧
      firstFail s.pk r.slot (decide (boundaryFrom s.pk (now s.pk .sw + 10000000) ≤ now s.pk .sw + cycleNs s.pk)) s.pk.txn.staged = none) ∧
    (∃ (r : Req) (f : Nat × Nat) (s : State), serves s.pk r 0x0212 1 [] = true ∧ rd s.pk .sw TXN_STATUS.STATE = 1 ∧
      rd s.pk .sw TXN_STATUS.SLOT = r.slot ∧ lytInProgress s.pk = false ∧ ledgerUp s.pk = true ∧
      firstFail s.pk r.slot (decide (boundaryFrom s.pk (now s.pk .sw + 10000000) ≤ now s.pk .sw + cycleNs s.pk)) s.pk.txn.staged = some f) ∧
    (∃ (r : Req) (s : State), serves s.pk r 0x0212 1 [] = true ∧ rd s.pk .sw TXN_STATUS.STATE = 1 ∧ rd s.pk .sw TXN_STATUS.SLOT = r.slot ∧
      (ledgerUp s.pk = false ∨ lytInProgress s.pk = true)) ∧
    (∃ (late : Bool) (s : State), running s.pk .sw = true ∧ rd s.pk .sw TXN_STATUS.STATE = 2 ∧ s.pk.txn.ordered = false ∧
      rd s.pk .sw I_TXN.B ≤ now s.pk .sw + 1000000 ∧ s.pk.txn.staged.find? (fun e => !(modeOk s.pk e.1 e.2)) = none ∧
      (late || concernedLost s.pk || !(ledgerUp s.pk)) = false) ∧
    (∃ (late : Bool) (s : State), running s.pk .sw = true ∧ rd s.pk .sw TXN_STATUS.STATE = 2 ∧ s.pk.txn.ordered = false ∧
      rd s.pk .sw I_TXN.B ≤ now s.pk .sw + 1000000 ∧ s.pk.txn.staged.find? (fun e => !(modeOk s.pk e.1 e.2)) = none ∧
      (late || concernedLost s.pk || !(ledgerUp s.pk)) = true ∧ rd s.pk .sw I_TXN.MOVES < 4) ∧
    (∃ (late : Bool) (s : State), running s.pk .sw = true ∧ rd s.pk .sw TXN_STATUS.STATE = 2 ∧ s.pk.txn.ordered = false ∧
      rd s.pk .sw I_TXN.B ≤ now s.pk .sw + 1000000 ∧ s.pk.txn.staged.find? (fun e => !(modeOk s.pk e.1 e.2)) = none ∧
      (late || concernedLost s.pk || !(ledgerUp s.pk)) = true ∧ 4 ≤ rd s.pk .sw I_TXN.MOVES) ∧
    (∃ (s : State), (running s.pk .sw = false ∨ rd s.pk .sw TXN_STATUS.STATE ≠ 2 ∨ s.pk.txn.ordered = true ∨ now s.pk .sw + 1000000 < rd s.pk .sw I_TXN.B)) ∧
    (∃ (s : State), s.pk.txn.ordered = true ∧ rd s.pk .sw I_TXN.B ≤ now s.pk .sw ∧ running s.pk .sw = true ∧ rd s.pk .sw TXN_STATUS.STATE = 2) ∧
    (∃ (a : Nat) (word : Nat) (dh : Die × RegRow × Nat × Nat) (q : Option Request) (s : State), s.pk.txn = ⟨[(a, word)], q, true⟩ ∧
      rd s.pk .sw I_TXN.B ≤ now s.pk .sw ∧ actionWord a = false ∧ txWord a = some dh) ∧
    (∃ (s : State), (s.pk.txn.ordered = false ∨ now s.pk .sw < rd s.pk .sw I_TXN.B)) :=
  ⟨⟨⟨.pa, 1, 9⟩, wst [(.sw, TXN_STATUS.STATE, 0, 1), (.sw, I_DIE.RUN, 0, 2), (.pa, I_DIE.RUN, 0, 2), (.pa, I_HST.OPEN, 1, 1), (.pa, I_HST.ROLE, 1, 3),
    (.sw, HST_SLOT.OPEN, 1, 1), (.sw, HST_SLOT.ROLE, 1, 3), (.pb, I_DIE.RUN, 0, 2), (.ld, I_DIE.RUN, 0, 2), (.sw, TXN_STATUS.SLOT, 0, 1), (.ha, I_DIE.RUN, 0, 2)] |> fun s => { s with pk := { s.pk with txn := { Txn.none with staged := [(0x10000000 + SP_CFG.JOY_TIMEOUT.off, 0x0C140A14)] } } }, by decide +kernel⟩,
    ⟨⟨.pa, 1, 9⟩, (0x10000000 + SP_CFG.JOY_TIMEOUT.off, 1), wst [(.sw, TXN_STATUS.STATE, 0, 1), (.sw, I_DIE.RUN, 0, 2), (.pa, I_DIE.RUN, 0, 2),
      (.pa, I_HST.OPEN, 1, 1), (.pa, I_HST.ROLE, 1, 3), (.sw, HST_SLOT.OPEN, 1, 1), (.sw, HST_SLOT.ROLE, 1, 3), (.pb, I_DIE.RUN, 0, 2), (.ld, I_DIE.RUN, 0, 2), (.sw, TXN_STATUS.SLOT, 0, 1), (.ha, I_DIE.RUN, 0, 2)] |> fun s => { s with pk := { s.pk with txn := { Txn.none with staged := [(0x10000000 + SP_CFG.JOY_TIMEOUT.off, 0)] } } }, by decide +kernel⟩,
    ⟨⟨.pa, 1, 9⟩, wst [(.sw, TXN_STATUS.STATE, 0, 1), (.sw, I_DIE.RUN, 0, 2), (.pa, I_DIE.RUN, 0, 2), (.pa, I_HST.OPEN, 1, 1),
      (.pa, I_HST.ROLE, 1, 3), (.sw, HST_SLOT.OPEN, 1, 1), (.sw, HST_SLOT.ROLE, 1, 3), (.sw, TXN_STATUS.SLOT, 0, 1)], by decide +kernel⟩,
    ⟨false, wst [(.sw, I_DIE.RUN, 0, 2), (.sw, TXN_STATUS.STATE, 0, 2), (.pa, I_DIE.RUN, 0, 2), (.pb, I_DIE.RUN, 0, 2), (.ld, I_DIE.RUN, 0, 2),
      (.sw, I_TXN.B, 0, 500)] |> fun s => { s with pk := { s.pk with settings := ⟨⟨0, 0, 5, 0, []⟩, ⟨0, 0, 4, 1, []⟩⟩ } }, by decide +kernel⟩,
    ⟨true, wst [(.sw, I_DIE.RUN, 0, 2), (.sw, TXN_STATUS.STATE, 0, 2), (.sw, I_TXN.MOVES, 0, 3)], by decide +kernel⟩,
    ⟨true, wst [(.sw, I_DIE.RUN, 0, 2), (.sw, TXN_STATUS.STATE, 0, 2),
      (.sw, I_TXN.MOVES, 0, 4)] |> fun s => { s with pk := { s.pk with settings := ⟨⟨0, 0, 5, 0, []⟩, ⟨0, 0, 4, 1, []⟩⟩ } }, by decide +kernel⟩,
    ⟨wst [], by decide +kernel⟩,
    ⟨wst [(.sw, I_DIE.RUN, 0, 2), (.sw, TXN_STATUS.STATE, 0, 2),
      (.ha, I_DIE.RUN, 0, 2)] |> fun s => { s with pk := { s.pk with txn := ⟨[(0x10000000 + SP_CFG.JOY_TIMEOUT.off, 0x0C140A14)], some ⟨5, 1, 9, 0x0212, []⟩, true⟩ } }, by decide +kernel⟩,
    ⟨0x10000000 + SP_CFG.JOY_TIMEOUT.off, 0x0C140A14, (.ha, hitAt .ha SP_CFG.JOY_TIMEOUT.off), none, wst [(.ha, I_DIE.RUN, 0, 2),
      (.hb, I_DIE.RUN, 0, 2)] |> fun s => { s with pk := { s.pk with txn := ⟨[(0x10000000 + SP_CFG.JOY_TIMEOUT.off, 0x0C140A14)], none, true⟩ } }, by decide +kernel⟩,
    ⟨wst [], by decide +kernel⟩⟩

theorem test_LayoutImagesAreStagedVerifiedAndSentOut :
    (∃ (r : Req) (b : List Nat) (s : State), serves s.pk r 0x0300 2 b = true ∧ lytInProgress s.pk = false ∧ ledgerUp s.pk = true ∧ b.length = 4 ∧
      leNat b ≤ layoutMax) ∧
    (∃ (r : Req) (b : List Nat) (s : State), serves s.pk r 0x0301 2 b = true ∧ lytInProgress s.pk = false ∧ ledgerUp s.pk = true ∧ (5 ≤ b.length ∧
      b.length ≤ 1284) ∧ leNat (b.take 4) + (b.length - 4) ≤ rd s.pk .sw I_LYT.LEN ∧ rd s.pk .sw I_LYT.LEN ≤ layoutMax ∧
      Memory.wf s.ledger.mram = true ∧ (s.pk.log.get .sw).hold = []) ∧
    (∃ (r : Req) (b : List Nat) (i : Instr) (op : Nat) (s : State), (i, op) ∈ [(Instr.lytBegin r b, 0x0300), (.lytData r b, 0x0301),
      (.lytVerify r b, 0x0302)] ∧ serves s.pk r op 2 b = true ∧ commitWaits s.pk = false ∧ ((op = 0x0300 ∧ b.length = 4 ∧ leNat b ≤ layoutMax) ∨ (op = 0x0301 ∧ 5 ≤ b.length ∧ b.length ≤ 1284 ∧ leNat (b.take 4) + (b.length - 4) ≤ rd s.pk .sw I_LYT.LEN) ∨ (op = 0x0302 ∧ b = [])) ∧ (lytInProgress s.pk = true ∨ ledgerUp s.pk = false)) ∧
    (∃ (r : Req) (s : State), serves s.pk r 0x0302 2 [] = true ∧ commitWaits s.pk = false ∧ lytInProgress s.pk = false ∧ ledgerUp s.pk = true) ∧
    (∃ (s : State), commitWaits s.pk = true) ∧
    (∃ (s : State), running s.pk .sw = true ∧ rd s.pk .sw I_LYT.VERIFYING = 1 ∧ ledgerUp s.pk = true) ∧
    (∃ (s : State), (running s.pk .sw = false ∨ rd s.pk .sw I_LYT.VERIFYING = 0)) ∧
    (∃ (r : Req) (b : List Nat) (s : State), serves s.pk r 0x0305 0 b = true ∧ (b = [0] ∨ b = [1]) ∧ ledgerUp s.pk = true ∧
      xferOf s.pk r.slot = none) :=
  ⟨⟨⟨.pa, 1, 9⟩, [0, 4, 0, 0], wst [(.sw, I_DIE.RUN, 0, 2), (.pa, I_DIE.RUN, 0, 2), (.pa, I_HST.OPEN, 1, 1), (.pa, I_HST.ROLE, 1, 3),
    (.sw, HST_SLOT.OPEN, 1, 1), (.sw, HST_SLOT.ROLE, 1, 3), (.pb, I_DIE.RUN, 0, 2), (.ld, I_DIE.RUN, 0, 2)] |> fun s => { s with ledger := ⟨[(stagedBase + 7, 5)]⟩ }, by decide +kernel⟩,
    ⟨⟨.pa, 1, 9⟩, [2, 0, 0, 0, 9, 0, 7], wst [(.sw, I_DIE.RUN, 0, 2), (.pa, I_DIE.RUN, 0, 2), (.pa, I_HST.OPEN, 1, 1), (.pa, I_HST.ROLE, 1, 3),
      (.sw, HST_SLOT.OPEN, 1, 1), (.sw, HST_SLOT.ROLE, 1, 3), (.pb, I_DIE.RUN, 0, 2), (.ld, I_DIE.RUN, 0, 2), (.sw, I_LYT.LEN, 0, 1024)] |> fun s => { s with ledger := ⟨[(stagedBase + 3, 5)]⟩ }, by decide +kernel⟩,
    ⟨⟨.pa, 1, 9⟩, [0, 4, 0, 0], .lytBegin ⟨.pa, 1, 9⟩ [0, 4, 0, 0], 0x0300, wst [(.sw, I_DIE.RUN, 0, 2), (.pa, I_DIE.RUN, 0, 2),
      (.pa, I_HST.OPEN, 1, 1), (.pa, I_HST.ROLE, 1, 3), (.sw, HST_SLOT.OPEN, 1, 1), (.sw, HST_SLOT.ROLE, 1, 3)], by decide +kernel⟩,
    ⟨⟨.pa, 1, 9⟩, wst [(.sw, I_DIE.RUN, 0, 2), (.pa, I_DIE.RUN, 0, 2), (.pa, I_HST.OPEN, 1, 1), (.pa, I_HST.ROLE, 1, 3), (.sw, HST_SLOT.OPEN, 1, 1),
      (.sw, HST_SLOT.ROLE, 1, 3), (.pb, I_DIE.RUN, 0, 2), (.ld, I_DIE.RUN, 0, 2)], by decide +kernel⟩,
    ⟨wst [(.sw, TXN_STATUS.STATE, 0, 2)], by decide +kernel⟩,
    ⟨wst [(.sw, I_DIE.RUN, 0, 2), (.sw, I_LYT.VERIFYING, 0, 1), (.pa, I_DIE.RUN, 0, 2), (.pb, I_DIE.RUN, 0, 2), (.ld, I_DIE.RUN, 0, 2),
      (.sw, I_LYT.LEN, 0, 600)], by decide +kernel⟩,
    ⟨wst [], by decide +kernel⟩,
    ⟨⟨.pa, 1, 9⟩, [1], wst [(.sw, I_DIE.RUN, 0, 2), (.pa, I_DIE.RUN, 0, 2), (.pa, I_HST.OPEN, 1, 1), (.pa, I_HST.ROLE, 1, 3),
      (.sw, HST_SLOT.OPEN, 1, 1), (.sw, HST_SLOT.ROLE, 1, 3), (.pb, I_DIE.RUN, 0, 2), (.ld, I_DIE.RUN, 0, 2), (.sw, I_LYT.LEN, 0, 30)], by decide +kernel⟩⟩

theorem test_LayoutsApplyAndHandOver :
    (∃ (r : Req) (b : List Nat) (x : Side) (s : State), serves s.pk r 0x0303 2 b = true ∧ commitWaits s.pk = false ∧ b.length = 32 ∧
      rd s.pk .sw LYT_STATUS.STAGED_VERIFIED = 1 ∧ leNat ((List.range 8).flatMap (fun k => leBytes 4 (rdI s.pk .sw LYT_STAGED.HASH k))) = leNat b ∧
      lytInProgress s.pk = false ∧ (drillInProgress s.pk || updInProgress s.pk || swapPending s.pk) = false ∧ ledgerUp s.pk = true ∧
      activeLane s.pk = some x ∧ laneState s.pk x.other = 3) ∧
    (∃ (r : Req) (b : List Nat) (s : State), serves s.pk r 0x0303 2 b = true ∧ commitWaits s.pk = false ∧ b.length = 32 ∧
      rd s.pk .sw LYT_STATUS.STAGED_VERIFIED = 1 ∧ leNat ((List.range 8).flatMap (fun k => leBytes 4 (rdI s.pk .sw LYT_STAGED.HASH k))) = leNat b ∧
      lytInProgress s.pk = false ∧ (drillInProgress s.pk || updInProgress s.pk || swapPending s.pk) = false ∧ ledgerUp s.pk = true ∧
      activeLane s.pk = none) ∧
    (∃ (r : Req) (b : List Nat) (s : State), serves s.pk r 0x0303 2 b = true ∧ commitWaits s.pk = false ∧ b.length = 32 ∧
      (rd s.pk .sw LYT_STATUS.STAGED_VERIFIED = 0 ∨ leNat ((List.range 8).flatMap (fun k => leBytes 4 (rdI s.pk .sw LYT_STAGED.HASH k))) ≠ leNat b)) ∧
    (∃ (r : Req) (s : State), serves s.pk r 0x0304 2 [] = true ∧ (1 ≤ rd s.pk .sw LYT_STATUS.PHASE ∧ rd s.pk .sw LYT_STATUS.PHASE ≤ 4)) ∧
    (∃ (s : State), rd s.pk .sw LYT_STATUS.PHASE = 1 ∧ ledgerUp s.pk = true) ∧
    (∃ (s : State), (rd s.pk .sw LYT_STATUS.PHASE ≠ 1 ∨ ledgerUp s.pk = false)) ∧
    (∃ (s : State), rd s.pk .sw LYT_STATUS.PHASE = 3 ∧
      rd s.pk .sw LYT_CFG.LYT_SETTLE * 1000 ≤ rd s.pk (sideOf (rd s.pk .sw LYT_STATUS.TARGET_B)).helm I_LANE.READY_TICKS ∧
      10 ≤ rd s.pk (sideOf (rd s.pk .sw LYT_STATUS.TARGET_B)).helm SOL_CONSEC.OPT_RUN) ∧
    (∃ (s : State), rd s.pk .sw LYT_STATUS.PHASE ≠ 4 ∧
      (rd s.pk .sw LYT_STATUS.PHASE ≠ 3 ∨ rd s.pk (sideOf (rd s.pk .sw LYT_STATUS.TARGET_B)).helm I_LANE.READY_TICKS < rd s.pk .sw LYT_CFG.LYT_SETTLE * 1000 ∨ rd s.pk (sideOf (rd s.pk .sw LYT_STATUS.TARGET_B)).helm SOL_CONSEC.OPT_RUN < 10)) ∧
    (∃ (x : Side) (s : State), rd s.pk .sw LYT_STATUS.PHASE = 4 ∧ rd s.pk .sw LYT_STATUS.TARGET_B = x.other.num ∧ isActive s.pk x = true ∧
      swapAnswer s.pk x 12 = .accepted ∧ running s.pk .sw = true) ∧
    (∃ (s : State), running s.pk .sw = true ∧ (rd s.pk .sw LYT_STATUS.PHASE = 2 ∨ rd s.pk .sw LYT_STATUS.PHASE = 3) ∧
      rd s.pk .sw I_LYT.AT + rd s.pk .sw LYT_CFG.LYT_CONV_MAX * 1000000000 ≤ now s.pk .sw) ∧
    (∃ (s : State), ((rd s.pk .sw LYT_STATUS.PHASE ≠ 2 ∧
      rd s.pk .sw LYT_STATUS.PHASE ≠ 3) ∨ now s.pk .sw < rd s.pk .sw I_LYT.AT + rd s.pk .sw LYT_CFG.LYT_CONV_MAX * 1000000000)) ∧
    (∃ (s : State), running s.pk .sw = true ∧ rd s.pk .sw I_LYT.BOOT = 1 ∧ rd s.pk .sw I_LYT.APPLY_AT ≤ now s.pk .sw) ∧
    (∃ (s : State), (running s.pk .sw = false ∨ rd s.pk .sw I_LYT.BOOT ≠ 1 ∨ now s.pk .sw < rd s.pk .sw I_LYT.APPLY_AT)) ∧
    (∃ (y : Side) (l : Layout) (s : State), running s.pk y.port = true ∧ rd s.pk y.port I_PORT.ARB_HELD = 1 ∧
      layoutFor s.ledger.mram s.pk y.port = some l ∧ lineLow s.pk .a = false ∧ lineLow s.pk .b = false ∧ activeLane s.pk = none ∧
      rd s.pk y.other.port HG_OWNER.OWNER = 0) ∧
    (∃ (y : Side) (x : Side) (l : Layout) (s : State), running s.pk y.port = true ∧ rd s.pk y.port I_PORT.ARB_HELD = 1 ∧
      layoutFor s.ledger.mram s.pk y.port = some l ∧ lineLow s.pk x = true ∧ lineLow s.pk x.other = false ∧ activeLane s.pk = none ∧
      rd s.pk .sw I_PKG.SWO_FROM = 0 ∧ s.pk.taken = none ∧ rd s.pk .sw LYT_STATUS.PHASE ≠ 4 ∧ rd s.pk y.other.port HG_OWNER.OWNER ≠ x.other.num + 1) ∧
    (∃ (y : Side) (s : State), (running s.pk y.port = false ∨ rd s.pk y.port I_PORT.ARB_HELD = 0 ∨ layoutFor s.ledger.mram s.pk y.port = none)) :=
  ⟨⟨⟨.pa, 1, 9⟩, List.replicate 32 0, .a, wst [(.sw, LYT_STATUS.STAGED_VERIFIED, 0, 1), (.hb, HG_STATUS.LANE_STATE, 0, 3), (.hb, I_DIE.RUN, 0, 2),
    (.sw, I_DIE.RUN, 0, 2), (.pa, I_DIE.RUN, 0, 2), (.pa, I_HST.OPEN, 1, 1), (.pa, I_HST.ROLE, 1, 3), (.sw, HST_SLOT.OPEN, 1, 1), (.sw, HST_SLOT.ROLE, 1, 3), (.pb, I_DIE.RUN, 0, 2), (.ld, I_DIE.RUN, 0, 2), (.ha, HG_STATUS.LANE_STATE, 0, 4), (.hb, HG_STATUS.LANE_STATE, 0, 3)], by decide +kernel⟩,
    ⟨⟨.pa, 1, 9⟩, List.replicate 32 0, wst [(.sw, LYT_STATUS.STAGED_VERIFIED, 0, 1), (.sw, I_DIE.RUN, 0, 2), (.pa, I_DIE.RUN, 0, 2),
      (.pa, I_HST.OPEN, 1, 1), (.pa, I_HST.ROLE, 1, 3), (.sw, HST_SLOT.OPEN, 1, 1), (.sw, HST_SLOT.ROLE, 1, 3), (.pb, I_DIE.RUN, 0, 2), (.ld, I_DIE.RUN, 0, 2), (.sw, LYT_STATUS.STAGED_VERIFIED, 0, 1)], by decide +kernel⟩,
    ⟨⟨.pa, 1, 9⟩, List.replicate 32 0, wst [(.sw, LYT_STATUS.STAGED_VERIFIED, 0, 0), (.sw, I_DIE.RUN, 0, 2), (.pa, I_DIE.RUN, 0, 2),
      (.pa, I_HST.OPEN, 1, 1), (.pa, I_HST.ROLE, 1, 3), (.sw, HST_SLOT.OPEN, 1, 1), (.sw, HST_SLOT.ROLE, 1, 3)], by decide +kernel⟩,
    ⟨⟨.pa, 1, 9⟩, wst [(.sw, I_DIE.RUN, 0, 2), (.pa, I_DIE.RUN, 0, 2), (.pa, I_HST.OPEN, 1, 1), (.pa, I_HST.ROLE, 1, 3), (.sw, HST_SLOT.OPEN, 1, 1),
      (.sw, HST_SLOT.ROLE, 1, 3), (.sw, LYT_STATUS.PHASE, 0, 3), (.sw, LYT_STATUS.TARGET_B, 0, 1), (.hb, HG_STATUS.LANE_STATE, 0, 2)], by decide +kernel⟩,
    ⟨wst [(.sw, LYT_STATUS.PHASE, 0, 1), (.sw, I_DIE.RUN, 0, 2), (.pa, I_DIE.RUN, 0, 2), (.pb, I_DIE.RUN, 0, 2),
      (.ld, I_DIE.RUN, 0, 2)], by decide +kernel⟩,
    ⟨wst [], by decide +kernel⟩,
    ⟨wst [(.sw, LYT_STATUS.PHASE, 0, 3), (.sw, I_DIE.RUN, 0, 2), (.sw, LYT_STATUS.TARGET_B, 0, 1), (.hb, I_DIE.RUN, 0, 2),
      (.hb, HG_STATUS.LANE_STATE, 0, 3), (.hb, I_LANE.READY_TICKS, 0, 3000000), (.hb, SOL_CONSEC.OPT_RUN, 0, 10)], by decide +kernel⟩,
    ⟨wst [], by decide +kernel⟩,
    ⟨.a, wst [(.sw, LYT_STATUS.PHASE, 0, 4), (.sw, LYT_STATUS.TARGET_B, 0, 1), (.ha, HG_STATUS.LANE_STATE, 0, 4), (.sw, I_DIE.RUN, 0, 2),
      (.sw, I_DIE.RUN, 0, 2), (.ha, I_DIE.RUN, 0, 2), (.hb, I_DIE.RUN, 0, 2), (.sw, LYT_STATUS.TARGET_B, 0, 1), (.hb, HG_STATUS.LANE_STATE, 0, 2), (.hb, HG_STATUS.ARMED, 0, 1), (.hb, I_LANE.LYT_RDY, 0, 1)], by decide +kernel⟩,
    ⟨wst [(.sw, I_DIE.RUN, 0, 2), (.sw, LYT_STATUS.PHASE, 0, 2), (.sw, LYT_STATUS.PHASE, 0, 3),
      (.sw, TIM_NOW.NOW, 0, 9000000000000000)], by decide +kernel⟩,
    ⟨wst [], by decide +kernel⟩,
    ⟨wst [(.sw, I_DIE.RUN, 0, 2), (.sw, I_LYT.BOOT, 0, 1), (.ha, I_DIE.RUN, 0, 2), (.pa, I_DIE.RUN, 0, 2),
      (.ha, HG_STATUS.LANE_STATE, 0, 1)], by decide +kernel⟩,
    ⟨wst [], by decide +kernel⟩,
    ⟨.a, layoutOf (imageAt [] layoutBase), wst [(.pa, I_DIE.RUN, 0, 2), (.pa, I_PORT.ARB_HELD, 0, 1), (.pb, HG_OWNER.OWNER, 0, 0),
      (.sw, I_DIE.RUN, 0, 2), (.sw, LYT_STATUS.CURRENT_VALID, 0, 1)], by decide +kernel, by decide +kernel, rfl, by decide +kernel, by decide +kernel, by decide +kernel, by decide +kernel⟩,
    ⟨.a, .b, layoutOf (imageAt [] layoutBase), wst [(.pa, I_DIE.RUN, 0, 2), (.pa, I_PORT.ARB_HELD, 0, 1), (.sw, I_PKG.SWO_FROM, 0, 0),
      (.sw, I_DIE.RUN, 0, 2), (.sw, LYT_STATUS.CURRENT_VALID, 0, 1), (.hb, I_DIE.RUN, 0, 2), (.sw, I_PKG.LINE_LOW, 1, 1)], by decide +kernel, by decide +kernel, rfl, by decide +kernel, by decide +kernel, by decide +kernel, by decide +kernel, by decide +kernel, by decide +kernel, by decide +kernel⟩,
    ⟨.a, wst [], by decide +kernel⟩⟩

theorem test_StewardSilenceIsMarkedAndItsRestartLosesItsIntake :
    (∃ (s : State), running s.pk .sw = true) ∧
    (∃ (s : State), running s.pk .sw = false) ∧
    (∃ (y : Side) (s : State), running s.pk y.port = true ∧ rd s.pk y.port I_DIE.STEWARD_SILENT = 0 ∧
      rd s.pk y.port I_PORT.BEAT_AT + 10000000 ≤ now s.pk y.port ∧
      (rd s.pk y.port I_PORT.ANNOUNCED = 0 ∨ rd s.pk y.port I_PORT.ANNOUNCED_AT + 3000000000 ≤ now s.pk y.port)) ∧
    (∃ (y : Side) (s : State), running s.pk y.port = true ∧ rd s.pk y.port I_DIE.STEWARD_SILENT = 0 ∧
      rd s.pk y.port I_PORT.BEAT_AT + 10000000 ≤ now s.pk y.port ∧ rd s.pk y.port I_PORT.ANNOUNCED = 1 ∧
      now s.pk y.port < rd s.pk y.port I_PORT.ANNOUNCED_AT + 3000000000) ∧
    (∃ (y : Side) (s : State), (running s.pk y.port = false ∨ rd s.pk y.port I_DIE.STEWARD_SILENT = 1 ∨ now s.pk y.port < rd s.pk y.port I_PORT.BEAT_AT + 10000000)) ∧
    (∃ (y : Side) (s : State), running s.pk y.port = true ∧ rd s.pk y.port I_DIE.STEWARD_SILENT = 0 ∧ rd s.pk y.port I_PORT.ANNOUNCED = 1 ∧
      rd s.pk y.port I_PORT.ANNOUNCED_AT + 3000000000 ≤ now s.pk y.port) ∧
    (∃ (y : Side) (s : State), (running s.pk y.port = false ∨ rd s.pk y.port I_DIE.STEWARD_SILENT = 1 ∨ rd s.pk y.port I_PORT.ANNOUNCED = 0 ∨ now s.pk y.port < rd s.pk y.port I_PORT.ANNOUNCED_AT + 3000000000)) ∧
    (∃ (s : State), running s.pk .sw = true) ∧
    (∃ (s : State), running s.pk .sw = false) ∧
    (∃ (s : State), rd s.pk .sw I_DIE.RUN = 3 ∧ rd s.pk .sw I_STW.POWER_UP = 0) ∧
    (∃ (s : State), (rd s.pk .sw I_DIE.RUN ≠ 3 ∨ rd s.pk .sw I_STW.POWER_UP = 1)) :=
  ⟨⟨wst [(.sw, I_DIE.RUN, 0, 2), (.pa, I_DIE.RUN, 0, 2), (.pa, I_DIE.STEWARD_SILENT, 0, 1), (.pa, TIM_NOW.NOW, 0, 70000)], by decide +kernel⟩,
    ⟨wst [], by decide +kernel⟩,
    ⟨.a, wst [(.pa, I_DIE.RUN, 0, 2), (.pa, I_DIE.STEWARD_SILENT, 0, 0), (.pa, I_PORT.ANNOUNCED, 0, 0),
      (.pa, TIM_NOW.NOW, 0, 10000000)], by decide +kernel⟩,
    ⟨.a, wst [(.pa, I_DIE.RUN, 0, 2), (.pa, I_DIE.STEWARD_SILENT, 0, 0), (.pa, I_PORT.ANNOUNCED, 0, 1),
      (.pa, TIM_NOW.NOW, 0, 10000000)], by decide +kernel⟩,
    ⟨.a, wst [], by decide +kernel⟩,
    ⟨.a, wst [(.pa, I_DIE.RUN, 0, 2), (.pa, I_DIE.STEWARD_SILENT, 0, 0), (.pa, I_PORT.ANNOUNCED, 0, 1),
      (.pa, TIM_NOW.NOW, 0, 3000000000)], by decide +kernel⟩,
    ⟨.a, wst [], by decide +kernel⟩,
    ⟨wst [(.sw, I_DIE.RUN, 0, 2)], by decide +kernel⟩,
    ⟨wst [], by decide +kernel⟩,
    ⟨wst [(.sw, I_DIE.RUN, 0, 3), (.sw, I_STW.POWER_UP, 0, 0), (.sw, I_STW.POWER_UP, 0, 0), (.pa, I_DIE.RUN, 0, 2),
      (.ld, I_DIE.RUN, 0, 2)], by decide +kernel⟩,
    ⟨wst [], by decide +kernel⟩⟩

theorem test_SurveysAndFaultOccurrencesAreRecorded :
    (∃ (r : Nat) (n : Nat) (s : State), running s.pk .sw = true ∧ r < 12 ∧ periodDue s.pk .sw I_PWR.DUE r 1000000 = true ∧
      railNominal s.pk r = some n) ∧
    (∃ (r : Nat) (s : State), running s.pk .sw = true ∧ r < 12 ∧ periodDue s.pk .sw I_PWR.DUE r 1000000 = true ∧ railNominal s.pk r = none) ∧
    (∃ (r : Nat) (s : State), periodDue s.pk .sw I_PWR.DUE r 1000000 = false) ∧
    (∃ (s : State), running s.pk .sw = false) ∧
    (∃ (r : Nat) (k : Nat), 12 ≤ r ∧ 15 ≤ k) ∧
    (∃ (k : Nat) (d : Die) (s : State), running s.pk .sw = true ∧ k < 15 ∧ dieOf (rdI s.pk .sw STW_TEMP.DIE k) = some d ∧
      stewardReaches s.pk d = true) ∧
    (∃ (k : Nat) (s : State), running s.pk .sw = true ∧ k < 4) ∧
    (∃ (d : Die) (kind : Nat) (i : Nat) (s : State), running s.pk d = true ∧ resourceExists d kind i = true ∧ resourceRetired s.pk d kind i = false) ∧
    (∃ (d : Die) (kind : Nat) (i : Nat) (s : State), (running s.pk d = false ∨ resourceExists d kind i = false)) :=
  ⟨⟨0, 750, wst [(.sw, I_DIE.RUN, 0, 2), (.sw, I_PWR.WARN_RUN, 0, 9), (.sw, I_PWR.FAULT_RUN, 0, 8)], by decide +kernel⟩,
    ⟨10, wst [(.sw, I_DIE.RUN, 0, 2)], by decide +kernel⟩,
    ⟨0, wst [(.sw, I_PWR.DUE, 0, 1000)], by decide +kernel⟩,
    ⟨wst [], by decide +kernel⟩,
    ⟨12, 15, by decide +kernel⟩,
    ⟨0, .sw, wst [(.sw, I_DIE.RUN, 0, 2)], by decide +kernel⟩,
    ⟨2, wst [(.sw, I_DIE.RUN, 0, 2)], by decide +kernel⟩,
    ⟨.ha, 1, 3, wst [(.ha, I_DIE.RUN, 0, 2), (.ha, I_DIE.PERM_COUNT, 0, 3)], by decide +kernel⟩,
    ⟨.ha, 0, 0, wst [], by decide +kernel⟩⟩

theorem test_HealthRequestsExportMarkAcknowledgeAndClear :
    (∃ (r : Req) (b : List Nat) (s : State), serves s.pk r 0x0500 0 b = true ∧ b.length = 6 ∧ (1 ≤ leNat (b.drop 4) ∧ leNat (b.drop 4) ≤ 4096) ∧
      ledgerUp s.pk = true ∧ xferOf s.pk r.slot = none) ∧
    (∃ (r : Req) (b : List Nat) (s : State), serves s.pk r 0x0501 2 b = true ∧ b.length = 4 ∧ ledgerUp s.pk = true) ∧
    (∃ (r : Req) (n : Nat) (d : Die) (s : State), serves s.pk r 0x0510 2 [n] = true ∧ dieOf n = some d ∧ stewardReaches s.pk d = true ∧
      running s.pk d = true) ∧
    (∃ (r : Req) (n : Nat) (d : Die) (s : State), serves s.pk r 0x0510 2 [n] = true ∧ dieOf n = some d ∧ stewardReaches s.pk d = false) ∧
    (∃ (r : Req) (d : Nat) (kind : Nat) (i : Nat) (b : List Nat) (s : State), serves s.pk r 0x0520 3 b = true ∧ b.length = 4 ∧ b.take 2 = [d, kind] ∧
      leNat (b.drop 2) = i ∧ (d < 8 ∧ kind < 8) ∧ ledgerUp s.pk = true) ∧
    (∃ (r : Req) (b : List Nat) (i : Instr) (op : Nat) (least : Nat) (s : State), (i, op, least) ∈ [(Instr.logExport r b, 0x0500, 0),
      (.logMark r b, 0x0501, 2), (.retireClear r b, 0x0520, 3)] ∧ serves s.pk r op least b = true ∧ ((op = 0x0500 ∧ b.length = 6 ∧ 1 ≤ leNat (b.drop 4) ∧ leNat (b.drop 4) ≤ 4096) ∨ (op = 0x0501 ∧ b.length = 4) ∨ (op = 0x0520 ∧ b.length = 4 ∧ b.getD 0 0 < 8 ∧ b.getD 1 0 < 8)) ∧ ledgerUp s.pk = false) :=
  ⟨⟨⟨.pa, 1, 9⟩, [2, 0, 0, 0, 2, 0], wst [(.sw, I_DIE.RUN, 0, 2), (.pa, I_DIE.RUN, 0, 2), (.pa, I_HST.OPEN, 1, 1), (.pa, I_HST.ROLE, 1, 3),
    (.sw, HST_SLOT.OPEN, 1, 1), (.sw, HST_SLOT.ROLE, 1, 3), (.pb, I_DIE.RUN, 0, 2), (.ld, I_DIE.RUN, 0, 2), (.sw, LOG_NEXT.NEXT, 0, 4)] |> fun s => { s with ledger := ⟨[(ringBase + 130, 7), (ringBase + 192, 9)]⟩ }, by decide +kernel⟩,
    ⟨⟨.pa, 1, 9⟩, [2, 1, 0, 0], wst [(.sw, I_DIE.RUN, 0, 2), (.pa, I_DIE.RUN, 0, 2), (.pa, I_HST.OPEN, 1, 1), (.pa, I_HST.ROLE, 1, 3),
      (.sw, HST_SLOT.OPEN, 1, 1), (.sw, HST_SLOT.ROLE, 1, 3), (.pb, I_DIE.RUN, 0, 2), (.ld, I_DIE.RUN, 0, 2)], by decide +kernel⟩,
    ⟨⟨.pa, 1, 9⟩, 1, .ha, wst [(.ha, I_DIE.RUN, 0, 2), (.sw, I_DIE.RUN, 0, 2), (.pa, I_DIE.RUN, 0, 2), (.pa, I_HST.OPEN, 1, 1),
      (.pa, I_HST.ROLE, 1, 3), (.sw, HST_SLOT.OPEN, 1, 1), (.sw, HST_SLOT.ROLE, 1, 3), (.pb, I_DIE.RUN, 0, 2), (.ld, I_DIE.RUN, 0, 2), (.ha, I_DIE.NME, 0, 1), (.sw, STW_STATUS.NME_PENDING, 0, 1)], by decide +kernel⟩,
    ⟨⟨.pa, 1, 9⟩, 1, .ha, wst [(.sw, I_DIE.RUN, 0, 2), (.pa, I_DIE.RUN, 0, 2), (.pa, I_HST.OPEN, 1, 1), (.pa, I_HST.ROLE, 1, 3),
      (.sw, HST_SLOT.OPEN, 1, 1), (.sw, HST_SLOT.ROLE, 1, 3), (.pb, I_DIE.RUN, 0, 2), (.ld, I_DIE.RUN, 0, 2), (.ha, I_DIE.NME, 0, 1)], by decide +kernel⟩,
    ⟨⟨.pa, 1, 9⟩, 1, 1, 7, [1, 1, 7, 0], wst [(.sw, I_DIE.RUN, 0, 2), (.pa, I_DIE.RUN, 0, 2), (.pa, I_HST.OPEN, 1, 1), (.pa, I_HST.ROLE, 1, 3),
      (.sw, HST_SLOT.OPEN, 1, 1), (.sw, HST_SLOT.ROLE, 1, 3), (.pb, I_DIE.RUN, 0, 2), (.ld, I_DIE.RUN, 0, 2), (.sw, STW_STATUS.RETIRED, 0, 1), (.sw, STW_RET.DIE, 0, 1), (.sw, STW_RET.KIND, 0, 1), (.sw, STW_RET.INDEX, 0, 7)], by decide +kernel⟩,
    ⟨⟨.pa, 1, 9⟩, [1, 1, 7, 0], .retireClear ⟨.pa, 1, 9⟩ [1, 1, 7, 0], 0x0520, 3, wst [(.sw, I_DIE.RUN, 0, 2), (.pa, I_DIE.RUN, 0, 2),
      (.pa, I_HST.OPEN, 1, 1), (.pa, I_HST.ROLE, 1, 3), (.sw, HST_SLOT.OPEN, 1, 1), (.sw, HST_SLOT.ROLE, 1, 3)], by decide +kernel⟩⟩

theorem test_UpdatesBeginReceiveAndVerify :
    (∃ (r : Req) (b : List Nat) (t : Nat) (src : Nat) (s : State), serves s.pk r 0x0400 3 b = true ∧ b.length = 6 ∧ b.take 2 = [t, src] ∧ (t ≤ 2 ∧
      src ≤ 1 ∧ (t = 2 → src = 0)) ∧ (1 ≤ leNat (b.drop 2) ∧ leNat (b.drop 2) ≤ imageMax t) ∧ beginRefused s.pk t src = none ∧
      (t = 2 ∨ isActive s.pk (sideOf t) = false ∨ swapAnswer s.pk (sideOf t) 13 = .accepted)) ∧
    (∃ (r : Req) (b : List Nat) (t : Nat) (src : Nat) (s : State), serves s.pk r 0x0400 3 b = true ∧ b.length = 6 ∧ b.take 2 = [t, src] ∧ (t ≤ 2 ∧
      src ≤ 1 ∧ (t = 2 → src = 0)) ∧ (1 ≤ leNat (b.drop 2) ∧ leNat (b.drop 2) ≤ imageMax t) ∧
      (othersRest s.pk t = false ∨ busySlot (slotSt s.pk t) = true)) ∧
    (∃ (r : Req) (b : List Nat) (k : Nat) (j : Nat) (t : Nat) (s : State), serves s.pk r 0x0401 3 b = true ∧ b.length = 1032 ∧ leNat (b.take 2) = k ∧
      b.getD 2 0 = j ∧ (j ≤ 3 ∧ b.getD 3 0 = 0) ∧ rd s.pk .sw UPD_STATUS.TARGET = t ∧ (t ≠ 3 ∧ slotSt s.pk t = 1) ∧ rd s.pk .sw I_UPD.SRC = 0 ∧
      k < blocksOf (rdI s.pk .sw I_UPD.LEN t) ∧ ledgerUp s.pk = true ∧
      wholeBlock (putPart ⟨k, j, leAt b 4 4, b.drop 8, now s.pk .sw⟩ s.pk) k = none) ∧
    (∃ (r : Req) (b : List Nat) (k : Nat) (j : Nat) (t : Nat) (all : List Nat) (s : State), serves s.pk r 0x0401 3 b = true ∧ b.length = 1032 ∧
      leNat (b.take 2) = k ∧ b.getD 2 0 = j ∧ (j ≤ 3 ∧ b.getD 3 0 = 0) ∧ rd s.pk .sw UPD_STATUS.TARGET = t ∧ (t ≠ 3 ∧ slotSt s.pk t = 1) ∧
      rd s.pk .sw I_UPD.SRC = 0 ∧ k < blocksOf (rdI s.pk .sw I_UPD.LEN t) ∧ ledgerUp s.pk = true ∧
      wholeBlock (putPart ⟨k, j, leAt b 4 4, b.drop 8, now s.pk .sw⟩ s.pk) k = some all) ∧
    (∃ (r : Req) (b : List Nat) (k : Nat) (j : Nat) (t : Nat) (all : List Nat) (s : State), serves s.pk r 0x0401 3 b = true ∧ b.length = 1032 ∧
      leNat (b.take 2) = k ∧ b.getD 2 0 = j ∧ (j ≤ 3 ∧ b.getD 3 0 = 0) ∧ rd s.pk .sw UPD_STATUS.TARGET = t ∧ (t ≠ 3 ∧ slotSt s.pk t = 1) ∧
      rd s.pk .sw I_UPD.SRC = 0 ∧ k < blocksOf (rdI s.pk .sw I_UPD.LEN t) ∧ ledgerUp s.pk = true ∧ rdI s.pk .sw I_UPD.LEN t ≤ imageMax t ∧
      wholeBlock (putPart ⟨k, j, leAt b 4 4, b.drop 8, now s.pk .sw⟩ s.pk) k = some all ∧ Memory.wf s.ledger.mram = true ∧
      (s.pk.log.get .sw).hold = []) ∧
    (∃ (s : State), running s.pk .sw = true) ∧
    (∃ (r : Req) (t : Nat) (s : State), serves s.pk r 0x0402 3 [] = true ∧ commitWaits s.pk = false ∧ rd s.pk .sw UPD_STATUS.TARGET = t ∧ (t ≠ 3 ∧
      slotSt s.pk t = 1) ∧ blocksOf (rdI s.pk .sw I_UPD.LEN t) ≤ rd s.pk .sw UPD_STATUS.BLOCKS ∧ ledgerUp s.pk = true) ∧
    (∃ (s : State), commitWaits s.pk = true) ∧
    (∃ (r : Req) (b : List Nat) (i : Instr) (op : Nat) (s : State), (i, op) ∈ [(Instr.updData r b, 0x0401), (.updVerify r b, 0x0402)] ∧
      serves s.pk r op 3 b = true ∧ commitWaits s.pk = false ∧ ((op = 0x0401 ∧ b.length = 1032 ∧ b.getD 2 0 ≤ 3 ∧ b.getD 3 0 = 0) ∨ (op = 0x0402 ∧
      b = [])) ∧ (rd s.pk .sw UPD_STATUS.TARGET = 3 ∨ slotSt s.pk (rd s.pk .sw UPD_STATUS.TARGET) ≠ 1)) ∧
    (∃ (t : Nat) (s : State), running s.pk .sw = true ∧ rd s.pk .sw I_UPD.VERIFYING = 1 ∧ rd s.pk .sw UPD_STATUS.TARGET = t ∧ (t ≠ 3 ∧
      slotSt s.pk t = 2) ∧ ledgerUp s.pk = true) ∧
    (∃ (s : State), (running s.pk .sw = false ∨ rd s.pk .sw I_UPD.VERIFYING = 0 ∨ ledgerUp s.pk = false)) :=
  ⟨⟨⟨.pa, 1, 9⟩, [0, 0, 0, 16, 0, 0], 0, 0, wst [(.sw, I_DIE.RUN, 0, 2), (.pa, I_DIE.RUN, 0, 2), (.pa, I_HST.OPEN, 1, 1), (.pa, I_HST.ROLE, 1, 3),
    (.sw, HST_SLOT.OPEN, 1, 1), (.sw, HST_SLOT.ROLE, 1, 3), (.pb, I_DIE.RUN, 0, 2), (.ld, I_DIE.RUN, 0, 2), (.ha, HG_STATUS.LANE_STATE, 0, 3), (.hb, HG_STATUS.LANE_STATE, 0, 4)], by decide +kernel⟩,
    ⟨⟨.pa, 1, 9⟩, [0, 0, 0, 16, 0, 0], 0, 0, wst [(.sw, I_DIE.RUN, 0, 2), (.pa, I_DIE.RUN, 0, 2), (.pa, I_HST.OPEN, 1, 1), (.pa, I_HST.ROLE, 1, 3),
      (.sw, HST_SLOT.OPEN, 1, 1), (.sw, HST_SLOT.ROLE, 1, 3), (.sw, UPD_SLOT_B.STATE, 0, 4)], by decide +kernel⟩,
    ⟨⟨.pa, 1, 9⟩, [0, 0, 1, 0, 0, 0, 0, 0] ++ List.replicate 1024 3, 0, 1, 1, wst [(.sw, UPD_STATUS.TARGET, 0, 1), (.sw, I_UPD.SRC, 0, 0),
      (.sw, I_DIE.RUN, 0, 2), (.pa, I_DIE.RUN, 0, 2), (.pa, I_HST.OPEN, 1, 1), (.pa, I_HST.ROLE, 1, 3), (.sw, HST_SLOT.OPEN, 1, 1), (.sw, HST_SLOT.ROLE, 1, 3), (.pb, I_DIE.RUN, 0, 2), (.ld, I_DIE.RUN, 0, 2), (.sw, UPD_SLOT_B.STATE, 0, 1), (.sw, I_UPD.LEN, 1, 4096)], by decide +kernel⟩,
    ⟨⟨.pa, 1, 9⟩, [0, 0, 1, 0, 0, 0, 0, 0] ++ List.replicate 1024 3, 0, 1, 1, List.replicate 1024 3, wst [(.sw, UPD_STATUS.TARGET, 0, 1),
      (.sw, I_UPD.SRC, 0, 0), (.sw, I_DIE.RUN, 0, 2), (.pa, I_DIE.RUN, 0, 2), (.pa, I_HST.OPEN, 1, 1), (.pa, I_HST.ROLE, 1, 3), (.sw, HST_SLOT.OPEN, 1, 1), (.sw, HST_SLOT.ROLE, 1, 3), (.pb, I_DIE.RUN, 0, 2), (.ld, I_DIE.RUN, 0, 2), (.sw, UPD_SLOT_B.STATE, 0, 1), (.sw, I_UPD.LEN, 1, 4096)] |> fun s => { s with pk := { s.pk with parts := [0, 2, 3].map (fun j => ⟨0, j, 0, [], 0⟩) } }, by decide +kernel⟩,
    ⟨⟨.pa, 1, 9⟩, [0, 0, 1, 0] ++ leBytes 4 (crc32c (List.replicate 5 3)) ++ List.replicate 1024 3, 0, 1, 1, List.replicate 1024 3, wst [(.sw, UPD_STATUS.TARGET, 0, 1), (.sw, I_UPD.SRC, 0, 0), (.sw, I_DIE.RUN, 0, 2), (.pa, I_DIE.RUN, 0, 2), (.pa, I_HST.OPEN, 1, 1), (.pa, I_HST.ROLE, 1, 3), (.sw, HST_SLOT.OPEN, 1, 1), (.sw, HST_SLOT.ROLE, 1, 3), (.pb, I_DIE.RUN, 0, 2), (.ld, I_DIE.RUN, 0, 2), (.sw, UPD_SLOT_B.STATE, 0, 1), (.sw, I_UPD.LEN, 1, 5)] |> fun s => { s with pk := { s.pk with parts := [0, 2, 3].map (fun j => ⟨0, j, 0, [], 0⟩) } }, by decide +kernel⟩,
    ⟨wst [(.sw, I_DIE.RUN, 0, 2)] |> fun s => { s with pk := { s.pk with parts := [⟨0, 2, 0, [3], 0⟩] } }, by decide +kernel⟩,
    ⟨⟨.pa, 1, 9⟩, 0, wst [(.sw, UPD_STATUS.TARGET, 0, 0), (.sw, I_DIE.RUN, 0, 2), (.pa, I_DIE.RUN, 0, 2), (.pa, I_HST.OPEN, 1, 1),
      (.pa, I_HST.ROLE, 1, 3), (.sw, HST_SLOT.OPEN, 1, 1), (.sw, HST_SLOT.ROLE, 1, 3), (.pb, I_DIE.RUN, 0, 2), (.ld, I_DIE.RUN, 0, 2), (.sw, UPD_SLOT_A.STATE, 0, 1), (.sw, I_UPD.LEN, 0, 4096), (.sw, UPD_STATUS.BLOCKS, 0, 1)], by decide +kernel⟩,
    ⟨wst [(.sw, TXN_STATUS.STATE, 0, 2)], by decide +kernel⟩,
    ⟨⟨.pa, 1, 9⟩, [], .updVerify ⟨.pa, 1, 9⟩ [], 0x0402, wst [(.sw, UPD_STATUS.TARGET, 0, 3), (.sw, I_DIE.RUN, 0, 2), (.pa, I_DIE.RUN, 0, 2),
      (.pa, I_HST.OPEN, 1, 1), (.pa, I_HST.ROLE, 1, 3), (.sw, HST_SLOT.OPEN, 1, 1), (.sw, HST_SLOT.ROLE, 1, 3)], by decide +kernel⟩,
    ⟨0, wst [(.sw, I_DIE.RUN, 0, 2), (.sw, I_UPD.VERIFYING, 0, 1), (.sw, UPD_STATUS.TARGET, 0, 0), (.pa, I_DIE.RUN, 0, 2), (.pb, I_DIE.RUN, 0, 2),
      (.ld, I_DIE.RUN, 0, 2), (.sw, UPD_SLOT_A.STATE, 0, 2)], by decide +kernel⟩,
    ⟨wst [], by decide +kernel⟩⟩

theorem test_TrialsAreConfirmedFailedOrAborted :
    (∃ (r : Req) (b : List Nat) (t : Nat) (x : Side) (s : State), serves s.pk r 0x0403 3 b = true ∧ b.length = 32 ∧ rd s.pk .sw UPD_STATUS.TARGET = t ∧
      t = x.num ∧ slotSt s.pk t = 2 ∧ rd s.pk .sw UPD_STATUS.VERIFIED = 1 ∧ rdI s.pk .sw I_UPD.HASH t = leNat b ∧ ledgerUp s.pk = true ∧
      isActive s.pk x = false) ∧
    (∃ (r : Req) (b : List Nat) (s : State), serves s.pk r 0x0403 3 b = true ∧ b.length = 32 ∧ rd s.pk .sw UPD_STATUS.TARGET = 2 ∧ slotSt s.pk 2 = 2 ∧
      rd s.pk .sw UPD_STATUS.VERIFIED = 1 ∧ rdI s.pk .sw I_UPD.HASH 2 = leNat b ∧ ledgerUp s.pk = true) ∧
    (∃ (r : Req) (b : List Nat) (s : State), serves s.pk r 0x0403 3 b = true ∧ b.length = 32 ∧
      (rd s.pk .sw UPD_STATUS.TARGET = 3 ∨ slotSt s.pk (rd s.pk .sw UPD_STATUS.TARGET) ≠ 2 ∨ rd s.pk .sw UPD_STATUS.VERIFIED = 0 ∨ rdI s.pk .sw I_UPD.HASH (rd s.pk .sw UPD_STATUS.TARGET) ≠ leNat b)) ∧
    (∃ (x : Side) (s : State), slotState s.pk x = 4 ∧ laneState s.pk x = 2 ∧ isActive s.pk x.other = true ∧ trialDiffers s.pk x = true ∧
      rd s.pk x.helm I_LANE.UPD_RDY = 0 ∧ rd s.pk .sw UPD_CFG.UPD_SETTLE * 1000 ≤ rd s.pk x.helm I_LANE.READY_TICKS ∧
      10 ≤ rd s.pk x.helm SOL_CONSEC.OPT_RUN) ∧
    (∃ (x : Side) (s : State), (slotState s.pk x ≠ 4 ∨ laneState s.pk x ≠ 2 ∨ isActive s.pk x.other = false ∨ trialDiffers s.pk x = false ∨ rd s.pk x.helm I_LANE.UPD_RDY = 1 ∨ rd s.pk x.helm I_LANE.READY_TICKS < rd s.pk .sw UPD_CFG.UPD_SETTLE * 1000 ∨ rd s.pk x.helm SOL_CONSEC.OPT_RUN < 10)) ∧
    (∃ (r : Req) (t : Nat) (s : State), serves s.pk r 0x0404 3 [t] = true ∧ t ≤ 2 ∧ mayConfirm s.pk t = true ∧ ledgerUp s.pk = true) ∧
    (∃ (r : Req) (t : Nat) (s : State), serves s.pk r 0x0404 3 [t] = true ∧ t ≤ 2 ∧ mayConfirm s.pk t = false) ∧
    (∃ (r : Req) (t : Nat) (s : State), serves s.pk r 0x0405 3 [] = true ∧ rd s.pk .sw UPD_STATUS.TARGET = t ∧ (t ≠ 3 ∧
      (slotSt s.pk t = 1 ∨ slotSt s.pk t = 2)) ∧ ledgerUp s.pk = true) ∧
    (∃ (r : Req) (t : Nat) (s : State), serves s.pk r 0x0405 3 [] = true ∧ rd s.pk .sw UPD_STATUS.TARGET = t ∧ (t = 3 ∨ (slotSt s.pk t ≠ 1 ∧
      slotSt s.pk t ≠ 2))) ∧
    (∃ (x : Side) (s : State), running s.pk .sw = true ∧ slotState s.pk x = 4 ∧ trialEnd s.pk x.num ≤ now s.pk .sw) ∧
    (∃ (x : Side) (s : State), (running s.pk .sw = false ∨ slotState s.pk x ≠ 4 ∨ now s.pk .sw < trialEnd s.pk x.num)) ∧
    (∃ (s : State), running s.pk .sw = true ∧ slotSt s.pk 2 = 4 ∧ trialEnd s.pk 2 ≤ now s.pk .sw) ∧
    (∃ (s : State), (running s.pk .sw = false ∨ slotSt s.pk 2 ≠ 4 ∨ now s.pk .sw < trialEnd s.pk 2)) ∧
    (∃ (x : Side) (j : Two JCopy), journalNow j = some x ∧ (j.get x).gen + 1 < 2 ^ 32) :=
  ⟨⟨⟨.pa, 1, 9⟩, List.replicate 32 0, 0, .a, wst [(.sw, UPD_STATUS.TARGET, 0, 0), (.sw, UPD_STATUS.VERIFIED, 0, 1), (.sw, I_DIE.RUN, 0, 2),
    (.pa, I_DIE.RUN, 0, 2), (.pa, I_HST.OPEN, 1, 1), (.pa, I_HST.ROLE, 1, 3), (.sw, HST_SLOT.OPEN, 1, 1), (.sw, HST_SLOT.ROLE, 1, 3), (.pb, I_DIE.RUN, 0, 2), (.ld, I_DIE.RUN, 0, 2), (.sw, UPD_SLOT_A.STATE, 0, 2), (.ha, HG_STATUS.LANE_STATE, 0, 3)], by decide +kernel⟩,
    ⟨⟨.pa, 1, 9⟩, List.replicate 32 0, wst [(.sw, UPD_STATUS.TARGET, 0, 2), (.sw, UPD_STATUS.VERIFIED, 0, 1), (.sw, I_DIE.RUN, 0, 2),
      (.pa, I_DIE.RUN, 0, 2), (.pa, I_HST.OPEN, 1, 1), (.pa, I_HST.ROLE, 1, 3), (.sw, HST_SLOT.OPEN, 1, 1), (.sw, HST_SLOT.ROLE, 1, 3), (.pb, I_DIE.RUN, 0, 2), (.ld, I_DIE.RUN, 0, 2), (.sw, UPD_SLOT_SW.STATE, 0, 2)], by decide +kernel⟩,
    ⟨⟨.pa, 1, 9⟩, List.replicate 32 0, wst [(.sw, UPD_STATUS.TARGET, 0, 3), (.sw, I_DIE.RUN, 0, 2), (.pa, I_DIE.RUN, 0, 2), (.pa, I_HST.OPEN, 1, 1),
      (.pa, I_HST.ROLE, 1, 3), (.sw, HST_SLOT.OPEN, 1, 1), (.sw, HST_SLOT.ROLE, 1, 3)], by decide +kernel⟩,
    ⟨.a, wst [(.ha, HG_STATUS.LANE_STATE, 0, 2), (.ha, I_DIE.RUN, 0, 2), (.hb, HG_STATUS.LANE_STATE, 0, 4), (.ha, I_LANE.UPD_RDY, 0, 0),
      (.sw, UPD_SLOT_A.STATE, 0, 4), (.ha, I_LANE.DET_CLASS, 0, 1), (.ha, I_LANE.READY_TICKS, 0, 3000000), (.ha, SOL_CONSEC.OPT_RUN, 0, 10)], by decide +kernel⟩,
    ⟨.a, wst [], by decide +kernel⟩,
    ⟨⟨.pa, 1, 9⟩, 1, wst [(.sw, I_DIE.RUN, 0, 2), (.pa, I_DIE.RUN, 0, 2), (.pa, I_HST.OPEN, 1, 1), (.pa, I_HST.ROLE, 1, 3),
      (.sw, HST_SLOT.OPEN, 1, 1), (.sw, HST_SLOT.ROLE, 1, 3), (.pb, I_DIE.RUN, 0, 2), (.ld, I_DIE.RUN, 0, 2), (.sw, UPD_SLOT_B.STATE, 0, 4), (.sw, UPD_STATUS.UPD_READY, 0, 1), (.sw, UPD_SLOT_A.STATE, 0, 5), (.sw, UPD_SLOT_A.SECURITY_VERSION, 0, 3)], by decide +kernel⟩,
    ⟨⟨.pa, 1, 9⟩, 1, wst [(.sw, I_DIE.RUN, 0, 2), (.pa, I_DIE.RUN, 0, 2), (.pa, I_HST.OPEN, 1, 1), (.pa, I_HST.ROLE, 1, 3),
      (.sw, HST_SLOT.OPEN, 1, 1), (.sw, HST_SLOT.ROLE, 1, 3)], by decide +kernel⟩,
    ⟨⟨.pa, 1, 9⟩, 0, wst [(.sw, UPD_STATUS.TARGET, 0, 0), (.sw, I_DIE.RUN, 0, 2), (.pa, I_DIE.RUN, 0, 2), (.pa, I_HST.OPEN, 1, 1),
      (.pa, I_HST.ROLE, 1, 3), (.sw, HST_SLOT.OPEN, 1, 1), (.sw, HST_SLOT.ROLE, 1, 3), (.pb, I_DIE.RUN, 0, 2), (.ld, I_DIE.RUN, 0, 2), (.sw, UPD_SLOT_A.STATE, 0, 1)], by decide +kernel⟩,
    ⟨⟨.pa, 1, 9⟩, 0, wst [(.sw, UPD_STATUS.TARGET, 0, 0), (.sw, I_DIE.RUN, 0, 2), (.pa, I_DIE.RUN, 0, 2), (.pa, I_HST.OPEN, 1, 1),
      (.pa, I_HST.ROLE, 1, 3), (.sw, HST_SLOT.OPEN, 1, 1), (.sw, HST_SLOT.ROLE, 1, 3), (.sw, UPD_SLOT_A.STATE, 0, 4)], by decide +kernel⟩,
    ⟨.a, wst [(.sw, I_DIE.RUN, 0, 2), (.sw, UPD_SLOT_A.STATE, 0, 4), (.sw, TIM_NOW.NOW, 0, 9000000000000000)], by decide +kernel⟩,
    ⟨.a, wst [], by decide +kernel⟩,
    ⟨wst [(.sw, I_DIE.RUN, 0, 2), (.sw, UPD_SLOT_SW.STATE, 0, 4), (.sw, TIM_NOW.NOW, 0, 9000000000000000)], by decide +kernel⟩,
    ⟨wst [], by decide +kernel⟩,
    ⟨.a, ⟨⟨1, journalCrc [5], [5]⟩, ⟨0, journalCrc [], []⟩⟩, by simp [journalNow, JCopy.valid], by decide +kernel⟩⟩

theorem test_RestorationsStreamTheImageAndFusesAreBlown :
    (∃ (x : Side) (s : State), wantsRestore s.pk x = true ∧ rd s.pk .sw I_UPD.ON = 0 ∧ running s.pk x.other.helm = true ∧ 2 ≤ laneState s.pk x.other ∧
      ledgerFrom s.pk x.helm = true) ∧
    (∃ (x : Side) (s : State), (wantsRestore s.pk x = false ∨ rd s.pk .sw I_UPD.ON = 1 ∨ running s.pk x.other.helm = false ∨ laneState s.pk x.other < 2 ∨ ledgerFrom s.pk x.helm = false)) ∧
    (∃ (x : Side) (s : State), slotState s.pk x = 6 ∧ rd s.pk .sw I_UPD.ON = 1 ∧ rdI s.pk .sw I_UPD.LEN x.num ≤ 4 * rd s.pk .sw I_UPD.RESTORE_WORDS ∧
      ledgerFrom s.pk x.helm = true) ∧
    (∃ (x : Side) (s : State), (slotState s.pk x ≠ 6 ∨ rd s.pk .sw I_UPD.ON = 0 ∨ 4 * rd s.pk .sw I_UPD.RESTORE_WORDS < rdI s.pk .sw I_UPD.LEN x.num ∨ ledgerFrom s.pk x.helm = false)) ∧
    (∃ (r : Req) (b : List Nat) (n : Nat) (s : State), serves s.pk r 0x0410 3 b = true ∧ b.length = 32 ∧ rd s.pk .sw I_OTP.LYT_KEYS = n ∧ n < 4) ∧
    (∃ (r : Req) (b : List Nat) (s : State), serves s.pk r 0x0410 3 b = true ∧ b.length = 32 ∧ 4 ≤ rd s.pk .sw I_OTP.LYT_KEYS) :=
  ⟨⟨.a, wst [(.sw, I_UPD.ON, 0, 0), (.hb, I_DIE.RUN, 0, 2), (.pa, I_DIE.RUN, 0, 2), (.pb, I_DIE.RUN, 0, 2), (.ld, I_DIE.RUN, 0, 2),
    (.ha, I_DIE.RUN, 0, 2), (.hb, I_DIE.RUN, 0, 2), (.sw, UPD_SLOT_A.STATE, 0, 6), (.hb, HG_STATUS.LANE_STATE, 0, 4), (.ha, HG_STATUS.LANE_STATE, 0, 2)], by decide +kernel⟩,
    ⟨.a, wst [], by decide +kernel⟩,
    ⟨.a, wst [(.sw, I_UPD.ON, 0, 1), (.pa, I_DIE.RUN, 0, 2), (.pb, I_DIE.RUN, 0, 2), (.ld, I_DIE.RUN, 0, 2),
      (.sw, UPD_SLOT_A.STATE, 0, 6)], by decide +kernel⟩,
    ⟨.a, wst [], by decide +kernel⟩,
    ⟨⟨.pa, 1, 9⟩, List.replicate 32 7, 2, wst [(.sw, I_OTP.LYT_KEYS, 0, 2), (.sw, I_DIE.RUN, 0, 2), (.pa, I_DIE.RUN, 0, 2), (.pa, I_HST.OPEN, 1, 1),
      (.pa, I_HST.ROLE, 1, 3), (.sw, HST_SLOT.OPEN, 1, 1), (.sw, HST_SLOT.ROLE, 1, 3)], by decide +kernel⟩,
    ⟨⟨.pa, 1, 9⟩, List.replicate 32 7, wst [(.sw, I_DIE.RUN, 0, 2), (.pa, I_DIE.RUN, 0, 2), (.pa, I_HST.OPEN, 1, 1), (.pa, I_HST.ROLE, 1, 3),
      (.sw, HST_SLOT.OPEN, 1, 1), (.sw, HST_SLOT.ROLE, 1, 3), (.sw, I_OTP.LYT_KEYS, 0, 4)], by decide +kernel⟩⟩

theorem test_ResetsAndBrownOutsHoldTheDies :
    (∃ (s : State), rd s.pk .sw I_PKG.RESET_LOW = 1) ∧
    (∃ (s : State), rd s.pk .sw I_PKG.RESET_LOW = 0) ∧
    (∃ (d : Die) (s : State), rd s.pk d I_DIE.RAIL_BAD = 0) ∧
    (∃ (d : Die) (s : State), rd s.pk d I_DIE.RAIL_BAD = 1) ∧
    (∃ (d : Die) (s : State), rd s.pk d I_DIE.RAIL_BAD = 0) ∧
    (∃ (d : Die) (s : State), rd s.pk d I_DIE.RUN = 1 ∧ rd s.pk d I_CLK.RESTART = 1) ∧
    (∃ (d : Die) (s : State), (rd s.pk d I_DIE.RUN ≠ 1 ∨ rd s.pk d I_CLK.RESTART = 0)) ∧
    (∃ (d : Die) (edges : Nat) (s : State), rd s.pk d I_DIE.RUN = 1 ∧ rd s.pk d I_CLK.RESTART = 0 ∧ (edges < 87891 ∨ 107422 < edges)) ∧
    (∃ (d : Die) (edges : Nat) (winA : List Nat) (winB : List Nat) (s : State), rd s.pk d I_DIE.RUN = 1 ∧ rd s.pk d I_CLK.RESTART = 0 ∧ (87891 ≤ edges ∧ edges ≤ 107422) ∧ ((let v := if d.homeB then winB else winA; (v.length = 10 ∧ ∀ n ∈ v, 2548 ≤ n ∧ n ≤ 2652)))) ∧
    (∃ (d : Die) (edges : Nat) (winA : List Nat) (winB : List Nat) (s : State), rd s.pk d I_DIE.RUN = 1 ∧ rd s.pk d I_CLK.RESTART = 0 ∧ (87891 ≤ edges ∧ edges ≤ 107422) ∧ ((let v := if d.homeB then winB else winA; ¬ (v.length = 10 ∧ ∀ n ∈ v, 2548 ≤ n ∧ n ≤ 2652))) ∧ ((let v := if d.homeB then winA else winB; (v.length = 10 ∧ ∀ n ∈ v, 2548 ≤ n ∧ n ≤ 2652)))) ∧
    (∃ (d : Die) (edges : Nat) (winA : List Nat) (winB : List Nat) (s : State), rd s.pk d I_DIE.RUN = 1 ∧ rd s.pk d I_CLK.RESTART = 0 ∧ (87891 ≤ edges ∧ edges ≤ 107422) ∧ ((let v := if d.homeB then winB else winA; ¬ (v.length = 10 ∧ ∀ n ∈ v, 2548 ≤ n ∧ n ≤ 2652))) ∧ ((let v := if d.homeB then winA else winB; ¬ (v.length = 10 ∧ ∀ n ∈ v, 2548 ≤ n ∧ n ≤ 2652))) ∧ d ≠ .sw) ∧
    (∃ (d : Die) (edges : Nat) (winA : List Nat) (winB : List Nat) (s : State), d = .sw ∧ rd s.pk d I_DIE.RUN = 1 ∧ rd s.pk d I_CLK.RESTART = 0 ∧ (87891 ≤ edges ∧ edges ≤ 107422) ∧ ((let v := if d.homeB then winB else winA; ¬ (v.length = 10 ∧ ∀ n ∈ v, 2548 ≤ n ∧ n ≤ 2652))) ∧ ((let v := if d.homeB then winA else winB; ¬ (v.length = 10 ∧ ∀ n ∈ v, 2548 ≤ n ∧ n ≤ 2652)))) ∧
    (∃ (d : Die) (s : State), rd s.pk d I_DIE.RUN ≠ 1 ∧ rd s.pk d I_CLK.RESTART = 0) ∧
    (∃ (d : Die) (s : State), rd s.pk d I_CLK.RESTART = 1) :=
  ⟨⟨wst [(.sw, I_PKG.RESET_LOW, 0, 1), (.ha, I_DIE.RUN, 0, 0), (.hb, I_DIE.RAIL_BAD, 0, 1), (.hb, I_DIE.RUN, 0, 0)], by decide +kernel⟩,
    ⟨wst [(.sw, I_PKG.RESET_LOW, 0, 0)], by decide +kernel⟩,
    ⟨.ha, wst [(.ha, I_DIE.RAIL_BAD, 0, 0), (.ha, I_DIE.RUN, 0, 2), (.ha, HG_STATUS.LANE_STATE, 0, 4),
      (.sw, I_PKG.LINE_PULL, 0, 1)], by decide +kernel⟩,
    ⟨.ga, wst [(.ga, I_DIE.RAIL_BAD, 0, 1), (.ga, I_DIE.RAIL_BAD, 0, 1), (.ga, I_DIE.RUN, 0, 0)], by decide +kernel⟩,
    ⟨.ga, wst [(.ga, I_DIE.RAIL_BAD, 0, 0)], by decide +kernel⟩,
    ⟨.ga, wst [(.ga, I_DIE.RUN, 0, 1), (.ga, I_CLK.RESTART, 0, 1), (.ga, CLK_STATUS.QUAL_A, 0, 1)], by decide +kernel⟩,
    ⟨.ga, wst [], by decide +kernel⟩,
    ⟨.ga, 5, wst [(.ga, I_DIE.RUN, 0, 1), (.ga, I_CLK.RESTART, 0, 0), (.ga, I_DIE.RUN, 0, 1)], by decide +kernel⟩,
    ⟨.ga, 97656, List.replicate 10 2600, List.replicate 10 2600, wst [(.ga, I_DIE.RUN, 0, 1), (.ga, I_CLK.RESTART, 0, 0),
      (.ga, I_DIE.RUN, 0, 1)], by decide +kernel⟩,
    ⟨.ga, 97656, List.replicate 9 2600, List.replicate 10 2600, wst [(.ga, I_DIE.RUN, 0, 1), (.ga, I_CLK.RESTART, 0, 0),
      (.ga, I_DIE.RUN, 0, 1)], by decide +kernel⟩,
    ⟨.ga, 97656, List.replicate 9 2600, List.replicate 9 2600, wst [(.ga, I_DIE.RUN, 0, 1), (.ga, I_CLK.RESTART, 0, 0),
      (.ga, I_DIE.RUN, 0, 1)], by decide +kernel⟩,
    ⟨.sw, 97656, List.replicate 9 2600, List.replicate 9 2600, wst [(.sw, I_DIE.RUN, 0, 1), (.sw, I_CLK.RESTART, 0, 0),
      (.sw, I_DIE.RUN, 0, 1)], by decide +kernel⟩,
    ⟨.ga, wst [(.ga, I_CLK.RESTART, 0, 0), (.ga, I_DIE.RUN, 0, 2), (.ga, CLK_STATUS.ROOT_MISMATCH, 0, 1)], by decide +kernel⟩,
    ⟨.ga, wst [(.ga, I_CLK.RESTART, 0, 1), (.ga, I_DIE.RUN, 0, 2)], by decide +kernel⟩⟩

theorem test_BootsCheckTheirImagesAndTheLaneIsElected :
    (∃ (x : Side) (s : State), running s.pk x.helm = true ∧ laneState s.pk x = 0 ∧ bit (rd s.pk .sw I_PKG.STRAPS) 1 = false ∧ (slotState s.pk x ≠ 1 ∧
      slotState s.pk x ≠ 2 ∧ slotState s.pk x ≠ 6) ∧ rd s.pk .sw (badFld x.num) = 0 ∧ ledgerFrom s.pk x.helm = true) ∧
    (∃ (x : Side) (s : State), (running s.pk x.helm = false ∨ bit (rd s.pk .sw I_PKG.STRAPS) 1 = true ∨ slotState s.pk x = 6 ∨ 2 ≤ laneState s.pk x ∨ (laneState s.pk x = 0 ∧ (slotState s.pk x = 1 ∨ slotState s.pk x = 2 ∨ rd s.pk .sw (badFld x.num) = 1 ∨ ledgerFrom s.pk x.helm = false)))) ∧
    (∃ (x : Side) (l : Layout) (s : State), running s.pk x.helm = true ∧ laneState s.pk x = 1 ∧ bit (rd s.pk .sw I_PKG.STRAPS) 1 = false ∧
      (slotState s.pk x ≠ 6 ∧ slotState s.pk x ≠ 4) ∧ rd s.pk .sw LYT_STATUS.PHASE ≠ 2 ∧ pendingCopy s.pk = false ∧
      (rd s.pk .sw I_LYT.BOOT = 3 ∨ running s.pk .sw = false) ∧ layoutFor s.ledger.mram s.pk x.helm = some l) ∧
    (∃ (s : State), rd s.pk .sw I_DIE.RUN = 3 ∧ rd s.pk .sw I_STW.POWER_UP = 1 ∧ ledgerFrom s.pk .sw = true) ∧
    (∃ (i : Instr) (s : State), (i = .stewardBoot ∧ rd s.pk .sw I_STW.POWER_UP = 1 ∨ i = .stewardRestartDone ∧ rd s.pk .sw I_STW.POWER_UP = 0) ∧
      rd s.pk .sw I_DIE.RUN = 3 ∧ ledgerFrom s.pk .sw = false) ∧
    (∃ (s : State), running s.pk .sw = true ∧ rd s.pk .sw I_STW.WAIT_LEDGER = 1 ∧ ledgerFrom s.pk .sw = true) ∧
    (∃ (d : Die) (s : State), ((d = .sw ∧
      (running s.pk .sw = false ∨ rd s.pk .sw I_STW.WAIT_LEDGER = 0 ∨ ledgerFrom s.pk .sw = false)) ∨ d ∈ [Die.ga, .gb, .pa, .pb, .ld])) ∧
    (∃ (s : State), (rd s.pk .sw I_DIE.RUN ≠ 3 ∨ rd s.pk .sw I_STW.POWER_UP = 0)) ∧
    (∃ (s : State), ledgerUp s.pk = true ∧ rd s.pk .sw I_STW.POWER_UP = 0 ∧ rd s.pk .sw I_STW.WAIT_LEDGER = 0 ∧ rd s.pk .sw I_LYT.BOOT = 0) ∧
    (∃ (s : State), (ledgerUp s.pk = false ∨ rd s.pk .sw I_STW.POWER_UP = 1 ∨ rd s.pk .sw I_STW.WAIT_LEDGER = 1 ∨ rd s.pk .sw I_LYT.BOOT ≠ 0)) ∧
    (∃ (x : Side) (s : State), mayElect s.pk x = true ∧ rd s.pk x.helm I_LANE.ELIGIBLE = 0 ∧ electsFirst s.pk x = true) ∧
    (∃ (x : Side) (s : State), mayElect s.pk x = true ∧ rd s.pk x.helm I_LANE.ELIGIBLE = 0 ∧ electsFirst s.pk x = false) ∧
    (∃ (x : Side) (s : State), (mayElect s.pk x = false ∨ rd s.pk x.helm I_LANE.ELIGIBLE = 1)) ∧
    (∃ (x : Side) (s : State), rd s.pk x.helm I_LANE.ELIGIBLE = 1 ∧ rd s.pk x.helm I_LANE.ELIG_AT + 1000000000 ≤ now s.pk x.helm) ∧
    (∃ (x : Side) (s : State), (rd s.pk x.helm I_LANE.ELIGIBLE = 0 ∨ now s.pk x.helm < rd s.pk x.helm I_LANE.ELIG_AT + 1000000000)) :=
  ⟨⟨.a, wst [(.ha, I_DIE.RUN, 0, 2), (.ha, HG_STATUS.LANE_STATE, 0, 0), (.ha, I_DIE.RUN, 0, 2), (.pb, I_DIE.RUN, 0, 2), (.ld, I_DIE.RUN, 0, 2),
    (.pa, I_DIE.RUN, 0, 2), (.sw, UPD_SLOT_A.STATE, 0, 3)], by decide +kernel⟩,
    ⟨.a, wst [], by decide +kernel⟩,
    ⟨.a, layoutOf (imageAt [] layoutBase), wst [(.ha, I_DIE.RUN, 0, 2), (.ha, HG_STATUS.LANE_STATE, 0, 1), (.ha, I_DIE.RUN, 0, 2),
      (.sw, I_LYT.BOOT, 0, 3), (.sw, I_DIE.RUN, 0, 2), (.pa, I_DIE.RUN, 0, 2), (.sw, I_LYT.BOOT, 0, 3), (.sw, LYT_STATUS.CURRENT_VALID, 0, 1)], by decide +kernel, by decide +kernel, by decide +kernel, by decide +kernel, by decide +kernel, by decide +kernel, by decide +kernel, rfl⟩,
    ⟨wst [(.sw, I_DIE.RUN, 0, 3), (.sw, I_STW.POWER_UP, 0, 1), (.pb, I_DIE.RUN, 0, 2), (.ld, I_DIE.RUN, 0, 2), (.pa, I_DIE.RUN, 0, 2),
      (.sw, UPD_SLOT_B.STATE, 0, 2)], by decide +kernel⟩,
    ⟨.stewardBoot, wst [(.sw, I_STW.POWER_UP, 0, 1), (.sw, I_DIE.RUN, 0, 3), (.sw, I_DIE.RUN, 0, 3)], by decide +kernel⟩,
    ⟨wst [(.sw, I_DIE.RUN, 0, 2), (.sw, I_STW.WAIT_LEDGER, 0, 1), (.pb, I_DIE.RUN, 0, 2), (.ld, I_DIE.RUN, 0, 2),
      (.pa, I_DIE.RUN, 0, 2)], by decide +kernel⟩,
    ⟨.pa, wst [], by decide +kernel⟩,
    ⟨wst [], by decide +kernel⟩,
    ⟨wst [(.sw, I_STW.POWER_UP, 0, 0), (.sw, I_STW.WAIT_LEDGER, 0, 0), (.sw, I_LYT.BOOT, 0, 0), (.sw, I_DIE.RUN, 0, 2), (.pa, I_DIE.RUN, 0, 2),
      (.pb, I_DIE.RUN, 0, 2), (.ld, I_DIE.RUN, 0, 2)], by decide +kernel⟩,
    ⟨wst [], by decide +kernel⟩,
    ⟨.a, wst [(.ha, I_LANE.ELIGIBLE, 0, 0), (.ha, I_DIE.RUN, 0, 2), (.ha, HG_STATUS.LANE_STATE, 0, 2), (.ha, I_LANE.LAYOUT_APPLIED, 0, 1),
      (.ha, I_LANE.TICKS_RUN, 0, 16)], by decide +kernel⟩,
    ⟨.b, wst [(.hb, I_LANE.ELIGIBLE, 0, 0), (.hb, I_DIE.RUN, 0, 2), (.hb, HG_STATUS.LANE_STATE, 0, 2), (.hb, I_LANE.LAYOUT_APPLIED, 0, 1),
      (.hb, I_LANE.TICKS_RUN, 0, 16)], by decide +kernel⟩,
    ⟨.a, wst [], by decide +kernel⟩,
    ⟨.b, wst [(.hb, I_LANE.ELIGIBLE, 0, 1), (.hb, I_DIE.RUN, 0, 2), (.hb, HG_STATUS.LANE_STATE, 0, 2), (.hb, I_LANE.LAYOUT_APPLIED, 0, 1),
      (.hb, I_LANE.TICKS_RUN, 0, 16), (.hb, TIM_NOW.NOW, 0, 1000000000)], by decide +kernel⟩,
    ⟨.a, wst [(.ha, I_LANE.ELIGIBLE, 0, 0)], by decide +kernel⟩⟩

theorem test_FramesAreCheckedLearnedAndForwarded :
    (∃ (k : Nat) (s : State), (k < 6 → portUsable s.pk k = false)) ∧
    (∃ (k : Nat) (s : State), k < 6 ∧ portUsable s.pk k = true) ∧
    (∃ (k : Nat) (b : List Nat) (s : State), k < 6 ∧ portUsable s.pk k = true ∧ 1518 < b.length) ∧
    (∃ (k : Nat) (b : List Nat) (s : State), k < 6 ∧ portUsable s.pk k = true ∧ b.length ≤ 1518 ∧ (parseFrame b).etype = 0x8808 ∧
      beNat ((parseFrame b).pay.take 2) = 1) ∧
    (∃ (k : Nat) (b : List Nat) (s : State), k < 6 ∧ portUsable s.pk k = true ∧ b.length ≤ 1518 ∧ (parseFrame b).etype ≠ 0x8808 ∧
      (parseFrame b).tci = none ∧ isMember s.pk (ethSide k).port (rdI s.pk (ethSide k).port ETH_PORT_CFG.PVID (k % 3)) k = false) ∧
    (∃ (k : Nat) (stamp : Nat) (vid : Nat) (b : List Nat) (s : State), k < 6 ∧ portUsable s.pk k = true ∧ b.length ≤ 1518 ∧
      (parseFrame b).etype ≠ 0x8808 ∧ (parseFrame b).tci = none ∧ rdI s.pk (ethSide k).port ETH_PORT_CFG.PVID (k % 3) = vid ∧
      isMember s.pk (ethSide k).port vid k = true ∧ (parseFrame b).dst = 2 ^ 48 - 1 ∧
      rdI s.pk (ethSide k).port I_ETH.STORM_MS (k % 3) = stamp / 1000000 ∧ (1 ≤ rdI s.pk (ethSide k).port ETH_PORT_STORM.BC_LIMIT (k % 3) ∧
      rdI s.pk (ethSide k).port ETH_PORT_STORM.BC_LIMIT (k % 3) ≤ rdI s.pk (ethSide k).port I_ETH.BC (k % 3))) ∧
    (∃ (k : Nat) (vid : Nat) (b : List Nat) (s : State), k < 6 ∧ portUsable s.pk k = true ∧ b.length ≤ 1518 ∧ (parseFrame b).etype ≠ 0x8808 ∧
      (parseFrame b).tci = none ∧ rdI s.pk (ethSide k).port ETH_PORT_CFG.PVID (k % 3) = vid ∧ isMember s.pk (ethSide k).port vid k = true ∧
      isMember s.pk (ethSide k).port vid 6 = false ∧ isGroup (parseFrame b).dst = true ∧ isGroup (parseFrame b).src = false ∧
      (rdI s.pk (ethSide k).port ETH_PORT_STORM.BC_LIMIT (k % 3) = 0 ∧ rdI s.pk (ethSide k).port ETH_PORT_STORM.MC_LIMIT (k % 3) = 0) ∧
      ptpAt (parseFrame b).plain = none ∧ (s.pk.eth.get (ethSide k)).mac = [] ∧ (s.pk.eth.get (ethSide k)).queues = [] ∧ trunkUp s.pk = false) ∧
    (∃ (k : Nat) (vid : Nat) (b : List Nat) (m : List Nat) (s : State), k < 6 ∧ portUsable s.pk k = true ∧ b.length ≤ 1518 ∧
      (parseFrame b).etype = 0x88F7 ∧ (parseFrame b).tci = none ∧ rdI s.pk (ethSide k).port ETH_PORT_CFG.PVID (k % 3) = vid ∧
      isMember s.pk (ethSide k).port vid k = true ∧ isGroup (parseFrame b).src = false ∧
      (rdI s.pk (ethSide k).port ETH_PORT_STORM.BC_LIMIT (k % 3) = 0 ∧ rdI s.pk (ethSide k).port ETH_PORT_STORM.MC_LIMIT (k % 3) = 0) ∧
      ptpBody (parseFrame b).plain = some m ∧ (ptpType m = 2 ∨ ptpType m = 3 ∨ ptpType m = 10) ∧ rd s.pk (ethSide k).port PTP_CFG.TC_MODE = 1) ∧
    (∃ (y : Side) (s : State), running s.pk y.port = true) ∧
    (∃ (k : Nat) (s : State), k < 6 ∧ running s.pk (ethSide k).port = true) ∧
    (∃ (k : Nat) (s : State), k < 6 ∧ running s.pk (ethSide k).port = true ∧ rdI s.pk (ethSide k).port ETH_PORT_CFG.MODE (k % 3) ≠ 0) ∧
    (∃ (k : Nat) (y : Side) (s : State), 6 ≤ k ∧ running s.pk y.port = false) :=
  ⟨⟨1, wst [], by decide +kernel⟩,
    ⟨1, wst [(.pa, I_DIE.RUN, 0, 2), (.pa, ETH_PORT_CFG.MODE, 1, 1), (.pa, ETH_PORT_STATUS.LINK, 1, 1)], by decide +kernel⟩,
    ⟨1, List.replicate 1519 0, wst [(.pa, I_DIE.RUN, 0, 2), (.pa, ETH_PORT_CFG.MODE, 1, 1), (.pa, ETH_PORT_STATUS.LINK, 1, 1)], by decide +kernel⟩,
    ⟨1, List.replicate 12 1 ++ [0x88, 0x08, 0, 1, 0, 9], wst [(.pa, I_DIE.RUN, 0, 2), (.pa, ETH_PORT_CFG.MODE, 1, 1),
      (.pa, ETH_PORT_STATUS.LINK, 1, 1)], by decide +kernel⟩,
    ⟨1, List.replicate 64 1, wst [(.pa, I_DIE.RUN, 0, 2), (.pa, ETH_PORT_CFG.MODE, 1, 1), (.pa, ETH_PORT_STATUS.LINK, 1, 1)], by decide +kernel⟩,
    ⟨1, 3000000, 7, List.replicate 6 255 ++ List.replicate 58 1, wst [(.pa, I_DIE.RUN, 0, 2), (.pa, ETH_PORT_CFG.MODE, 1, 1),
      (.pa, ETH_PORT_STATUS.LINK, 1, 1), (.pa, ETH_PORT_CFG.PVID, 1, 7), (.pa, ETH_VLAN.VID, 4, 7), (.pa, ETH_VLAN.MEMBER, 4, 6), (.pa, I_ETH.STORM_MS, 1, 3), (.pa, I_ETH.BC, 1, 5), (.pa, ETH_PORT_STORM.BC_LIMIT, 1, 5)], by decide +kernel⟩,
    ⟨1, 7, [1, 0, 0, 0, 0, 9, 2, 0, 0, 0, 0, 8, 0x90, 0] ++ List.replicate 50 1, wst [(.pa, I_DIE.RUN, 0, 2), (.pa, ETH_PORT_CFG.MODE, 1, 1),
      (.pa, ETH_PORT_STATUS.LINK, 1, 1), (.pa, ETH_PORT_CFG.MODE, 2, 1), (.pa, ETH_PORT_STATUS.LINK, 2, 1), (.pa, ETH_PORT_CFG.PVID, 1, 7), (.pa, ETH_PORT_CFG.DEF_PCP, 1, 5), (.pa, ETH_VLAN.VID, 4, 7), (.pa, ETH_VLAN.MEMBER, 4, 6), (.pa, ETH_PORT_STORM.BC_LIMIT, 1, 0), (.pa, ETH_PORT_STORM.MC_LIMIT, 1, 0)], by decide +kernel⟩,
    ⟨1, 7, [1, 0, 0, 0, 0, 9, 2, 0, 0, 0, 0, 8, 0x88, 0xF7, 2, 2] ++ List.replicate 42 0, [2, 2] ++ List.replicate 42 0, wst [(.pa, I_DIE.RUN, 0, 2),
      (.pa, ETH_PORT_CFG.MODE, 1, 1), (.pa, ETH_PORT_STATUS.LINK, 1, 1), (.pa, ETH_PORT_CFG.PVID, 1, 7), (.pa, ETH_VLAN.VID, 4, 7), (.pa, ETH_VLAN.MEMBER, 4, 6), (.pa, ETH_PORT_STORM.BC_LIMIT, 1, 0), (.pa, ETH_PORT_STORM.MC_LIMIT, 1, 0), (.pa, PTP_CFG.TC_MODE, 0, 1)], by decide +kernel⟩,
    ⟨.a, wst [(.pa, I_DIE.RUN, 0, 2),
      (.pa, TIM_NOW.NOW, 0, 900000000000)] |> fun s => { s with pk := { s.pk with eth := s.pk.eth.set .a { Eth.empty with mac := [⟨7, 9, 1, 5⟩, ⟨7, 8, 1, 5⟩] } } }, by decide +kernel⟩,
    ⟨1, wst [(.pa, I_DIE.RUN, 0, 2), (.pa, I_PW.SYNC, 1, 1)], by decide +kernel⟩,
    ⟨1, wst [(.pa, I_DIE.RUN, 0, 2), (.pa, ETH_PORT_CFG.MODE, 1, 1)], by decide +kernel⟩,
    ⟨6, .a, wst [], by decide +kernel⟩⟩

theorem test_SensorDatagramsReachTheirListeners :
    (∃ (g : Dgram) (y : Side) (j : Nat) (s : State), g.port < 6 ∧ portUsable s.pk g.port = true ∧
      (listenersOf s.pk g).filter (fun l => rdI s.pk l.1.port ETH_LIS.KIND l.2 == 1) = [(y, j)] ∧
      (g.payload.take 6 ≠ [0x55, 0x64, 0x50, 0x62, 0x43, 0] ∨ g.payload.length = 6 ∨ (tagLines (g.payload.drop 6).length (g.payload.drop 6)).any (fun l => !(lineGood l.2) || l.1.any (fun t => !(tagGood t))) = true)) ∧
    (∃ (g : Dgram) (y : Side) (j : Nat) (s : State), g.port < 6 ∧ portUsable s.pk g.port = true ∧
      (listenersOf s.pk g).filter (fun l => rdI s.pk l.1.port ETH_LIS.KIND l.2 == 1) = [(y, j)] ∧
      g.payload.take 6 = [0x55, 0x64, 0x50, 0x62, 0x43, 0] ∧ 6 < g.payload.length ∧
      (tagLines (g.payload.drop 6).length (g.payload.drop 6)).all (fun l => lineGood l.2 && l.1.all tagGood) = true) ∧
    (∃ (g : Dgram) (y : Side) (j : Nat) (s : State), g.port < 6 ∧ portUsable s.pk g.port = true ∧
      (listenersOf s.pk g).filter (fun l => rdI s.pk l.1.port ETH_LIS.KIND l.2 == 2) = [(y, j)] ∧
      (leNat (g.payload.take 2) ≠ 1 ∨ g.payload.length ≠ 32 + 4 * g.payload.getD 3 0 ∨ g.payload.getD 3 0 = 0 ∨ 8 < g.payload.getD 3 0 ∨ bit (g.payload.getD 12 0) 0 = false)) ∧
    (∃ (g : Dgram) (y : Side) (j : Nat) (m : SrcMatch) (s : State), g.port < 6 ∧ portUsable s.pk g.port = true ∧
      (listenersOf s.pk g).filter (fun l => rdI s.pk l.1.port ETH_LIS.KIND l.2 == 2) = [(y, j)] ∧ (leNat (g.payload.take 2) = 1 ∧
      g.payload.length = 32 + 4 * g.payload.getD 3 0 ∧ 1 ≤ g.payload.getD 3 0 ∧ g.payload.getD 3 0 ≤ 8 ∧ bit (g.payload.getD 12 0) 0 = true) ∧
      matchSource s.pk ⟨y.port, 4, j, leNat ((g.payload.drop 4).take 4), 0, 0, none, []⟩ = some m ∧
      stampFits (g.payload.getD 2 0) m.stampMode = true) ∧
    (∃ (g : Dgram) (s : State), (g.port < 6 → portUsable s.pk g.port = false ∨ listenersOf s.pk g = [])) :=
  ⟨⟨⟨1, 7, 5, 6, 60001, 3, [0x55, 0x64, 0x50, 0x62, 0x43, 1, 9]⟩, .a, 2, wst [(.pa, I_DIE.RUN, 0, 2), (.pa, ETH_PORT_CFG.MODE, 1, 1),
    (.pa, ETH_PORT_STATUS.LINK, 1, 1), (.pa, ETH_LIS.KIND, 2, 1), (.pa, ETH_LIS.VID, 2, 7), (.pa, ETH_LIS.DEST, 2, 5), (.pa, ETH_LIS.UDP_PORT, 2, 60001), (.pa, ETH_LIS.PORTS, 2, 2)], by decide +kernel⟩,
    ⟨⟨1, 7, 5, 6, 60001, 3, [0x55, 0x64, 0x50, 0x62, 0x43, 0, 0x24, 0x41, 0x42, 0x2A, 0x30, 0x33, 0x0D, 0x0A]⟩, .a, 2, wst [(.pa, I_DIE.RUN, 0, 2),
      (.pa, ETH_PORT_CFG.MODE, 1, 1), (.pa, ETH_PORT_STATUS.LINK, 1, 1), (.pa, ETH_LIS.KIND, 2, 1), (.pa, ETH_LIS.VID, 2, 7), (.pa, ETH_LIS.DEST, 2, 5), (.pa, ETH_LIS.UDP_PORT, 2, 60001), (.pa, ETH_LIS.PORTS, 2, 2)], by decide +kernel⟩,
    ⟨⟨1, 7, 5, 6, 60001, 3, [1, 0, 0, 1]⟩, .a, 2, wst [(.pa, I_DIE.RUN, 0, 2), (.pa, ETH_PORT_CFG.MODE, 1, 1), (.pa, ETH_PORT_STATUS.LINK, 1, 1),
      (.pa, ETH_LIS.KIND, 2, 2), (.pa, ETH_LIS.VID, 2, 7), (.pa, ETH_LIS.DEST, 2, 5), (.pa, ETH_LIS.UDP_PORT, 2, 60001), (.pa, ETH_LIS.PORTS, 2, 2)], by decide +kernel⟩,
    ⟨⟨1, 7, 5, 6, 60001, 3, [1, 0, 0, 1, 9, 0, 0, 0, 5, 0, 0, 0, 1] ++ List.replicate 23 0⟩, .a, 2, ⟨3, 0, 0, 0, 5, 4, 2, 255, 9⟩, wst [(.pa, I_DIE.RUN, 0, 2), (.pa, ETH_PORT_CFG.MODE, 1, 1), (.pa, ETH_PORT_STATUS.LINK, 1, 1), (.pa, ETH_LIS.KIND, 2, 2), (.pa, ETH_LIS.VID, 2, 7), (.pa, ETH_LIS.DEST, 2, 5), (.pa, ETH_LIS.UDP_PORT, 2, 60001), (.pa, ETH_LIS.PORTS, 2, 2)] |> fun s => { s with pk := { s.pk with matching := [⟨3, 0, 0, 0, 5, 4, 2, 255, 9⟩] } }, by decide +kernel⟩,
    ⟨⟨1, 7, 5, 6, 60001, 3, []⟩, wst [], by decide +kernel⟩⟩

theorem test_FramesLeaveWithTheirResidenceTime :
    (∃ (k : Nat) (s : State), (k < 6 → portUsable s.pk k = false ∨ nextFrame (s.pk.eth.get (ethSide k)) (k % 3) = none)) ∧
    (∃ (k : Nat) (f : TxFrame) (s : State), k < 6 ∧ portUsable s.pk k = true ∧ nextFrame (s.pk.eth.get (ethSide k)) (k % 3) = some f ∧
      (f.what = .device ∨ (f.what = .forwarded ∧ rd s.pk (ethSide k).port PTP_CFG.TC_MODE = 0)) ∧ (s.pk.eth.get (ethSide k)).last.length = 3) ∧
    (∃ (k : Nat) (f : TxFrame) (s : State), k < 6 ∧ portUsable s.pk k = true ∧ nextFrame (s.pk.eth.get (ethSide k)) (k % 3) = some f ∧
      (f.what = .forwarded ∧ rd s.pk (ethSide k).port PTP_CFG.TC_MODE = 1) ∧ (ptpAt f.bytes = some 14 ∧ ptpEvent f.bytes = true) ∧
      beNat ((f.bytes.drop 12).take 2) = 0x88F7 ∧ f.tag = none ∧ (s.pk.eth.get (ethSide k)).last.length = 3) ∧
    (∃ (k : Nat) (kind : Nat) (seq : Nat) (f : TxFrame) (s : State), k < 6 ∧ portUsable s.pk k = true ∧
      nextFrame (s.pk.eth.get (ethSide k)) (k % 3) = some f ∧ f.what = .ocEvent kind seq) ∧
    (∃ (k : Nat) (s : State), k < 6 ∧ running s.pk (ethSide k).port = true ∧ portUsable s.pk k = true ∧ rd s.pk (ethSide k).port PTP_CFG.TC_MODE = 2 ∧
      periodDue s.pk (ethSide k).port I_ETH.PDELAY_DUE (k % 3) (logNs (rdS s.pk (ethSide k).port PTP_OC_INTERVALS.LOG_PDELAY)) = true ∧
      (s.pk.eth.get (ethSide k)).pdelay.length = 3) ∧
    (∃ (k : Nat) (s : State), (k < 6 →
      portUsable s.pk k = false ∨ rd s.pk (ethSide k).port PTP_CFG.TC_MODE ≠ 2 ∨ periodDue s.pk (ethSide k).port I_ETH.PDELAY_DUE (k % 3) (logNs (rdS s.pk (ethSide k).port PTP_OC_INTERVALS.LOG_PDELAY)) = false)) ∧
    (∃ (k : Nat) (e : Nat × Nat × Nat × Int) (s : State), k < 6 ∧ running s.pk (ethSide k).port = true ∧ running s.pk .sw = true ∧
      (s.pk.eth.get (ethSide k)).txq.find? (fun x => x.1 == k) = some e ∧ (0 ≤ e.2.2.2 ∧ e.2.2.2 < 9223372036854775808)) ∧
    (∃ (k : Nat) (host : Bool) (s : State), (host = true ∨ (s.pk.eth.get (ethSide k)).txq.find? (fun x => x.1 == k) = none ∨ running s.pk .sw = false)) :=
  ⟨⟨1, wst [], by decide +kernel⟩,
    ⟨1, ⟨1, 2, List.replicate 60 5, some 4103, 0, 0, .forwarded⟩, wst [(.pa, I_DIE.RUN, 0, 2), (.pa, ETH_PORT_CFG.MODE, 1, 1),
      (.pa, ETH_PORT_STATUS.LINK, 1, 1), (.pa, PTP_CFG.TC_MODE, 0, 0)] |> fun s => { s with pk := { s.pk with eth := s.pk.eth.set .a { Eth.empty with queues := [⟨1, 0, [7], none, 0, 0, .device⟩, ⟨1, 2, List.replicate 60 5, some 4103, 0, 0, .forwarded⟩] } } }, by decide +kernel⟩,
    ⟨1, ⟨1, 3, List.replicate 12 5 ++ [0x88, 0xF7, 0, 2] ++ List.replicate 44 0, none, 0, 100000, .forwarded⟩, wst [(.pa, I_DIE.RUN, 0, 2),
      (.pa, ETH_PORT_CFG.MODE, 1, 1), (.pa, ETH_PORT_STATUS.LINK, 1, 1), (.pa, PTP_CFG.TC_MODE, 0, 1)] |> fun s => { s with pk := { s.pk with eth := s.pk.eth.set .a { Eth.empty with queues := [⟨1, 3, List.replicate 12 5 ++ [0x88, 0xF7, 0, 2] ++ List.replicate 44 0, none, 0, 100000, .forwarded⟩] } } }, by decide +kernel⟩,
    ⟨1, 0, 4, ⟨1, 3, [1, 2], none, 6, 0, .ocEvent 0 4⟩, wst [(.pa, I_DIE.RUN, 0, 2), (.pa, ETH_PORT_CFG.MODE, 1, 1),
      (.pa, ETH_PORT_STATUS.LINK, 1, 1)] |> fun s => { s with pk := { s.pk with eth := s.pk.eth.set .a { Eth.empty with queues := [⟨1, 3, [1, 2], none, 6, 0, .ocEvent 0 4⟩] } } }, by decide +kernel⟩,
    ⟨1, wst [(.pa, I_DIE.RUN, 0, 2), (.pa, ETH_PORT_CFG.MODE, 1, 1), (.pa, ETH_PORT_STATUS.LINK, 1, 1),
      (.pa, PTP_CFG.TC_MODE, 0, 2)] |> fun s => { s with pk := { s.pk with eth := s.pk.eth.set .a { Eth.empty with pdelay := List.replicate 3 ⟨65535, true, none, none, [], 2⟩ } } }, by decide +kernel⟩,
    ⟨1, wst [], by decide +kernel⟩,
    ⟨1, (1, 4, 1, 77), wst [(.sw, I_DIE.RUN, 0, 2), (.sw, I_DIE.RUN, 0, 2),
      (.pa, I_DIE.RUN, 0, 2)] |> fun s => { s with pk := { s.pk with oc := { s.pk.oc with delay := some (4, none) }, eth := s.pk.eth.set .a { Eth.empty with txq := [(1, 4, 1, 77), (1, 5, 1, 78)] } } }, by decide +kernel⟩,
    ⟨1, true, wst [], by decide +kernel⟩⟩

theorem test_TheOrdinaryClockMeasuresAnswersAndTimesOut :
    (∃ (m : PtpMsg) (s : State), (ocOn s.pk = false ∨ m.port ≠ ocPort s.pk ∨ m.version ≠ 2 ∨ m.domain ≠ rd s.pk (ocDie s.pk) PTP_CFG.DOMAIN)) ∧
    (∃ (m : PtpMsg) (s : State), ocOn s.pk = true ∧ (m.port = ocPort s.pk ∧ m.version = 2 ∧ m.domain = rd s.pk (ocDie s.pk) PTP_CFG.DOMAIN) ∧
      s.pk.oc.parent = some (m.src, m.srcPort) ∧ (ocState s.pk = 8 ∨ ocState s.pk = 9) ∧ (m.kind = 0 ∧ m.twoStep = true) ∧
      m.src ≠ Config.clockIdentity) ∧
    (∃ (m : PtpMsg) (t2 : Int) (c : Int) (v : Int) (s : State), ocOn s.pk = true ∧ (m.port = ocPort s.pk ∧ m.version = 2 ∧
      m.domain = rd s.pk (ocDie s.pk) PTP_CFG.DOMAIN) ∧ s.pk.oc.parent = some (m.src, m.srcPort) ∧ (ocState s.pk = 8 ∨ ocState s.pk = 9) ∧ m.kind = 8 ∧
      m.src ≠ Config.clockIdentity ∧ s.pk.oc.sync = some (m.seq, t2, c) ∧ s.pk.oc.mean = some v ∧ rd s.pk (ocDie s.pk) PTP_CFG.TC_MODE ≠ 2) ∧
    (∃ (m : PtpMsg) (t1 : Int) (t2 : Int) (t3 : Int) (s : State), ocOn s.pk = true ∧ (m.port = ocPort s.pk ∧ m.version = 2 ∧
      m.domain = rd s.pk (ocDie s.pk) PTP_CFG.DOMAIN) ∧ s.pk.oc.parent = some (m.src, m.srcPort) ∧ (ocState s.pk = 8 ∨ ocState s.pk = 9) ∧ m.kind = 9 ∧
      m.src ≠ Config.clockIdentity ∧ (s.pk.oc.delay = some (m.seq, some t3) ∧ s.pk.oc.lastSync = some (t1, t2)) ∧ m.req = (Config.clockIdentity, 1)) ∧
    (∃ (m : PtpMsg) (t1 : Int) (t2 : Int) (t3 : Int) (s : State), ocOn s.pk = true ∧ (m.port = ocPort s.pk ∧ m.version = 2 ∧
      m.domain = rd s.pk (ocDie s.pk) PTP_CFG.DOMAIN) ∧ s.pk.oc.parent = some (m.src, m.srcPort) ∧ (ocState s.pk = 8 ∨ ocState s.pk = 9) ∧ m.kind = 9 ∧
      m.src ≠ Config.clockIdentity ∧ (s.pk.oc.delay = some (m.seq, some t3) ∧ s.pk.oc.lastSync = some (t1, t2)) ∧ m.req ≠ (Config.clockIdentity, 1)) ∧
    (∃ (kind : Nat) (i : Nat) (s : State), ocOn s.pk = true ∧ ((kind = 0 ∧ i = 0 ∨ kind = 11 ∧ i = 1) ∧ ocState s.pk = 6 ∨ kind = 1 ∧ i = 2 ∧
      (ocState s.pk = 8 ∨ ocState s.pk = 9) ∧ rd s.pk (ocDie s.pk) PTP_CFG.TC_MODE ≠ 2) ∧ s.pk.oc.seqs.length = 3) ∧
    (∃ (kind : Nat) (s : State), (ocOn s.pk = false ∨ kind ∉ [0, 1, 11] ∨ (kind = 1 ∧ ocState s.pk ≠ 8 ∧ ocState s.pk ≠ 9) ∨ (kind ≠ 1 ∧
      ocState s.pk ≠ 6))) ∧
    (∃ (s : State), ocOn s.pk = true ∧ ocState s.pk ∈ [4, 7, 8, 9] ∧
      s.pk.oc.annAt + rd s.pk (ocDie s.pk) PTP_OC_PRIO.ANN_TIMEOUT * logNs (rd s.pk (ocDie s.pk) PTP_OC_INTERVALS.LOG_ANNOUNCE) ≤ now s.pk .sw) ∧
    (∃ (s : State), (ocOn s.pk = false ∨ ocState s.pk ∉ [4, 7, 8, 9] ∨ now s.pk .sw < s.pk.oc.annAt + rd s.pk (ocDie s.pk) PTP_OC_PRIO.ANN_TIMEOUT * logNs (rd s.pk (ocDie s.pk) PTP_OC_INTERVALS.LOG_ANNOUNCE))) :=
  ⟨⟨⟨1, 0, 2, 0, true, 3, 9, 1, 0, 0, 0, (0, 0), ⟨1, 0, 0, 0, 0, 0, 0, 9, 1, 0, false, false, false⟩⟩, wst [], by decide +kernel⟩,
    ⟨⟨1, 0, 2, 0, true, 3, Config.clockIdentity + 1, 1, 5, 0, 70, (0, 0), ⟨1, 0, 0, 0, 0, 0, 0, 9, 1, 0, false, false, false⟩⟩, wst [(.sw, I_DIE.RUN, 0, 2), (.pa, I_DIE.RUN, 0, 2), (.pb, I_DIE.RUN, 0, 2), (.pa, PTP_CFG.OC_PORT, 0, 1), (.pa, PTP_CFG.OC_MODE, 0, 1), (.pa, PTP_CFG.DOMAIN, 0, 0), (.pa, ETH_PORT_CFG.MODE, 1, 1), (.pa, ETH_PORT_STATUS.LINK, 1, 1), (.pa, PTP_OC_STATUS.PORT_STATE, 0, 8)] |> fun s => { s with pk := { s.pk with oc := { s.pk.oc with parent := some (Config.clockIdentity + 1, 1) } } }, by decide +kernel, by decide +kernel, rfl, by decide +kernel, by decide +kernel, Nat.succ_ne_self _⟩,
    ⟨⟨1, 8, 2, 0, true, 3, Config.clockIdentity + 1, 1, 5, 6, 70, (0, 0), ⟨1, 0, 0, 0, 0, 0, 0, 9, 1, 0, false, false, false⟩⟩, 900000, 3, 12, wst [(.sw, I_DIE.RUN, 0, 2), (.pa, I_DIE.RUN, 0, 2), (.pb, I_DIE.RUN, 0, 2), (.pa, PTP_CFG.OC_PORT, 0, 1), (.pa, PTP_CFG.OC_MODE, 0, 1), (.pa, PTP_CFG.TC_MODE, 0, 1), (.pa, PTP_CFG.DOMAIN, 0, 0), (.pa, ETH_PORT_CFG.MODE, 1, 1), (.pa, ETH_PORT_STATUS.LINK, 1, 1), (.pa, PTP_OC_STATUS.PORT_STATE, 0, 8)] |> fun s => { s with pk := { s.pk with oc := { s.pk.oc with parent := some (Config.clockIdentity + 1, 1), sync := some (3, 900000, 3), mean := some 12 } } }, by decide +kernel, by decide +kernel, rfl, by decide +kernel, by decide +kernel, Nat.succ_ne_self _, by decide +kernel, by decide +kernel, by decide +kernel⟩,
    ⟨⟨1, 9, 2, 0, true, 3, Config.clockIdentity + 1, 1, 5, 6, 70, (Config.clockIdentity, 1), ⟨1, 0, 0, 0, 0, 0, 0, 9, 1, 0, false, false, false⟩⟩, 5, 900000, 12, wst [(.sw, I_DIE.RUN, 0, 2), (.pa, I_DIE.RUN, 0, 2), (.pb, I_DIE.RUN, 0, 2), (.pa, PTP_CFG.OC_PORT, 0, 1), (.pa, PTP_CFG.OC_MODE, 0, 1), (.pa, PTP_CFG.TC_MODE, 0, 1), (.pa, PTP_CFG.DOMAIN, 0, 0), (.pa, ETH_PORT_CFG.MODE, 1, 1), (.pa, ETH_PORT_STATUS.LINK, 1, 1), (.pa, PTP_OC_STATUS.PORT_STATE, 0, 8)] |> fun s => { s with pk := { s.pk with oc := { s.pk.oc with parent := some (Config.clockIdentity + 1, 1), delay := some (3, some 12), lastSync := some (5, 900000) } } }, by decide +kernel, by decide +kernel, rfl, by decide +kernel, by decide +kernel, Nat.succ_ne_self _, by decide +kernel, rfl⟩,
    ⟨⟨1, 9, 2, 0, true, 3, Config.clockIdentity + 1, 1, 5, 6, 70, (Config.clockIdentity, 2), ⟨1, 0, 0, 0, 0, 0, 0, 9, 1, 0, false, false, false⟩⟩, 5, 900000, 12, wst [(.sw, I_DIE.RUN, 0, 2), (.pa, I_DIE.RUN, 0, 2), (.pb, I_DIE.RUN, 0, 2), (.pa, PTP_CFG.OC_PORT, 0, 1), (.pa, PTP_CFG.OC_MODE, 0, 1), (.pa, PTP_CFG.TC_MODE, 0, 1), (.pa, PTP_CFG.DOMAIN, 0, 0), (.pa, ETH_PORT_CFG.MODE, 1, 1), (.pa, ETH_PORT_STATUS.LINK, 1, 1), (.pa, PTP_OC_STATUS.PORT_STATE, 0, 8)] |> fun s => { s with pk := { s.pk with oc := { s.pk.oc with parent := some (Config.clockIdentity + 1, 1), delay := some (3, some 12), lastSync := some (5, 900000) } } }, by decide +kernel, by decide +kernel, rfl, by decide +kernel, by decide +kernel, Nat.succ_ne_self _, by decide +kernel, by simp⟩,
    ⟨1, 2, wst [(.sw, I_DIE.RUN, 0, 2), (.pa, I_DIE.RUN, 0, 2), (.pb, I_DIE.RUN, 0, 2), (.pa, PTP_CFG.OC_PORT, 0, 1), (.pa, PTP_CFG.OC_MODE, 0, 1),
      (.pa, PTP_CFG.TC_MODE, 0, 1), (.pa, ETH_PORT_CFG.MODE, 1, 1), (.pa, ETH_PORT_STATUS.LINK, 1, 1), (.pa, PTP_OC_STATUS.PORT_STATE, 0, 8)] |> fun s => { s with pk := { s.pk with oc := { s.pk.oc with seqs := [1, 2, 65535] } } }, by decide +kernel⟩,
    ⟨1, wst [], by decide +kernel⟩,
    ⟨wst [(.sw, I_DIE.RUN, 0, 2), (.pa, I_DIE.RUN, 0, 2), (.pb, I_DIE.RUN, 0, 2), (.pa, PTP_CFG.OC_PORT, 0, 1), (.pa, PTP_CFG.OC_MODE, 0, 1),
      (.pa, ETH_PORT_CFG.MODE, 1, 1), (.pa, ETH_PORT_STATUS.LINK, 1, 1), (.pa, PTP_OC_STATUS.PORT_STATE, 0, 8), (.sw, TIM_NOW.NOW, 0, 90000000000)], by decide +kernel⟩,
    ⟨wst [], by decide +kernel⟩⟩

theorem test_AStaleWriteIsRefusedAndCounted :
    (∃ (x : Side) (y : Side) (s : State), portHears s.pk x y = true ∧ rd s.pk y.port HG_OWNER.OWNER ≠ x.num + 1) :=
  ⟨.a, .a, wst [(.ha, I_DIE.RUN, 0, 2), (.pa, I_DIE.RUN, 0, 2), (.pa, HG_OWNER.OWNER, 0, 2)], by decide +kernel⟩

theorem test_ALowInhibitPinStopsClaimsAndReleasesNone :
    (∃ (x : Side) (s : State), inhibited s.pk x = true) ∧
    (∃ (x : Side) (s : State), running s.pk x.helm = true ∧ inhibited s.pk x = false ∧ isActive s.pk x = false) ∧
    (∃ (x : Side) (s : State), running s.pk x.helm = true ∧ inhibited s.pk x = false ∧ isActive s.pk x = true) :=
  ⟨⟨.a, wst [(.sw, I_PKG.INHIBIT_LOW, 0, 1)], by decide +kernel⟩,
    ⟨.a, wst [(.ha, I_DIE.RUN, 0, 2)], by decide +kernel⟩,
    ⟨.a, wst [(.ha, I_DIE.RUN, 0, 2), (.ha, HG_STATUS.LANE_STATE, 0, 4)], by decide +kernel⟩⟩

theorem test_AMissingMarkIsLostAndTheNextOneClearsIt :
    (∃ (d : Die) (s : State), running s.pk d = true ∧ d ≠ masterDie s.pk) ∧
    (∃ (d : Die) (s : State), running s.pk d = true ∧ d ≠ masterDie s.pk ∧ running s.pk (masterDie s.pk) = true) :=
  ⟨⟨.ga, wst [(.ga, I_DIE.RUN, 0, 2)], by decide +kernel⟩,
    ⟨.ga, wst [(.ga, I_DIE.RUN, 0, 2), (.pa, I_DIE.RUN, 0, 2), (.ga, I_DIE.RUN, 0, 2), (.ga, TIM_STATUS.SPINE_LOST, 0, 1)], by decide +kernel⟩⟩

theorem test_TransactionsAreAbortedOrBroken :
    (∃ (r : Req) (s : State), serves s.pk r 0x0213 1 [] = true ∧ rd s.pk .sw TXN_STATUS.STATE = 1 ∧ rd s.pk .sw TXN_STATUS.SLOT = r.slot) ∧
    (∃ (r : Req) (s : State), serves s.pk r 0x0214 3 [] = true ∧ rd s.pk .sw TXN_STATUS.STATE = 1) :=
  ⟨⟨⟨.pa, 1, 9⟩, wst [(.sw, TXN_STATUS.STATE, 0, 1), (.sw, I_DIE.RUN, 0, 2), (.pa, I_DIE.RUN, 0, 2), (.pa, I_HST.OPEN, 1, 1), (.pa, I_HST.ROLE, 1, 3),
    (.sw, HST_SLOT.OPEN, 1, 1), (.sw, HST_SLOT.ROLE, 1, 3), (.sw, TXN_STATUS.SLOT, 0, 1)], by decide +kernel⟩,
    ⟨⟨.pa, 1, 9⟩, wst [(.sw, TXN_STATUS.STATE, 0, 1), (.sw, I_DIE.RUN, 0, 2), (.pa, I_DIE.RUN, 0, 2), (.pa, I_HST.OPEN, 1, 1),
      (.pa, I_HST.ROLE, 1, 3), (.sw, HST_SLOT.OPEN, 1, 1), (.sw, HST_SLOT.ROLE, 1, 3), (.sw, TXN_STATUS.SLOT, 0, 2)], by decide +kernel⟩⟩

theorem test_StepRunsTheFrontCommand :
    (∃ (c : Instr) (rest : List Instr) (s : State), s.pending = c :: rest) ∧
    (∃ (s : State), s.pending = []) :=
  ⟨⟨.jtagBypass, [], State.front State.reset .jtagBypass, by decide +kernel⟩,
    ⟨wst [], by decide +kernel⟩⟩

theorem test_ResetHoldsTheResetColumn :
    (∃ (F : Fld) (i : Nat), i < F.count ∧ F.count ≤ 65536 ∧ (F.id ≠ CLK_STATUS.HOME_B.id ∧ F.id ≠ UPD_STATUS.TARGET.id)) :=
  ⟨HG_STATUS.LANE_STATE, 0, by decide +kernel⟩

theorem test_EveryStepKeepsTheLedgerCanonical :
    (∃ (s : State) (t : State), Memory.wf s.ledger.mram = true ∧ step s = .next t) :=
  ⟨State.reset, State.reset, by decide +kernel, rfl⟩

theorem test_OnlyUpdatesWriteTheFirmwareImages :
    (∃ (c : Instr) (a : Nat) (s : State) (t : State), a < 0x800000 ∧ (∀ r b, c ≠ .updData r b) ∧ (∀ x f, c ≠ .leatFlitReceive x f) ∧
      exec c s = .next t) :=
  ⟨.jtagBypass, 0, State.reset, State.reset.onPk Machine.jtagBypass, by decide +kernel, nofun, nofun, rfl⟩

end Sys2Proof.Tests
end

section
/-! The machine right after reset. Its register store is an empty store with five fields written over it, the home roots of the dies of
the second root and the target of no update; every other entry reads the value of its Reset column. -/

namespace Sys2Proof.Machine

/-- A store without cells holds every existing entry at its reset value. -/
theorem rdI_of_regs_nil {p : Pkg} (hp : p.regs = []) (d : Die) (F : Fld) (i : Nat) (hi : i < F.count) : rdI p d F i = F.reset i := by
  simp [rdI, storeGet, hp, hi, cellsGet]

/-- Reset writes five fields over an empty store, with no write to any other field. -/
theorem reset_pk_eq_writes : State.reset.pk =
    wrI .sw UPD_STATUS.TARGET 0 3 (wrI .ld CLK_STATUS.HOME_B 0 1 (wrI .pb CLK_STATUS.HOME_B 0 1
      (wrI .gb CLK_STATUS.HOME_B 0 1 (wrI .hb CLK_STATUS.HOME_B 0 1 { Pkg.reset with regs := [] })))) := by
  simp only [State.reset, Pkg.reset, State.resetCells, List.foldl, wrI, Die.num]

/-- After reset an entry of a field that reset does not write reads its Reset column. -/
theorem rdI_reset (d : Die) (F : Fld) (i : Nat) (hi : i < F.count) (hF : F.count ≤ 65536) (hHome : F.id ≠ CLK_STATUS.HOME_B.id)
    (hTarget : F.id ≠ UPD_STATUS.TARGET.id) : rdI State.reset.pk d F i = F.reset i := by
  have home (e : Die) (p : Pkg) : rdI (wrI e CLK_STATUS.HOME_B 0 1 p) d F i = rdI p d F i :=
    rdI_wrI_field p e d _ F 0 i 1 (by decide) hF hHome.symm
  rw [reset_pk_eq_writes, rdI_wrI_field _ _ d _ F 0 i 3 (by decide) hF hTarget.symm, home, home, home, home]
  exact rdI_of_regs_nil rfl d F i hi

/-- R376: the home root is wired by the die's place. -/
theorem rd_reset_homeB (d : Die) : rd State.reset.pk d CLK_STATUS.HOME_B = b2n d.homeB := by
  cases d <;> decide

/-- Without an update the target field names none. -/
theorem rd_reset_updTarget : rd State.reset.pk .sw UPD_STATUS.TARGET = 3 := by
  rw [rd_eq, reset_pk_eq_writes, rdI_wrI_self _ _ _ _ _ (by decide)]
  rfl

/-- R477: every die qualifies its clocks. -/
theorem rd_reset_run (d : Die) : rd State.reset.pk d I_DIE.RUN = 1 :=
  rdI_reset d I_DIE.RUN 0 (by decide) (by decide) (by decide) (by decide)

theorem rd_reset_laneState (d : Die) : rd State.reset.pk d HG_STATUS.LANE_STATE = 1 :=
  rdI_reset d HG_STATUS.LANE_STATE 0 (by decide) (by decide) (by decide) (by decide)

theorem activeLane_reset : activeLane State.reset.pk = none := by
  simp only [activeLane, rd_reset_laneState]
  rfl

theorem lineLow_reset (x : Side) : lineLow State.reset.pk x = false := by
  have hx : x.num < I_PKG.LINE_LOW.count := by cases x <;> decide
  have hLow : rdI State.reset.pk .sw I_PKG.LINE_LOW x.num = 0 := rdI_reset _ _ _ hx (by decide) (by decide) (by decide)
  simp [lineLow, hLow]

/-- Settles O57: reset writes only the wired home roots and the target of no update, so every other entry reads its Reset column. -/
theorem resetHoldsTheResetColumn : Obligations.ResetHoldsTheResetColumn := by
  unfold Obligations.ResetHoldsTheResetColumn
  refine ⟨?column, fun d => ⟨rd_reset_homeB d, rd_reset_run d⟩,
    rd_reset_updTarget, rfl, rfl, activeLane_reset, lineLow_reset .a, lineLow_reset .b⟩
  case column =>
    rintro d F i hi hF ⟨hHome, hTarget⟩
    exact rdI_reset d F i hi hF hHome hTarget

end Sys2Proof.Machine
end

section
/-! Work inside one lane. A chain of writes at a lane's helm, of records in its log and of changes of its lists leaves everything outside
the lane as it was, and in the helm every field that the chain does not name. -/

namespace Sys2Proof.Machine

@[simp] theorem Two.set_set {α : Type} (t : Two α) (x : Side) (u v : α) : (t.set x u).set x v = t.set x v := by cases x <;> rfl

theorem OtherDiesKept.of_fieldsKept {d : Die} {l : List (Die × Fld)} {p q : Pkg} (h : FieldsKept l p q) (hl : ∀ g ∈ l, g.1 = d) :
    OtherDiesKept d p q :=
  fun e F i hF he => h e F i hF fun g hg hge => he (hge.1.symm.trans (hl g hg))

theorem OnlyLane.refl (x : Side) (p : Pkg) : OnlyLane x p p := ⟨by simp, fun _ _ _ _ _ => rfl⟩

theorem OnlyLane.trans {x : Side} {p q r : Pkg} (h : OnlyLane x p q) (k : OnlyLane x q r) : OnlyLane x p r := by
  obtain ⟨hpq, hDies⟩ := h
  obtain ⟨hqr, kDies⟩ := k
  refine ⟨?_, fun e F i hF he => (kDies e F i hF he).trans (hDies e F i hF he)⟩
  rw [hqr, hpq]
  simp

/-- A change of a helm's fields and of its log side stays in the lane. -/
theorem OnlyFieldsAndLog.onlyLane {x : Side} {l : List (Die × Fld)} {p q : Pkg} (h : OnlyFieldsAndLog x.helm l p q)
    (hl : ∀ g ∈ l, g.1 = x.helm) : OnlyLane x p q := by
  obtain ⟨hpq, hFields⟩ := h
  refine ⟨?_, OtherDiesKept.of_fieldsKept hFields hl⟩
  have hLanes : q.lanes = p.lanes := by rw [hpq]
  rw [hLanes]
  simpa using hpq

/-- From `p` to `q` nothing has changed outside lane `x`, and in its helm the fields of the identities in `K` read as before. -/
structure LaneKeeps (x : Side) (K : List Nat) (p q : Pkg) : Prop where
  onlyLane : OnlyLane x p q
  fields : ∀ F i, F.count ≤ 65536 → F.id ∈ K → rdI q x.helm F i = rdI p x.helm F i

namespace LaneKeeps

variable {x : Side} {K : List Nat} {p q r : Pkg}

theorem refl : LaneKeeps x K p p := ⟨OnlyLane.refl x p, fun _ _ _ _ => rfl⟩

theorem trans (h : LaneKeeps x K p q) (k : LaneKeeps x K q r) : LaneKeeps x K p r :=
  ⟨h.onlyLane.trans k.onlyLane, fun F i hF hK => (k.fields F i hF hK).trans (h.fields F i hF hK)⟩

/-- A change of fields of the helm outside `K` and of its log side. -/
theorem of_onlyFieldsAndLog {l : List Fld} (h : OnlyFieldsAndLog x.helm (l.map (x.helm, ·)) p q) (hl : ∀ F ∈ l, F.id ∉ K) :
    LaneKeeps x K p q := by
  refine ⟨h.onlyLane (by simp), fun F i hF hK => h.2 _ F i hF ?_⟩
  simp only [List.mem_map, forall_exists_index, and_imp, forall_apply_eq_imp_iff₂]
  exact fun G hG hGF => hl G hG (hGF.2 ▸ hK)

theorem wrI {F : Fld} {i v : Nat} (h : LaneKeeps x K p q) (hF : F.count ≤ 65536 := by decide) (hK : F.id ∉ K := by decide) :
    LaneKeeps x K p (wrI x.helm F i v q) :=
  h.trans (of_onlyFieldsAndLog (l := [F]) ((OnlyFields.wrI _ F i v q hF).andLog _) (by simpa using hK))

theorem wr {F : Fld} {v : Nat} (h : LaneKeeps x K p q) (hF : F.count ≤ 65536 := by decide) (hK : F.id ∉ K := by decide) :
    LaneKeeps x K p (wr x.helm F v q) := h.wrI hF hK

theorem wrSI {F : Fld} {i : Nat} {v : Int} (h : LaneKeeps x K p q) (hF : F.count ≤ 65536 := by decide) (hK : F.id ∉ K := by decide) :
    LaneKeeps x K p (wrSI x.helm F i v q) := h.wrI hF hK

theorem incI {F : Fld} {i : Nat} (h : LaneKeeps x K p q) (hF : F.count ≤ 65536 := by decide) (hK : F.id ∉ K := by decide) :
    LaneKeeps x K p (incI x.helm F i q) := h.wrI hF hK

theorem inc {F : Fld} (h : LaneKeeps x K p q) (hF : F.count ≤ 65536 := by decide) (hK : F.id ∉ K := by decide) :
    LaneKeeps x K p (inc x.helm F q) := h.wrI hF hK

theorem incSat {F : Fld} (h : LaneKeeps x K p q) (hF : F.count ≤ 65536 := by decide) (hK : F.id ∉ K := by decide) :
    LaneKeeps x K p (incSat x.helm F q) := h.wrI hF hK

/-- An event of a class below NME, raised at the helm. -/
theorem raiseWith {cls : Nat} {F : Fld} {pl : Payload} (h : LaneKeeps x K p q) (hF : F.count ≤ 65536 := by decide)
    (hK : ∀ G ∈ [F, I_DIE.SEQ], G.id ∉ K := by decide) (hc : codeClass (eventCode cls (blockCode F.off) F.lo) ≠ clsNme := by decide) :
    LaneKeeps x K p (raiseWith x.helm cls F pl q) :=
  h.trans (of_onlyFieldsAndLog (l := [F, I_DIE.SEQ]) (raiseWith_frame x.helm cls F pl q hF hc) hK)

theorem raise {cls : Nat} {F : Fld} (h : LaneKeeps x K p q) (hF : F.count ≤ 65536 := by decide)
    (hK : ∀ G ∈ [F, I_DIE.SEQ], G.id ∉ K := by decide) (hc : codeClass (eventCode cls (blockCode F.off) F.lo) ≠ clsNme := by decide) :
    LaneKeeps x K p (raise x.helm cls F q) := h.raiseWith hF hK hc

theorem setLane {l : Lane} (h : LaneKeeps x K p q) : LaneKeeps x K p { q with lanes := q.lanes.set x l } :=
  h.trans ⟨⟨by simp, fun _ _ _ _ _ => rfl⟩, fun _ _ _ _ => rfl⟩

theorem onLane {f : Lane → Lane} (h : LaneKeeps x K p q) : LaneKeeps x K p (onLane x f q) := h.setLane

theorem ite {c : Prop} [Decidable c] (h : LaneKeeps x K p q) (k : LaneKeeps x K p r) : LaneKeeps x K p (if c then q else r) := by
  split
  · exact h
  · exact k

theorem onlyIf {c : Bool} {f : Pkg → Pkg} (h : LaneKeeps x K p q) (k : LaneKeeps x K q (f q)) : LaneKeeps x K p (onlyIf c f q) :=
  ite (h.trans k) h

theorem forAll {α : Type} {l : List α} {f : α → Pkg → Pkg} (h : LaneKeeps x K p q) (k : ∀ a q, LaneKeeps x K q (f a q)) :
    LaneKeeps x K p (forAll l f q) := by
  induction l generalizing q with
  | nil => exact h
  | cons a l ih => exact ih (h.trans (k a q))

end LaneKeeps

end Sys2Proof.Machine
end

section
/-! R91 to R110, R116 to R133: the close of a frame works inside its lane. -/

namespace Sys2Proof.Machine

/-- The fields that only the opening and the end of a close write: the frame is open, the marks of a short close, the last instant closed. -/
def closeMarks : List Nat :=
  [I_CFL.FRAME_OPEN.id, CFL_STATUS.SEAL_SHORT.id, CFL_EVENT.SEAL_SHORT.id, CFL_SEAL_SHORT.COUNT.id, I_CFL.PREV_T.id]

/-- Work inside a lane that leaves the marks of a close. -/
abbrev KeepsMarks (x : Side) : Pkg → Pkg → Prop := LaneKeeps x closeMarks

variable (x : Side) (p : Pkg)

/-! The clock models (R94 to R97). -/

theorem setAdrift_keeps (n : Nat) (on : Bool) : KeepsMarks x p (setAdrift x n on p) := by
  unfold setAdrift
  split <;> exact .wr .refl

theorem enterAdrift_keeps (n : Nat) (amount : Int) : KeepsMarks x p (enterAdrift x n amount p) := by
  unfold enterAdrift
  refine .onlyIf ?model ?adrift
  case model => exact .incI <| .onLane <| .incI <| .wrI <| .wrI <| .wrI <| .wrI <| .wrI <| .wrI <| .wrI .refl
  case adrift => exact .raiseWith <| .trans (.wrI .refl) (setAdrift_keeps x _ n true)

theorem blockFull_keeps (n : Nat) : KeepsMarks x p (blockFull x n p).1 := by
  simp only [blockFull]
  split
  · split
    · exact .trans (.onLane .refl) (enterAdrift_keeps x _ n _)
    · exact .wrSI <| .wrI <| .wrI <| .wrI <| .wrSI <| .wrSI <| .onLane .refl
  · exact .wrSI <| .wrI <| .wrI <| .wrI <| .wrSI <| .wrSI <| .onLane .refl

theorem clockStep_keeps (s : Sample) : KeepsMarks x p (clockStep x s p).1 := by
  unfold clockStep
  extract_lets d n eps valid q
  have hError : KeepsMarks x p q := .ite (.wrSI .refl) .refl
  clear_value q
  split
  next => exact hError.trans (enterAdrift_keeps x q n eps)
  next r _ =>
    have hLag : KeepsMarks x p r := .onLane hError
    split
    · exact hLag.trans (blockFull_keeps x r n)
    · exact hLag

theorem admitClock_keeps (s : Sample) : KeepsMarks x p (admitClock x s p).1 := by
  have hCount : KeepsMarks x p (p |> incI x.helm CFL_SST.ADMITTED s.src |> wrI x.helm I_CFL.LAST_ARRIVAL s.src s.arrival) := .wrI (.incI .refl)
  have hStep := hCount.trans (clockStep_keeps x _ s)
  simp only [admitClock]
  split
  · exact .wrI hCount
  · split
    · exact hStep
    · split
      · exact .wrI hStep
      · split
        · exact .wrI <| .raiseWith <| .wrI <| .trans (.wrI (.wrI hStep)) (setAdrift_keeps x _ s.src false)
        · exact .wrI <| .incI <| .wrI hStep

/-! Admission (R105 to R108). -/

theorem dropLate_keeps : KeepsMarks x p (dropLate x p) := by
  unfold dropLate
  exact .wr <| .raise <| .inc .refl

theorem admitOne_keeps (t : Int) (late : List (Admitted × Int)) (s : Sample) : KeepsMarks x p (admitOne x t (p, late) s).1 := by
  have hClock := admitClock_keeps x p s
  simp only [admitOne]
  split
  · exact hClock
  · split
    · dsimp only
      exact .onLane hClock
    · split
      · exact hClock.trans (dropLate_keeps x _)
      · exact .inc hClock

theorem admitAll_keeps (t : Int) (came : List Sample) (late : List (Admitted × Int)) :
    KeepsMarks x p (came.foldl (admitOne x t) (p, late)).1 := by
  induction came generalizing p late with
  | nil => exact .refl
  | cons s came ih => exact (admitOne_keeps x p t late s).trans (ih _ _)

theorem rezero_keeps : KeepsMarks x p (rezero x p) := by
  unfold rezero
  refine .forAll (.forAll (.onLane .refl) fun n q => ?_) fun n q => .wrI .refl
  exact .wrI <| .wrI <| .wrI .refl

/-! Forming the frame (R99 to R110, R121, R177). -/

theorem frameWind_keeps (cs : List Contrib) : KeepsMarks x p (frameWind x cs p) := by
  simp only [frameWind]
  split
  · exact .wr <| .wr <| .onLane .refl
  · exact .wr .refl

theorem baselineStep_keeps (cs : List Contrib) : KeepsMarks x p (baselineStep x cs p).1 := by
  simp only [baselineStep]
  exact .onlyIf (.onlyIf (.wr .refl) (.raise .refl)) (.raise .refl)

theorem frameMarks_keeps (bad held : Nat) (assumed : Bool) (cs : List Contrib) : KeepsMarks x p (frameMarks x bad held assumed cs p) := by
  unfold frameMarks
  refine .forAll (.onlyIf (.onlyIf ?counts ?assumed) ?overflow) fun c q => ?source
  case counts => exact .wr <| .wr .refl
  case assumed => exact .wr <| .raise .refl
  case overflow => exact .wr <| .raise <| .wr .refl
  case source => exact .onlyIf (.wrI <| .wrSI <| .wrI .refl) (.wrI .refl)

theorem formFrame_keeps (t : Int) (dt : Nat) (dropped : List Nat) : KeepsMarks x p (formFrame x t dt dropped p).1 := by
  simp only [formFrame]
  exact (frameWind_keeps x p _).trans <| (baselineStep_keeps x _ _).trans <| frameMarks_keeps x _ _ _ _ _

/-! The estimator's live update (R116 to R128, R135). -/

theorem notePlanFix_keeps (f : ClosedFrame) : KeepsMarks x p (notePlanFix x f p) := by
  simp only [notePlanFix]
  split
  · exact .wr <| .wr <| .wr <| .wr .refl
  · exact .wr .refl

theorem estStart_keeps (f : ClosedFrame) : KeepsMarks x p (estStart x f p) := by
  simp only [estStart]
  split
  · exact .wr <| .wr <| .wr <| .wr <| .wr <| .setLane .refl
  · exact .refl

theorem sourceStatus_keeps (cs : List Contrib) (fused : List Nat) : KeepsMarks x p (sourceStatus x cs fused p) := by
  unfold sourceStatus
  exact .forAll .refl fun n q => .ite .refl <| .ite (.wrI .refl) <| .ite (.wrI .refl) .refl

theorem sourceStats_keeps (o : EstOut) (cs : List Contrib) : KeepsMarks x p (sourceStats x o cs p) := by
  unfold sourceStats
  exact .forAll .refl fun n q => .ite .refl <| .onlyIf (.wrI <| .wrI .refl) (.wrI .refl)

theorem deadReckoning_keeps (posApplied : Bool) : KeepsMarks x p (deadReckoning x posApplied p) := by
  simp only [deadReckoning]
  split
  · exact .onlyIf (.wr <| .wr <| .wr <| .wr .refl) (.raise .refl)
  · exact .onlyIf (.incSat <| .wr .refl) (.raise .refl)

theorem watchConvergence_keeps (t : Nat) : KeepsMarks x p (watchConvergence x t p) := by
  simp only [watchConvergence]
  split
  · exact .ite .refl (.wr <| .wr .refl)
  · exact .onlyIf (.wr .refl) (.raise <| .wr .refl)

theorem liveUpdate_keeps (f : ClosedFrame) : KeepsMarks x p (liveUpdate x f p) := by
  simp only [liveUpdate]
  split
  · refine .trans (.wr <| .wr <| .wr <| .wr ?_) (sourceStatus_keeps x _ _ _)
    exact (notePlanFix_keeps x p f).trans (estStart_keeps x _ f)
  · refine .wr <| .trans (.trans (.trans ?_ (sourceStatus_keeps x _ _ _)) (deadReckoning_keeps x _ _)) (watchConvergence_keeps x _ _)
    exact .wr <| .wr <| .wr <| .wr <| .wr <| .wr <| .trans (.onLane (.onLane .refl)) (sourceStats_keeps x _ _ _)

/-! The replay (R106, R108, R130 to R133). -/

theorem replayAbandon_keeps : KeepsMarks x p (replayAbandon x p) := by
  simp only [replayAbandon]
  split
  · exact .refl
  · exact .wr <| .raise <| .inc <| .wr <| .wr <| .wr <| .setLane .refl

theorem replaySwap_keeps (t : Int) : KeepsMarks x p (replaySwap x t p) := by
  simp only [replaySwap]
  split
  · exact .refl
  · split
    · exact .wr <| .wr <| .wr <| .inc <| .onLane .refl
    · exact .ite (replayAbandon_keeps x p) .refl

theorem setReplay_keeps (r : Replay) : KeepsMarks x p (setReplay x r p) := .onLane .refl

theorem replayFold_keeps (t h : Int) (late : List (Admitted × Int)) : KeepsMarks x p (replayFold x t h late p) := by
  simp only [replayFold]
  split
  · split
    · exact setReplay_keeps x p _
    · split
      · exact setReplay_keeps x p _
      · exact .refl
  · split
    · exact setReplay_keeps x p _
    · exact .refl

theorem replayStep_keeps (t : Int) (late : List (Admitted × Int)) : KeepsMarks x p (replayStep x t late p) := by
  unfold replayStep
  extract_lets d stored folded
  have hStored : KeepsMarks x p stored := .onLane .refl
  have hFolded : KeepsMarks x p folded := by
    simp only [folded]
    split
    · exact .ite hStored (hStored.trans (replayFold_keeps x _ t _ late))
    · exact hStored
  clear_value folded
  split
  · exact hFolded.trans (setReplay_keeps x _ _)
  · exact hFolded

/-! The close as a whole. -/

theorem replayStatus_keeps : KeepsMarks x p (replayStatus x p) := by
  simp only [replayStatus]
  split
  · exact .wr <| .wr <| .wr .refl
  · exact .wr <| .wr <| .wr .refl

theorem sourceStates_keeps (t : Nat) : KeepsMarks x p (sourceStates x t p) := by
  unfold sourceStates
  exact .forAll .refl fun n q => .wrI <| .wrI .refl

theorem estReadout_keeps : KeepsMarks x p (estReadout x p) := by
  unfold estReadout
  exact .ite .refl <| .forAll (.forAll .refl fun i q => .wrI .refl) fun i q => .wrI .refl

/-- Between the opening and the writing of the instant closed, a close leaves the marks. -/
theorem exists_closeFrame_eq (short : Bool) : ∃ q, KeepsMarks x (frameOpening x (rd p x.helm I_CFL.FRAME_T) short p) q ∧
    closeFrame x short p = estReadout x (wr x.helm I_CFL.PREV_T (rd p x.helm I_CFL.FRAME_T) q) := by
  unfold closeFrame
  extract_lets d tn t cut dt came opened
  have hOpened : KeepsMarks x (frameOpening x t short p) opened := .onLane .refl
  split
  next q late hq =>
    have hAdmit : KeepsMarks x opened q := by simpa only [hq] using admitAll_keeps x opened t came []
    extract_lets dropped pruned
    have hPruned : KeepsMarks x q pruned := .trans (.onLane .refl) (rezero_keeps x _)
    split
    next r f scal hr =>
      have hForm : KeepsMarks x pruned r := by simpa only [hr] using formFrame_keeps x pruned t dt dropped
      refine ⟨_, .wr ?_, rfl⟩
      refine .trans (.trans (.trans (.trans ?_ (liveUpdate_keeps x _ f)) (replayStep_keeps x _ t late)) (replayStatus_keeps x _))
        (sourceStates_keeps x _ tn)
      exact .wr <| .wr <| .wr <| .onLane <| ((hOpened.trans hAdmit).trans hPruned).trans hForm

theorem closeFrame_prevT (short : Bool) :
    rdI (closeFrame x short p) x.helm I_CFL.PREV_T 0 = rd p x.helm I_CFL.FRAME_T % 2 ^ 64 := by
  obtain ⟨q, -, hq⟩ := exists_closeFrame_eq x p short
  rw [hq, (estReadout_keeps x _).fields _ _ (by decide) (by decide), wr_eq, rdI_wrI_self _ _ _ _ _ (by decide)]
  rfl

/-- The other marks stand as the opening of the close leaves them. -/
theorem closeFrame_mark (short : Bool) (F : Fld) (hF : F.count ≤ 65536) (hMark : F.id ∈ closeMarks) (hPrev : I_CFL.PREV_T.id ≠ F.id) :
    rdI (closeFrame x short p) x.helm F 0 = rdI (frameOpening x (rd p x.helm I_CFL.FRAME_T) short p) x.helm F 0 := by
  obtain ⟨q, hKept, hq⟩ := exists_closeFrame_eq x p short
  rw [hq, (estReadout_keeps x _).fields _ _ hF hMark, wr_eq, rdI_wrI_field _ _ _ _ _ _ _ _ (by decide) hF hPrev,
    hKept.fields _ _ hF hMark]

/-- The marks of a frame that closes short (R92): it is counted, raised and flagged. -/
def shortMarks (x : Side) (p : Pkg) : Pkg :=
  p |> inc x.helm CFL_SEAL_SHORT.COUNT |> raise x.helm clsWarning CFL_EVENT.SEAL_SHORT
    |> wr x.helm I_CFL.FLAGS (Nat.lor (rd p x.helm I_CFL.FLAGS) 2)

theorem shortMarks_keeps {K : List Nat}
    (hK : ∀ F ∈ [CFL_SEAL_SHORT.COUNT, CFL_EVENT.SEAL_SHORT, I_DIE.SEQ, I_CFL.FLAGS], F.id ∉ K := by decide) :
    LaneKeeps x K p (shortMarks x p) :=
  .wr (.raise (.inc .refl (hK := hK _ (List.mem_cons_self ..)))
      (hK := fun F hF => hK F (List.mem_cons_of_mem _ (List.mem_append_left [I_CFL.FLAGS] hF))))
    (hK := hK _ (List.mem_append_right [CFL_SEAL_SHORT.COUNT, CFL_EVENT.SEAL_SHORT, I_DIE.SEQ] (List.mem_cons_self ..)))

theorem shortMarks_event : rdI (shortMarks x p) x.helm CFL_EVENT.SEAL_SHORT 0 = 1 := by
  unfold shortMarks
  rw [wr_eq, rdI_wrI_field _ _ _ _ _ _ _ _ (by decide) (by decide) (by decide)]
  exact raiseWith_sets x.helm clsWarning CFL_EVENT.SEAL_SHORT .unstated _ (by decide) (by decide) rfl (by decide) (by decide)

theorem shortMarks_count :
    rdI (shortMarks x p) x.helm CFL_SEAL_SHORT.COUNT 0 = (rdI p x.helm CFL_SEAL_SHORT.COUNT 0 + 1) % 2 ^ 32 := by
  have hAfter : LaneKeeps x [CFL_SEAL_SHORT.COUNT.id] (inc x.helm CFL_SEAL_SHORT.COUNT p) (shortMarks x p) := .wr <| .raise .refl
  rw [hAfter.fields _ _ (by decide) (by decide)]
  exact rdI_wrI_self _ _ _ _ _ (by decide)

/-- The opening of a close clears FRAME_OPEN, writes whether the close is short, and marks a short one. -/
theorem exists_frameOpening_eq (t : Int) (short : Bool) : ∃ q, KeepsMarks x (wr x.helm I_CFL.FRAME_OPEN 0 p) q ∧
    frameOpening x t short p = onlyIf short (shortMarks x) (wr x.helm CFL_STATUS.SEAL_SHORT (b2n short) q) :=
  ⟨_, .wr <| .wr <| .trans (.wr .refl) (replaySwap_keeps x _ t), rfl⟩

theorem frameOpening_frameOpen (t : Int) (short : Bool) : rdI (frameOpening x t short p) x.helm I_CFL.FRAME_OPEN 0 = 0 := by
  obtain ⟨q, hKept, hq⟩ := exists_frameOpening_eq x p t short
  have hShort : LaneKeeps x [I_CFL.FRAME_OPEN.id] q (frameOpening x t short p) := by
    rw [hq]
    exact .onlyIf (.wr .refl) (shortMarks_keeps x _)
  rw [hShort.fields _ _ (by decide) (by decide), hKept.fields _ _ (by decide) (by decide)]
  exact rdI_wrI_self _ _ _ _ _ (by decide)

theorem frameOpening_sealShort (t : Int) (short : Bool) :
    rdI (frameOpening x t short p) x.helm CFL_STATUS.SEAL_SHORT 0 = b2n short := by
  obtain ⟨q, -, hq⟩ := exists_frameOpening_eq x p t short
  have hShort : LaneKeeps x [CFL_STATUS.SEAL_SHORT.id] (wr x.helm CFL_STATUS.SEAL_SHORT (b2n short) q) (frameOpening x t short p) := by
    rw [hq]
    exact .onlyIf .refl (shortMarks_keeps x _)
  rw [hShort.fields _ _ (by decide) (by decide), wr_eq, rdI_wrI_self _ _ _ _ _ (by decide)]
  cases short <;> rfl

theorem frameOpening_short_event (t : Int) : rdI (frameOpening x t true p) x.helm CFL_EVENT.SEAL_SHORT 0 = 1 := by
  obtain ⟨q, -, hq⟩ := exists_frameOpening_eq x p t true
  rw [hq, onlyIf_true, shortMarks_event]

theorem frameOpening_short_count (t : Int) :
    rdI (frameOpening x t true p) x.helm CFL_SEAL_SHORT.COUNT 0 = (rdI p x.helm CFL_SEAL_SHORT.COUNT 0 + 1) % 2 ^ 32 := by
  obtain ⟨q, hKept, hq⟩ := exists_frameOpening_eq x p t true
  rw [hq, onlyIf_true, shortMarks_count, wr_eq, rdI_wrI_field _ _ _ _ _ _ _ _ (by decide) (by decide) (by decide),
    hKept.fields _ _ (by decide) (by decide), wr_eq, rdI_wrI_field _ _ _ _ _ _ _ _ (by decide) (by decide) (by decide)]

theorem frameOpening_onlyLane (t : Int) (short : Bool) : OnlyLane x p (frameOpening x t short p) := by
  obtain ⟨q, hKept, hq⟩ := exists_frameOpening_eq x p t short
  have hClear : LaneKeeps x [] p (wr x.helm I_CFL.FRAME_OPEN 0 p) := .wr .refl
  have hShort : LaneKeeps x [] q (frameOpening x t short p) := by
    rw [hq]
    exact .onlyIf (.wr .refl) (shortMarks_keeps x _)
  exact (hClear.onlyLane.trans hKept.onlyLane).trans hShort.onlyLane

/-! What a close does (R91, R92). -/

theorem closeFrame_frameOpen (short : Bool) : rdI (closeFrame x short p) x.helm I_CFL.FRAME_OPEN 0 = 0 := by
  rw [closeFrame_mark x p short _ (by decide) (by decide) (by decide), frameOpening_frameOpen]

theorem closeFrame_sealShort (short : Bool) : rdI (closeFrame x short p) x.helm CFL_STATUS.SEAL_SHORT 0 = b2n short := by
  rw [closeFrame_mark x p short _ (by decide) (by decide) (by decide), frameOpening_sealShort]

theorem closeFrame_short_event : rdI (closeFrame x true p) x.helm CFL_EVENT.SEAL_SHORT 0 = 1 := by
  rw [closeFrame_mark x p true _ (by decide) (by decide) (by decide), frameOpening_short_event]

theorem closeFrame_short_count :
    rdI (closeFrame x true p) x.helm CFL_SEAL_SHORT.COUNT 0 = (rdI p x.helm CFL_SEAL_SHORT.COUNT 0 + 1) % 2 ^ 32 := by
  rw [closeFrame_mark x p true _ (by decide) (by decide) (by decide), frameOpening_short_count]

theorem closeFrame_onlyLane (short : Bool) : OnlyLane x p (closeFrame x short p) := by
  obtain ⟨q, hKept, hq⟩ := exists_closeFrame_eq x p short
  have hPrev : LaneKeeps x [] q (wr x.helm I_CFL.PREV_T (rd p x.helm I_CFL.FRAME_T) q) := .wr .refl
  rw [hq]
  exact (((frameOpening_onlyLane x p _ short).trans hKept.onlyLane).trans hPrev.onlyLane).trans (estReadout_keeps x _).onlyLane

end Sys2Proof.Machine
end

section
/-! R83, R84, R90, R91: samples at their receiving die and on their way to the lanes, and the seals of the dies. -/

namespace Sys2Proof.Machine

/-! What a statement says of a command, from the effect that the command has on the package. -/

theorem Completes.of_nextPk {c : Instr} {s : State} {f : Pkg → Pkg} {P : State → Prop} (h : exec c s = nextPk s f) (hP : P (s.onPk f)) :
    Completes c s P := ⟨s.onPk f, h, rfl, hP⟩

theorem ActsOn.of_nextPk {c : Instr} {s : State} {f : Pkg → Pkg} {l : List (Die × Fld)} {P : Pkg → Prop} (h : exec c s = nextPk s f)
    (hFrame : OnlyFields l s.pk (f s.pk)) (hP : P (f s.pk)) : ActsOn c s l P := Completes.of_nextPk h ⟨rfl, hFrame, hP⟩

theorem ActsWithin.of_nextPk {c : Instr} {s : State} {f : Pkg → Pkg} {R : Pkg → Pkg → Prop} {P : Pkg → Prop} (h : exec c s = nextPk s f)
    (hFrame : R s.pk (f s.pk)) (hP : P (f s.pk)) : ActsWithin R c s P := Completes.of_nextPk h ⟨rfl, hFrame, hP⟩

theorem ActsNot.of_nextPk {c : Instr} {s : State} {f : Pkg → Pkg} (h : exec c s = nextPk s f) (hf : f s.pk = s.pk) : ActsNot c s := by
  rw [ActsNot, h, nextPk, State.onPk, hf]

theorem OnlyFields.forAll {α : Type} {l : List (Die × Fld)} {f : α → Pkg → Pkg} (as : List α) (p : Pkg)
    (h : ∀ a q, OnlyFields l q (f a q)) : OnlyFields l p (forAll as f p) := by
  induction as generalizing p with
  | nil => exact (OnlyFields.refl [] p).mono (by simp)
  | cons a as ih => exact ((h a p).trans (ih _)).mono (by simp)

/-! A write of fields other than a die's run state and the culvert's links keeps who runs and what reaches whom. -/

section
variable {l : List (Die × Fld)} {p q : Pkg}

theorem FieldsKept.running (h : FieldsKept l p q) (hRun : ∀ g ∈ l, g.2.id ≠ I_DIE.RUN.id) (d : Die) :
    running q d = running p d := by
  simp only [Machine.running, rd_eq, h d I_DIE.RUN 0 (by decide) fun g hg hgd => hRun g hg hgd.2]

theorem FieldsKept.reaches (h : FieldsKept l p q) (hRun : ∀ g ∈ l, g.2.id ≠ I_DIE.RUN.id)
    (hLink : ∀ g ∈ l, g.2.id ≠ I_PKG.CULVERT_DOWN.id) (d e : Die) : reaches q d e = reaches p d e := by
  have hDown (i : Nat) : rdI q .sw I_PKG.CULVERT_DOWN i = rdI p .sw I_PKG.CULVERT_DOWN i :=
    h .sw _ i (by decide) fun g hg hgd => hLink g hg hgd.2
  simp only [Machine.reaches, linkUp, planeUp, flagI_eq, hDown, h.running hRun]

end

/-! Delivery to the lanes (R84). -/

/-- A lane with one more sample in its inbox. -/
def Lane.received (m : Sample) (l : Lane) : Lane := { l with inbox := l.inbox ++ [m] }

/-- What a lane holds after a delivery: a running helm that the die reaches has the sample at the end of its inbox. -/
def delivered (d : Die) (m : Sample) (p : Pkg) (x : Side) : Lane :=
  if running p x.helm && reaches p d x.helm then (p.lanes.get x).received m else p.lanes.get x

/-- A delivery changes the lanes' lists alone, each lane's by itself. -/
theorem deliverSample_eq (d : Die) (m : Sample) (p : Pkg) :
    deliverSample d m p = { p with lanes := ⟨delivered d m p .a, delivered d m p .b⟩ } := by
  have hRunning (x : Side) (f : Lane → Lane) (e : Die) : running (onLane x f p) e = running p e := rfl
  have hReaches (x : Side) (f : Lane → Lane) (e : Die) : reaches (onLane x f p) d e = reaches p d e := rfl
  simp only [deliverSample, forAll, bothSides, List.foldl, delivered]
  cases running p Side.a.helm && reaches p d Side.a.helm <;>
    simp only [hRunning, hReaches, if_true, if_false, Bool.false_eq_true] <;>
    cases running p Side.b.helm && reaches p d Side.b.helm <;> rfl

theorem deliverSample_lane (d : Die) (m : Sample) (p : Pkg) (x : Side) :
    (deliverSample d m p).lanes.get x = delivered d m p x := by
  rw [deliverSample_eq]
  cases x <;> rfl

/-! A sample at its die (R83, R84). -/

theorem receiveSample_stopped (r : RawSample) (p : Pkg) (h : running p r.die = false) : receiveSample r p = p := by
  simp [receiveSample, receiveMarked, h]

theorem receiveSample_unmatched (r : RawSample) (p : Pkg) (h : running p r.die = true) (hMatch : matchSource p r = none) :
    receiveSample r p = inc r.die I_DIE.UNMATCHED p := by
  simp [receiveSample, receiveMarked, h, hMatch]

/-- A sample that has got its number at its die, before it leaves for the lanes. -/
def sampleStamped (d : Die) (src n arrival : Nat) (p : Pkg) : Pkg :=
  wrI d I_SRC.SEQ src n { p with stamped := p.stamped ++ [⟨d.num, src, n, arrival⟩] }

theorem receiveSample_matched (r : RawSample) (p : Pkg) (m : SrcMatch) (st : Int) (h : running p r.die = true)
    (hMatch : matchSource p r = some m) (hStamp : sourceStamp p m r = some st) :
    receiveSample r p =
      let n := (rdI p r.die I_SRC.SEQ m.src + 1) % 2 ^ 32
      deliverSample r.die ⟨m.src, n, r.arrival, st, r.comps, false⟩ (sampleStamped r.die m.src n r.arrival p) := by
  simp [receiveSample, receiveMarked, h, hMatch, hStamp, trunc, sampleStamped]

/-! The number stands in the register and in the list, and nothing else of the die changes. -/

theorem sampleStamped_fields (d : Die) (src n arrival : Nat) (p : Pkg) : FieldsKept [(d, I_SRC.SEQ)] p (sampleStamped d src n arrival p) :=
  FieldsKept.wrI d I_SRC.SEQ src n { p with stamped := p.stamped ++ [⟨d.num, src, n, arrival⟩] } (by decide)

theorem rdI_deliverSample (d e : Die) (m : Sample) (p : Pkg) (F : Fld) (i : Nat) : rdI (deliverSample d m p) e F i = rdI p e F i := by
  rw [deliverSample_eq]
  rfl

theorem deliverSample_sampleStamped (d : Die) (m : Sample) (src n arrival : Nat) (p : Pkg) (hSrc : src < 64) :
    let q := deliverSample d m (sampleStamped d src n arrival p)
    q = { p with regs := q.regs, lanes := q.lanes, stamped := p.stamped ++ [⟨d.num, src, n, arrival⟩] } ∧
      FieldsKept [(d, I_SRC.SEQ)] p q ∧ rdI q d I_SRC.SEQ src = n % 2 ^ 32 ∧
      ∀ x, q.lanes.get x = delivered d m p x := by
  have hKept := sampleStamped_fields d src n arrival p
  have hRun : ∀ g ∈ [(d, I_SRC.SEQ)], g.2.id ≠ I_DIE.RUN.id := by simp only [List.forall_mem_singleton]; decide
  have hLink : ∀ g ∈ [(d, I_SRC.SEQ)], g.2.id ≠ I_PKG.CULVERT_DOWN.id := by simp only [List.forall_mem_singleton]; decide
  refine ⟨?frame, fun e F i hF hn => ?fields, ?seq, fun x => ?lane⟩
  case frame =>
    rw [deliverSample_eq]
    rfl
  case fields => rw [rdI_deliverSample, hKept e F i hF hn]
  case seq =>
    rw [rdI_deliverSample]
    exact rdI_wrI_self _ _ _ _ _ hSrc
  case lane =>
    rw [deliverSample_lane, delivered, hKept.running hRun, hKept.reaches hRun hLink]
    rfl

/-! Seals (R90, R91). -/

theorem dieSources_isEmpty (p : Pkg) (d : Die) (h : p.matching.any (fun m => m.die == d.num) = true) : (dieSources p d).isEmpty = false := by
  obtain ⟨m, hm, hd⟩ := List.any_eq_true.mp h
  have hMem : m.src ∈ dieSources p d := List.mem_map_of_mem (List.mem_filter.mpr ⟨hm, hd⟩)
  exact List.isEmpty_eq_false_iff.mpr (List.ne_nil_of_mem hMem)

/-- While lane A runs, the cutoff of a die's frame follows lane A's settings. -/
theorem cutoffOf_of_running (p : Pkg) (d : Die) (h : running p .ha = true) :
    cutoffOf p d = now p d / (rd p .ha CFL_STATUS.FRAME_MS * 1000000) * (rd p .ha CFL_STATUS.FRAME_MS * 1000000) +
      rd p .ha CFL_CFG.ADMIT * 10000 := by
  simp only [cutoffOf, h, if_true, frameNs, Int.toNat_natCast]
  rfl

/-- The seal that a die sends at its cutoff. -/
def sealOf (p : Pkg) (d : Die) : Seal :=
  ⟨d.num, cutoffOf p d, (dieSources p d).map (fun n => (n, rdI p d I_SRC.SEALED n, sealedSeq p d (cutoffOf p d) n))⟩

/-- The die's seal takes the place of its former one, the samples sealed leave the list, and only SEALED is written. -/
theorem frameCutoff_sends (p : Pkg) (d : Die) (h : running p d = true) (hSrc : p.matching.any (fun m => m.die == d.num) = true)
    (hNew : p.sealsOut.any (fun q => q.die == d.num && q.cutoff == cutoffOf p d) = false) :
    OnlyFields [(d, I_SRC.SEALED)]
      { p with
        sealsOut := p.sealsOut.filter (fun q => q.die != d.num) ++ [sealOf p d]
        stamped := p.stamped.filter (fun q => !(q.die == d.num && decide (q.arrival ≤ cutoffOf p d))) }
      (frameCutoff d p) := by
  simp only [frameCutoff, h, dieSources_isEmpty p d hSrc, hNew, Bool.not_true, Bool.or_self, Bool.false_eq_true, if_false]
  exact OnlyFields.forAll _ _ fun n q => OnlyFields.wrI d I_SRC.SEALED n _ q (by decide)

/-- A running helm that the die reaches puts the die's seal in place of the former one. -/
theorem sealReceive_takes (p : Pkg) (x : Side) (d : Die) (v : Seal) (h : running p x.helm = true) (hReach : reaches p d x.helm = true)
    (hSeal : p.sealsOut.find? (fun q => q.die == d.num) = some v) :
    sealReceive x d p = onLane x (fun l => { l with seals := l.seals.filter (fun q => q.die != d.num) ++ [v] }) p := by
  simp [sealReceive, hSeal, h, hReach]

/-! When a frame closes (R91, R92, R421). -/

theorem frameMayClose_of_open (p : Pkg) (x : Side) (h : running p x.helm = true) (hOpen : rd p x.helm I_CFL.FRAME_OPEN = 1)
    (hTxn : p.txn.ordered = false) : frameMayClose p x = true := by
  simp only [rd_eq] at hOpen
  simp [frameMayClose, applyDue, h, hOpen, hTxn]

theorem frameMayClose_false (p : Pkg) (x : Side)
    (h : running p x.helm = false ∨ rd p x.helm I_CFL.FRAME_OPEN = 0 ∨ applyDue p (rd p x.helm I_CFL.FRAME_T) = true) :
    frameMayClose p x = false := by
  obtain h | h | h := h
  · simp [frameMayClose, h]
  · simp only [rd_eq] at h
    simp [frameMayClose, h]
  · simp only [frameMayClose, h, Bool.not_true, Bool.and_false]

theorem frameClose_of_complete (p : Pkg) (x : Side) (hMay : frameMayClose p x = true) (h : framesComplete p x = true) :
    frameClose x p = closeFrame x false p := by simp [frameClose, hMay, h]

theorem sealShort_of_incomplete (p : Pkg) (x : Side) (hMay : frameMayClose p x = true) (h : framesComplete p x = false) :
    sealShort x p = closeFrame x true p := by simp [sealShort, hMay, h]

/-- Settles O7. A sample is followed from its die to the inboxes, a seal from its die to the lane; the close of a frame is `closeFrame`, which
stays in its lane and writes the marks of a close only at its opening and at its end. -/
theorem samplesSealsAndFramesReachTheirLanes : Obligations.SamplesSealsAndFramesReachTheirLanes := by
  unfold Obligations.SamplesSealsAndFramesReachTheirLanes
  refine ⟨?unmatched, ?matched, ?stopped, ?cutoff, ?sealed, ?close, ?mayNot, ?incomplete, ?short⟩
  case unmatched =>
    intro r s hRun hMatch
    refine .of_nextPk (f := receiveSample r) rfl ?_ ?_ <;> rw [receiveSample_unmatched r s.pk hRun hMatch]
    · exact OnlyFields.incI r.die I_DIE.UNMATCHED 0 s.pk (by decide)
    · exact rdI_wrI_self _ _ _ _ _ (by decide)
  case matched =>
    intro r m st s hRun hMatch hStamp hSrc
    refine .of_nextPk (f := receiveSample r) rfl ?_
    simp only [onPk_pk, receiveSample_matched r s.pk m st hRun hMatch hStamp]
    obtain ⟨hFrame, hFields, hSeq, hLanes⟩ := deliverSample_sampleStamped r.die
      ⟨m.src, (rdI s.pk r.die I_SRC.SEQ m.src + 1) % 2 ^ 32, r.arrival, st, r.comps, false⟩ m.src
      ((rdI s.pk r.die I_SRC.SEQ m.src + 1) % 2 ^ 32) r.arrival s.pk hSrc
    exact ⟨rfl, hFrame, hFields, hSeq.trans (Nat.mod_mod _ _), fun x _ => hLanes x⟩
  case stopped => exact fun r s hRun => .of_nextPk (f := receiveSample r) rfl (receiveSample_stopped r s.pk hRun)
  case cutoff =>
    intro d s hRun hSrc hHelm hNew
    obtain ⟨hFrame, hFields⟩ := frameCutoff_sends s.pk d hRun hSrc hNew
    refine .of_nextPk (f := frameCutoff d) rfl ⟨rfl, ?frame, hFields, ?stamped, ?seals⟩ <;> simp only [onPk_pk] <;> rw [hFrame]
    case seals => rw [sealOf, cutoffOf_of_running s.pk d hHelm]
  case sealed =>
    intro x d v s hRun hReach hSeal
    refine .of_nextPk (f := sealReceive x d) rfl ⟨rfl, ?_⟩
    rw [onPk_pk, sealReceive_takes s.pk x d v hRun hReach hSeal]
    rfl
  case close =>
    intro x s hRun hOpen hTxn hFull
    refine .of_nextPk (f := frameClose x) rfl ?_ ?_ <;> rw [frameClose_of_complete s.pk x (frameMayClose_of_open s.pk x hRun hOpen hTxn) hFull]
    · exact closeFrame_onlyLane x s.pk false
    · exact ⟨closeFrame_frameOpen x s.pk false, closeFrame_sealShort x s.pk false, closeFrame_prevT x s.pk false⟩
  case mayNot =>
    intro x s h
    have hNot := frameMayClose_false s.pk x h
    exact ⟨.of_nextPk (f := frameClose x) rfl (by simp [frameClose, hNot]), .of_nextPk (f := sealShort x) rfl (by simp [sealShort, hNot])⟩
  case incomplete => exact fun x s h => .of_nextPk (f := frameClose x) rfl (by simp [frameClose, h])
  case short =>
    intro x s hRun hOpen hTxn hShort
    refine .of_nextPk (f := sealShort x) rfl ?_ ?_ <;> rw [sealShort_of_incomplete s.pk x (frameMayClose_of_open s.pk x hRun hOpen hTxn) hShort]
    · exact closeFrame_onlyLane x s.pk true
    · exact ⟨closeFrame_frameOpen x s.pk true, closeFrame_sealShort x s.pk true, closeFrame_short_event x s.pk, closeFrame_short_count x s.pk⟩

end Sys2Proof.Machine
end

section
/-! R162, R182, R190 to R197, R206: the assembly stage and the solver work inside their lane; a fault of a furrow engine adds its occurrence. -/

namespace Sys2Proof.Machine

/-- Nothing has changed outside a lane but the occurrences of faults and the resources that wait for their retirement. -/
def OnlyLaneAndFaults (x : Side) (p q : Pkg) : Prop :=
  q = { p with
    regs := q.regs, log := p.log.set x.helm (q.log.get x.helm), faults := q.faults, retiring := q.retiring
    lanes := p.lanes.set x (q.lanes.get x) } ∧ OtherDiesKept x.helm p q

theorem OnlyLane.andFaults {x : Side} {p q : Pkg} (h : OnlyLane x p q) : OnlyLaneAndFaults x p q := by
  obtain ⟨hpq, hDies⟩ := h
  have hFaults : q.faults = p.faults := by rw [hpq]
  have hRetiring : q.retiring = p.retiring := by rw [hpq]
  refine ⟨?_, hDies⟩
  rw [hFaults, hRetiring]
  exact hpq

theorem OnlyLaneAndFaults.trans {x : Side} {p q r : Pkg} (h : OnlyLaneAndFaults x p q) (k : OnlyLaneAndFaults x q r) :
    OnlyLaneAndFaults x p r := by
  obtain ⟨hpq, hDies⟩ := h
  obtain ⟨hqr, kDies⟩ := k
  refine ⟨?_, fun e F i hF he => (kDies e F i hF he).trans (hDies e F i hF he)⟩
  rw [hqr, hpq]
  simp

theorem OnlyLaneAndFaults.faults (x : Side) (p : Pkg) (l : List Occ) : OnlyLaneAndFaults x p { p with faults := l } :=
  ⟨by simp, fun _ _ _ _ _ => rfl⟩

theorem OnlyLaneAndFaults.retiring (x : Side) (p : Pkg) (l : List Retire) : OnlyLaneAndFaults x p { p with retiring := l } :=
  ⟨by simp, fun _ _ _ _ _ => rfl⟩

theorem LaneKeeps.foldl {x : Side} {K : List Nat} {p q : Pkg} {α : Type} {l : List α} {f : Pkg → α → Pkg} (h : LaneKeeps x K p q)
    (k : ∀ a q, LaneKeeps x K q (f q a)) : LaneKeeps x K p (l.foldl f q) := h.forAll (f := fun a q => f q a) k

/-! The rules of a write and of an event with their side conditions as one closed fact, given where they are used: a default argument that
is a lemma's of this text waits for the check of every proof before it, and holds a thread of its own meanwhile. -/

/-- A write of a field outside `K`, also by `wr`, `wrSI`, `incI` and `inc`. -/
theorem LaneKeeps.write {x : Side} {K : List Nat} {p q : Pkg} {F : Fld} {i v : Nat} (hF : F.count ≤ 65536 ∧ F.id ∉ K)
    (h : LaneKeeps x K p q) : LaneKeeps x K p (Machine.wrI x.helm F i v q) := h.wrI hF.1 hF.2

/-- An event of a class below NME, raised at the helm. -/
theorem LaneKeeps.event {x : Side} {K : List Nat} {p q : Pkg} {cls : Nat} {F : Fld}
    (hF : F.count ≤ 65536 ∧ (∀ G ∈ [F, I_DIE.SEQ], G.id ∉ K) ∧ codeClass (eventCode cls (blockCode F.off) F.lo) ≠ clsNme)
    (h : LaneKeeps x K p q) : LaneKeeps x K p (Machine.raise x.helm cls F q) := h.raise hF.1 hF.2.1 hF.2.2

/-- A record of a class below NME at the helm. -/
theorem LaneKeeps.logAt {x : Side} {K : List Nat} {p q : Pkg} {code : Nat} {pl : Payload} (h : LaneKeeps x K p q)
    (hc : codeClass code ≠ clsNme) (hK : I_DIE.SEQ.id ∉ K) : LaneKeeps x K p (logAt x.helm code pl q) :=
  h.trans (.of_onlyFieldsAndLog (l := [I_DIE.SEQ]) (logRec_frame x.helm code 0 0xFF 0 pl q hc) (by simpa using hK))

theorem LaneKeeps.onSol {x : Side} {K : List Nat} {p q : Pkg} {f : SolverSt → SolverSt} (h : LaneKeeps x K p q) :
    LaneKeeps x K p (onSol x f q) := h.onLane

theorem OnlyFieldsAndLog.lanes_eq {d : Die} {l : List (Die × Fld)} {p q : Pkg} (h : OnlyFieldsAndLog d l p q) : q.lanes = p.lanes := by rw [h.1]

theorem OnlyLane.faults_eq {x : Side} {p q : Pkg} (h : OnlyLane x p q) : q.faults = p.faults := by rw [h.1]

variable (x : Side) (p : Pkg)

/-! A counted fault of a furrow engine (R190, R206, R444). -/

theorem exists_retireDue_eq (d : Die) (kind i : Nat) (selftest : Bool) : ∃ r, retireDue d kind i selftest p = { p with retiring := r } := by
  simp only [retireDue]
  split
  · exact ⟨_, rfl⟩
  · exact ⟨_, rfl⟩

/-- A fault of an engine in use adds its occurrence; besides, the lane's log and the engine's WINDOW change, and the engine may come to
wait for its retirement. -/
theorem exists_occurrence_engine_eq {K : List Nat} (e : Nat) (selftest : Bool) (h : resourceRetired p x.helm 2 e = false)
    (hWindow : SOL_ENG.WINDOW.id ∉ K) (hSeq : I_DIE.SEQ.id ∉ K) :
    ∃ q r, LaneKeeps x K { p with faults := p.faults ++ [⟨x.helm.num, 2, e, rd p .sw I_PKG.OPERATING_MS⟩] } q ∧
      occurrence x.helm 2 e selftest p = { q with retiring := r } := by
  have hClass (c : Bool) : codeClass (eventCode (if c then clsPermanent else clsTransient) (kindBlock 2) 36) ≠ clsNme := by
    cases c <;> decide
  unfold occurrence
  rw [if_neg (by simp [h])]
  extract_lets counted perm logged
  have hLogged : LaneKeeps x K _ logged := .logAt (.write ⟨by decide, hWindow⟩ .refl) (hClass perm) hSeq
  split
  · exact ⟨logged, logged.retiring, hLogged, rfl⟩
  · obtain ⟨r, hr⟩ := exists_retireDue_eq logged x.helm 2 e selftest
    exact ⟨logged, r, hLogged, hr⟩

/-- A fault counted in a counter of its engine (R190, R206). -/
theorem engineFault_counted (F : Fld) (hF : F = SOL_ENG.PARITY ∨ F = SOL_ENG.BIST_FAIL) (e : Nat) (selftest : Bool) (he : e < 9)
    (h : resourceRetired p x.helm 2 e = false) :
    let q := occurrence x.helm 2 e selftest (incI x.helm F e p)
    OnlyLaneAndFaults x p q ∧ rdI q x.helm F e = (rdI p x.helm F e + 1) % 2 ^ F.w ∧
      q.faults = p.faults ++ [⟨x.helm.num, 2, e, rd p .sw I_PKG.OPERATING_MS⟩] := by
  have hCount : F.count = 9 := by rcases hF with rfl | rfl <;> rfl
  have hWindow : SOL_ENG.WINDOW.id ∉ [F.id] := by rcases hF with rfl | rfl <;> decide
  have hSeq : I_DIE.SEQ.id ∉ [F.id] := by rcases hF with rfl | rfl <;> decide
  have hClock : F.id ≠ I_PKG.OPERATING_MS.id := by rcases hF with rfl | rfl <;> decide
  have hRetired : F.id ≠ SOL_FURROW_STATE.RETIRED.id := by rcases hF with rfl | rfl <;> decide
  have hIn : resourceRetired (incI x.helm F e p) x.helm 2 e = false := by
    rw [← h]
    simp only [resourceRetired, rd_eq, incI, rdI_wrI_field _ _ _ _ _ _ _ _ (by omega) (by decide) hRetired]
  have hNow : rd (incI x.helm F e p) .sw I_PKG.OPERATING_MS = rd p .sw I_PKG.OPERATING_MS :=
    rdI_wrI_field _ _ _ _ _ _ _ _ (by omega) (by decide) hClock
  obtain ⟨q, r, hKept, hq⟩ := exists_occurrence_engine_eq (K := [F.id]) x _ e selftest hIn hWindow hSeq
  rw [hNow] at hKept
  simp only [hq]
  refine ⟨?frame, ?count, hKept.onlyLane.faults_eq⟩
  case frame =>
    have hCounter : LaneKeeps x [] p (incI x.helm F e p) := .write ⟨by omega, by simp⟩ .refl
    exact ((hCounter.onlyLane.andFaults.trans (.faults x _ _)).trans hKept.onlyLane.andFaults).trans (.retiring x q r)
  case count =>
    calc rdI q x.helm F e = rdI (incI x.helm F e p) x.helm F e := hKept.fields F e (by omega) (by simp)
      _ = (rdI p x.helm F e + 1) % 2 ^ F.w := rdI_wrI_self _ _ _ _ _ (by omega)

/-! When the two stages work. -/

theorem solverOn_iff : solverOn p x = true ↔
    running p x.helm = true ∧ 2 ≤ laneState p x ∧ rd p x.helm I_LANE.LAYOUT_APPLIED ≠ 0 := by
  simp [solverOn, and_assoc]

theorem solverOn_of_applied (hRun : running p x.helm = true) (hState : 2 ≤ laneState p x) (hApplied : rd p x.helm I_LANE.LAYOUT_APPLIED = 1) :
    solverOn p x = true :=
  (solverOn_iff x p).mpr ⟨hRun, hState, by rw [hApplied]; decide⟩

theorem solverOn_eq_false (h : running p x.helm = false ∨ laneState p x < 2 ∨ rd p x.helm I_LANE.LAYOUT_APPLIED = 0) :
    solverOn p x = false := by
  rw [← Bool.not_eq_true, solverOn_iff]
  rintro ⟨hRun, hState, hApplied⟩
  rcases h with h | h | h
  · simp [h] at hRun
  · omega
  · exact hApplied h

/-! The assembly stage (R162, R166 to R173, R182). -/

/-- The guard of ASSEMBLY_RUN is that of SOLVER_RUN. -/
theorem assemblyRun_guard :
    (!(running p x.helm) || decide (laneState p x < 2) || !(flag p x.helm I_LANE.LAYOUT_APPLIED)) = !(solverOn p x) := by
  have hState : decide (laneState p x < 2) = !decide (2 ≤ laneState p x) := by simp only [← Nat.not_le, decide_not]
  rw [hState, solverOn, Bool.not_and, Bool.not_and]

theorem assemblyRun_off (h : solverOn p x = false) : assemblyRun x p = p := by
  simp only [assemblyRun, assemblyRun_guard, h, Bool.not_false, if_true]

theorem assemblyRun_skips (h : solverOn p x = true) (hMode : modeOf p x < 2) : assemblyRun x p = wr x.helm ASM_STATUS.RESULT 1 p := by
  simp only [assemblyRun, assemblyRun_guard, h, Bool.not_true, Bool.false_eq_true, if_false, hMode, if_true]

/-- Work inside a lane that leaves the count of assembly runs. -/
abbrev KeepsRuns (x : Side) : Pkg → Pkg → Prop := LaneKeeps x [ASM_RUNS.V.id]

theorem selectThruster_keeps (fromFb : Bool) (i : Nat) (t : Thruster) : KeepsRuns x p (selectThruster x fromFb i t p) := by
  unfold selectThruster
  refine .write (by decide) <| .write (by decide) <| .write (by decide) <| .onlyIf (.write (by decide) .refl) ?_
  exact .write (by decide) <| .write (by decide) .refl

theorem selectPower_keeps : KeepsRuns x p (selectPower x p) := by
  unfold selectPower
  refine .onlyIf (.forAll .refl fun s q => ?_) (.event (by decide) .refl)
  exact .write (by decide) <| .write (by decide) <| .write (by decide) <| .write (by decide) <| .write (by decide) .refl

theorem asmSelect_keeps : KeepsRuns x p (asmSelect x p) := by
  unfold asmSelect
  extract_lets d l fromFb commanded selected wide was
  have hSelected : KeepsRuns x p selected := by
    refine .foldl (.onSol .refl) fun i q => ?_
    split
    · exact selectThruster_keeps x q fromFb i _
    · exact .refl
  refine .onlyIf ?_ (.event (by decide) .refl)
  exact .write (by decide) <| .write (by decide) <| .write (by decide) <| hSelected.trans (selectPower_keeps x selected)

/-- In modes 2 to 6 the run is counted, and what follows leaves the count. -/
theorem assemblyRun_keeps (h : solverOn p x = true) (hMode : 2 ≤ modeOf p x) :
    KeepsRuns x (inc x.helm ASM_RUNS.V p) (assemblyRun x p) := by
  simp only [assemblyRun, assemblyRun_guard, h, Bool.not_true, Bool.false_eq_true, if_false, Nat.not_lt.mpr hMode]
  have hReported (f : SolverSt → SolverSt) (bank status : Nat) (stride : Int) :
      KeepsRuns x (inc x.helm ASM_RUNS.V p) (wr x.helm ASM_STATUS.RESULT status
        (wrSI x.helm I_ASM.STRIDE 0 stride (wr x.helm I_ASM.BANK bank (onSol x f (asmSelect x (inc x.helm ASM_RUNS.V p)))))) :=
    .write (by decide) <| .write (by decide) <| .write (by decide) <| .onSol <| asmSelect_keeps x _
  split
  · exact .event (by decide) <| .write (by decide) <| .write (by decide) <| .write (by decide) <| hReported _ _ _ _
  · exact hReported _ _ _ _

/-! What a run returns, and the run of a cycle (R191 to R197). -/

/-- A run keeps its start, its deadline and the parity errors that meet it. -/
theorem solveRun_inputs (r : SolRun) :
    (solveRun p x r).cut = r.cut ∧ (solveRun p x r).start = r.start ∧ (solveRun p x r).hits = r.hits := by
  simp only [solveRun]
  split
  · exact ⟨rfl, rfl, rfl⟩
  · split
    · exact ⟨rfl, rfl, rfl⟩
    · exact ⟨rfl, rfl, rfl⟩

theorem solveRun_stale (r : SolRun) (h : r.stale = true) : (solveRun p x r).stale = true ∧ (solveRun p x r).status = 3 := by
  simp only [solveRun, h, if_true, and_self]

theorem solverStart_keeps : LaneKeeps x [] p (solverStart x p) := by
  unfold solverStart
  exact .onlyIf (.onSol .refl) (.event (by decide) .refl)

/-- The lane holds a run, which is STALE where assembly did not succeed. -/
theorem solverStart_run : ∃ r, ((solverStart x p).lanes.get x).sol.run = some r ∧
    (rd p x.helm ASM_STATUS.RESULT ≠ 0 → r.stale = true ∧ r.status = 3) := by
  unfold solverStart
  extract_lets d st stale r
  refine ⟨r, ?held, fun hResult => solveRun_stale x p _ ?stale⟩
  case held =>
    have hEvent (c : Bool) (q : Pkg) : (onlyIf c (raise d clsWarning SOL_EVENT.TIME_DEADLINE) q).lanes = q.lanes := by
      cases c
      · rfl
      · exact (raiseWith_frame d clsWarning SOL_EVENT.TIME_DEADLINE .unstated q (by decide) (by decide)).lanes_eq
    rw [hEvent, onSol, onLane_get_self]
  case stale =>
    show (rd p d ASM_STATUS.RESULT != 0 || flag p d SOL_STATUS.SOLVER_LOST) = true
    rw [bne_iff_ne.mpr hResult, Bool.true_or]

theorem solverRun_off (room pass : Bool) (h : solverOn p x = false) : solverRun x room pass p = p := by simp [solverRun, h]

theorem solverRun_idle (room pass : Bool) (h : solverOn p x = true) (hMode : modeOf p x < 2) :
    solverRun x room pass p = furrowBist x room pass (onSol x (fun s => { s with run := none }) p) := by
  simp [solverRun, h, hMode]

theorem solverRun_runs (room pass : Bool) (h : solverOn p x = true) (hMode : 2 ≤ modeOf p x) :
    solverRun x room pass p = furrowBist x room pass (solverStart x p) := by
  simp [solverRun, h, Nat.not_lt.mpr hMode]

/-! The built-in test (R206). -/

/-- The turn of the built-in test goes to the next engine. -/
theorem furrowBist_passes (room pass : Bool) (h : room = false ∨ pass = true) :
    furrowBist x room pass p = wr x.helm SOL_FURROW_STATE.BIST_NEXT ((rd p x.helm SOL_FURROW_STATE.BIST_NEXT + 1) % 9) p := by
  have hPass : (room && !pass) = false := by rcases h with rfl | rfl <;> simp
  simp only [furrowBist, hPass, onlyIf_false]

/-- The turn of an engine from 0 to 8 fits BIST_NEXT. -/
theorem rdI_wr_bistNext (e : Nat) : rdI (wr x.helm SOL_FURROW_STATE.BIST_NEXT (e % 9) p) x.helm SOL_FURROW_STATE.BIST_NEXT 0 = e % 9 := by
  rw [wr_eq, rdI_wrI_self _ _ _ _ _ (by decide)]
  exact Nat.mod_eq_of_lt (Nat.lt_trans (Nat.mod_lt e (by decide)) (by decide))

/-- After a failed test, too, the turn goes to the next engine. -/
theorem furrowBist_fails : furrowBist x true false p =
    wr x.helm SOL_FURROW_STATE.BIST_NEXT ((rd p x.helm SOL_FURROW_STATE.BIST_NEXT + 1) % 9)
      (occurrence x.helm 2 (rd p x.helm SOL_FURROW_STATE.BIST_NEXT) true
        (incI x.helm SOL_ENG.BIST_FAIL (rd p x.helm SOL_FURROW_STATE.BIST_NEXT) p)) := rfl

/-- After the count of a parity error only the run that the lane holds can change. -/
theorem furrowParity_keeps {K : List Nat} (e : Nat) (at' : FurrowAt) (h : running p x.helm = true) (he : e < 9) :
    LaneKeeps x K (occurrence x.helm 2 e false (incI x.helm SOL_ENG.PARITY e p)) (furrowParity x e at' p) := by
  simp only [furrowParity, h, he, decide_true, Bool.not_true, Bool.or_self, Bool.false_eq_true, if_false]
  split
  · exact .ite .refl (.onSol .refl)
  · exact .refl

/-! The deadline (R193 to R195). -/

/-- The run that is held is carried out again, with its deadline. -/
theorem solverDeadline_cuts (at' : FurrowAt) (phaseU : Bool) (r : SolRun) (hRun : (p.lanes.get x).sol.run = some r) (hStale : r.stale = false) :
    solverDeadline x at' phaseU p = onSol x (fun s => { s with run := some (solveRun p x
      { r with cut := some (deadlinePlace p x r ⟨at'.iter, at'.retry, if phaseU then none else some at'.ops⟩) }) }) p := by
  simp [solverDeadline, hRun, hStale]

/-- Settles O18. Assembly and the solver stay in their lane (`LaneKeeps`); a fault of an engine is `engineFault_counted`, to which the rest of
the command adds only the turn of the test, or the run that the lane holds. -/
theorem assemblyAndSolverRunInTheirLane : Obligations.AssemblyAndSolverRunInTheirLane := by
  unfold Obligations.AssemblyAndSolverRunInTheirLane
  refine ⟨?skipped, ?assembled, ?off, ?idle, ?failed, ?held, ?cut, ?noRun, ?parity, ?freeze⟩
  case skipped =>
    intro x s hRun hState hApplied hMode
    have hSkips := assemblyRun_skips x s.pk (solverOn_of_applied x s.pk hRun hState hApplied) hMode
    refine .of_nextPk (f := assemblyRun x) rfl ?_ ?_ <;> rw [hSkips]
    · exact OnlyFields.wrI x.helm ASM_STATUS.RESULT 0 1 s.pk (by decide)
    · exact rdI_wrI_self _ _ _ _ _ (by decide)
  case assembled =>
    intro x s hRun hState hApplied hMode
    have hKept := assemblyRun_keeps x s.pk (solverOn_of_applied x s.pk hRun hState hApplied) hMode
    have hCounted : LaneKeeps x [] s.pk (inc x.helm ASM_RUNS.V s.pk) := .write (by decide) .refl
    refine .of_nextPk (f := assemblyRun x) rfl (hCounted.onlyLane.trans hKept.onlyLane) ?_
    rw [rd_eq, hKept.fields _ _ (by decide) (by decide)]
    exact rdI_wrI_self _ _ _ _ _ (by decide)
  case off =>
    intro x room pass s h
    have hOff := solverOn_eq_false x s.pk h
    exact ⟨.of_nextPk (f := assemblyRun x) rfl (assemblyRun_off x s.pk hOff),
      .of_nextPk (f := solverRun x room pass) rfl (solverRun_off x s.pk room pass hOff)⟩
  case idle =>
    intro x room pass s hOn hMode hTest
    have hIdle := (solverRun_idle x s.pk room pass hOn hMode).trans (furrowBist_passes x _ room pass hTest)
    refine .of_nextPk (f := solverRun x room pass) rfl ?_ ⟨?_, ?_, ?_⟩ <;> rw [hIdle]
    · exact LaneKeeps.onlyLane (K := []) (.write (by decide) <| .onSol .refl)
    · rw [wr_eq, wrI_lanes, onSol, onLane_get_self]
    · exact FieldsKept.wrI x.helm SOL_FURROW_STATE.BIST_NEXT 0 _ (onSol x _ s.pk) (by decide)
    · exact rdI_wr_bistNext x _ _
  case failed =>
    rintro x e s hOn hMode rfl he hNot
    have hFails := (solverRun_idle x s.pk true false hOn hMode).trans (furrowBist_fails x _)
    obtain ⟨hFrame, hCount, hFaults⟩ := engineFault_counted x (onSol x (fun l => { l with run := none }) s.pk) SOL_ENG.BIST_FAIL (.inr rfl)
      (rd s.pk x.helm SOL_FURROW_STATE.BIST_NEXT) true he hNot
    refine .of_nextPk (f := solverRun x true false) rfl ⟨rfl, ?_, ?_, ?_, ?_⟩ <;> rw [onPk_pk, hFails]
    · have hIdle : LaneKeeps x [] s.pk (onSol x (fun l => { l with run := none }) s.pk) := .onSol .refl
      have hTurn (q : Pkg) (v : Nat) : LaneKeeps x [] q (wr x.helm SOL_FURROW_STATE.BIST_NEXT v q) := .write (by decide) .refl
      exact ((hIdle.onlyLane.andFaults.trans hFrame).trans (hTurn _ _).onlyLane.andFaults).1
    · rw [wr_eq, rdI_wrI_field _ _ _ _ _ _ _ _ (by decide) (by decide) (by decide)]
      exact hCount
    · exact rdI_wr_bistNext x _ _
    · exact hFaults
  case held =>
    intro x pass s hOn hMode
    have hRuns := (solverRun_runs x s.pk false pass hOn hMode).trans (furrowBist_passes x _ false pass (.inl rfl))
    obtain ⟨r, hRun, hStale⟩ := solverStart_run x s.pk
    refine .of_nextPk (f := solverRun x false pass) rfl ?_ ⟨?_, fun hResult => ?_⟩ <;> rw [hRuns]
    · exact LaneKeeps.onlyLane (K := []) (.write (by decide) <| solverStart_keeps x s.pk)
    · rw [wr_eq, wrI_lanes, hRun, Option.isSome_some]
    · obtain ⟨hKept, hStatus⟩ := hStale hResult
      rw [wr_eq, wrI_lanes, hRun, Option.map_some, hKept, hStatus]
  case cut =>
    intro x k retry ops phaseU r s hRun hStale
    have hCuts := solverDeadline_cuts x s.pk ⟨k, retry, ops⟩ phaseU r hRun hStale
    refine .of_nextPk (f := solverDeadline x ⟨k, retry, ops⟩ phaseU) rfl ?_ ⟨?_, ?_⟩ <;> rw [hCuts]
    · exact LaneKeeps.onlyLane (K := []) (.onSol .refl)
    · obtain ⟨hCut, hStart, hHits⟩ := solveRun_inputs x s.pk
        { r with cut := some (deadlinePlace s.pk x r ⟨k, retry, if phaseU then none else some ops⟩) }
      rw [onSol, onLane_get_self, Option.map_some, hCut, hStart, hHits]
    · rfl
  case noRun =>
    intro x k retry ops phaseU s hNone
    exact .of_nextPk (f := solverDeadline x ⟨k, retry, ops⟩ phaseU) rfl (by simp [solverDeadline, hNone])
  case parity =>
    intro x e k retry ops s hRun he hNot
    obtain ⟨hFrame, hCount, hFaults⟩ := engineFault_counted x s.pk SOL_ENG.PARITY (.inl rfl) e false he hNot
    have hKept := furrowParity_keeps (K := [SOL_ENG.PARITY.id]) x s.pk e ⟨k, retry, ops⟩ hRun he
    refine .of_nextPk (f := furrowParity x e ⟨k, retry, ops⟩) rfl ⟨rfl, (hFrame.trans hKept.onlyLane.andFaults).1, ?_, ?_⟩
    · exact (hKept.fields _ _ (by decide) (by decide)).trans hCount
    · exact hKept.onlyLane.faults_eq.trans hFaults
  case freeze =>
    intro x on s hRun
    have hFreeze : solTraceFreeze x on s.pk = wr x.helm SOL_TRACE_CTRL.FREEZE (b2n on) s.pk := by simp [solTraceFreeze, hRun]
    refine .of_nextPk (f := solTraceFreeze x on) rfl ?_ ?_ <;> rw [hFreeze]
    · exact OnlyFields.wrI x.helm SOL_TRACE_CTRL.FREEZE 0 _ s.pk (by decide)
    · rw [rd_eq, wr_eq, rdI_wrI_self _ _ _ _ _ (by decide)]
      cases on <;> rfl

end Sys2Proof.Machine
end

section
/-! Work at one die: a chain of writes of the die's fields and of records in its log leaves all other dies and every list as they were, and
at the die every field that the chain does not name. -/

namespace Sys2Proof.Machine

/-- From `p` to `q` nothing has changed but die `d`'s registers and log side, and there the fields of the identities in `K` read as before.
It is no structure: Lean adds one only after every proof before it is checked. -/
def DieKeeps (d : Die) (K : List Nat) (p q : Pkg) : Prop :=
  q = { p with regs := q.regs, log := p.log.set d (q.log.get d) } ∧ OtherDiesKept d p q ∧
    ∀ F i, F.count ≤ 65536 → F.id ∈ K → rdI q d F i = rdI p d F i

namespace DieKeeps

variable {d : Die} {K : List Nat} {p q r : Pkg}

theorem refl : DieKeeps d K p p := ⟨by simp, fun _ _ _ _ _ => rfl, fun _ _ _ _ => rfl⟩

theorem trans (h : DieKeeps d K p q) (k : DieKeeps d K q r) : DieKeeps d K p r := by
  obtain ⟨hpq, hDies, hFields⟩ := h
  obtain ⟨hqr, kDies, kFields⟩ := k
  refine ⟨?frame, fun e F i hF he => (kDies e F i hF he).trans (hDies e F i hF he),
    fun F i hF hK => (kFields F i hF hK).trans (hFields F i hF hK)⟩
  rw [hqr, hpq]
  simp

theorem mono {J : List Nat} (h : DieKeeps d K p q) (hs : ∀ i ∈ J, i ∈ K) : DieKeeps d J p q :=
  ⟨h.1, h.2.1, fun F i hF hJ => h.2.2 F i hF (hs _ hJ)⟩

/-- A change of fields of the die outside `K` and of its log side. -/
theorem of_onlyFieldsAndLog {l : List Fld} (h : OnlyFieldsAndLog d (l.map (d, ·)) p q) (hl : ∀ F ∈ l, F.id ∉ K) : DieKeeps d K p q := by
  refine ⟨h.1, .of_fieldsKept h.2 (by simp), fun F i hF hK => h.2 d F i hF ?_⟩
  simp only [List.mem_map, forall_exists_index, and_imp, forall_apply_eq_imp_iff₂]
  exact fun G hG hGF => hl G hG (hGF.2 ▸ hK)

/-- A write of a field outside `K`, also by `wr`, `wrSI`, `incI` and `inc`. -/
theorem write {F : Fld} {i v : Nat} (hF : F.count ≤ 65536 ∧ F.id ∉ K) (h : DieKeeps d K p q) : DieKeeps d K p (wrI d F i v q) :=
  h.trans (of_onlyFieldsAndLog (l := [F]) ((OnlyFields.wrI d F i v q hF.1).andLog d) (by simpa using hF.2))

/-- An event of a class below NME, also by `raise`. -/
theorem event {cls : Nat} {F : Fld} {pl : Payload}
    (hF : F.count ≤ 65536 ∧ (∀ G ∈ [F, I_DIE.SEQ], G.id ∉ K) ∧ codeClass (eventCode cls (blockCode F.off) F.lo) ≠ clsNme)
    (h : DieKeeps d K p q) : DieKeeps d K p (raiseWith d cls F pl q) :=
  h.trans (of_onlyFieldsAndLog (l := [F, I_DIE.SEQ]) (raiseWith_frame d cls F pl q hF.1 hF.2.2) hF.2.1)

/-- A record of a class below NME. -/
theorem logAt {code : Nat} {pl : Payload} (h : DieKeeps d K p q) (hF : codeClass code ≠ clsNme ∧ I_DIE.SEQ.id ∉ K) :
    DieKeeps d K p (logAt d code pl q) :=
  h.trans (of_onlyFieldsAndLog (l := [I_DIE.SEQ]) (logRec_frame d code 0 0xFF 0 pl q hF.1) (by simpa using hF.2))

theorem logOpen {cls blk k : Nat} {pl : Payload} (hF : cls < 16 ∧ blk < 64 ∧ cls ≠ clsNme ∧ I_DIE.SEQ.id ∉ K) (h : DieKeeps d K p q) :
    DieKeeps d K p (logOpen d cls blk k pl q) := by
  obtain ⟨hCls, hBlk, hNme, hSeq⟩ := hF
  exact h.logAt ⟨by rwa [codeClass_eventCode _ _ _ hCls hBlk (Nat.mod_lt _ (by decide))], hSeq⟩

theorem ite {c : Prop} [Decidable c] (h : DieKeeps d K p q) (k : DieKeeps d K p r) : DieKeeps d K p (if c then q else r) := by
  split
  · exact h
  · exact k

theorem onlyIf {c : Bool} {f : Pkg → Pkg} (h : DieKeeps d K p q) (k : DieKeeps d K q (f q)) : DieKeeps d K p (onlyIf c f q) :=
  ite (h.trans k) h

theorem forAll {α : Type} {l : List α} {f : α → Pkg → Pkg} (h : DieKeeps d K p q) (k : ∀ a q, DieKeeps d K q (f a q)) :
    DieKeeps d K p (forAll l f q) := by
  induction l generalizing q with
  | nil => exact h
  | cons a l ih => exact ih (h.trans (k a q))

theorem reads (h : DieKeeps d K p q) {F : Fld} {i : Nat} (hF : F.count ≤ 65536 ∧ F.id ∈ K) : rdI q d F i = rdI p d F i :=
  h.2.2 F i hF.1 hF.2

theorem bbs_eq (h : DieKeeps d K p q) : q.bbs = p.bbs := by rw [h.1]

theorem onlyRegsAndLog (h : DieKeeps d K p q) : OnlyRegsAndLog p q := by
  have hLog : q.log = p.log.set d (q.log.get d) := congrArg Pkg.log h.1
  rw [OnlyRegsAndLog, hLog]
  exact h.1

theorem onlyBaseband {x : Side} (h : DieKeeps x.bb K p q) : OnlyBaseband x p q := by
  refine ⟨?_, h.2.1⟩
  rw [h.bbs_eq]
  simpa using h.1

end DieKeeps

/-! Frames of a baseband and of the registers and logs. -/

theorem OnlyBaseband.trans {x : Side} {p q r : Pkg} (h : OnlyBaseband x p q) (k : OnlyBaseband x q r) : OnlyBaseband x p r := by
  obtain ⟨hpq, hDies⟩ := h
  obtain ⟨hqr, kDies⟩ := k
  refine ⟨?_, fun e F i hF he => (kDies e F i hF he).trans (hDies e F i hF he)⟩
  rw [hqr, hpq]
  simp

theorem OnlyBaseband.onBb (x : Side) (f : Bb → Bb) (p : Pkg) : OnlyBaseband x p (onBb x f p) :=
  ⟨by simp [Machine.onBb], fun _ _ _ _ _ => rfl⟩

theorem OnlyRegsAndLog.trans {p q r : Pkg} (h : OnlyRegsAndLog p q) (k : OnlyRegsAndLog q r) : OnlyRegsAndLog p r := by
  rw [OnlyRegsAndLog] at h k ⊢
  rw [k, h]

/-- A write of one of the fields named. -/
theorem OnlyFields.write {l : List (Die × Fld)} {p q : Pkg} {d : Die} {F : Fld} {i v : Nat} (hF : F.count ≤ 65536) (hl : (d, F) ∈ l)
    (h : OnlyFields l p q) : OnlyFields l p (Machine.wrI d F i v q) :=
  (h.trans (.wrI d F i v q hF)).mono fun _ hg => (List.mem_append.mp hg).elim id fun hg => List.mem_singleton.mp hg ▸ hl

/-- An event of a class below NME whose field is named, after a change of the fields named. -/
theorem OnlyFieldsAndLog.event {l : List (Die × Fld)} {p q : Pkg} {d : Die} {cls : Nat} {F : Fld} {pl : Payload}
    (hF : F.count ≤ 65536 ∧ codeClass (eventCode cls (blockCode F.off) F.lo) ≠ clsNme) (hl : ∀ G ∈ [F, I_DIE.SEQ], (d, G) ∈ l)
    (h : OnlyFields l p q) : OnlyFieldsAndLog d l p (raiseWith d cls F pl q) :=
  ((h.andLog d).trans (raiseWith_frame d cls F pl q hF.1 hF.2)).mono fun _ hg => (List.mem_append.mp hg).elim id fun hg => by
    simp only [logFields, List.mem_cons, List.not_mem_nil, or_false] at hg
    obtain rfl | rfl := hg
    · exact hl F (by simp)
    · exact hl I_DIE.SEQ (by simp)

theorem ActsAndLogs.of_nextPk {c : Instr} {s : State} {f : Pkg → Pkg} {d : Die} {l : List (Die × Fld)} {P : Pkg → Prop}
    (h : exec c s = nextPk s f) (hFrame : OnlyFieldsAndLog d l s.pk (f s.pk)) (hP : P (f s.pk)) : ActsAndLogs c s d l P :=
  Completes.of_nextPk h ⟨rfl, hFrame, hP⟩

/-! Reading past a write of another field, and past an event. -/

/-- What the entries of a field of a die read after a write of one of them. -/
theorem rdI_wrI (p : Pkg) (d : Die) (F : Fld) (i j v : Nat) (hi : i < F.count) (hF : F.count ≤ 65536) :
    rdI (wrI d F i v p) d F j = if j = i then v % 2 ^ F.w else rdI p d F j := by
  by_cases h : j = i
  · rw [if_pos h, h, rdI_wrI_self _ _ _ _ _ hi]
  · rw [if_neg h, rdI_wrI_entry _ _ _ _ _ _ _ _ hF hF (Ne.symm h)]

theorem rdI_raise_self (p : Pkg) (d : Die) (cls : Nat) (F : Fld) (pl : Payload)
    (hF : 0 < F.count ∧ F.count ≤ 65536 ∧ F.w = 1 ∧ F.id ≠ I_DIE.SEQ.id ∧ codeClass (eventCode cls (blockCode F.off) F.lo) ≠ clsNme) :
    rdI (raiseWith d cls F pl p) d F 0 = 1 :=
  raiseWith_sets d cls F pl p hF.1 hF.2.1 hF.2.2.1 hF.2.2.2.1 hF.2.2.2.2

theorem rdI_raise_field (p : Pkg) (d e : Die) (cls : Nat) (F G : Fld) (pl : Payload) (j : Nat) (hF : F.count ≤ 65536) (hG : G.count ≤ 65536)
    (h : F.id ≠ G.id) (hs : I_DIE.SEQ.id ≠ G.id) (hc : codeClass (eventCode cls (blockCode F.off) F.lo) ≠ clsNme) :
    rdI (raiseWith d cls F pl p) e G j = rdI p e G j := by
  rw [raiseWith, wr_eq, Machine.logAt, rdI_logRec _ _ _ _ _ _ _ _ _ _ hc hG hs, rdI_wrI_field _ _ _ _ _ _ _ _ hF hG h]

/-- The note of a change of the surroundings is made at the steward. -/
theorem rdI_surrFrom (old p : Pkg) (d e : Die) (F G : Fld) (i j : Nat)
    (hG : G.count ≤ 65536 ∧ STW_EVENT.SURR_CHANGED.id ≠ G.id ∧ I_DIE.SEQ.id ≠ G.id) : rdI (surrFrom old d F i p) e G j = rdI p e G j := by
  unfold surrFrom surrChanged
  split
  · rfl
  · split
    · exact rdI_raise_field _ _ _ _ _ _ _ _ (by decide) hG.1 hG.2.1 hG.2.2 (by decide)
    · rfl

theorem surrFrom_onlyRegsAndLog (old p : Pkg) (d : Die) (F : Fld) (i : Nat) : OnlyRegsAndLog p (surrFrom old d F i p) := by
  unfold surrFrom surrChanged
  split
  · rfl
  · split
    · exact (DieKeeps.event (K := []) (by decide) .refl).onlyRegsAndLog
    · rfl

end Sys2Proof.Machine
end

section
/-! R252, R254: what the operations on the channels leave of their baseband. -/

namespace Sys2Proof.Machine

/-- Counts, gains and hits of a baseband that work on its channels leaves alone. -/
def channelMarks : List Nat := [GNS_AGC.AGC_L1.id, GNS_AGC.AGC_L5.id, GNS_RECORDS.V.id, GNS_NAV_ERR.V.id, GNS_ACQ_HITS.V.id]

/-- Work on the channels of a baseband. -/
abbrev ChannelWork (d : Die) : Pkg → Pkg → Prop := DieKeeps d channelMarks

variable (d : Die) (p : Pkg)

theorem gnsCounts_keeps {K : List Nat} (hK : ∀ F ∈ [GNS_STATUS.TRACKING, GNS_STATUS.FREE], F.id ∉ K) : DieKeeps d K p (gnsCounts d p) :=
  .write ⟨by decide, hK _ (by simp)⟩ <| .write ⟨by decide, hK _ (by simp)⟩ .refl

theorem checkAllLost_keeps {K : List Nat} (hK : ∀ F ∈ [GNS_STATUS.STATE, GNS_EVENT.ALL_LOST, I_DIE.SEQ], F.id ∉ K) :
    DieKeeps d K p (checkAllLost d p) := by
  have hLost : ∀ G ∈ [GNS_EVENT.ALL_LOST, I_DIE.SEQ], G.id ∉ K := fun G hG => hK G (List.mem_cons_of_mem _ hG)
  exact .ite (.event ⟨by decide, hLost, by decide⟩ <| .write ⟨by decide, hK _ (by simp)⟩ .refl) .refl

theorem loopsClear_work (c : Nat) : ChannelWork d p (loopsClear d c p) :=
  .write (by decide) <| .write (by decide) <| .write (by decide) <| .write (by decide) .refl

theorem freeChannel_work (c : Nat) : ChannelWork d p (freeChannel d c p) := by
  refine .trans ?_ (loopsClear_work d _ c)
  exact .write (by decide) <| .write (by decide) <| .write (by decide) <| .write (by decide) <| .write (by decide) <|
    .write (by decide) <| .write (by decide) <| .write (by decide) .refl

/-- An entry of the channel table reads what was written to it. -/
theorem rdI_wrI_channel {c : Nat} (hc : c < 160) (q : Pkg) (d : Die) (F : Fld) (v : Nat) (hF : F.count = 160) :
    rdI (wrI d F c v q) d F c = v % 2 ^ F.w := rdI_wrI_self _ _ _ _ _ (hF ▸ hc)

/-- A freed channel is in state 0, the others stay in theirs. -/
theorem chanState_freeChannel (c k : Nat) (hc : c < 160) :
    chanState (freeChannel d c p) d k = if k = c then 0 else chanState p d k := by
  simp (disch := decide) only [chanState, freeChannel, loopsClear, rdI_wrI_field]
  rw [rdI_wrI _ _ GNS_CHAN.STATE _ _ _ hc (by decide)]
  simp (disch := decide) only [rdI_wrI_field, Nat.zero_mod]

/-- A freed channel has no signal. -/
theorem chanSignal_freeChannel (c : Nat) (hc : c < 160) : chanSignal (freeChannel d c p) d c = (0, 0, 0) := by
  simp (disch := decide) only [chanSignal, freeChannel, loopsClear, rdI_wrI_field, rdI_wrI_channel hc, Nat.zero_mod]

theorem chanState_forAll_freeChannel (l : List Nat) (k : Nat) (hl : ∀ c ∈ l, c < 160) :
    chanState (forAll l (freeChannel d) p) d k = if k ∈ l then 0 else chanState p d k := by
  induction l generalizing p with
  | nil => rfl
  | cons c l ih =>
    rw [show forAll (c :: l) (freeChannel d) p = forAll l (freeChannel d) (freeChannel d c p) from rfl,
      ih _ fun a ha => hl a (List.mem_cons_of_mem _ ha), chanState_freeChannel d p c k (hl c List.mem_cons_self)]
    by_cases hk : k = c <;> simp [hk]

end Sys2Proof.Machine
end

section
/-! R247, R248, R270, R274, R278: the bias-tee monitor, the reflectometer and harbour watch. -/

namespace Sys2Proof.Machine

variable (x : Side) (p : Pkg)

/-! The antenna monitor (R247, R248). -/

/-- A sample at its time, with its current on show and the next one due. -/
def antTaken (d : Die) (cur : Nat) (p : Pkg) : Pkg := wr d GNS_ANT_CURRENT.CURRENT cur (periodNext d I_GNS.ANT_DUE 0 10000000 p)

theorem antMonitorSample_biasDisabled (cur : Nat) (h : running p x.bb = true) (hDue : periodDue p x.bb I_GNS.ANT_DUE 0 10000000 = true)
    (hBias : rd p x.bb GNS_ANT_CFG.BIAS_EN = 0) :
    antMonitorSample x cur p = surrFrom p x.bb GNS_STATUS.ANT_STATE 0
      (wr x.bb I_GNS.RETRYING 0 <| wr x.bb I_GNS.BIAS_OFF 0 <| wr x.bb I_GNS.ANT_RUN 0 <| wr x.bb GNS_STATUS.ANT_STATE 0 <| antTaken x.bb cur p) := by
  have hOff : flag (antTaken x.bb cur p) x.bb GNS_ANT_CFG.BIAS_EN = false := by
    rw [rd_eq] at hBias
    simp (disch := decide) only [antTaken, periodNext, flag_eq, wr_eq, rdI_wrI_field, hBias, bne_self_eq_false]
  unfold antTaken at hOff ⊢
  simp only [antMonitorSample, h, hDue, Bool.not_true, Bool.or_self, Bool.false_eq_true, if_false, hOff, Bool.not_false, if_true]

/-- The tenth classification in a row settles the antenna state. -/
theorem antMonitorSample_tenth (cur : Nat) (h : running p x.bb = true) (hDue : periodDue p x.bb I_GNS.ANT_DUE 0 10000000 = true)
    (hBias : rd p x.bb GNS_ANT_CFG.BIAS_EN = 1) (hOn : rd p x.bb I_GNS.BIAS_OFF = 0) (hClass : rd p x.bb I_GNS.ANT_CLASS = antClass p x.bb cur)
    (hRun : rd p x.bb I_GNS.ANT_RUN = 9) :
    antMonitorSample x cur p = surrFrom p x.bb GNS_STATUS.ANT_STATE 0 (antSettled x.bb (antClass p x.bb cur)
      (wr x.bb I_GNS.ANT_RUN 10 <| wr x.bb I_GNS.ANT_CLASS (antClass p x.bb cur) <| antTaken x.bb cur p)) := by
  have hTaken (F : Fld) (hF : F.count ≤ 65536 ∧ I_GNS.ANT_DUE.id ≠ F.id ∧ GNS_ANT_CURRENT.CURRENT.id ≠ F.id) :
      rd (antTaken x.bb cur p) x.bb F = rd p x.bb F := by
    simp only [antTaken, periodNext, rd_eq, wr_eq]
    rw [rdI_wrI_field _ _ _ _ _ _ _ _ (by decide) hF.1 hF.2.2, rdI_wrI_field _ _ _ _ _ _ _ _ (by decide) hF.1 hF.2.1]
  have hClassify : antClass (antTaken x.bb cur p) x.bb cur = antClass p x.bb cur := by
    simp only [antClass, hTaken _ (show GNS_ANT_CFG.OPEN_MA.count ≤ 65536 ∧ _ by decide),
      hTaken _ (show GNS_ANT_CFG.SHORT_MA.count ≤ 65536 ∧ _ by decide)]
  have hEn := (hTaken GNS_ANT_CFG.BIAS_EN (by decide)).trans hBias
  have hStands := (hTaken I_GNS.BIAS_OFF (by decide)).trans hOn
  have hSame := (hTaken I_GNS.ANT_CLASS (by decide)).trans hClass
  have hNine := (hTaken I_GNS.ANT_RUN (by decide)).trans hRun
  unfold antTaken at *
  simp only [rd_eq] at hEn hStands hSame hNine
  simp only [antMonitorSample, h, hDue, flag_eq, rd_eq, hEn, hStands, hSame, hNine, hClassify]
  rfl

/-- What follows the antenna's new state leaves it, and the current on show. -/
theorem antSettled_keeps (d : Die) (k : Nat) :
    DieKeeps d [GNS_STATUS.ANT_STATE.id, GNS_ANT_CURRENT.CURRENT.id] (wr d GNS_STATUS.ANT_STATE k p) (antSettled d k p) := by
  have hCleared : DieKeeps d [GNS_STATUS.ANT_STATE.id, GNS_ANT_CURRENT.CURRENT.id] (wr d GNS_STATUS.ANT_STATE k p)
      (wr d I_GNS.RETRYING 0 (wr d GNS_STATUS.ANT_STATE k p)) := .write (by decide) .refl
  have hOff (q : Pkg) : DieKeeps d [GNS_STATUS.ANT_STATE.id, GNS_ANT_CURRENT.CURRENT.id] q (biasOff d q) :=
    .write (by decide) <| .write (by decide) <| .write (by decide) <| .write (by decide) .refl
  unfold antSettled
  extract_lets was again q
  split
  · exact .onlyIf hCleared (.event (by decide) .refl)
  · exact .onlyIf hCleared (.event (by decide) .refl)
  · exact .ite (.trans (.event (by decide) hCleared) (hOff _)) <|
      .ite (.trans (.logOpen (by decide) hCleared) (hOff _)) hCleared

theorem antClass_lt (d : Die) (cur : Nat) : antClass p d cur < 4 := by
  unfold antClass
  split
  · decide
  · split <;> decide

/-- The bias is put on again, and only the fields of the retry are written. -/
theorem biasAgain_acts (d : Die) (h : rd p d I_GNS.BIAS_OFF = 1) :
    OnlyFields [(d, I_GNS.BIAS_OFF), (d, I_GNS.RETRYING), (d, I_GNS.ANT_RUN), (d, I_GNS.ANT_CLASS)] p (biasAgain d p) ∧
      rd (biasAgain d p) d I_GNS.BIAS_OFF = 0 ∧ rd (biasAgain d p) d I_GNS.RETRYING = 1 := by
  rw [rd_eq] at h
  simp only [biasAgain, flag_eq, h, rd_eq]
  refine ⟨?fields, ?off, ?retrying⟩
  case fields =>
    exact .write (by decide) (by simp) <| .write (by decide) (by simp) <| .write (by decide) (by simp) <| .write (by decide) (by simp) <|
      .mono (.refl [] p) (by simp)
  case off =>
    simp (disch := decide) [rdI_wrI_field, rdI_wrI_self]
  case retrying =>
    simp (disch := decide) [rdI_wrI_field, rdI_wrI_self]

/-! The reflectometer (R270, R278). -/

theorem reflectStart_starts (h : running p x.bb = true) (hMay : reflectRefused p x = false) :
    reflectStart x p =
      wr x.bb GNS_REFLECT_RESULT.VALID 0 (wr x.bb I_GNS.REFLECT_AT (now p x.bb) (wr x.bb GNS_STATUS.REFLECT_BUSY 1 p)) := by
  simp [reflectStart, h, hMay]

/-- The results of a finished run, with its event. -/
def reflectResult (d : Die) (rtPs : Nat) (p : Pkg) : Pkg :=
  p |> wr d GNS_STATUS.REFLECT_BUSY 0
    |> wr d GNS_REFLECT_RESULT.LENGTH (min (divRne ((rtPs * rd p d GNS_REFLECT_CFG.VF * 299792458 : Nat) : Int) 200000000000000).toNat 4095)
    |> wr d GNS_REFLECT_RESULT.VALID 1
    |> wr d GNS_REFLECT_RESULT.PROPOSED (min (divRne (rtPs : Int) 200).toNat 20000)
    |> wr d GNS_REFLECT_RESULT.CLIPPED (b2n (decide (20000 < (divRne (rtPs : Int) 200).toNat)))
    |> raise d clsInfo GNS_EVENT.REFLECT_DONE

theorem reflectDone_ends (rtPs : Nat) (h : rd p x.bb GNS_STATUS.REFLECT_BUSY = 1)
    (hTime : rd p x.bb I_GNS.REFLECT_AT + 100000000 ≤ now p x.bb) :
    reflectDone x rtPs p = surrFrom p x.bb GNS_REFLECT_RESULT.LENGTH 0 (reflectResult x.bb rtPs p) := by
  have hGuard : (!(flag p x.bb GNS_STATUS.REFLECT_BUSY) || decide (now p x.bb < rd p x.bb I_GNS.REFLECT_AT + 100000000)) = false := by
    rw [rd_eq] at h
    rw [decide_eq_false (Nat.not_lt.mpr hTime), flag_eq, h]
    rfl
  simp only [reflectDone, hGuard, Bool.false_eq_true, if_false, reflectResult]

theorem reflectResult_keeps (d : Die) (rtPs : Nat) : DieKeeps d [] p (reflectResult d rtPs p) := by
  unfold reflectResult
  exact .event (by decide) <| .write (by decide) <| .write (by decide) <| .write (by decide) <| .write (by decide) <| .write (by decide) .refl

/-! Harbour watch (R274). -/

/-- Every channel but the retired ones is freed. -/
def freeAll (d : Die) (p : Pkg) : Pkg := forAll ((List.range 160).filter (fun c => chanState p d c != 4)) (freeChannel d) p

theorem chanState_freeAll (d : Die) (k : Nat) (hk : k < 160) : chanState (freeAll d p) d k = 0 ∨ chanState (freeAll d p) d k = 4 := by
  rw [freeAll, chanState_forAll_freeChannel _ _ _ _ fun c hc => List.mem_range.mp (List.mem_filter.mp hc).1]
  by_cases h : chanState p d k = 4 <;> simp [h, hk]

/-- Asleep, without its channels, and with the time at which it fell asleep. -/
def gnssResting (d : Die) (p : Pkg) : Pkg := wr d I_GNS.WATCH_AT (now p d) (wr d GNS_STATUS.STATE 4 (gnsCounts d (freeAll d p)))

theorem gnssSleep_eq : gnssSleep x p = raise x.bb clsInfo GNS_EVENT.HW_SLEEP (onBb x (fun b => { b with verify := none }) (gnssResting x.bb p)) := rfl

theorem freeAll_work (d : Die) : ChannelWork d p (freeAll d p) := .forAll .refl fun c q => freeChannel_work d q c

/-- A baseband falls asleep: every channel is free or retired, and nothing outside it changes. -/
theorem gnssSleep_acts :
    OnlyBaseband x p (gnssSleep x p) ∧ rd (gnssSleep x p) x.bb GNS_STATUS.STATE = 4 ∧ rd (gnssSleep x p) x.bb GNS_EVENT.HW_SLEEP = 1 ∧
      ∀ k ∈ List.range 160, chanState (gnssSleep x p) x.bb k = 0 ∨ chanState (gnssSleep x p) x.bb k = 4 := by
  have hCounts : DieKeeps x.bb [GNS_CHAN.STATE.id] (freeAll x.bb p) (gnssResting x.bb p) :=
    .write (by decide) <| .write (by decide) <| gnsCounts_keeps _ _ (by decide)
  have hEvent (q : Pkg) : DieKeeps x.bb [GNS_STATUS.STATE.id, GNS_CHAN.STATE.id] q (raise x.bb clsInfo GNS_EVENT.HW_SLEEP q) :=
    .event (by decide) .refl
  rw [gnssSleep_eq]
  refine ⟨?frame, ?state, rdI_raise_self _ _ _ _ _ (by decide), fun k hk => ?channels⟩
  case frame =>
    exact ((freeAll_work p x.bb).onlyBaseband.trans hCounts.onlyBaseband).trans ((OnlyBaseband.onBb x _ _).trans (hEvent _).onlyBaseband)
  case state =>
    rw [rd_eq, (hEvent _).reads (by decide), rdI_onBb, gnssResting, wr_eq, rdI_wrI_field _ _ _ _ _ _ _ _ (by decide) (by decide) (by decide)]
    exact rdI_wrI_self _ _ _ _ _ (by decide)
  case channels =>
    rw [chanState, (hEvent _).reads (by decide), rdI_onBb, hCounts.reads (by decide)]
    exact chanState_freeAll p x.bb k (List.mem_range.mp hk)

theorem hwWake_wakes (hWatch : rd p x.bb I_GNS.WATCH = 1) (hAsleep : rd p x.bb GNS_STATUS.STATE = 4)
    (hTime : rd p x.bb I_GNS.WATCH_AT + rd p x.bb GNS_HARBOUR.HW_INTERVAL * 60000000000 ≤ now p x.bb) :
    hwWake x p = raise x.bb clsInfo GNS_EVENT.HW_WAKE (wr x.bb I_GNS.WATCH_AT (now p x.bb) (wr x.bb GNS_STATUS.STATE 5 p)) := by
  rw [rd_eq] at hWatch
  simp [hwWake, flag_eq, hWatch, hAsleep, decide_eq_true hTime, -rd_eq, -wr_eq]

theorem hwSleep_sleeps (fresh : Bool) (hWatch : rd p x.bb I_GNS.WATCH = 1) (hAwake : rd p x.bb GNS_STATUS.STATE = 5)
    (h : fresh = true ∧ gnssSolution p = true ∨
      rd p x.bb I_GNS.WATCH_AT + rd p x.bb GNS_HARBOUR.HW_WAKE_MAX * 1000000000 ≤ now p x.bb) : hwSleep x fresh p = gnssSleep x p := by
  have hOver : ((fresh && gnssSolution p) || decide (rd p x.bb I_GNS.WATCH_AT + rd p x.bb GNS_HARBOUR.HW_WAKE_MAX * 1000000000 ≤ now p x.bb)) = true := by
    simpa only [Bool.or_eq_true, Bool.and_eq_true, decide_eq_true_eq] using h
  rw [rd_eq] at hWatch
  simp [hwSleep, flag_eq, hWatch, hAwake, hOver, -rd_eq]

/-- Settles O9: a settled classification is kept by what follows it (`antSettled_keeps`), and a baseband that falls asleep stays within itself and
frees its channels (`gnssSleep_acts`). -/
theorem antennaMonitorReflectometerAndHarbourWatch : Obligations.AntennaMonitorReflectometerAndHarbourWatch := by
  unfold Obligations.AntennaMonitorReflectometerAndHarbourWatch
  refine ⟨?tenth, ?disabled, ?retry, ?biasRetry, ?early, ?starts, ?refused, ?done, ?wakes, ?fresh, ?late, ?unwatched⟩
  case tenth =>
    rintro x cur k s hRun hDue hBias hOn rfl hClass hNine
    have hTenth := antMonitorSample_tenth x s.pk cur hRun hDue hBias hOn hClass hNine
    have hSampled : DieKeeps x.bb [] s.pk (wr x.bb I_GNS.ANT_RUN 10 <| wr x.bb I_GNS.ANT_CLASS (antClass s.pk x.bb cur) <| antTaken x.bb cur s.pk) :=
      .write (by decide) <| .write (by decide) <| .write (by decide) <| .write (by decide) .refl
    have hState (q : Pkg) (v : Nat) : DieKeeps x.bb [GNS_ANT_CURRENT.CURRENT.id] q (wr x.bb GNS_STATUS.ANT_STATE v q) := .write (by decide) .refl
    have hSettled := antSettled_keeps (wr x.bb I_GNS.ANT_RUN 10 <| wr x.bb I_GNS.ANT_CLASS (antClass s.pk x.bb cur) <| antTaken x.bb cur s.pk)
      x.bb (antClass s.pk x.bb cur)
    refine .of_nextPk (f := antMonitorSample x cur) rfl ?_ ⟨?_, ?_⟩ <;> rw [hTenth]
    · exact ((hSampled.onlyRegsAndLog.trans (hState _ _).onlyRegsAndLog).trans hSettled.onlyRegsAndLog).trans (surrFrom_onlyRegsAndLog _ _ _ _ _)
    · rw [rd_eq, rdI_surrFrom _ _ _ _ _ _ _ _ (by decide), hSettled.reads (by decide), wr_eq, rdI_wrI_self _ _ _ _ _ (by decide)]
      exact Nat.mod_eq_of_lt (antClass_lt s.pk x.bb cur)
    · rw [rd_eq, rdI_surrFrom _ _ _ _ _ _ _ _ (by decide), hSettled.reads (by decide), (hState _ _).reads (by decide)]
      simp (disch := decide) only [antTaken, wr_eq, rdI_wrI_field, rdI_wrI_self]
  case disabled =>
    intro x cur s hRun hDue hBias
    refine .of_nextPk (f := antMonitorSample x cur) rfl ?_ ?_ <;> rw [antMonitorSample_biasDisabled x s.pk cur hRun hDue hBias]
    · refine .trans (DieKeeps.onlyRegsAndLog (d := x.bb) (K := []) ?_) (surrFrom_onlyRegsAndLog _ _ _ _ _)
      exact .write (by decide) <| .write (by decide) <| .write (by decide) <| .write (by decide) <| .write (by decide) <| .write (by decide) .refl
    · rw [rd_eq, rdI_surrFrom _ _ _ _ _ _ _ _ (by decide)]
      simp (disch := decide) only [wr_eq, rdI_wrI_field, rdI_wrI_self, Nat.zero_mod]
  case retry =>
    intro x s hRun hOff
    have hRetry : antRetry x s.pk = biasAgain x.bb s.pk := by simp [antRetry, hRun]
    obtain ⟨hFields, hAgain⟩ := biasAgain_acts s.pk x.bb hOff
    exact .of_nextPk (f := antRetry x) rfl (hRetry ▸ hFields) (hRetry ▸ hAgain)
  case biasRetry =>
    intro x s hTime hOff
    have hRetry : antBiasRetry x s.pk = biasAgain x.bb s.pk := if_pos hTime
    obtain ⟨hFields, hAgain⟩ := biasAgain_acts s.pk x.bb hOff
    exact .of_nextPk (f := antBiasRetry x) rfl (hRetry ▸ hFields) (hRetry ▸ hAgain)
  case early => exact fun x s hEarly => .of_nextPk (f := antBiasRetry x) rfl (if_neg (Nat.not_le.mpr hEarly))
  case starts =>
    intro x s hRun hMay
    refine .of_nextPk (f := reflectStart x) rfl ?_ ⟨?_, ?_⟩ <;> rw [reflectStart_starts x s.pk hRun hMay]
    · exact .write (by decide) (by simp) <| .write (by decide) (by simp) <| .write (by decide) (by simp) <| .mono (.refl [] _) (by simp)
    · simp (disch := decide) [rdI_wrI_field, rdI_wrI_self]
    · simp (disch := decide) [rdI_wrI_self]
  case refused => exact fun x s h => .of_nextPk (f := reflectStart x) rfl (by simp [reflectStart, h])
  case done =>
    intro x rtPs s hBusy hTime
    refine .of_nextPk (f := reflectDone x rtPs) rfl ?_ ⟨?_, ?_, ?_, ?_⟩ <;> rw [reflectDone_ends x s.pk rtPs hBusy hTime]
    · exact (reflectResult_keeps s.pk x.bb rtPs).onlyRegsAndLog.trans (surrFrom_onlyRegsAndLog _ _ _ _ _)
    all_goals rw [rd_eq, rdI_surrFrom _ _ _ _ _ _ _ _ (by decide), reflectResult, raise]
    · simp (disch := decide) [rdI_raise_field, rdI_wrI_field, rdI_wrI_self]
    · simp (disch := decide) [rdI_raise_field, rdI_wrI_field, rdI_wrI_self]
    · simp (disch := decide) [rdI_raise_field, rdI_wrI_field, rdI_wrI_self]
    · exact rdI_raise_self _ _ _ _ _ (by decide)
  case wakes =>
    intro x s hWatch hAsleep hTime
    refine .of_nextPk (f := hwWake x) rfl ?_ ⟨?_, ?_⟩ <;> rw [hwWake_wakes x s.pk hWatch hAsleep hTime]
    · exact .event (by decide) (by simp) <| .write (by decide) (by simp) <| .write (by decide) (by simp) <| .mono (.refl [] _) (by simp)
    · simp (disch := decide) [raise, rdI_raise_field, rdI_wrI_field, rdI_wrI_self]
      rfl
    · exact rdI_raise_self _ _ _ _ _ (by decide)
  case fresh =>
    intro x s hWatch hAwake hSolution
    have hSleep := hwSleep_sleeps x s.pk true hWatch hAwake (.inl ⟨rfl, hSolution⟩)
    obtain ⟨hFrame, hState, hEvent, hChannels⟩ := gnssSleep_acts x s.pk
    exact .of_nextPk (f := hwSleep x true) rfl (hSleep ▸ hFrame) (hSleep ▸ ⟨hState, hEvent, hChannels⟩)
  case late =>
    intro x fresh s hWatch hAwake hTime
    have hSleep := hwSleep_sleeps x s.pk fresh hWatch hAwake (.inr hTime)
    obtain ⟨hFrame, hState, hEvent, -⟩ := gnssSleep_acts x s.pk
    exact .of_nextPk (f := hwSleep x fresh) rfl (hSleep ▸ hFrame) (hSleep ▸ ⟨hState, hEvent⟩)
  case unwatched =>
    intro x fresh s hWatch
    rw [rd_eq] at hWatch
    exact ⟨.of_nextPk (f := hwWake x) rfl (by simp [hwWake, hWatch]), .of_nextPk (f := hwSleep x fresh) rfl (by simp [hwSleep, hWatch])⟩

end Sys2Proof.Machine
end

section
/-! R250, R252, R253, R255, R272: the channels and the search. -/

namespace Sys2Proof.Machine

variable (x : Side) (p : Pkg)

/-! Loss of lock, time-out, slip and lock of a channel (R252, R253, R272). -/

/-- A channel that has lost lock and begins to reacquire. -/
def lockLost (d : Die) (c : Nat) (p : Pkg) : Pkg :=
  wrI d I_CHAN.REACQ_AT c (now p d) (wrI d GNS_CHAN.LOCK_TIME c 0 (wrI d GNS_CHAN.STATE c 3 p))

/-- After the channel's own entries only the counts and the state of the baseband follow. -/
theorem lockLoss_keeps (c pliMs cn0Ms : Nat) (hIdle : gnsIdle p x.bb = false) (hState : chanState p x.bb c = 2)
    (h : 100 ≤ pliMs ∨ 1000 ≤ cn0Ms) :
    DieKeeps x.bb [GNS_CHAN.STATE.id, GNS_CHAN.LOCK_TIME.id] (lockLost x.bb c p) (lockLoss x c pliMs cn0Ms p) := by
  have hLoss : lockLoss x c pliMs cn0Ms p = checkAllLost x.bb (gnsCounts x.bb (lockLost x.bb c p)) := by
    have hLong : (decide (100 ≤ pliMs) || decide (1000 ≤ cn0Ms)) = true := by simpa using h
    simp [lockLoss, hIdle, hState, hLong, lockLost]
  rw [hLoss]
  exact (gnsCounts_keeps _ _ (by decide)).trans (checkAllLost_keeps _ _ (by decide))

theorem lockLoss_not (c pliMs cn0Ms : Nat) (h : gnsIdle p x.bb = true ∨ chanState p x.bb c ≠ 2 ∨ pliMs < 100 ∧ cn0Ms < 1000) :
    lockLoss x c pliMs cn0Ms p = p := by
  refine if_pos ?_
  obtain h | h | ⟨hPli, hCn0⟩ := h
  · simp [h]
  · simp [h]
  · simp [hPli, hCn0]

theorem reacqTimeout_frees (c : Nat) (hState : chanState p x.bb c = 3)
    (hTime : rdI p x.bb I_CHAN.REACQ_AT c + rd p x.bb GNS_TRACK_CFG.REACQ_S * 1000000000 ≤ now p x.bb) :
    reacqTimeout x c p = gnsCounts x.bb (freeChannel x.bb c p) := by
  have hOver : reacqOver p x.bb c = true := decide_eq_true hTime
  simp [reacqTimeout, hState, hOver]

/-- A lock of a channel, with the new counts. -/
def lockGained (d : Die) (c : Nat) (p : Pkg) : Pkg := gnsCounts d (wrI d I_CHAN.LOCK_AT c (now p d) (wrI d GNS_CHAN.STATE c 2 p))

/-- A lock takes a baseband in state 1 or 3 to state 2, and out of 3 with an event. -/
theorem channelLocked_locks (c : Nat) (hIdle : gnsIdle p x.bb = false)
    (h : chanState p x.bb c = 1 ∨ chanState p x.bb c = 3 ∧ reacqOver p x.bb c = false) :
    channelLocked x c p =
      onlyIf (rd p x.bb GNS_STATUS.STATE == 3) (raise x.bb clsInfo GNS_EVENT.SIGNALS_BACK)
        (onlyIf (rd p x.bb GNS_STATUS.STATE == 3 || rd p x.bb GNS_STATUS.STATE == 1) (wr x.bb GNS_STATUS.STATE 2) (lockGained x.bb c p)) := by
  have hMay : (chanState p x.bb c == 1 || (chanState p x.bb c == 3 && !(reacqOver p x.bb c))) = true := by simpa using h
  simp only [channelLocked, hIdle, hMay, Bool.not_true, Bool.or_self, Bool.false_eq_true, if_false, lockGained]

theorem channelLocked_keeps (c : Nat) (hIdle : gnsIdle p x.bb = false)
    (h : chanState p x.bb c = 1 ∨ chanState p x.bb c = 3 ∧ reacqOver p x.bb c = false) :
    DieKeeps x.bb [GNS_CHAN.STATE.id] (wrI x.bb GNS_CHAN.STATE c 2 p) (channelLocked x c p) := by
  rw [channelLocked_locks x p c hIdle h]
  have hGained : DieKeeps x.bb [GNS_CHAN.STATE.id] (wrI x.bb GNS_CHAN.STATE c 2 p) (lockGained x.bb c p) :=
    .trans (.write (by decide) .refl) (gnsCounts_keeps _ _ (by decide))
  exact .onlyIf (.onlyIf hGained (.write (by decide) .refl)) (.event (by decide) .refl)

/-! The search (R255, R256, R276). -/

/-- Handing a signal over is work on the channels. -/
theorem handOver_work (d : Die) (st : Nat) (s : Nat × Nat × Nat) (known : Option (Nat × Int)) : ChannelWork d p (handOver d st s known p) := by
  unfold handOver
  split
  · exact .refl
  · refine .trans ?_ (gnsCounts_keeps _ _ (by decide))
    refine .write (by decide) <| .write (by decide) <| .write (by decide) <| .trans ?_ (loopsClear_work _ _ _)
    exact .write (by decide) <| .write (by decide) <| .write (by decide) <| .write (by decide) <| .write (by decide) <|
      .write (by decide) <| .write (by decide) .refl

/-- The lowest-numbered free channel takes the signal. -/
theorem handOver_takes (d : Die) (st : Nat) (s : Nat × Nat × Nat) (known : Option (Nat × Int)) (c : Nat) (h : (chansIn p d 0).head? = some c) :
    chanState (handOver d st s known p) d c = st % 2 ^ 8 ∧ rdI (handOver d st s known p) d GNS_CHAN.SYS c = s.1 % 2 ^ GNS_CHAN.SYS.w ∧
      rdI (handOver d st s known p) d GNS_CHAN.PRN c = s.2.1 % 2 ^ GNS_CHAN.PRN.w := by
  have hc : c < 160 := List.mem_range.mp (List.mem_filter.mp (List.mem_of_mem_head? h)).1
  simp only [handOver, h, chanState, gnsCounts, loopsClear, wrSI, wr_eq]
  refine ⟨?_, ?_, ?_⟩ <;> simp (disch := decide) only [rdI_wrI_field, rdI_wrI_channel hc]
  rfl

theorem suspendSearch_fields (d : Die) : OnlyFields [(d, GNS_STATUS.SEARCH_SUSPENDED)] p (suspendSearch d p) :=
  .onlyIf _ _ _ fun _ => .wrI _ _ _ _ _ (by decide)

theorem suspendSearch_keeps {K : List Nat} (d : Die) (hK : GNS_STATUS.SEARCH_SUSPENDED.id ∉ K) : DieKeeps d K p (suspendSearch d p) :=
  .onlyIf .refl (.write ⟨by decide, hK⟩ .refl)

theorem rd_suspendSearch (d : Die) : rd (suspendSearch d p) d GNS_STATUS.SEARCH_SUSPENDED =
    if rd p d GNS_SNAP_STATUS.SNAP_STATE = 1 then 1 else rd p d GNS_STATUS.SEARCH_SUSPENDED := by
  unfold suspendSearch
  by_cases h : rd p d GNS_SNAP_STATUS.SNAP_STATE = 1
  · rw [if_pos h, beq_iff_eq.mpr h, onlyIf_true, rd_eq, wr_eq, rdI_wrI_self _ _ _ _ _ (by decide)]
    rfl
  · rw [if_neg h, beq_eq_false_iff_ne.mpr h, onlyIf_false]

/-- A dwell that changes the baseband's lists alone lets a waiting capture begin. -/
theorem suspendSearch_onBb (f : Bb → Bb) (h : rd p x.bb GNS_STATUS.SEARCH_SUSPENDED = 0) :
    let q := suspendSearch x.bb (onBb x f p)
    FieldsKept [(x.bb, GNS_STATUS.SEARCH_SUSPENDED)] p q ∧
      rd q x.bb GNS_STATUS.SEARCH_SUSPENDED = (if rd p x.bb GNS_SNAP_STATUS.SNAP_STATE = 1 then 1 else 0) ∧
      q = { p with regs := q.regs, bbs := p.bbs.set x (f (p.bbs.get x)) } := by
  obtain ⟨hFrame, hFields⟩ := suspendSearch_fields (onBb x f p) x.bb
  exact ⟨hFields, (rd_suspendSearch _ _).trans (h ▸ rfl), hFrame⟩

/-- The verification dwell takes its cell off the list. -/
def verifyDone (x : Side) (p : Pkg) : Pkg := onBb x (fun b => { b with verify := none }) p

/-- A hit that is counted, with the cells of its signal searched anew. -/
def hitCounted (x : Side) (s : Nat × Nat × Nat) (p : Pkg) : Pkg :=
  onBb x (fun b => b.setCells s 0) (inc x.bb GNS_ACQ_HITS.V (verifyDone x p))

section
variable (hIdle : gnsIdle p x.bb = false) (hOn : rd p x.bb GNS_STATUS.SEARCH_SUSPENDED = 0)
include hIdle hOn

theorem acqDwell_verified (v : Nat × Nat × Nat) (hVerify : (p.bbs.get x).verify = some v) :
    acqDwell x true p = suspendSearch x.bb (handOver x.bb 1 v (aidOf (verifyDone x p) x v) (hitCounted x v p)) := by
  rw [rd_eq] at hOn
  simp [acqDwell, hIdle, hOn, hVerify, hitCounted, verifyDone]

theorem acqDwell_dropped (v : Nat × Nat × Nat) (hVerify : (p.bbs.get x).verify = some v) :
    acqDwell x false p = suspendSearch x.bb (verifyDone x p) := by
  rw [rd_eq] at hOn
  simp [acqDwell, hIdle, hOn, hVerify, verifyDone]

/-- A cell above the threshold waits for its verification. -/
theorem exists_acqDwell_above_eq (v : (Nat × Nat × Nat) × Nat) (hVerify : (p.bbs.get x).verify = none) (hNext : nextSearch p x = some v) :
    ∃ f : Bb → Bb, (∀ b, (f b).verify = some v.1) ∧ acqDwell x true p = suspendSearch x.bb (onBb x f p) := by
  rw [rd_eq] at hOn
  simp only [acqDwell, hIdle, flag_eq, hOn, hVerify, hNext, bne_self_eq_false, Bool.or_self, Bool.false_eq_true, if_false, if_true]
  exact ⟨_, fun _ => rfl, rfl⟩

end

theorem hitCounted_onlyBaseband (s : Nat × Nat × Nat) : OnlyBaseband x p (hitCounted x s p) := by
  have hCount : DieKeeps x.bb [] (verifyDone x p) (inc x.bb GNS_ACQ_HITS.V (verifyDone x p)) := .write (by decide) .refl
  exact ((OnlyBaseband.onBb x _ p).trans hCount.onlyBaseband).trans (.onBb x _ _)

/-- Counting a hit leaves the channels as they are. -/
theorem chansIn_hitCounted (s : Nat × Nat × Nat) (st : Nat) : chansIn (hitCounted x s p) x.bb st = chansIn p x.bb st := by
  have hState (c : Nat) : chanState (hitCounted x s p) x.bb c = chanState p x.bb c := by
    rw [chanState, hitCounted, rdI_onBb, inc, incI, rdI_wrI_field _ _ _ _ _ _ _ _ (by decide) (by decide) (by decide), verifyDone, rdI_onBb,
      chanState]
  simp only [chansIn, hState]

/-! The channel plan (R250). -/

/-- A baseband that has taken a plan, with the entries of it that no signal supports counted. -/
def planTaken (x y : Side) (signals : List (Nat × Nat × Nat)) (p : Pkg) : Pkg :=
  let good := (formPlan p y signals).filter (fun e => supported e.sys e.prn e.band)
  onBb x (fun b => { b with plan := some good })
    (wr x.bb GNS_NAV_ERR.V (rd p x.bb GNS_NAV_ERR.V + ((formPlan p y signals).length - good.length)) p)

/-- After the plan was taken only work on the channels follows. -/
theorem channelPlan_keeps (y : Side) (signals : List (Nat × Nat × Nat)) (hRun : running p x.bb = true) (hHelm : running p y.helm = true)
    (hLane : followed p = y) (hReach : reaches p y.helm x.bb = true) :
    ChannelWork x.bb (planTaken x y signals p) (channelPlan x y signals p) := by
  have hGuard : (!(running p x.bb) || !(running p y.helm) || followed p != y || !(reaches p y.helm x.bb)) = false := by
    simp [hRun, hHelm, hLane, hReach]
  simp only [channelPlan, hGuard, Bool.false_eq_true, if_false]
  refine .trans (.onlyIf (.trans (.forAll .refl fun c q => freeChannel_work x.bb q c) (gnsCounts_keeps _ _ (by decide))) ?_)
    (checkAllLost_keeps _ _ (by decide))
  exact .write (by decide) .refl

theorem planTaken_onlyBaseband (y : Side) (signals : List (Nat × Nat × Nat)) : OnlyBaseband x p (planTaken x y signals p) := by
  unfold planTaken
  exact .trans (DieKeeps.onlyBaseband (K := []) (.write (by decide) .refl)) (.onBb x _ _)

/-- A plan has an entry for each signal listed, which is supported when the signal is. -/
theorem formPlan_lengths (y : Side) (signals : List (Nat × Nat × Nat)) :
    (formPlan p y signals).length = signals.length ∧
      ((formPlan p y signals).filter (fun e => supported e.sys e.prn e.band)).length =
        (signals.filter (fun e => supported e.1 e.2.1 e.2.2)).length := by
  simp [formPlan, List.filter_map, Function.comp_def]

/-- Settles O10: each command is a write of its channel's entries, after which only counts, events and the search's own field follow. -/
theorem channelsLoseRegainAndFreeTheirSignals : Obligations.ChannelsLoseRegainAndFreeTheirSignals := by
  unfold Obligations.ChannelsLoseRegainAndFreeTheirSignals
  refine ⟨?loses, ?holds, ?times, ?slips, ?locks, ?hit, ?miss, ?above, ?plan, ?other⟩
  case loses =>
    intro x c pliMs cn0Ms s hc hIdle hState h
    have hKept := lockLoss_keeps x s.pk c pliMs cn0Ms hIdle hState h
    have hEntries : DieKeeps x.bb [] s.pk (lockLost x.bb c s.pk) := .write (by decide) <| .write (by decide) <| .write (by decide) .refl
    refine .of_nextPk (f := lockLoss x c pliMs cn0Ms) rfl (hEntries.onlyBaseband.trans hKept.onlyBaseband) ⟨?_, ?_, fun k _ hk => ?_⟩
    · rw [chanState, hKept.reads (by decide), lockLost]
      simp (disch := decide) only [rdI_wrI_field, rdI_wrI_channel hc]
      rfl
    · rw [hKept.reads (by decide), lockLost]
      simp (disch := decide) only [rdI_wrI_field, rdI_wrI_channel hc, Nat.zero_mod]
    · rw [chanState, hKept.reads (by decide), lockLost]
      simp (disch := decide) only [rdI_wrI_field]
      exact rdI_wrI_entry _ _ _ _ _ _ _ _ (by decide) (by decide) (Ne.symm hk)
  case holds => exact fun x c pliMs cn0Ms s h => .of_nextPk (f := lockLoss x c pliMs cn0Ms) rfl (lockLoss_not x s.pk c pliMs cn0Ms h)
  case times =>
    intro x c s hc hState hTime
    have hCounts : DieKeeps x.bb [GNS_CHAN.STATE.id, GNS_CHAN.SYS.id, GNS_CHAN.PRN.id, GNS_CHAN.SIG.id] (freeChannel x.bb c s.pk)
        (gnsCounts x.bb (freeChannel x.bb c s.pk)) := gnsCounts_keeps _ _ (by decide)
    refine .of_nextPk (f := reacqTimeout x c) rfl ?_ ⟨?_, ?_⟩ <;> rw [reacqTimeout_frees x s.pk c hState hTime]
    · exact (freeChannel_work x.bb s.pk c).onlyBaseband.trans hCounts.onlyBaseband
    · rw [chanState, hCounts.reads (by decide)]
      exact (chanState_freeChannel x.bb s.pk c c hc).trans (if_pos rfl)
    · rw [chanSignal, hCounts.reads (by decide), hCounts.reads (by decide), hCounts.reads (by decide)]
      exact chanSignal_freeChannel x.bb s.pk c hc
  case slips =>
    intro x c intervals s hc hState hLong
    have hSlip : cycleSlip x c intervals s.pk = wrI x.bb I_CHAN.SLIP c 1 (wrI x.bb I_CHAN.LOCK_AT c (now s.pk x.bb)
        (wrI x.bb GNS_CHAN.LOCK_TIME c 0 (inc x.bb GNS_SLIPS.V (incI x.bb GNS_CHAN.SLIPS c s.pk)))) := by
      simp [cycleSlip, hState, hLong]
    refine .of_nextPk (f := cycleSlip x c intervals) rfl ?_ ⟨?_, ?_, ?_⟩ <;> rw [hSlip]
    · exact .write (by decide) (by simp) <| .write (by decide) (by simp) <| .write (by decide) (by simp) <| .write (by decide) (by simp) <|
        .write (by decide) (by simp) <| .mono (.refl [] _) (by simp)
    all_goals simp (disch := decide) only [inc, incI, rd_eq, rdI_wrI_field, rdI_wrI_channel hc, rdI_wrI_self, Nat.zero_mod]
    · rfl
    · rfl
  case locks =>
    intro x c s hc hIdle h
    have hKept := channelLocked_keeps x s.pk c hIdle h
    have hState : DieKeeps x.bb [] s.pk (wrI x.bb GNS_CHAN.STATE c 2 s.pk) := .write (by decide) .refl
    refine .of_nextPk (f := channelLocked x c) rfl (hState.onlyBaseband.trans hKept.onlyBaseband) ⟨?_, fun hSearch => ?_, fun hLost => ?_⟩
    · rw [chanState, hKept.reads (by decide), rdI_wrI_channel hc _ _ _ _ (by decide)]
      rfl
    · rw [channelLocked_locks x s.pk c hIdle h, hSearch]
      exact rdI_wrI_self _ _ _ _ _ (by decide)
    · rw [channelLocked_locks x s.pk c hIdle h, hLost]
      simp only [beq_self_eq_true, Bool.true_or, onlyIf_true]
      refine ⟨?_, rdI_raise_self _ _ _ _ _ (by decide)⟩
      simp (disch := decide) [raise, rdI_raise_field, rdI_wrI_self]
      rfl
  case hit =>
    intro x v c s hIdle hOn hVerify hFree
    have hDwell := acqDwell_verified x s.pk hIdle hOn v hVerify
    have hHit := hitCounted_onlyBaseband x s.pk v
    have hGiven := handOver_work (hitCounted x v s.pk) x.bb 1 v (aidOf (verifyDone x s.pk) x v)
    obtain ⟨hState, hSys, hPrn⟩ := handOver_takes (hitCounted x v s.pk) x.bb 1 v (aidOf (verifyDone x s.pk) x v) c
      (by rw [chansIn_hitCounted, hFree])
    have hLast (q : Pkg) : DieKeeps x.bb [GNS_CHAN.STATE.id, GNS_CHAN.SYS.id, GNS_CHAN.PRN.id, GNS_ACQ_HITS.V.id] q (suspendSearch x.bb q) :=
      suspendSearch_keeps q x.bb (by decide)
    refine .of_nextPk (f := acqDwell x true) rfl ?_ ⟨?_, ?_, ?_, ?_, ?_⟩ <;> rw [hDwell]
    · exact (hHit.trans hGiven.onlyBaseband).trans (hLast _).onlyBaseband
    · rw [chanState, (hLast _).reads (by decide)]
      exact hState
    · rw [(hLast _).reads (by decide), hSys]
    · rw [(hLast _).reads (by decide), hPrn]
    · rw [(hLast _).bbs_eq, hGiven.bbs_eq, hitCounted, onBb_get_self]
      simp [Bb.setCells, inc, incI, verifyDone]
    · rw [rd_eq, (hLast _).reads (by decide), hGiven.reads (by decide), hitCounted, rdI_onBb]
      exact rdI_wrI_self _ _ _ _ _ (by decide)
  case miss =>
    intro x v s hIdle hOn hVerify
    refine .of_nextPk (f := acqDwell x false) rfl ⟨rfl, ?_⟩
    rw [onPk_pk, acqDwell_dropped x s.pk hIdle hOn v hVerify]
    exact suspendSearch_onBb x s.pk _ hOn
  case above =>
    intro x v s hIdle hOn hVerify hNext
    obtain ⟨f, hf, hDwell⟩ := exists_acqDwell_above_eq x s.pk hIdle hOn v hVerify hNext
    obtain ⟨hFields, hSuspended, hFrame⟩ := suspendSearch_onBb x s.pk f hOn
    have hBb : (acqDwell x true s.pk).bbs.get x = f (s.pk.bbs.get x) := by rw [hDwell, hFrame, Two.get_set_self]
    refine .of_nextPk (f := acqDwell x true) rfl ⟨rfl, ?_⟩
    rw [onPk_pk, hBb, hDwell]
    exact ⟨hFields, hSuspended, hFrame, hf _⟩
  case plan =>
    intro x y signals s hRun hHelm hLane hReach
    have hKept := channelPlan_keeps x s.pk y signals hRun hHelm hLane hReach
    obtain ⟨hAll, hGood⟩ := formPlan_lengths s.pk y signals
    refine .of_nextPk (f := channelPlan x y signals) rfl ((planTaken_onlyBaseband x s.pk y signals).trans hKept.onlyBaseband) ⟨?_, ?_⟩
    · rw [hKept.bbs_eq, planTaken, onBb_get_self]
    · rw [rd_eq, hKept.reads (by decide), planTaken, rdI_onBb, wr_eq, rdI_wrI_self _ _ _ _ _ (by decide), hAll, hGood]
      rfl
  case other => exact fun x y signals s h => .of_nextPk (f := channelPlan x y signals) rfl (by simp [channelPlan, h])

end Sys2Proof.Machine
end

section
/-! R275 to R279: snapshot captures and the basebands' weirs. -/

namespace Sys2Proof.Machine

variable (x : Side) (p : Pkg)

/-! Triggers (R275, R277, R278). -/

theorem snapTrigger_waits (hRun : running p x.bb = true) (hClock : onFallback p x.bb = false) (hFree : rd p x.bb GNS_SNAP_STATUS.SNAP_STATE = 0) :
    snapTrigger x 0 p =
      wr x.bb I_GNS.TRIG_AT (now p x.bb) (wr x.bb GNS_SNAP_STATUS.TRIGGER 0 (wr x.bb GNS_SNAP_STATUS.SNAP_STATE 1 p)) := by
  rw [rd_eq] at hFree
  simp [snapTrigger, hRun, hClock, hFree]

theorem snapTrigger_missed (hRun : running p x.bb = true)
    (h : onFallback p x.bb = true ∨ rd p x.bb GNS_SNAP_STATUS.SNAP_STATE ≠ 0) :
    snapTrigger x 0 p = raise x.bb clsInfo GNS_EVENT.SNAP_MISSED (inc x.bb GNS_SNAP_MISSED.V p) := by
  have hMissed : (onFallback p x.bb || rd p x.bb GNS_SNAP_STATUS.SNAP_STATE != 0) = true := by simpa using h
  simp only [snapTrigger, hRun, hMissed, bne_self_eq_false, Bool.false_and, Bool.not_true, Bool.or_self, Bool.false_eq_true, if_false, if_true]

/-- A trigger leaves the weirs. -/
theorem snapTrigger_keeps (src : Nat) : DieKeeps x.bb [I_GWEIR.FIRED.id, GNS_EVENT.WEIR.id] p (snapTrigger x src p) := by
  unfold snapTrigger
  refine .ite .refl (.ite ?missed ?waits)
  case missed => exact .event (by decide) <| .write (by decide) .refl
  case waits => exact .write (by decide) <| .write (by decide) <| .write (by decide) .refl

/-! The start of a capture (R276). -/

/-- A capture that has begun at an instant, with its settings, and the search that it suspends. -/
def captureBegun (x : Side) (at' : Nat) (p : Pkg) : Pkg :=
  p |> wr x.bb GNS_SNAP_STATUS.SNAP_STATE 2 |> wr x.bb GNS_SNAP_T0.T0 at' |> onlyIf (searching p x) (wr x.bb GNS_STATUS.SEARCH_SUSPENDED 1)
    |> wr x.bb GNS_SNAP_STATUS.LENGTH_MS (rd p x.bb GNS_SNAP_CFG.LENGTH_MS) |> wr x.bb GNS_SNAP_STATUS.FORMAT (rd p x.bb GNS_SNAP_CFG.FORMAT)

/-- A reflectometer run that goes on ends with its event. -/
def reflectAborted (d : Die) (busy : Bool) (p : Pkg) : Pkg :=
  onlyIf busy (fun q => raise d clsInfo GNS_EVENT.REFLECT_ABORTED (wr d GNS_STATUS.REFLECT_BUSY 0 q)) p

/-- From 4 ms after its trigger a capture may start whatever the search and the sleep of the baseband. -/
theorem captureMayStart_of_waited (at' : Nat) (hRun : running p x.bb = true) (hWaits : rd p x.bb GNS_SNAP_STATUS.SNAP_STATE = 1)
    (h : rd p x.bb I_GNS.TRIG_AT + 4000000 ≤ at') : captureMayStart p x at' = true := by
  have hSettled : rd p x.bb I_GNS.TRIG_AT + 3000000 ≤ at' := by omega
  simp only [captureMayStart, hRun, hWaits, decide_eq_true h, decide_eq_true hSettled, beq_self_eq_true, Bool.or_true, Bool.and_self]

theorem captureStart_starts (t0 : Nat) (ht : t0 < 1000000) (h : captureMayStart p x (now p x.bb + t0) = true) :
    captureStart x t0 p = reflectAborted x.bb (flag p x.bb GNS_STATUS.REFLECT_BUSY) (captureBegun x (now p x.bb + t0) p) := if_pos ⟨ht, h⟩

theorem captureStart_not (t0 : Nat) (h : captureMayStart p x (now p x.bb + t0) = false) : captureStart x t0 p = p := if_neg (by simp [h])

/-- With its begin a capture stands in state 2 at its instant, and what follows leaves the reflectometer. -/
theorem captureBegun_keeps (at' : Nat) :
    DieKeeps x.bb [GNS_SNAP_STATUS.SNAP_STATE.id, GNS_SNAP_T0.T0.id, GNS_STATUS.REFLECT_BUSY.id]
      (wr x.bb GNS_SNAP_T0.T0 at' (wr x.bb GNS_SNAP_STATUS.SNAP_STATE 2 p)) (captureBegun x at' p) := by
  unfold captureBegun
  exact .write (by decide) <| .write (by decide) <| .onlyIf .refl (.write (by decide) .refl)

theorem captureBegun_suspends (at' : Nat) (h : searching p x = true) : rd (captureBegun x at' p) x.bb GNS_STATUS.SEARCH_SUSPENDED = 1 := by
  simp only [captureBegun, h, onlyIf_true, rd_eq, wr_eq]
  simp (disch := decide) only [rdI_wrI_field, rdI_wrI_self]
  rfl

theorem reflectAborted_keeps (d : Die) (busy : Bool) :
    DieKeeps d [GNS_SNAP_STATUS.SNAP_STATE.id, GNS_SNAP_T0.T0.id, GNS_STATUS.SEARCH_SUSPENDED.id] p (reflectAborted d busy p) :=
  .onlyIf .refl (.event (by decide) <| .write (by decide) .refl)

/-- After it no reflectometer run goes on. -/
theorem reflectAborted_idle (d : Die) : rd (reflectAborted d (flag p d GNS_STATUS.REFLECT_BUSY) p) d GNS_STATUS.REFLECT_BUSY = 0 := by
  by_cases h : rdI p d GNS_STATUS.REFLECT_BUSY 0 = 0
  · rw [reflectAborted, flag_eq, h]
    exact h
  · rw [reflectAborted, flag_eq, bne_iff_ne.mpr h, onlyIf_true]
    simp (disch := decide) only [raise, rd_eq, wr_eq, rdI_raise_field, rdI_wrI_self, Nat.zero_mod]

/-! The end of a capture and of its hold (R275, R277). -/

/-- The buffer holds the samples with their checksum. -/
theorem exists_captureDone_eq (samples : List Nat) (h : rd p x.bb GNS_SNAP_STATUS.SNAP_STATE = 2)
    (hTime : rd p x.bb GNS_SNAP_T0.T0 + rd p x.bb GNS_SNAP_STATUS.LENGTH_MS * 1000000 ≤ now p x.bb) :
    ∃ c : Capture, c.samples = samples ∧ c.crc = crc32c samples ∧ captureDone x samples p =
      raise x.bb clsInfo GNS_EVENT.SNAP_READY (onBb x (fun b => { b with capture := some c })
        (wr x.bb I_GNS.HOLD_AT (now p x.bb) (wr x.bb GNS_SNAP_STATUS.SNAP_STATE 3 p))) := by
  simp only [captureDone, h, decide_eq_true hTime, beq_self_eq_true, Bool.and_self, if_true]
  exact ⟨_, rfl, rfl, rfl⟩

/-- The buffer is empty and the search goes on. -/
theorem captureFree_acts :
    OnlyBaseband x p (captureFree x p) ∧ rd (captureFree x p) x.bb GNS_SNAP_STATUS.SNAP_STATE = 0 ∧
      rd (captureFree x p) x.bb GNS_STATUS.SEARCH_SUSPENDED = 0 ∧ ((captureFree x p).bbs.get x).capture = none := by
  unfold captureFree
  refine ⟨.trans (DieKeeps.onlyBaseband (K := []) ?writes) (.onBb x _ _), ?state, ?search, by rw [onBb_get_self]⟩
  case writes => exact .write (by decide) <| .write (by decide) <| .write (by decide) .refl
  case state => simp (disch := decide) only [rd_eq, wr_eq, rdI_onBb, rdI_wrI_field, rdI_wrI_self, Nat.zero_mod]
  case search => simp (disch := decide) only [rd_eq, wr_eq, rdI_onBb, rdI_wrI_self, Nat.zero_mod]

theorem snapDiscarded_discards (h : rd p x.bb GNS_SNAP_STATUS.SNAP_STATE = 3)
    (hTime : rd p x.bb I_GNS.HOLD_AT + rd p x.bb GNS_SNAP_CFG.HOLD_MAX * 1000000000 ≤ now p x.bb) :
    snapDiscarded x p = raise x.bb clsWarning GNS_EVENT.SNAP_DISCARDED (captureFree x p) := if_pos ⟨h, hTime⟩

/-- Without a capture nothing of one starts, ends, or is given up. -/
theorem capture_not (t0 : Nat) (samples : List Nat) (h : rd p x.bb GNS_SNAP_STATUS.SNAP_STATE = 0) :
    captureStart x t0 p = p ∧ captureDone x samples p = p ∧ snapRelease x p = p ∧ snapDiscarded x p = p := by
  refine ⟨captureStart_not x p t0 ?_, ?_, if_neg ?_, if_neg ?_⟩
  · simp [captureMayStart, h, -rd_eq]
  · simp [captureDone, h, -rd_eq]
  · simp [h, -rd_eq]
  · simp [h, -rd_eq]

/-! Weirs (R279). -/

/-- The event of a weir that fires, with a record where its setting asks for one. -/
def gweirMark (d : Die) (k : Nat) (log : Bool) (v : Nat) (p : Pkg) : Pkg :=
  if log then raiseWith d clsWarning GNS_EVENT.WEIR (.words [k, v]) p else wr d GNS_EVENT.WEIR 1 p

theorem gnsWeirFire_fires (k : Nat) (hRun : running p x.bb = true) (hEn : rdI p x.bb GNS_WEIR.EN k = 1) (hReady : rdI p x.bb I_GWEIR.FIRED k = 0)
    (hPast : rdI p x.bb I_GWEIR.RUN k = 1) (hTime : rdI p x.bb I_GWEIR.SINCE k + rdI p x.bb GNS_WEIR.MIN_DUR k * 10000000 ≤ now p x.bb) :
    gnsWeirFire x k p = onlyIf (flagI p x.bb GNS_WEIR.TO_SNAP k) (snapTrigger x (k + 1))
      (gweirMark x.bb k (flagI p x.bb GNS_WEIR.TO_LOG k) (gweirValue p x.bb k) (wrI x.bb I_GWEIR.FIRED k 1 p)) := by
  have hFires : (running p x.bb && flagI p x.bb GNS_WEIR.EN k && !(flagI p x.bb I_GWEIR.FIRED k) && flagI p x.bb I_GWEIR.RUN k &&
      decide (rdI p x.bb I_GWEIR.SINCE k + rdI p x.bb GNS_WEIR.MIN_DUR k * 10000000 ≤ now p x.bb)) = true := by
    rw [hRun, flagI_eq, hEn, flagI_eq, hReady, flagI_eq, hPast, decide_eq_true hTime]
    rfl
  simp only [gnsWeirFire, hFires, if_true, gweirMark]
  split <;> rfl

theorem gweirMark_marks (d : Die) (k : Nat) (log : Bool) (v : Nat) :
    DieKeeps d [I_GWEIR.FIRED.id] p (gweirMark d k log v p) ∧ rdI (gweirMark d k log v p) d GNS_EVENT.WEIR 0 = 1 := by
  unfold gweirMark
  split
  · exact ⟨.event (by decide) .refl, rdI_raise_self _ _ _ _ _ (by decide)⟩
  · exact ⟨.write (by decide) .refl, rdI_wrI_self _ _ _ _ _ (by decide)⟩

theorem gnsWeirRearm_rearms (k : Nat) (hFired : rdI p x.bb I_GWEIR.FIRED k = 1) (hDir : rdI p x.bb GNS_WEIR.DIR k = 1)
    (hBack : gweirValue p x.bb k + rdI p x.bb GNS_WEIR.HYST k ≤ rdI p x.bb GNS_WEIR.THRESH k) :
    gnsWeirRearm x k p = wrI x.bb I_GWEIR.RUN k 0 (wrI x.bb I_GWEIR.FIRED k 0 p) := by
  simp [gnsWeirRearm, hFired, hDir, hBack]

/-- Settles O12: each command is a few writes of the baseband's own fields, which the events and the second trigger that may follow leave. -/
theorem snapshotCapturesFollowTheirStates : Obligations.SnapshotCapturesFollowTheirStates := by
  unfold Obligations.SnapshotCapturesFollowTheirStates
  refine ⟨?waits, ?missed, ?starts, ?early, ?done, ?released, ?discarded, ?idle, ?fires, ?rearms⟩
  case waits =>
    intro x s hRun hClock hFree
    refine .of_nextPk (f := snapTrigger x 0) rfl ?_ ⟨?_, ?_⟩ <;> rw [snapTrigger_waits x s.pk hRun hClock hFree]
    · exact .write (by decide) (by simp) <| .write (by decide) (by simp) <| .write (by decide) (by simp) <| .mono (.refl [] _) (by simp)
    all_goals simp (disch := decide) only [rd_eq, wr_eq, rdI_wrI_field, rdI_wrI_self, Nat.zero_mod]
    rfl
  case missed =>
    intro x s hRun h
    refine .of_nextPk (f := snapTrigger x 0) rfl ?_ ⟨?_, ?_⟩ <;> rw [snapTrigger_missed x s.pk hRun h]
    · exact .event (by decide) (by simp) <| .write (by decide) (by simp) <| .mono (.refl [] _) (by simp)
    · simp (disch := decide) only [raise, inc, incI, rd_eq, rdI_raise_field, rdI_wrI_self]
      rfl
    · exact rdI_raise_self _ _ _ _ _ (by decide)
  case starts =>
    intro x t0 s ht hWaits hRun hTime
    have hStart := captureStart_starts x s.pk t0 ht (captureMayStart_of_waited x s.pk _ hRun hWaits hTime)
    have hInstant : DieKeeps x.bb [GNS_STATUS.REFLECT_BUSY.id] s.pk
      (wr x.bb GNS_SNAP_T0.T0 (now s.pk x.bb + t0) (wr x.bb GNS_SNAP_STATUS.SNAP_STATE 2 s.pk)) := .write (by decide) <| .write (by decide) .refl
    have hBegun := captureBegun_keeps x s.pk (now s.pk x.bb + t0)
    have hEnd := reflectAborted_keeps (captureBegun x (now s.pk x.bb + t0) s.pk) x.bb (flag s.pk x.bb GNS_STATUS.REFLECT_BUSY)
    have hBusy : flag s.pk x.bb GNS_STATUS.REFLECT_BUSY = flag (captureBegun x (now s.pk x.bb + t0) s.pk) x.bb GNS_STATUS.REFLECT_BUSY := by
      rw [flag_eq, flag_eq, hBegun.reads (by decide), hInstant.reads (by decide)]
    refine .of_nextPk (f := captureStart x t0) rfl ?_ ⟨?_, ?_, fun hSearch => ?_, ?_, ?_⟩ <;> rw [hStart]
    · exact (hInstant.onlyBaseband.trans hBegun.onlyBaseband).trans hEnd.onlyBaseband
    · rw [rd_eq, hEnd.reads (by decide), hBegun.reads (by decide)]
      simp (disch := decide) only [wr_eq, rdI_wrI_field, rdI_wrI_self]
      rfl
    · rw [rd_eq, hEnd.reads (by decide), hBegun.reads (by decide), wr_eq, rdI_wrI_self _ _ _ _ _ (by decide)]
      rfl
    · rw [rd_eq, hEnd.reads (by decide)]
      exact captureBegun_suspends x s.pk _ hSearch
    · rw [hBusy]
      exact reflectAborted_idle _ _
    · rw [hEnd.bbs_eq, hBegun.bbs_eq, hInstant.bbs_eq]
  case early => exact fun x t0 s h => .of_nextPk (f := captureStart x t0) rfl (captureStart_not x s.pk t0 h)
  case done =>
    intro x samples s hState hTime
    obtain ⟨c, hSamples, hCrc, hDone⟩ := exists_captureDone_eq x s.pk samples hState hTime
    have hHeld : DieKeeps x.bb [] s.pk (wr x.bb I_GNS.HOLD_AT (now s.pk x.bb) (wr x.bb GNS_SNAP_STATUS.SNAP_STATE 3 s.pk)) :=
      .write (by decide) <| .write (by decide) .refl
    have hEvent (q : Pkg) : DieKeeps x.bb [GNS_SNAP_STATUS.SNAP_STATE.id] q (raise x.bb clsInfo GNS_EVENT.SNAP_READY q) :=
      .event (by decide) .refl
    refine .of_nextPk (f := captureDone x samples) rfl ?_ ⟨?_, ?_, ?_⟩ <;> rw [hDone]
    · exact (hHeld.onlyBaseband.trans (.onBb x _ _)).trans (hEvent _).onlyBaseband
    · rw [rd_eq, (hEvent _).reads (by decide), rdI_onBb]
      simp (disch := decide) only [wr_eq, rdI_wrI_field, rdI_wrI_self]
      rfl
    · exact rdI_raise_self _ _ _ _ _ (by decide)
    · rw [(hEvent _).bbs_eq, onBb_get_self, Option.map_some, hSamples, hCrc]
  case released =>
    intro x s hHeld
    have hRelease : snapRelease x s.pk = captureFree x s.pk := if_pos hHeld
    obtain ⟨hFrame, hFree⟩ := captureFree_acts x s.pk
    exact .of_nextPk (f := snapRelease x) rfl (hRelease ▸ hFrame) (hRelease ▸ hFree)
  case discarded =>
    intro x s hHeld hTime
    obtain ⟨hFrame, hState, -, hEmpty⟩ := captureFree_acts x s.pk
    have hEvent : DieKeeps x.bb [GNS_SNAP_STATUS.SNAP_STATE.id] (captureFree x s.pk)
        (raise x.bb clsWarning GNS_EVENT.SNAP_DISCARDED (captureFree x s.pk)) := .event (by decide) .refl
    refine .of_nextPk (f := snapDiscarded x) rfl ?_ ⟨?_, ?_, ?_⟩ <;> rw [snapDiscarded_discards x s.pk hHeld hTime]
    · exact hFrame.trans hEvent.onlyBaseband
    · exact (hEvent.reads (by decide)).trans hState
    · exact rdI_raise_self _ _ _ _ _ (by decide)
    · rw [hEvent.bbs_eq, hEmpty]
  case idle =>
    intro x t0 samples s h
    obtain ⟨hStart, hDone, hRelease, hDiscard⟩ := capture_not x s.pk t0 samples h
    exact ⟨.of_nextPk (f := captureStart x t0) rfl hStart, .of_nextPk (f := captureDone x samples) rfl hDone,
      .of_nextPk (f := snapRelease x) rfl hRelease, .of_nextPk (f := snapDiscarded x) rfl hDiscard⟩
  case fires =>
    intro x k s hk hRun hEn hReady hPast hTime
    have hFire := gnsWeirFire_fires x s.pk k hRun hEn hReady hPast hTime
    have hFired : DieKeeps x.bb [] s.pk (wrI x.bb I_GWEIR.FIRED k 1 s.pk) := .write (by decide) .refl
    obtain ⟨hMark, hEvent⟩ := gweirMark_marks (wrI x.bb I_GWEIR.FIRED k 1 s.pk) x.bb k (flagI s.pk x.bb GNS_WEIR.TO_LOG k) (gweirValue s.pk x.bb k)
    have hLast (c : Bool) (q : Pkg) : DieKeeps x.bb [I_GWEIR.FIRED.id, GNS_EVENT.WEIR.id] q (onlyIf c (snapTrigger x (k + 1)) q) :=
      .onlyIf .refl (snapTrigger_keeps x q (k + 1))
    refine .of_nextPk (f := gnsWeirFire x k) rfl ?_ ⟨?_, ?_, ?_⟩ <;> rw [hFire]
    · exact (hFired.onlyBaseband.trans hMark.onlyBaseband).trans (hLast _ _).onlyBaseband
    · rw [(hLast _ _).reads (by decide), hMark.reads (by decide), rdI_wrI_self _ _ _ _ _ hk]
      rfl
    · exact ((hLast _ _).reads (by decide)).trans hEvent
    · rw [(hLast _ _).bbs_eq, hMark.bbs_eq, hFired.bbs_eq]
  case rearms =>
    intro x k s hk hFired hDir hBack
    refine .of_nextPk (f := gnsWeirRearm x k) rfl ?_ ?_ <;> rw [gnsWeirRearm_rearms x s.pk k hFired hDir hBack]
    · exact .write (by decide) (by simp) <| .write (by decide) (by simp) <| .mono (.refl [] _) (by simp)
    · rw [rdI_wrI_field _ _ _ _ _ _ _ _ (by decide) (by decide) (by decide), rdI_wrI_self _ _ _ _ _ hk]
      rfl

end Sys2Proof.Machine
end

section
/-! R254, R258, R260: a measurement epoch. Besides the record of the baseband it can move the sample to the lanes, retire channels and count
a failed self-test. -/

namespace Sys2Proof.Machine

/-- From `p` to `q` nothing has changed but registers, logs, faults, retirements, stamped samples and the lanes' lists, and at die `d` the
fields of the identities in `K` read as before. -/
def EpochKeeps (d : Die) (K : List Nat) (p q : Pkg) : Prop :=
  q = { p with stamped := q.stamped, regs := q.regs, log := q.log, lanes := q.lanes, faults := q.faults, retiring := q.retiring } ∧
    ∀ F i, F.count ≤ 65536 → F.id ∈ K → rdI q d F i = rdI p d F i

namespace EpochKeeps

variable {d : Die} {K : List Nat} {p q r : Pkg}

theorem refl : EpochKeeps d K p p := ⟨rfl, fun _ _ _ _ => rfl⟩

theorem trans (h : EpochKeeps d K p q) (k : EpochKeeps d K q r) : EpochKeeps d K p r := by
  obtain ⟨hpq, hFields⟩ := h
  obtain ⟨hqr, kFields⟩ := k
  refine ⟨?frame, fun F i hF hK => (kFields F i hF hK).trans (hFields F i hF hK)⟩
  rw [hqr, hpq]

theorem mono {J : List Nat} (h : EpochKeeps d K p q) (hs : ∀ i ∈ J, i ∈ K) : EpochKeeps d J p q :=
  ⟨h.1, fun F i hF hJ => h.2 F i hF (hs _ hJ)⟩

theorem of_die (h : DieKeeps d K p q) : EpochKeeps d K p q := by
  refine ⟨?_, h.2.2⟩
  rw [h.1]

/-- Work at another die. -/
theorem of_other {e : Die} (he : d ≠ e) (h : DieKeeps e [] p q) : EpochKeeps d K p q := by
  refine ⟨?_, fun F i hF _ => h.2.1 d F i hF he⟩
  rw [h.1]

theorem onlyIf {c : Bool} {f : Pkg → Pkg} (h : EpochKeeps d K p (f p)) : EpochKeeps d K p (onlyIf c f p) := by
  cases c
  · exact .refl
  · exact h

theorem forAll {α : Type} {l : List α} {f : α → Pkg → Pkg} (h : ∀ a q, EpochKeeps d K q (f a q)) : EpochKeeps d K p (forAll l f p) := by
  induction l generalizing p with
  | nil => exact .refl
  | cons a l ih => exact (h a p).trans ih

theorem reads (h : EpochKeeps d K p q) {F : Fld} {i : Nat} (hF : F.count ≤ 65536 ∧ F.id ∈ K) : rdI q d F i = rdI p d F i :=
  h.2 F i hF.1 hF.2

theorem bbs_eq (h : EpochKeeps d K p q) : q.bbs = p.bbs := by rw [h.1]

/-- Two such stretches around a change of a baseband's lists. -/
theorem frame_onBb {x : Side} {J : List Nat} {f : Bb → Bb} (h : EpochKeeps d J p q) (k : EpochKeeps d K (onBb x f q) r) :
    r = { p with
      stamped := r.stamped, regs := r.regs, log := r.log, bbs := p.bbs.set x (r.bbs.get x), lanes := r.lanes, faults := r.faults
      retiring := r.retiring } := by
  have hBbs : r.bbs = p.bbs.set x (r.bbs.get x) := by
    rw [k.bbs_eq, onBb_get_self, onBb, h.bbs_eq]
  rw [← hBbs, k.1, onBb, h.1]

end EpochKeeps

variable (x : Side) (p : Pkg)

/-! Retirement of channels at an epoch (R254, R445). -/

theorem retireChannel_work (c : Nat) : ChannelWork x.bb p (retireChannel x c p) := by
  unfold retireChannel
  extract_lets d s busy known retired order short moved
  by_cases hOut : chanState p d c = 4 ∨ 160 ≤ c
  · rw [if_pos hOut]
    exact .refl
  · rw [if_neg hOut]
    have hRetired : ChannelWork d p retired := .event (by decide) <| .write (by decide) <| .write (by decide) <| freeChannel_work d p c
    have hShort : ChannelWork d retired short := .event (by decide) <| .write (by decide) .refl
    have hMoved : ChannelWork d retired moved := by
      refine .ite .refl (.ite (handOver_work _ d 3 s known) ?_)
      split
      · split
        · exact .ite ((hShort.trans (freeChannel_work d _ _)).trans (handOver_work _ d 3 s known)) hShort
        · exact hShort
      · exact hShort
    exact ((hRetired.trans hMoved).trans (gnsCounts_keeps _ _ (by decide))).trans (checkAllLost_keeps _ _ (by decide))

/-- The record of a retired channel stands in its baseband's log, its entry at the steward. -/
theorem recordRetired_keeps (c : Nat) (spared selftest : Bool) : EpochKeeps x.bb channelMarks p (recordRetired x.bb 3 c spared selftest p) := by
  have hSteward : x.bb ≠ .sw := by cases x <;> decide
  unfold recordRetired
  extract_lets n logged listed
  have hLogged : EpochKeeps x.bb channelMarks p logged := .of_die (.logAt .refl (by decide))
  have hListed : DieKeeps .sw [] logged listed := by
    refine .ite ?_ .refl
    exact .write (by decide) <| .write (by decide) <| .write (by decide) <| .write (by decide) <| .write (by decide) <| .write (by decide) .refl
  refine hLogged.trans (.of_other hSteward (.onlyIf (.write (by decide) hListed) ?_))
  exact .event (by decide) <| .write (by decide) .refl

theorem retireDueChannel_keeps (c : Nat) : EpochKeeps x.bb channelMarks p (retireDueChannel x c p) := by
  unfold retireDueChannel
  extract_lets d spared
  split
  · exact .refl
  · exact (EpochKeeps.of_die (retireChannel_work x p c)).trans (recordRetired_keeps x _ c _ _)

/-! Measurement, the weirs and the self-test (R251, R279, R254). -/

theorem chanLoops_work (d : Die) (dt : Nat) (m : Meas) : ChannelWork d p (chanLoops d dt m p) := by
  unfold chanLoops
  extract_lets c s disc fll carr
  refine .onlyIf ?_ (.onlyIf (.write (by decide) <| .write (by decide) .refl) (.write (by decide) .refl))
  exact .write (by decide) <| .write (by decide) <| .write (by decide) <| .write (by decide) <| .write (by decide) .refl

theorem gweirFollow_work (d : Die) (epoch k : Nat) : ChannelWork d p (gweirFollow d epoch k p) :=
  .ite (.onlyIf .refl <| .write (by decide) <| .write (by decide) .refl) (.write (by decide) .refl)

/-- A fault of a channel adds its occurrence; the channel may come to wait for its retirement. -/
theorem occurrence_channel_keeps (d : Die) (c : Nat) (selftest : Bool) : EpochKeeps d channelMarks p (occurrence d 3 c selftest p) := by
  have hClass (b : Bool) : codeClass (eventCode (if b then clsPermanent else clsTransient) (kindBlock 3) 36) ≠ clsNme := by
    cases b <;> decide
  unfold occurrence
  split
  · exact .refl
  · extract_lets counted perm logged
    have hCounted : EpochKeeps d channelMarks p { p with faults := p.faults ++ [⟨d.num, 3, c, rd p .sw I_PKG.OPERATING_MS⟩] } :=
      ⟨rfl, fun _ _ _ _ => rfl⟩
    have hLogged : ChannelWork d { p with faults := p.faults ++ [⟨d.num, 3, c, rd p .sw I_PKG.OPERATING_MS⟩] } logged :=
      .logAt (.write (by decide) .refl) ⟨hClass perm, by decide⟩
    exact hCounted.trans (.of_die (.ite hLogged (.write (by decide) hLogged)))

/-- A sample on its way from its die to the lanes. -/
theorem receiveSample_keeps (r : RawSample) : EpochKeeps r.die channelMarks p (receiveSample r p) := by
  unfold receiveSample receiveMarked
  split
  · exact .refl
  · split
    · exact .of_die (.write (by decide) .refl)
    · split
      · exact .of_die (.write (by decide) .refl)
      · next m _ _ _ _ =>
        extract_lets n
        have hStamped : EpochKeeps r.die channelMarks p { p with stamped := p.stamped ++ [⟨r.die.num, m.src, n, r.arrival⟩] } :=
          ⟨rfl, fun _ _ _ _ => rfl⟩
        have hDelivered (s : Sample) (q : Pkg) : EpochKeeps r.die channelMarks q (deliverSample r.die s q) := by
          rw [deliverSample_eq]
          exact ⟨rfl, fun _ _ _ _ => rfl⟩
        exact (hStamped.trans (.of_die (.write (by decide) .refl))).trans (hDelivered _ _)

/-! The record (R258, R260). -/

theorem leBytes_length (n v : Nat) : (leBytes n v).length = n := by
  induction n generalizing v with
  | zero => rfl
  | succ n ih => simp [leBytes, ih]

/-- A record begins with its epoch. -/
theorem recordBytes_take (d : Die) (epoch agc1 agc5 : Nat) (l : List Meas) : (recordBytes p d epoch agc1 agc5 l).take 8 = leBytes 8 epoch := by
  simp only [recordBytes, List.append_assoc]
  exact List.take_left' (leBytes_length 8 epoch)

/-- Up to its record an epoch latches the gains and leaves the count of records; the record begins with the epoch; and what follows the
count leaves it and the gains. -/
theorem exists_gnssEpoch_eq (agc1 agc5 handNs : Nat) (l : List Meas) (bistFail : Bool) (h : epochDue p x.bb = true) :
    ∃ (seen measured : Pkg) (record : List Nat), EpochKeeps x.bb channelMarks p seen ∧
      DieKeeps x.bb channelMarks (wr x.bb GNS_AGC.AGC_L5 agc5 (wr x.bb GNS_AGC.AGC_L1 agc1 seen)) measured ∧
      record.take 8 = leBytes 8 (now p x.bb) ∧
      EpochKeeps x.bb channelMarks (inc x.bb GNS_RECORDS.V (onBb x (fun b => { b with record := record }) measured))
        (gnssEpoch x (now p x.bb) agc1 agc5 handNs l bistFail p) := by
  have hDue : (!(epochDue p x.bb) || now p x.bb != now p x.bb) = false := by simp [h]
  rw [gnssEpoch, if_neg (by rw [hDue]; exact Bool.false_ne_true)]
  extract_lets noted seen gained live looped es measured record comps recorded turn tested
  have hSeen : EpochKeeps x.bb channelMarks p seen :=
    .trans (.of_die (.write (by decide) .refl)) (.forAll fun c q => retireDueChannel_keeps x q c)
  have hLooped : ChannelWork x.bb gained looped := .forAll .refl fun m q => chanLoops_work q x.bb _ m
  have hMeasured : ChannelWork x.bb gained measured := .forAll hLooped fun m q => .write (by decide) <| .write (by decide) .refl
  have hRecorded : ChannelWork x.bb (inc x.bb GNS_RECORDS.V (onBb x (fun b => { b with record := record }) measured)) recorded :=
    .forAll (.forAll (.write (by decide) .refl) fun m q => .write (by decide) .refl) fun k q => gweirFollow_work q x.bb _ k
  have hTested : EpochKeeps x.bb channelMarks recorded tested :=
    .trans (.of_die (.write (by decide) .refl)) (.onlyIf (.trans (.of_die (.write (by decide) .refl)) (occurrence_channel_keeps _ _ _ _)))
  exact ⟨seen, measured, record, hSeen, hMeasured, recordBytes_take _ _ _ _ _ _,
    ((EpochKeeps.of_die hRecorded).trans hTested).trans (receiveSample_keeps _ _)⟩

/-- An epoch latches both gains, counts its record, and the record begins with the epoch. -/
theorem gnssEpoch_acts (agc1 agc5 handNs : Nat) (l : List Meas) (bistFail : Bool) (h : epochDue p x.bb = true) :
    let q := gnssEpoch x (now p x.bb) agc1 agc5 handNs l bistFail p
    q = { p with
      stamped := q.stamped, regs := q.regs, log := q.log, bbs := p.bbs.set x (q.bbs.get x), lanes := q.lanes, faults := q.faults
      retiring := q.retiring } ∧
      rd q x.bb GNS_AGC.AGC_L1 = agc1 % 2 ^ 16 ∧ rd q x.bb GNS_AGC.AGC_L5 = agc5 % 2 ^ 16 ∧
      rd q x.bb GNS_RECORDS.V = (rd p x.bb GNS_RECORDS.V + 1) % 2 ^ 32 ∧ (q.bbs.get x).record.take 8 = leBytes 8 (now p x.bb) := by
  obtain ⟨seen, measured, record, hSeen, hMeasured, hRecord, hRest⟩ := exists_gnssEpoch_eq x p agc1 agc5 handNs l bistFail h
  generalize gnssEpoch x (now p x.bb) agc1 agc5 handNs l bistFail p = q at hRest ⊢
  have hGains : DieKeeps x.bb [GNS_RECORDS.V.id] seen (wr x.bb GNS_AGC.AGC_L5 agc5 (wr x.bb GNS_AGC.AGC_L1 agc1 seen)) :=
    .write (by decide) <| .write (by decide) .refl
  have hCount (r : Pkg) : DieKeeps x.bb [GNS_AGC.AGC_L1.id, GNS_AGC.AGC_L5.id] r (inc x.bb GNS_RECORDS.V r) := .write (by decide) .refl
  have hGain {F : Fld} (hF : F.count ≤ 65536 ∧ F.id ∈ channelMarks ∧ F.id ∈ [GNS_AGC.AGC_L1.id, GNS_AGC.AGC_L5.id]) :
      rd q x.bb F = rd (wr x.bb GNS_AGC.AGC_L5 agc5 (wr x.bb GNS_AGC.AGC_L1 agc1 seen)) x.bb F :=
    calc rdI q x.bb F 0 = rdI (inc x.bb GNS_RECORDS.V (onBb x (fun b => { b with record := record }) measured)) x.bb F 0 := hRest.reads ⟨hF.1, hF.2.1⟩
      _ = rdI measured x.bb F 0 := (hCount _).reads ⟨hF.1, hF.2.2⟩
      _ = rdI (wr x.bb GNS_AGC.AGC_L5 agc5 (wr x.bb GNS_AGC.AGC_L1 agc1 seen)) x.bb F 0 := hMeasured.reads ⟨hF.1, hF.2.1⟩
  refine ⟨?frame, (hGain (by decide)).trans ?gain1, (hGain (by decide)).trans ?gain5, ?count, ?record⟩
  case frame =>
    have hBefore : EpochKeeps x.bb [] p measured :=
      ((hSeen.mono (by simp)).trans (.of_die (hGains.mono (by simp)))).trans (.of_die (hMeasured.mono (by simp)))
    have hAfter : EpochKeeps x.bb [] (onBb x (fun b => { b with record := record }) measured) q :=
      (EpochKeeps.of_die ((hCount _).mono (by simp))).trans (hRest.mono (by simp))
    exact hBefore.frame_onBb hAfter
  case gain1 =>
    rw [rd_eq, wr_eq, rdI_wrI_field _ _ _ _ _ _ _ _ (by decide) (by decide) (by decide)]
    exact rdI_wrI_self _ _ _ _ _ (by decide)
  case gain5 => exact rdI_wrI_self _ _ _ _ _ (by decide)
  case count =>
    have hBefore : rdI measured x.bb GNS_RECORDS.V 0 = rdI p x.bb GNS_RECORDS.V 0 :=
      (hMeasured.reads (by decide)).trans ((hGains.reads (by decide)).trans (hSeen.reads (by decide)))
    rw [rd_eq, hRest.reads (by decide), rd_eq, ← hBefore]
    exact rdI_wrI_self _ _ _ _ _ (by decide)
  case record => rw [hRest.bbs_eq, (hCount _).bbs_eq, onBb_get_self, hRecord]

end Sys2Proof.Machine
end

section
/-! R258, R261, R264, R266, R267: records, pages and corrections. -/

namespace Sys2Proof.Machine

variable (x : Side) (p : Pkg)

/-! What a die sends to both helms (R261, R264). -/

/-- What a lane holds after a message from die `d` that `f` puts into its lists: the helm takes it when it runs and is reached. -/
def sentTo (d : Die) (f : Lane → Lane) (p : Pkg) (y : Side) : Lane :=
  if running p y.helm && reaches p d y.helm then f (p.lanes.get y) else p.lanes.get y

/-- A message to both helms changes the lanes' lists alone, each lane's by itself. -/
theorem forAll_bothSides_eq (d : Die) (f : Lane → Lane) :
    forAll bothSides (fun y q => if running q y.helm && reaches q d y.helm then onLane y f q else q) p =
      { p with lanes := ⟨sentTo d f p .a, sentTo d f p .b⟩ } := by
  have hRunning (y : Side) (e : Die) : running (onLane y f p) e = running p e := rfl
  have hReaches (y : Side) (e : Die) : reaches (onLane y f p) d e = reaches p d e := rfl
  simp only [forAll, bothSides, List.foldl, sentTo]
  cases running p Side.a.helm && reaches p d Side.a.helm <;>
    simp only [hRunning, hReaches, if_true, if_false, Bool.false_eq_true] <;>
    cases running p Side.b.helm && reaches p d Side.b.helm <;> rfl

theorem sentTo_get (d : Die) (f : Lane → Lane) (y : Side) : (⟨sentTo d f p .a, sentTo d f p .b⟩ : Two Lane).get y = sentTo d f p y := by
  cases y <;> rfl

/-! Navigation pages (R261). -/

/-- A page as the lanes take it. -/
def pageOf (p : Pkg) (d : Die) (c ended page bits : Nat) : NavRec :=
  ⟨pageStamp p ended, d.num, c, (chanSignal p d c).1, (chanSignal p d c).2.1, (chanSignal p d c).2.2, page, trunc 600 bits⟩

theorem navPage_tracking (c ended page bits : Nat) (good : Bool) (hIdle : gnsIdle p x.bb = false) (hc : c < 160)
    (hState : chanState p x.bb c = 2) (hBand : (chanSignal p x.bb c).2.2 = 0) :
    navPage x c ended page bits good p =
      if good then
        { p with lanes :=
          ⟨sentTo x.bb (fun l => { l with navIn := l.navIn ++ [pageOf p x.bb c ended page bits] }) p .a,
            sentTo x.bb (fun l => { l with navIn := l.navIn ++ [pageOf p x.bb c ended page bits] }) p .b⟩ }
      else inc x.bb GNS_NAV_ERR.V p := by
  have hGuard : (gnsIdle p x.bb || !(decide (c < 160)) || chanState p x.bb c != 2 || (chanSignal p x.bb c).2.2 != 0) = false := by
    simp [hIdle, hc, hState, hBand]
  simp only [navPage, hGuard, Bool.false_eq_true, if_false]
  cases good
  · rfl
  · exact forAll_bothSides_eq p x.bb _

theorem navPage_not (c ended page bits : Nat) (good : Bool)
    (h : gnsIdle p x.bb = true ∨ chanState p x.bb c ≠ 2 ∨ (chanSignal p x.bb c).2.2 ≠ 0) : navPage x c ended page bits good p = p := by
  refine if_pos ?_
  obtain h | h | h := h <;> simp [h]

/-! Correction frames (R264, R266, R267). -/

/-- A good frame is counted, and sent to the helms. -/
theorem rtcmFrame_good (u stamp : Nat) (frame : List Nat) (hRun : running p x.port = true) (hMode : rdI p x.port SIG_UART.MODE u = 2)
    (hGood : rtcmGood frame = true) :
    rtcmFrame x u stamp frame p =
      let q := incI x.port SIG_UART.FRAMES u p
      let f (l : Lane) : Lane := { l with corrIn := l.corrIn ++ [⟨stamp, rtcmNumber frame, frame⟩] }
      { q with lanes := ⟨sentTo x.port f q .a, sentTo x.port f q .b⟩ } := by
  simp only [rtcmFrame, hRun, hMode, hGood, Bool.not_true, bne_self_eq_false, Bool.or_self, Bool.false_eq_true, if_false, if_true]
  exact forAll_bothSides_eq _ _ _

theorem rtcmFrame_bad (u stamp : Nat) (frame : List Nat) (hRun : running p x.port = true) (hMode : rdI p x.port SIG_UART.MODE u = 2)
    (hBad : rtcmGood frame = false) :
    rtcmFrame x u stamp frame p = raise x.port clsInfo SIG_EVENT.FRAME_ERR (incI x.port SIG_UART.FRAME_ERR u p) := by
  simp only [rtcmFrame, hRun, hMode, hBad, Bool.not_true, bne_self_eq_false, Bool.or_self, Bool.false_eq_true, if_false]

/-- A count at a port die keeps who runs and what reaches whom. -/
theorem sentTo_incI_frames (y : Side) (u : Nat) (d : Die) (f : Lane → Lane) :
    sentTo d f (incI y.port SIG_UART.FRAMES u p) x = sentTo d f p x := by
  have hKept : FieldsKept [(y.port, SIG_UART.FRAMES)] p (incI y.port SIG_UART.FRAMES u p) := .wrI _ _ _ _ _ (by decide)
  have hRun : ∀ g ∈ [(y.port, SIG_UART.FRAMES)], g.2.id ≠ I_DIE.RUN.id := by simp only [List.forall_mem_singleton]; decide
  have hLink : ∀ g ∈ [(y.port, SIG_UART.FRAMES)], g.2.id ≠ I_PKG.CULVERT_DOWN.id := by simp only [List.forall_mem_singleton]; decide
  rw [sentTo, hKept.running hRun, hKept.reaches hRun hLink]
  rfl

theorem corrStale_marks (g : Nat) (hg : g < 4) (hFalls : corrFalls p x g (now p x.helm) = true) (hFresh : rdI p x.helm I_EST.CORR_STALE g = 0) :
    corrStale x g p = onlyIf (!((List.range 4).any (fun k => flagI p x.helm I_EST.CORR_STALE k))) (logOpen x.helm clsWarning 0x13 5 .unstated)
      (wrI x.helm I_EST.CORR_STALE g 1 p) := by
  have hMarks : (decide (g < 4) && corrFalls p x g (now p x.helm) && !(flagI p x.helm I_EST.CORR_STALE g)) = true := by
    simp [hg, hFalls, hFresh]
  simp only [corrStale, hMarks, if_true]

theorem logOpen_frame (d : Die) (cls blk k : Nat) (pl : Payload) (h : cls < 16 ∧ blk < 64 ∧ cls ≠ clsNme) :
    OnlyFieldsAndLog d (logFields d) p (logOpen d cls blk k pl p) :=
  logRec_frame d _ 0 0xFF 0 pl p (by rw [codeClass_eventCode _ _ _ h.1 h.2.1 (Nat.mod_lt _ (by decide))]; exact h.2.2)

/-- Settles O11: an epoch is followed over its record (`exists_gnssEpoch_eq`), a page and a frame to the helms (`forAll_bothSides_eq`). -/
theorem epochsPagesAndCorrectionsReachTheLanes : Obligations.EpochsPagesAndCorrectionsReachTheLanes := by
  unfold Obligations.EpochsPagesAndCorrectionsReachTheLanes
  refine ⟨?epoch, ?page, ?bad, ?none, ?frame, ?error, ?stale, ?resumes, ?early⟩
  case epoch =>
    intro x agc1 agc5 handNs meas bistFail s hDue
    exact .of_nextPk (f := gnssEpoch x (now s.pk x.bb) agc1 agc5 handNs meas bistFail) rfl
      ⟨rfl, gnssEpoch_acts x s.pk agc1 agc5 handNs meas bistFail hDue⟩
  case page =>
    intro x c ended page bits s hIdle hc hState hBand
    refine .of_nextPk (f := navPage x c ended page bits true) rfl ⟨rfl, ?_⟩
    rw [onPk_pk, navPage_tracking x s.pk c ended page bits true hIdle hc hState hBand, if_pos rfl]
    exact ⟨rfl, fun y _ => sentTo_get _ _ _ y⟩
  case bad =>
    intro x c ended page bits s hIdle hc hState hBand
    have hBad : navPage x c ended page bits false s.pk = inc x.bb GNS_NAV_ERR.V s.pk :=
      (navPage_tracking x s.pk c ended page bits false hIdle hc hState hBand).trans (if_neg Bool.false_ne_true)
    refine .of_nextPk (f := navPage x c ended page bits false) rfl ?_ ?_ <;> rw [hBad]
    · exact OnlyFields.incI x.bb GNS_NAV_ERR.V 0 s.pk (by decide)
    · exact rdI_wrI_self _ _ _ _ _ (by decide)
  case none => exact fun x c ended page bits good s h => .of_nextPk (f := navPage x c ended page bits good) rfl (navPage_not x s.pk c ended page bits good h)
  case frame =>
    intro y u stamp frame s hu hRun hMode hGood
    refine .of_nextPk (f := rtcmFrame y u stamp frame) rfl ⟨rfl, ?_⟩
    rw [onPk_pk, rtcmFrame_good y s.pk u stamp frame hRun hMode hGood]
    refine ⟨rfl, FieldsKept.wrI y.port SIG_UART.FRAMES u _ s.pk (by decide), rdI_wrI_self _ _ _ _ _ hu, fun x _ => ?_⟩
    exact (sentTo_get _ _ _ x).trans (sentTo_incI_frames x s.pk y u y.port _)
  case error =>
    intro y u stamp frame s hu hRun hMode hBad
    refine .of_nextPk (f := rtcmFrame y u stamp frame) rfl ?_ ⟨?_, ?_⟩ <;> rw [rtcmFrame_bad y s.pk u stamp frame hRun hMode hBad]
    · exact .event (by decide) (by simp) <| .write (by decide) (by simp) <| .mono (.refl [] _) (by simp)
    · rw [raise, rdI_raise_field _ _ _ _ _ _ _ _ (by decide) (by decide) (by decide) (by decide) (by decide)]
      exact rdI_wrI_self _ _ _ _ _ hu
    · exact rdI_raise_self _ _ _ _ _ (by decide)
  case stale =>
    intro x g s hg hFalls hFresh
    have hWrite := (OnlyFields.wrI x.helm I_EST.CORR_STALE g 1 s.pk (by decide)).andLog x.helm
    have hLog (c : Bool) (q : Pkg) : OnlyFieldsAndLog x.helm (logFields x.helm) q (onlyIf c (logOpen x.helm clsWarning 0x13 5 .unstated) q) := by
      cases c
      · exact ((OnlyFields.refl [] q).andLog x.helm).mono (by simp)
      · exact logOpen_frame q x.helm _ _ _ _ (by decide)
    refine .of_nextPk (f := corrStale x g) rfl ?_ ?_ <;> rw [corrStale_marks x s.pk g hg hFalls hFresh]
    · exact (hWrite.trans (hLog _ _)).mono (by simp [logFields])
    · rw [(hLog _ _).2 _ _ _ (by decide) (by simp only [logFields, List.forall_mem_singleton]; exact fun h => absurd h.2 (by decide)),
        rdI_wrI_self _ _ _ _ _ hg]
      rfl
  case resumes =>
    intro x s hTime
    have hResume : sbasResume x s.pk = wr x.helm I_EST.SBAS_OFF 0 s.pk := if_pos hTime
    refine .of_nextPk (f := sbasResume x) rfl ?_ ?_ <;> rw [hResume]
    · exact OnlyFields.wrI x.helm I_EST.SBAS_OFF 0 0 s.pk (by decide)
    · exact rdI_wrI_self _ _ _ _ _ (by decide)
  case early => exact fun x s h => .of_nextPk (f := sbasResume x) rfl (if_neg (Nat.not_le.mpr h))

end Sys2Proof.Machine
end

section
/-! R283, R288, R289: a synchronising reset returns a FIRED weir to ARMED, and a weir with TO_LANE tells the helms. -/

namespace Sys2Proof.Machine

/-- AIN1 of port die A waits for its reset; its one weir, enabled with TO_LANE, has fired and lane A has been told. -/
def firedWeirState : State := State.reset.onPk fun p => p
  |> wrI .pa I_DIE.RUN 0 2 |> wrI .ha I_DIE.RUN 0 2 |> wrI .pa SIG_WEIR.CHANNEL 0 1 |> wrI .pa SIG_WEIR.CFG 0 5 |> wrI .pa SIG_WEIR.STATE 0 1
  |> wrI .ha I_LANE.WEIR 0 1

/-- The channel has a reset pending at a port die that runs. -/
theorem firedWeirState_awaits_reset : running firedWeirState.pk Side.a.port = true ∧ (firedWeirState.pk.ports.get .a).ain.length = 16 ∧
    (ainAt firedWeirState.pk .a 1).sync = true := by decide

/-- Before the reset helm A reads the weir as FIRED. -/
theorem firedWeirState_helm : rdI firedWeirState.pk .ha I_LANE.WEIR 0 = 1 := by decide

/-- The reset tells helm A that the weir is ARMED. -/
theorem syncResetNow_tells_helm : rdI (syncResetNow .a 1 firedWeirState.pk) .ha I_LANE.WEIR 0 = 0 := by decide

/-- Refutes O14: its second clause holds SYNC_RESET to the port die alone, but the reset of a channel whose weir is FIRED with TO_LANE also
writes the weir's state at the helms (R288, R289, entry 175 of the model's log). -/
theorem not_analogChannelsResetFillAndDeliver : ¬ Obligations.AnalogChannelsResetFillAndDeliver := by
  unfold Obligations.AnalogChannelsResetFillAndDeliver
  rintro ⟨-, hReset, -⟩
  obtain ⟨hRun, hLength, hSync⟩ := firedWeirState_awaits_reset
  obtain ⟨t, hExec, -, -, ⟨-, hHelms⟩, -⟩ := hReset .a 1 firedWeirState hRun (by decide) hLength hSync
  have hNext : firedWeirState.onPk (syncResetNow .a 1) = t := Host.Outcome.next.inj hExec
  have hKept : rdI t.pk .ha I_LANE.WEIR 0 = rdI firedWeirState.pk .ha I_LANE.WEIR 0 := hHelms .ha I_LANE.WEIR 0 (by decide) (by decide)
  rw [← hNext, onPk_pk, syncResetNow_tells_helm, firedWeirState_helm] at hKept
  exact absurd hKept (by decide)

end Sys2Proof.Machine
end

section
/-! R83, R84, R291: what a sample, and a sentence, leaves at its receiving die. -/

namespace Sys2Proof.Machine

/-- From `p` to `q` nothing has changed but registers, stamped samples and the lanes' lists, and at die `d` the fields of the identities in
`K` read as before. -/
def SampleKeeps (d : Die) (K : List Nat) (p q : Pkg) : Prop :=
  q = { p with regs := q.regs, lanes := q.lanes, stamped := q.stamped } ∧ ∀ F i, F.count ≤ 65536 → F.id ∈ K → rdI q d F i = rdI p d F i

namespace SampleKeeps

variable {d : Die} {K : List Nat} {p q r : Pkg}

theorem refl : SampleKeeps d K p p := ⟨rfl, fun _ _ _ _ => rfl⟩

theorem trans (h : SampleKeeps d K p q) (k : SampleKeeps d K q r) : SampleKeeps d K p r := by
  obtain ⟨hpq, hFields⟩ := h
  obtain ⟨hqr, kFields⟩ := k
  refine ⟨?_, fun F i hF hK => (kFields F i hF hK).trans (hFields F i hF hK)⟩
  rw [hqr, hpq]

/-- A write of a field outside `K`, also by `incI` and `inc`. -/
theorem write {F : Fld} {i v : Nat} (hF : F.count ≤ 65536 ∧ F.id ∉ K) (h : SampleKeeps d K p q) : SampleKeeps d K p (wrI d F i v q) :=
  h.trans ⟨rfl, fun _ _ hG hK => rdI_wrI_field _ _ _ _ _ _ _ _ hF.1 hG fun hId => hF.2 (hId ▸ hK)⟩

theorem forAll {α : Type} {l : List α} {f : α → Pkg → Pkg} (h : ∀ a q, SampleKeeps d K q (f a q)) : SampleKeeps d K p (forAll l f p) := by
  induction l generalizing p with
  | nil => exact .refl
  | cons a l ih => exact (h a p).trans ih

theorem reads (h : SampleKeeps d K p q) {F : Fld} {i : Nat} (hF : F.count ≤ 65536 ∧ F.id ∈ K) : rdI q d F i = rdI p d F i :=
  h.2 F i hF.1 hF.2

theorem eth_eq (h : SampleKeeps d K p q) : q.eth = p.eth := by rw [h.1]

end SampleKeeps

/-- The counts of framers and listeners that the samples formed leave alone. -/
def receiptCounts : List Nat := [SIG_UART.FRAMES.id, ETH_LIS.ACCEPTED.id, ETH_LIS.ERR.id]

variable (p : Pkg)

/-- A sample, with its mark or without, on its way from its die to the lanes. -/
theorem receiveMarked_sampleKeeps (degraded : Bool) (r : RawSample) : SampleKeeps r.die receiptCounts p (receiveMarked degraded r p) := by
  unfold receiveMarked
  split
  · exact .refl
  · split
    · exact .write (by decide) .refl
    · next m _ =>
      split
      · exact .write (by decide) .refl
      · extract_lets n
        have hStamped : SampleKeeps r.die receiptCounts p { p with stamped := p.stamped ++ [⟨r.die.num, m.src, n, r.arrival⟩] } :=
          ⟨rfl, fun _ _ _ _ => rfl⟩
        have hDelivered (s : Sample) (q : Pkg) : SampleKeeps r.die receiptCounts q (deliverSample r.die s q) := by
          rw [deliverSample_eq]
          exact ⟨rfl, fun _ _ _ _ => rfl⟩
        exact (hStamped.write (by decide)).trans (hDelivered _ _)

theorem takeSentence_sampleKeeps (d : Die) (portType index arrival : Nat) (s : List Nat) :
    SampleKeeps d receiptCounts p (takeSentence d portType index arrival s p) := by
  unfold takeSentence
  extract_lets r received
  have hReceived : SampleKeeps d receiptCounts p received := receiveMarked_sampleKeeps p false r
  split
  · exact hReceived
  · refine hReceived.trans (.forAll fun f q => ?_)
    split
    · exact .write (by decide) <| .write (by decide) <| .write (by decide) .refl
    · exact .refl

end Sys2Proof.Machine
end

section
/-! R291, R294 to R296, R298, R305: inputs, framers, feedback, load measurements and the test register. -/

namespace Sys2Proof.Machine

variable (y : Side) (p : Pkg)

/-! Digital inputs (R294, R295). -/

theorem dioInputChange_held (n : Nat) (high : Bool) (heldUs : Nat) (hRun : running p y.port = true) (hn : n < 24)
    (hFunc : rdI p y.port SIG_DIO.FUNC n = 0) (hHeld : rdI p y.port SIG_DIO.DEBOUNCE_US n ≤ heldUs) :
    dioInputChange y n high heldUs p = wrI y.port I_DIO.LEVEL n (b2n high) p :=
  if_pos (by simp [hRun, hn, hFunc, hHeld])

theorem dioInputChange_early (n : Nat) (high : Bool) (heldUs : Nat) (hEarly : heldUs < rdI p y.port SIG_DIO.DEBOUNCE_US n) :
    dioInputChange y n high heldUs p = p :=
  if_neg (by simp [Nat.not_le.mpr hEarly])

/-- A change of a port die's lists after a change of registers alone. -/
theorem OnlyFields.onPort_eq {l : List (Die × Fld)} {p q : Pkg} (h : OnlyFields l p q) (y : Side) (f : Port → Port) :
    onPort y f q = { p with regs := q.regs, ports := p.ports.set y (f (p.ports.get y)) } := by
  rw [onPort, h.1]

/-- The registers of a pulse edge that counts: its number, its instant and, after an earlier one, the period. -/
def edgeNoted (d : Die) (n stamp : Nat) (p : Pkg) : Pkg :=
  p |> wrI d I_DIO.EDGES n (min 2 (rdI p d I_DIO.EDGES n + 1)) |> wrI d I_DIO.EDGE_AT n stamp
    |> onlyIf (rdI p d I_DIO.EDGES n != 0) (wrI d SIG_DIO.PERIOD_NS n (stamp - rdI p d I_DIO.EDGE_AT n))

theorem pulseEdge_counts (n stamp : Nat) (hRun : running p y.port = true) (hn : n < 24) (hFunc : rdI p y.port SIG_DIO.FUNC n = 1)
    (h : rdI p y.port I_DIO.EDGES n = 0 ∨ rdI p y.port I_DIO.EDGE_AT n + rdI p y.port SIG_DIO.DEBOUNCE_US n * 1000 ≤ stamp) :
    pulseEdge y n stamp p = onPort y (fun q => { q with edges := q.edges ++ [(n, stamp)] }) (edgeNoted y.port n stamp p) := by
  have hLate : (rdI p y.port I_DIO.EDGES n != 0 &&
      decide (stamp < rdI p y.port I_DIO.EDGE_AT n + rdI p y.port SIG_DIO.DEBOUNCE_US n * 1000)) = false := by
    obtain h | h := h
    · simp [h]
    · simp [Nat.not_lt.mpr h]
  exact if_neg (by simp [hRun, hn, hFunc, hLate])

theorem edgeNoted_fields (d : Die) (n stamp : Nat) :
    OnlyFields [(d, I_DIO.EDGES), (d, I_DIO.EDGE_AT), (d, SIG_DIO.PERIOD_NS)] p (edgeNoted d n stamp p) := by
  have hEdge : OnlyFields [(d, I_DIO.EDGES), (d, I_DIO.EDGE_AT)] p
      (wrI d I_DIO.EDGE_AT n stamp (wrI d I_DIO.EDGES n (min 2 (rdI p d I_DIO.EDGES n + 1)) p)) :=
    .write (by decide) (by simp) <| .write (by decide) (by simp) <| .mono (.refl [] p) (by simp)
  exact (hEdge.trans (.onlyIf _ _ _ fun _ => .wrI d SIG_DIO.PERIOD_NS n _ _ (by decide))).mono (by simp)

theorem edgeNoted_at (d : Die) (n stamp : Nat) (hn : n < 24) : rdI (edgeNoted d n stamp p) d I_DIO.EDGE_AT n = stamp % 2 ^ 64 := by
  have hKept : DieKeeps d [I_DIO.EDGE_AT.id]
      (wrI d I_DIO.EDGE_AT n stamp (wrI d I_DIO.EDGES n (min 2 (rdI p d I_DIO.EDGES n + 1)) p)) (edgeNoted d n stamp p) :=
    .onlyIf .refl (.write (by decide) .refl)
  exact (hKept.reads (by decide)).trans (rdI_wrI_self _ _ _ _ _ hn)

theorem edgeNoted_period (d : Die) (n stamp : Nat) (hn : n < 24) (h : rdI p d I_DIO.EDGES n ≠ 0) :
    rdI (edgeNoted d n stamp p) d SIG_DIO.PERIOD_NS n = (stamp - rdI p d I_DIO.EDGE_AT n) % 2 ^ SIG_DIO.PERIOD_NS.w := by
  rw [edgeNoted, bne_iff_ne.mpr h, onlyIf_true]
  exact rdI_wrI_self _ _ _ _ _ hn

/-! Feedback (R296). -/

theorem feedbackStale_marks (f : Nat) (hRun : running p y.port = true) (hf : f < 128) (hOld : (feedbackNow p y.port f).2 = true) :
    feedbackStale y f p = wrI y.port SIG_FB.STALE f 1 p :=
  if_pos (by simp [hRun, hf, hOld])

theorem feedbackStale_fresh (f : Nat) (hFresh : (feedbackNow p y.port f).2 = false) : feedbackStale y f p = p :=
  if_neg (by simp [hFresh])

/-! Sentences (R291, R292). -/

section
variable (u arrival : Nat) (chars : List Nat) (hRun : running p y.port = true) (hu : u < 8) (hMode : rdI p y.port SIG_UART.MODE u = 1)
include hRun hu hMode

/-- Sentences without an error are counted, then taken one by one. -/
theorem sentenceReceive_good (hNone : (frameChars chars none).1 = 0)
    (hGood : (frameChars chars none).2.filter (sentenceGood (rdI p y.port SIG_UART.CHK_REQ u != 0)) = (frameChars chars none).2) :
    sentenceReceive y u arrival chars p =
      forAll (frameChars chars none).2 (takeSentence y.port 1 u arrival)
        (wrI y.port SIG_UART.FRAMES u (rdI p y.port SIG_UART.FRAMES u + (frameChars chars none).2.length)
          (wrI y.port SIG_UART.FRAME_ERR u (rdI p y.port SIG_UART.FRAME_ERR u) p)) := by
  refine (if_neg (by simp [hRun, hu, hMode])).trans ?_
  simp [hNone, hGood]

/-- Errors without a sentence are counted, with their event. -/
theorem sentenceReceive_bad (hNone : (frameChars chars none).2 = []) (hErr : 0 < (frameChars chars none).1) :
    sentenceReceive y u arrival chars p =
      wrI y.port SIG_UART.FRAMES u (rdI p y.port SIG_UART.FRAMES u) (raise y.port clsInfo SIG_EVENT.FRAME_ERR
        (wrI y.port SIG_UART.FRAME_ERR u (rdI p y.port SIG_UART.FRAME_ERR u + (frameChars chars none).1) p)) := by
  have hSome : ((frameChars chars none).1 != 0) = true := bne_iff_ne.mpr (Nat.pos_iff_ne_zero.mp hErr)
  refine (if_neg (by simp [hRun, hu, hMode])).trans ?_
  simp [hNone, hSome, forAll]

end

/-! Load measurements (R298). -/

/-- A measured output with its runs: the tenth open one in a row. -/
def openMeasured (d : Die) (o na : Nat) (p : Pkg) : Pkg :=
  let p := periodNext d I_OUT.MEASURE_DUE o 10000000 p
  p |> wrI d I_OUT.OPEN_RUN o 10
    |> wrI d I_OUT.SHORT_RUN o (if decide (10000000 ≤ na) = true then min 10 (rdI p d I_OUT.SHORT_RUN o + 1) else 0)

theorem dacLoadMeasure_tenth_open (o na : Nat) (hRun : running p y.port = true) (ho : o < 16)
    (hDue : periodDue p y.port I_OUT.MEASURE_DUE o 10000000 = true) (hCode : 65535 < rdI p y.port SIG_OUT.CODE o * 25)
    (hOpen : na * 1000000 * 65535 < rdI p y.port SIG_OUT.CODE o * 2500000000) (hNine : rdI p y.port I_OUT.OPEN_RUN o = 9)
    (hWas : rdI p y.port SIG_OUT.LOAD o ≠ 2) :
    dacLoadMeasure y o na p = surrFrom p y.port SIG_OUT.LOAD o
      (raise y.port clsWarning SIG_EVENT.DAC_OPEN (wrI y.port SIG_OUT.LOAD o 2 (openMeasured y.port o na p))) := by
  have hKept (F : Fld) (hF : F.count ≤ 65536 ∧ I_OUT.MEASURE_DUE.id ≠ F.id) :
      rdI (periodNext y.port I_OUT.MEASURE_DUE o 10000000 p) y.port F o = rdI p y.port F o :=
    rdI_wrI_field _ _ _ _ _ _ _ _ (by decide) hF.1 hF.2
  have hRunNine := (hKept I_OUT.OPEN_RUN (by decide)).trans hNine
  rw [← hKept SIG_OUT.LOAD (by decide)] at hWas
  simp only [dacLoadMeasure, hRun, ho, hDue, hCode, hOpen, hRunNine, hWas, openMeasured, decide_true, Bool.not_true, Bool.or_self,
    Bool.false_eq_true, if_false, if_true, Nat.reduceAdd, Nat.min_self, ne_eq, not_false_iff, and_self]

/-! The test register (R305). -/

/-- The fields of a test word for analog output `o` with EN set. -/
theorem testWord_fields (o v : Nat) (ho : o < 16) :
    (o + 64 + v * 65536) % 32 = o ∧ (o + 64 + v * 65536) / 32 % 2 = 0 ∧ bit (o + 64 + v * 65536) 6 = true ∧
      (o + 64 + v * 65536) / 65536 % 65536 = v % 65536 := by
  refine ⟨by omega, by omega, ?_, by omega⟩
  rw [bit, Nat.testBit_eq_decide_div_mod_eq, decide_eq_true_eq]
  omega

theorem testOutput_analog (o : Nat) (ho : o < 16) : testOutput 0 o = some o := by simp [testOutput, ho]

theorem sigTest_marked (o v : Nat) (hRun : running p y.port = true) (ho : o < 16) (hUser : rdI p y.port SIG_OUT.USER o = 2) :
    sigTest y (o + 64 + v * 65536) p =
      wrI y.port SIG_OUT.CODE o (v % 65536) (wr y.port SIG_TEST.VALUE (v % 65536) (wr y.port SIG_TEST.EN 1
        (wr y.port SIG_TEST.KIND 0 (wr y.port SIG_TEST.OUTPUT o p)))) := by
  obtain ⟨hOut, hKind, hEn, hValue⟩ := testWord_fields o v ho
  simp [sigTest, hRun, hOut, hKind, hEn, hValue, testOutput_analog o ho, hUser, ho, b2n]

theorem sigTest_unmarked (o v : Nat) (hRun : running p y.port = true) (ho : o < 16) (hUser : rdI p y.port SIG_OUT.USER o ≠ 2) :
    sigTest y (o + 64 + v * 65536) p = raise y.port clsWarning SIG_EVENT.TEST_REFUSED p := by
  obtain ⟨hOut, hKind, hEn, -⟩ := testWord_fields o v ho
  simp [sigTest, hRun, hOut, hKind, hEn, testOutput_analog o ho, hUser]

/-- Settles O15: each command of the pins is one chain of writes, given by its equation; the sentences of a framer are samples on their way to
the lanes (`takeSentence_sampleKeeps`). -/
theorem pinsAndFramersAreLatched : Obligations.PinsAndFramersAreLatched := by
  unfold Obligations.PinsAndFramersAreLatched
  refine ⟨?held, ?early, ?edge, ?stale, ?fresh, ?sentences, ?errors, ?openLoad, ?drives, ?refused⟩
  case held =>
    intro y n high heldUs s hRun hn hFunc hHeld
    refine .of_nextPk (f := dioInputChange y n high heldUs) rfl ?_ ?_ <;> rw [dioInputChange_held y s.pk n high heldUs hRun hn hFunc hHeld]
    · exact .wrI y.port I_DIO.LEVEL n _ s.pk (by decide)
    · rw [rdI_wrI_self _ _ _ _ _ hn]
      cases high <;> rfl
  case early =>
    exact fun y n high heldUs s hEarly => .of_nextPk (f := dioInputChange y n high heldUs) rfl (dioInputChange_early y s.pk n high heldUs hEarly)
  case edge =>
    intro y n stamp s hRun hn hFunc hLate
    refine .of_nextPk (f := pulseEdge y n stamp) rfl ⟨rfl, ?_⟩
    rw [onPk_pk, pulseEdge_counts y s.pk n stamp hRun hn hFunc hLate]
    have hFields := edgeNoted_fields s.pk y.port n stamp
    exact ⟨hFields.onPort_eq y _, hFields.2, edgeNoted_at s.pk y.port n stamp hn, edgeNoted_period s.pk y.port n stamp hn⟩
  case stale =>
    intro y f s hRun hf hOld
    refine .of_nextPk (f := feedbackStale y f) rfl ?_ ?_ <;> rw [feedbackStale_marks y s.pk f hRun hf hOld]
    · exact .wrI y.port SIG_FB.STALE f 1 s.pk (by decide)
    · exact rdI_wrI_self _ _ _ _ _ hf
  case fresh => exact fun y f s hFresh => .of_nextPk (f := feedbackStale y f) rfl (feedbackStale_fresh y s.pk f hFresh)
  case sentences =>
    intro y u arrival chars s hRun hu hMode hNone hGood
    refine .of_nextPk (f := sentenceReceive y u arrival chars) rfl ⟨rfl, ?_⟩
    rw [onPk_pk, sentenceReceive_good y s.pk u arrival chars hRun hu hMode hNone hGood]
    have hTaken (q : Pkg) : SampleKeeps y.port receiptCounts q (forAll (frameChars chars none).2 (takeSentence y.port 1 u arrival) q) :=
      .forAll fun l q => takeSentence_sampleKeeps q y.port 1 u arrival l
    refine ⟨(hTaken _).1, ?_⟩
    rw [(hTaken _).reads (by decide)]
    exact rdI_wrI_self _ _ _ _ _ hu
  case errors =>
    intro y u arrival chars s hRun hu hMode hNone hErr
    refine .of_nextPk (f := sentenceReceive y u arrival chars) rfl ?_ ⟨?_, ?_⟩ <;>
      rw [sentenceReceive_bad y s.pk u arrival chars hRun hu hMode hNone hErr]
    · have hEvent : OnlyFieldsAndLog y.port [(y.port, SIG_UART.FRAME_ERR), (y.port, SIG_EVENT.FRAME_ERR), (y.port, I_DIE.SEQ)] s.pk
          (raise y.port clsInfo SIG_EVENT.FRAME_ERR
            (wrI y.port SIG_UART.FRAME_ERR u (rdI s.pk y.port SIG_UART.FRAME_ERR u + (frameChars chars none).1) s.pk)) :=
        .event (by decide) (by simp) <| .write (by decide) (by simp) <| .mono (.refl [] s.pk) (by simp)
      exact (hEvent.trans ((OnlyFields.wrI y.port SIG_UART.FRAMES u _ _ (by decide)).andLog y.port)).mono (by simp)
    · rw [rd_eq, rdI_wrI_field _ _ _ _ _ _ _ _ (by decide) (by decide) (by decide)]
      exact rdI_raise_self _ _ _ _ _ (by decide)
    · rw [rdI_wrI_field _ _ _ _ _ _ _ _ (by decide) (by decide) (by decide), raise,
        rdI_raise_field _ _ _ _ _ _ _ _ (by decide) (by decide) (by decide) (by decide) (by decide)]
      exact rdI_wrI_self _ _ _ _ _ hu
  case openLoad =>
    intro y o na s hRun ho hDue hCode hOpen hNine hWas
    refine .of_nextPk (f := dacLoadMeasure y o na) rfl ?_ ⟨?_, ?_⟩ <;>
      rw [dacLoadMeasure_tenth_open y s.pk o na hRun ho hDue hCode hOpen hNine hWas]
    · refine .trans (DieKeeps.onlyRegsAndLog (d := y.port) (K := []) ?_) (surrFrom_onlyRegsAndLog _ _ _ _ _)
      exact .event (by decide) <| .write (by decide) <| .write (by decide) <| .write (by decide) <| .write (by decide) .refl
    · rw [rdI_surrFrom _ _ _ _ _ _ _ _ (by decide), raise,
        rdI_raise_field _ _ _ _ _ _ _ _ (by decide) (by decide) (by decide) (by decide) (by decide)]
      exact rdI_wrI_self _ _ _ _ _ (Nat.lt_trans ho (by decide))
    · rw [rd_eq, rdI_surrFrom _ _ _ _ _ _ _ _ (by decide)]
      exact rdI_raise_self _ _ _ _ _ (by decide)
  case drives =>
    intro y o v s hRun ho hv hUser
    refine .of_nextPk (f := sigTest y (o + 64 + v * 65536)) rfl ?_ ⟨?_, ?_, ?_⟩ <;>
      rw [sigTest_marked y s.pk o v hRun ho hUser, Nat.mod_eq_of_lt hv]
    · exact .write (by decide) (by simp) <| .write (by decide) (by simp) <| .write (by decide) (by simp) <| .write (by decide) (by simp) <|
        .write (by decide) (by simp) <| .mono (.refl [] s.pk) (by simp)
    · rw [rdI_wrI_self _ _ _ _ _ (Nat.lt_trans ho (by decide))]
      exact Nat.mod_eq_of_lt hv
    · simp (disch := decide) only [rd_eq, wr_eq, rdI_wrI_field, rdI_wrI_self]
      rfl
    · simp (disch := decide) only [rd_eq, wr_eq, rdI_wrI_field, rdI_wrI_self]
      exact Nat.mod_eq_of_lt hv
  case refused =>
    intro y o v s hRun ho hUser
    refine .of_nextPk (f := sigTest y (o + 64 + v * 65536)) rfl ?_ ?_ <;> rw [sigTest_unmarked y s.pk o v hRun ho hUser]
    · exact .event (by decide) (by simp) <| .mono (.refl [] s.pk) (by simp)
    · exact rdI_raise_self _ _ _ _ _ (by decide)

end Sys2Proof.Machine
end

section
/-! R338 to R340: sensor datagrams and their listeners. -/

namespace Sys2Proof.Machine

variable (g : Dgram) (y : Side) (j : Nat) (p : Pkg)

/-! Which listeners a datagram reaches (R338). -/

theorem lt_of_mem_listenersOf (h : (y, j) ∈ listenersOf p g) : j < 32 := by
  obtain ⟨x, -, h⟩ := List.mem_flatMap.mp h
  split at h
  · obtain ⟨i, hi, heq⟩ := List.mem_map.mp h
    obtain ⟨-, rfl⟩ := Prod.mk.inj heq
    exact List.mem_range.mp (List.mem_filter.mp hi).1
  · exact absurd h List.not_mem_nil

/-- A listener that is the only one of its kind is an entry of the listener table. -/
theorem lt_of_filter_listenersOf {f : Side × Nat → Bool} (h : (listenersOf p g).filter f = [(y, j)]) : j < 32 :=
  lt_of_mem_listenersOf g y j p (List.mem_filter.mp (h ▸ List.mem_singleton_self (y, j))).1

theorem datagram450_single (hPort : g.port < 6) (hUsable : portUsable p g.port = true)
    (hOne : (listenersOf p g).filter (fun l => rdI p l.1.port ETH_LIS.KIND l.2 == 1) = [(y, j)]) :
    datagram450 g p = take450 y j (dgramArrival g p) g.payload p := by
  refine (if_neg (by simp [hPort, hUsable])).trans ?_
  rw [hOne]
  rfl

theorem streamDatagram_single (hPort : g.port < 6) (hUsable : portUsable p g.port = true)
    (hOne : (listenersOf p g).filter (fun l => rdI p l.1.port ETH_LIS.KIND l.2 == 2) = [(y, j)]) :
    streamDatagram g p = takeStream y j (dgramArrival g p) g.payload p := by
  refine (if_neg (by simp [hPort, hUsable])).trans ?_
  rw [hOne]
  rfl

theorem datagram450_unheard (h : portUsable p g.port = false ∨ listenersOf p g = []) : datagram450 g p = p := by
  obtain h | h := h <;> simp [datagram450, h, forAll]

theorem streamDatagram_unheard (h : portUsable p g.port = false ∨ listenersOf p g = []) : streamDatagram g p = p := by
  obtain h | h := h <;> simp [streamDatagram, h, forAll]

/-! A datagram found wrong (R339, R340). -/

theorem listenErr_fields :
    OnlyFieldsAndLog y.port [(y.port, ETH_LIS.ERR), (y.port, ETH_EVENT.LISTEN_ERR), (y.port, I_DIE.SEQ)] p (listenErr y j p) :=
  OnlyFieldsAndLog.event (cls := clsWarning) (F := ETH_EVENT.LISTEN_ERR) (by decide) (by simp) <|
    .write (by decide) (by simp) <| .mono (.refl [] p) (by simp)

theorem listenErr_counts (hj : j < 32) : rdI (listenErr y j p) y.port ETH_LIS.ERR j = (rdI p y.port ETH_LIS.ERR j + 1) % 2 ^ 32 ∧
    rd (listenErr y j p) y.port ETH_EVENT.LISTEN_ERR = 1 :=
  ⟨(rdI_raise_field _ _ _ clsWarning ETH_EVENT.LISTEN_ERR _ _ _ (by decide) (by decide) (by decide) (by decide) (by decide)).trans
    (rdI_wrI_self _ _ _ _ _ hj), rdI_raise_self _ _ _ _ _ (by decide)⟩

/-- A command that ends in the listener's error. -/
theorem ActsAndLogs.of_listenErr {c : Instr} {s : State} {f : Pkg → Pkg} (h : exec c s = nextPk s f) (hErr : f s.pk = listenErr y j s.pk)
    (hj : j < 32) :
    ActsAndLogs c s y.port [(y.port, ETH_LIS.ERR), (y.port, ETH_EVENT.LISTEN_ERR), (y.port, I_DIE.SEQ)]
      (fun q => rdI q y.port ETH_LIS.ERR j = (rdI s.pk y.port ETH_LIS.ERR j + 1) % 2 ^ 32 ∧ rd q y.port ETH_EVENT.LISTEN_ERR = 1) :=
  .of_nextPk h (hErr ▸ listenErr_fields y j s.pk) (hErr ▸ listenErr_counts y j s.pk hj)

/-- A command that ends in the count of a copy. -/
theorem ActsOn.of_duplicate {c : Instr} {s : State} {f : Pkg → Pkg} (h : exec c s = nextPk s f) (hDup : f s.pk = incI y.port ETH_LIS.DUP j s.pk)
    (hj : j < 32) :
    ActsOn c s [(y.port, ETH_LIS.DUP)] (fun q => rdI q y.port ETH_LIS.DUP j = (rdI s.pk y.port ETH_LIS.DUP j + 1) % 2 ^ 32) :=
  .of_nextPk h (hDup ▸ .incI y.port ETH_LIS.DUP j s.pk (by decide)) (hDup ▸ rdI_wrI_self _ _ _ _ _ hj)

/-- A listener that has counted a datagram as good, and perhaps noted it, and what its samples leave. -/
theorem accepted_counts (f : Eth → Eth) {q : Pkg} (hj : j < 32)
    (h : SampleKeeps y.port receiptCounts (onEth y f (incI y.port ETH_LIS.ACCEPTED j p)) q) :
    rdI q y.port ETH_LIS.ACCEPTED j = (rdI p y.port ETH_LIS.ACCEPTED j + 1) % 2 ^ 32 ∧ rdI q y.port ETH_LIS.ERR j = rdI p y.port ETH_LIS.ERR j ∧
      q.eth.get y = f (p.eth.get y) := by
  refine ⟨?accepted, ?err, ?eth⟩
  case accepted =>
    rw [h.reads (by decide), rdI_onEth]
    exact rdI_wrI_self _ _ _ _ _ hj
  case err =>
    rw [h.reads (by decide), rdI_onEth]
    exact rdI_wrI_field _ _ _ _ _ _ _ _ (by decide) (by decide) (by decide)
  case eth =>
    rw [h.eth_eq, onEth_get_self]
    rfl

/-! 450 datagrams (R339). -/

/-- The lines of a 450 datagram, each with its TAG block. -/
def lines450 (b : List Nat) : List (Option (List Nat) × List Nat) := tagLines (b.drop 6).length (b.drop 6)

/-- The s and n of a 450 datagram's TAG blocks. -/
def key450 (b : List Nat) : Option (List Nat × Nat) :=
  let tags := (lines450 b).filterMap (fun l => l.1)
  (tagParam 0x73 tags).bind (fun s => (tagParam 0x6E tags).map (fun n => (s, decimal n)))

/-- A 450 datagram with its header, some line, and good sentences and TAG blocks. -/
def good450 (b : List Nat) : Bool :=
  b.take 6 == [0x55, 0x64, 0x50, 0x62, 0x43, 0] && !(lines450 b).isEmpty && ((lines450 b).filterMap (fun l => l.1)).all tagGood &&
    (lines450 b).all (fun l => lineGood l.2)

/-- A switch half that has noted the key of a datagram, if it has one. -/
def Eth.noting (key : Option (List Nat × Nat)) (e : Eth) : Eth :=
  match key with
  | some k => { e with lines := (k :: e.lines.filter (fun x => x.1 != k.1)).take 1024 }
  | none => e

theorem Eth.contains_noting (key : Option (List Nat × Nat)) (e : Eth) : key.all (fun k => (e.noting key).lines.contains k) = true := by
  cases key with
  | none => rfl
  | some k => simp [Eth.noting]

theorem lines450_isEmpty (b : List Nat) : (lines450 b).isEmpty = (b.drop 6).isEmpty := by
  unfold lines450
  cases b.drop 6 <;> rfl

/-- The TAG blocks of the lines are good as the lines' own are. -/
theorem all_tags_eq (l : List (Option (List Nat) × List Nat)) :
    ((l.filterMap (fun l => l.1)).all tagGood && l.all (fun l => lineGood l.2)) = l.all (fun l => lineGood l.2 && l.1.all tagGood) := by
  induction l with
  | nil => rfl
  | cons c l ih =>
    obtain ⟨tag, line⟩ := c
    cases tag with
    | none => simp only [List.filterMap_cons, List.all_cons, Option.all_none, ← ih, Bool.and_true, Bool.and_left_comm]
    | some t =>
      simp only [List.filterMap_cons, List.all_cons, Option.all_some, ← ih]
      ac_rfl

theorem good450_iff (b : List Nat) : good450 b = true ↔
    b.take 6 = [0x55, 0x64, 0x50, 0x62, 0x43, 0] ∧ 6 < b.length ∧ (lines450 b).all (fun l => lineGood l.2 && l.1.all tagGood) = true := by
  rw [good450, Bool.and_assoc, all_tags_eq, lines450_isEmpty]
  simp [and_assoc]

theorem good450_eq_false (b : List Nat) (h : b.take 6 ≠ [0x55, 0x64, 0x50, 0x62, 0x43, 0] ∨ b.length = 6 ∨
    (lines450 b).any (fun l => !(lineGood l.2) || l.1.any (fun t => !(tagGood t))) = true) : good450 b = false := by
  rw [← Bool.not_eq_true, good450_iff]
  rintro ⟨hHead, hLength, hLines⟩
  obtain h | h | h := h
  · exact h hHead
  · omega
  · obtain ⟨⟨tag, line⟩, hMem, hBad⟩ := List.any_eq_true.mp h
    obtain ⟨hLine, hTag⟩ := Bool.and_eq_true_iff.mp (List.all_eq_true.mp hLines _ hMem)
    cases tag with
    | none => simp [hLine] at hBad
    | some t =>
      rw [Option.all_some] at hTag
      simp [hLine, hTag] at hBad

theorem take450_bad (arrival : Nat) (b : List Nat) (h : good450 b = false) : take450 y j arrival b p = listenErr y j p :=
  if_pos (show (!good450 b) = true by rw [h]; rfl)

/-- A good datagram passes the check by which `take450` begins. -/
theorem not_bad450 {b : List Nat} (h : good450 b = true) : ¬(!good450 b) = true := by simp [h]

theorem take450_duplicate (arrival : Nat) (b : List Nat) (h : good450 b = true)
    (hDup : (key450 b).any (fun k => (p.eth.get y).lines.contains k) = true) : take450 y j arrival b p = incI y.port ETH_LIS.DUP j p :=
  (if_neg (not_bad450 h)).trans (if_pos hDup)

theorem take450_new (arrival : Nat) (b : List Nat) (h : good450 b = true)
    (hNew : ¬(key450 b).any (fun k => (p.eth.get y).lines.contains k) = true) :
    take450 y j arrival b p = forAll (lines450 b) (fun l q => takeSentence y.port 3 j arrival l.2 q)
      (onEth y (Eth.noting (key450 b)) (incI y.port ETH_LIS.ACCEPTED j p)) := by
  unfold take450
  extract_lets text lines tags good key
  refine (if_neg (not_bad450 h)).trans ((if_neg hNew).trans (congrArg (forAll lines _) ?_))
  rw [show key450 b = key from rfl]
  clear_value key
  cases key with
  | none => simp [onEth, Eth.noting]
  | some k => rfl

/-! Stream datagrams (R340). -/

/-- The sample that a stream datagram carries for its listener. -/
def streamSample (arrival : Nat) (b : List Nat) : RawSample :=
  ⟨y.port, 4, j, leNat ((b.drop 4).take 4), arrival, 0, streamStamp b, ((chunks 4 8 (b.drop 32)).map leNat).map f32to64⟩

theorem takeStream_malformed (arrival : Nat) (b : List Nat)
    (h : leNat (b.take 2) ≠ 1 ∨ b.length ≠ 32 + 4 * b.getD 3 0 ∨ b.getD 3 0 = 0 ∨ 8 < b.getD 3 0 ∨ bit (b.getD 12 0) 0 = false) :
    takeStream y j arrival b p = listenErr y j p := by
  refine if_pos ?_
  obtain h | h | h | h | h := h
  · exact .inl h
  · exact .inr <| .inl h
  · exact .inr <| .inr <| .inl h
  · exact .inr <| .inr <| .inr <| .inl h
  · exact .inr <| .inr <| .inr <| .inr <| .inl (by rw [h]; rfl)

/-- A good datagram of a known source is a copy, or counted, noted and passed on. -/
theorem takeStream_matched (arrival : Nat) (b : List Nat) (m : SrcMatch)
    (h : leNat (b.take 2) = 1 ∧ b.length = 32 + 4 * b.getD 3 0 ∧ 1 ≤ b.getD 3 0 ∧ b.getD 3 0 ≤ 8 ∧ bit (b.getD 12 0) 0 = true)
    (hMatch : matchSource p (streamSample y j arrival b) = some m) (hStamp : stampFits (b.getD 2 0) m.stampMode = true) :
    takeStream y j arrival b p =
      let seq := leNat ((b.drop 8).take 4)
      if (p.eth.get y).streams.contains (m.src, seq) then incI y.port ETH_LIS.DUP j p
      else receiveMarked (bit (b.getD 12 0) 1) (streamSample y j arrival b)
        (onEth y (fun e => { e with streams := (m.src, seq) :: e.streams.filter (fun x => x.1 != m.src) }) (incI y.port ETH_LIS.ACCEPTED j p)) := by
  obtain ⟨hVersion, hLength, hSome, hFew, hValid⟩ := h
  unfold streamSample at hMatch
  have hFormed : ¬(leNat (b.take 2) ≠ 1 ∨ b.length ≠ 32 + 4 * b.getD 3 0 ∨ b.getD 3 0 = 0 ∨ 8 < b.getD 3 0 ∨
      (!(bit (b.getD 12 0) 0)) = true ∨ (some m).any (fun s => !(stampFits (b.getD 2 0) s.stampMode)) = true) := by
    rintro (h | h | h | h | h | h)
    · exact h hVersion
    · exact h hLength
    · omega
    · omega
    · rw [hValid] at h
      exact Bool.false_ne_true h
    · rw [Option.any_some, hStamp] at h
      exact Bool.false_ne_true h
  simp only [takeStream, hMatch]
  exact if_neg hFormed

/-- Settles O48: with one listener of its kind a datagram is that listener's (`datagram450_single`, `streamDatagram_single`), which answers by its
error, its count of copies, or its count of datagrams; the samples that follow leave the counts (`accepted_counts`). -/
theorem sensorDatagramsReachTheirListeners : Obligations.SensorDatagramsReachTheirListeners := by
  unfold Obligations.SensorDatagramsReachTheirListeners
  refine ⟨?bad450, ?good450, ?badStream, ?goodStream, ?unheard⟩
  case bad450 =>
    intro g y j s hPort hUsable hOne hBad
    refine .of_listenErr y j (f := datagram450 g) rfl ?_ (lt_of_filter_listenersOf g y j s.pk hOne)
    rw [datagram450_single g y j s.pk hPort hUsable hOne, take450_bad y j s.pk _ _ (good450_eq_false _ hBad)]
  case good450 =>
    intro g y j s hPort hUsable hOne hHead hLen hLines tags key
    have hGood : good450 g.payload = true := (good450_iff _).mpr ⟨hHead, hLen, hLines⟩
    have hj := lt_of_filter_listenersOf g y j s.pk hOne
    have hTakes := datagram450_single g y j s.pk hPort hUsable hOne
    split
    next hDup => exact .of_duplicate y j (f := datagram450 g) rfl (hTakes.trans (take450_duplicate y j s.pk _ _ hGood hDup)) hj
    next hNew =>
      refine .of_nextPk (f := datagram450 g) rfl ⟨rfl, ?_⟩
      rw [onPk_pk, hTakes, take450_new y j s.pk _ _ hGood hNew]
      obtain ⟨hAccepted, hErr, hEth⟩ := accepted_counts y j s.pk (Eth.noting (key450 g.payload)) hj <|
        SampleKeeps.forAll (l := lines450 g.payload) (f := fun l q => takeSentence y.port 3 j (dgramArrival g s.pk) l.2 q)
          fun l q => takeSentence_sampleKeeps q y.port 3 j _ l.2
      exact ⟨hAccepted, hErr, hEth ▸ Eth.contains_noting _ _⟩
  case badStream =>
    intro g y j s hPort hUsable hOne hBad
    refine .of_listenErr y j (f := streamDatagram g) rfl ?_ (lt_of_filter_listenersOf g y j s.pk hOne)
    rw [streamDatagram_single g y j s.pk hPort hUsable hOne, takeStream_malformed y j s.pk _ _ hBad]
  case goodStream =>
    intro g y j m s hPort hUsable hOne hFormed hMatch hStamp seq
    have hj := lt_of_filter_listenersOf g y j s.pk hOne
    have hTakes := (streamDatagram_single g y j s.pk hPort hUsable hOne).trans
      (takeStream_matched y j s.pk (dgramArrival g s.pk) g.payload m hFormed hMatch hStamp)
    split
    next hDup => exact .of_duplicate y j (f := streamDatagram g) rfl (hTakes.trans (if_pos hDup)) hj
    next hNew =>
      refine .of_nextPk (f := streamDatagram g) rfl ⟨rfl, ?_⟩
      rw [onPk_pk, hTakes.trans (if_neg hNew)]
      obtain ⟨hAccepted, hErr, hEth⟩ := accepted_counts y j s.pk _ hj
        (receiveMarked_sampleKeeps _ (bit (g.payload.getD 12 0) 1) (streamSample y j (dgramArrival g s.pk) g.payload))
      exact ⟨hAccepted, hErr, hEth ▸ by simp [seq]⟩
  case unheard =>
    intro g s _ h
    exact ⟨.of_nextPk (f := datagram450 g) rfl (datagram450_unheard g s.pk h),
      .of_nextPk (f := streamDatagram g) rfl (streamDatagram_unheard g s.pk h)⟩

end Sys2Proof.Machine
end

section
/-! R309, R316: an FD frame with BRS whose loop delay saturates is not sent; it stays at the head and contends again. -/

namespace Sys2Proof.Machine

/-- With a loop delay above 127 periods the end of the head frame is an error of the sending port. -/
theorem canFrameSent_saturated (y : Side) (k sof delay : Nat) (e : CanEntry) (r : List CanEntry) (p : Pkg) (hSends : canSends p y k = true)
    (hHead : canFifo p y k = e :: r) (hFdf : e.frame.fdf = true) (hBrs : e.frame.brs = true) (hDelay : 127 < delay) :
    canFrameSent y k sof (some delay) p = canError y k true false false false (some delay) p := by
  simp [canFrameSent, hHead, hSends, hFdf, hBrs, hDelay]

/-- Lane A's FD frame with BRS, tag 9. -/
def brsEntry : CanEntry := ⟨0, 9, ⟨77, false, true, true, false, false, 2, [1, 2]⟩, false, 0, 0, false⟩

/-- CAN port 1 of port die A is NORMAL and error-active, with `brsEntry` alone in its FIFO. -/
def brsPortState : State := State.reset.onPk fun p => p
  |> onPort .a (fun q => { q with fifo := [[], [brsEntry], [], []] })
  |> wrI .pa I_DIE.RUN 0 2 |> wrI .pa CAN_CFG.MODE 1 1 |> wrI .pa CAN_CFG.FD_EN 1 1 |> wrI .pa CAN_STATUS.STATE 1 0

/-- The port sends, and FD is not suspended. -/
theorem brsPortState_sends : canSends brsPortState.pk .a 1 = true ∧ (brsPortState.pk.ports.get .a).fifo.length = 4 ∧
    canFifo brsPortState.pk .a 1 = [brsEntry] ∧ rd brsPortState.pk Side.a.port CAN_DIE_STATUS.FD_SUSPENDED = 0 := by decide

/-- After bit errors in its data phase the frame is still at the head, with one more attempt. -/
theorem canError_keeps_brsEntry :
    canFifo (canError .a 1 true false false false (some 128) brsPortState.pk) .a 1 = [{ brsEntry with attempts := 1 }] := by decide

/-- Refutes O16: its fifth clause takes the head frame out of the FIFO whatever loop delay CAN_FRAME_SENT brings, but of an FD frame with BRS
and a delay above 127 periods the data phase fails (R309), and the frame contends again (R316). -/
theorem not_canPortsSendCancelAndCountErrors : ¬ Obligations.CanPortsSendCancelAndCountErrors := by
  unfold Obligations.CanPortsSendCancelAndCountErrors
  rintro ⟨-, -, -, -, hSent, -⟩
  obtain ⟨hSends, hLength, hHead, hFd⟩ := brsPortState_sends
  obtain ⟨t, hExec, -, -, -, hGone, -⟩ := hSent .a 1 0 (some 128) brsEntry [] brsPortState hSends hLength hHead hFd
  have hNext : brsPortState.onPk (canFrameSent .a 1 0 (some 128)) = t := Host.Outcome.next.inj hExec
  rw [← hNext, onPk_pk, canFrameSent_saturated .a 1 0 128 brsEntry [] brsPortState.pk hSends hHead rfl rfl (by decide),
    canError_keeps_brsEntry] at hGone
  exact List.cons_ne_nil _ _ hGone

end Sys2Proof.Machine
end

section
/-! R322, R323, R330: a port whose controller is retired receives nothing until the spare has taken it over. -/

namespace Sys2Proof.Machine

theorem canFrameReceive_awaits_spare (y : Side) (k sof : Nat) (f : CanFrame) (held : Bool) (p : Pkg)
    (hWaits : rdI p y.port I_CAN.TAKEOVER k = 1) : canFrameReceive y k sof f held p = p := by
  simp [canFrameReceive, hWaits]

/-- A classic frame of two bytes. -/
def classicFrame : CanFrame := ⟨77, false, false, false, false, false, 2, [1, 2]⟩

/-- CAN port 1 of port die A is NORMAL and error-active, and its first filter accepts every frame; then its controller is
retired, with the spare free, so that the port waits for the spare. -/
def retiredPortState : State := State.reset.onPk fun p => p
  |> wrI .pa I_DIE.RUN 0 2 |> wrI .pa CAN_CFG.MODE 1 1 |> wrI .pa CAN_STATUS.STATE 1 0 |> wrI .pa CAN_FILT.ACTION 128 1
  |> canRetire .a 1

/-- By its registers the port runs, with a controller that is not dead. -/
theorem retiredPortState_runs : running retiredPortState.pk Side.a.port = true ∧ rdI retiredPortState.pk Side.a.port CAN_CFG.MODE 1 = 1 ∧
    rdI retiredPortState.pk Side.a.port I_CAN.DEAD 1 = 0 ∧ rdI retiredPortState.pk Side.a.port CAN_STATUS.STATE 1 = 0 := by decide

theorem retiredPortState_accepts : canFilter retiredPortState.pk Side.a.port 1 (canKey classicFrame) = some 128 ∧
    rdI retiredPortState.pk Side.a.port CAN_FILT.ACTION 128 = 1 := by decide

theorem retiredPortState_waits : rdI retiredPortState.pk Side.a.port I_CAN.TAKEOVER 1 = 1 := by decide

/-- Before the frame the port has counted none. -/
theorem retiredPortState_rxOk : rdI retiredPortState.pk Side.a.port CAN_CNT.RX_OK 1 = 0 := by decide

/-- Refutes O17: its first clause counts an accepted classic frame whether or not the port waits for the spare (R330), but
the one that waits has no controller, and its count stays. -/
theorem not_canPortsReceiveAndWatchTheBus : ¬ Obligations.CanPortsReceiveAndWatchTheBus := by
  unfold Obligations.CanPortsReceiveAndWatchTheBus
  rintro ⟨hReceives, -⟩
  obtain ⟨hRun, hMode, hLives, hActive⟩ := retiredPortState_runs
  obtain ⟨hFilter, hAccept⟩ := retiredPortState_accepts
  obtain ⟨t, hExec, -, -, -, hCounted, -⟩ := hReceives .a 1 0 classicFrame 128 retiredPortState hRun (by decide) (.inl hMode) hLives hActive
    rfl hFilter hAccept
  have hNext : retiredPortState.onPk (canFrameReceive .a 1 0 classicFrame false) = t := Host.Outcome.next.inj hExec
  rw [← hNext, onPk_pk, canFrameReceive_awaits_spare .a 1 0 classicFrame false retiredPortState.pk retiredPortState_waits,
    retiredPortState_rxOk] at hCounted
  exact absurd hCounted (by decide)

end Sys2Proof.Machine
end

section
/-! Chapter 12: the partner window, the ordinary clock's timers, and how frames leave their ports. The proofs are elaborated one after another
(`Elab.async`): one that waits for the check of those before it would hold a thread with its stack meanwhile. -/

namespace Sys2Proof.Machine

set_option Elab.async false

section
/-! R351: what a port's partner sends is shown at the end of its window, and not before. -/

theorem partnerWindow_open (k : Nat) (p : Pkg) (h : periodDue p (ethSide k).port I_PW.DUE (k % 3) 10000000000 = false) :
    partnerWindow k p = p := if_pos (by simp [h])

/-- The window of ETH1 has just begun, and the partner has sent a Sync in it. -/
def openWindowState : State := State.reset.onPk fun p => p
  |> wrI .pa I_DIE.RUN 0 2 |> partnerWindow 1 |> wrI .pa I_PW.SYNC 1 1

theorem openWindowState_open : running openWindowState.pk (ethSide 1).port = true ∧
    periodDue openWindowState.pk (ethSide 1).port I_PW.DUE 1 10000000000 = false := by decide

/-- The Sync is noted in the window. -/
theorem openWindowState_sync : rdI openWindowState.pk (ethSide 1).port I_PW.SYNC 1 = 1 := by decide

/-- Refutes O47: its clause on PTP_PARTNER_WINDOW clears and shows the window of every running port die whether or not its ten seconds
have passed, but before their end the command does nothing (R351, entry 178 of the model's log), and a Sync noted in the window stays noted. -/
theorem not_framesAreCheckedLearnedAndForwarded : ¬ Obligations.FramesAreCheckedLearnedAndForwarded := by
  unfold Obligations.FramesAreCheckedLearnedAndForwarded
  rintro ⟨-, -, -, -, -, -, -, -, -, hWindow, -⟩
  obtain ⟨hRun, hOpen⟩ := openWindowState_open
  obtain ⟨t, hExec, -, -, -, hShown, -⟩ := hWindow 1 openWindowState (by decide) hRun
  have hNext : openWindowState.onPk (partnerWindow 1) = t := Host.Outcome.next.inj hExec
  obtain ⟨-, hCleared⟩ := hShown (I_PW.SYNC, ETH_PORT_PTP_SEEN.SYNC) (by simp [partnerFlds])
  rw [← hNext, onPk_pk, partnerWindow_open 1 openWindowState.pk hOpen, openWindowState_sync] at hCleared
  exact absurd hCleared (by decide)

end

section
/-! R348: a message of the ordinary clock is sent when its interval has passed, and not before. -/

theorem ptpTimer_sync_early (p : Pkg) (h : periodDue p .sw I_PTP.DUE 0 (ptpEvery p 0) = false) : ptpTimer 0 p = p := if_pos (by simp [h])

/-- The ordinary clock is MASTER on ETH1 and has just sent a Sync. -/
def syncSentState : State := State.reset.onPk fun p => p
  |> wrI .sw I_DIE.RUN 0 2 |> wrI .pa I_DIE.RUN 0 2 |> wrI .pa PTP_CFG.OC_PORT 0 1 |> wrI .pa PTP_CFG.OC_MODE 0 2
  |> wrI .pa ETH_PORT_CFG.MODE 1 1 |> wrI .pa ETH_PORT_STATUS.LINK 1 1 |> wrI .pa PTP_OC_STATUS.PORT_STATE 0 6
  |> fun q => periodNext .sw I_PTP.DUE 0 (ptpEvery q 0) q

theorem syncSentState_master : ocOn syncSentState.pk = true ∧ ocState syncSentState.pk = 6 ∧ syncSentState.pk.oc.seqs = [0, 0, 0] := by decide

theorem syncSentState_early : periodDue syncSentState.pk .sw I_PTP.DUE 0 (ptpEvery syncSentState.pk 0) = false := by decide

/-- Refutes O50: its clause on PTP_MESSAGE_TIMER takes the next sequence number of the message type whether or not its interval has passed, but
the clock honours the intervals of PTP_OC_INTERVALS (R348): a timer that is not due does nothing, and the number stays. -/
theorem not_theOrdinaryClockMeasuresAnswersAndTimesOut : ¬ Obligations.TheOrdinaryClockMeasuresAnswersAndTimesOut := by
  unfold Obligations.TheOrdinaryClockMeasuresAnswersAndTimesOut
  rintro ⟨-, -, -, -, -, hTimer, -⟩
  obtain ⟨hOn, hMaster, hSeqs⟩ := syncSentState_master
  obtain ⟨t, hExec, -, -, -, hTaken, -⟩ := hTimer 0 0 syncSentState hOn (.inl ⟨.inl ⟨rfl, rfl⟩, hMaster⟩) (by rw [hSeqs]; rfl)
  have hNext : syncSentState.onPk (ptpTimer 0) = t := Host.Outcome.next.inj hExec
  rw [← hNext, onPk_pk, ptpTimer_sync_early syncSentState.pk syncSentState_early, hSeqs] at hTaken
  exact absurd hTaken (by decide)

end

section
/-! R343: the correctionField in the bytes of a frame. -/

theorem beBytes_length (n v : Nat) : (beBytes n v).length = n := by simp [beBytes, leBytes_length]

theorem leNat_leBytes (n v : Nat) : leNat (leBytes n v) = v % 256 ^ n := by
  induction n generalizing v with
  | zero => simp [leBytes, leNat, Nat.mod_one]
  | succ n ih => rw [leBytes, leNat, ih, Nat.mod_mod, Nat.pow_succ', Nat.mod_mul]

theorem beNat_reverse (l : List Nat) : beNat l.reverse = leNat l := by
  induction l with
  | nil => rfl
  | cons b l ih =>
    rw [beNat] at ih
    rw [beNat, List.reverse_cons, List.foldl_append, ih, leNat, List.foldl_cons, List.foldl_nil]
    omega

theorem beNat_beBytes (n v : Nat) : beNat (beBytes n v) = v % 256 ^ n := by rw [beBytes, beNat_reverse, leNat_leBytes]

/-- A word and the number it stands for agree modulo the word's range. -/
theorem toSigned_emod (w v : Nat) : toSigned w v % ((2 ^ w : Nat) : Int) = (v : Int) % ((2 ^ w : Nat) : Int) := by
  unfold toSigned trunc
  split <;> simp

/-- A sum formed on the number that a word stands for is the word's sum with wrap. -/
theorem ofSigned_toSigned_add (w v : Nat) (x : Int) : (ofSigned w (toSigned w v + x) : Int) = ((v : Int) + x) % ((2 ^ w : Nat) : Int) := by
  have hRange : (0 : Int) < ((2 ^ w : Nat) : Int) := Int.natCast_pos.mpr (Nat.two_pow_pos w)
  rw [ofSigned, Int.toNat_of_nonneg (Int.emod_nonneg _ (Int.ne_of_gt hRange)), Int.add_emod, toSigned_emod, ← Int.add_emod]

theorem ofSigned_lt (w : Nat) (x : Int) : ofSigned w x < 2 ^ w := by
  have hRange : (0 : Int) < ((2 ^ w : Nat) : Int) := Int.natCast_pos.mpr (Nat.two_pow_pos w)
  exact (Int.toNat_lt (Int.emod_nonneg _ (Int.ne_of_gt hRange))).mpr (Int.emod_lt_of_pos _ hRange)

/-- A field of 64 bits holds a number that is not negative and below half its range. -/
theorem toSigned_ofSigned_of_nonneg (x : Int) (h : 0 ≤ x ∧ x < 9223372036854775808) : toSigned 64 (ofSigned 64 x % 2 ^ 64) = x := by
  obtain ⟨hLow, hHigh⟩ := h
  unfold toSigned ofSigned trunc
  split <;> omega

section
variable (b new : List Nat) (o : Nat) (h : o + new.length ≤ b.length)
include h

theorem putBytes_take : (putBytes b o new).take o = b.take o := by
  rw [putBytes, List.append_assoc]
  exact List.take_left' (List.length_take_of_le (by omega))

theorem putBytes_drop_take : ((putBytes b o new).drop o).take new.length = new := by
  rw [putBytes, List.append_assoc, List.drop_left' (List.length_take_of_le (by omega))]
  exact List.take_left' rfl

theorem putBytes_drop : (putBytes b o new).drop (o + new.length) = b.drop (o + new.length) := by
  rw [putBytes]
  exact List.drop_left' (by rw [List.length_append, List.length_take_of_le (by omega)])

end

/-! PTP messages over Ethernet (R343). -/

theorem exists_ptpBody_of_event {b : List Nat} (h : ptpEvent b = true) : ∃ m, ptpBody b = some m ∧ ptpType m < 4 := by
  unfold ptpEvent at h
  cases hBody : ptpBody b with
  | none => simp [hBody] at h
  | some m => exact ⟨m, rfl, by simpa [hBody] using h⟩

/-- A frame holds the 34 bytes of its message's header. -/
theorem length_of_ptpBody {b m : List Nat} {o : Nat} (hAt : ptpAt b = some o) (h : ptpBody b = some m) : o + 34 ≤ b.length := by
  simp only [ptpBody, hAt, Option.bind_some] at h
  split at h
  next hHeader =>
    have hLength := hHeader.2
    rw [List.length_drop] at hLength
    omega
  next => cases h

/-- The correctionField after `add` was added. -/
def correction (b : List Nat) (add : Int) : List Nat := beBytes 8 (ofSigned 64 (toSigned 64 (beNat ((b.drop 22).take 8)) + add))

theorem correctFrame_ethernet (b : List Nat) (add : Int) (hAt : ptpAt b = some 14) (hType : beNat ((b.drop 12).take 2) = 0x88F7) :
    correctFrame b add = putBytes b 22 (correction b add) := by
  simp [correctFrame, correction, hAt, hType]

/-- Over Ethernet the correctionField is raised, with wrap, and every other byte stays. -/
theorem correctFrame_raises (b : List Nat) (add : Int) (hAt : ptpAt b = some 14) (hEvent : ptpEvent b = true)
    (hType : beNat ((b.drop 12).take 2) = 0x88F7) :
    (correctFrame b add).take 22 = b.take 22 ∧ (correctFrame b add).drop 30 = b.drop 30 ∧
      (beNat (((correctFrame b add).drop 22).take 8) : Int) = ((beNat ((b.drop 22).take 8) : Int) + add) % 2 ^ 64 := by
  obtain ⟨m, hBody, -⟩ := exists_ptpBody_of_event hEvent
  have hLength := length_of_ptpBody hAt hBody
  have hEight : (correction b add).length = 8 := beBytes_length _ _
  have hFits : 22 + (correction b add).length ≤ b.length := by omega
  rw [correctFrame_ethernet b add hAt hType]
  refine ⟨putBytes_take b _ 22 hFits, ?rest, ?field⟩
  case rest =>
    have hRest := putBytes_drop b _ 22 hFits
    rwa [hEight] at hRest
  case field =>
    have hField := putBytes_drop_take b _ 22 hFits
    rw [hEight] at hField
    have hWord (x : Int) : ofSigned 64 x % 256 ^ 8 = ofSigned 64 x := Nat.mod_eq_of_lt (ofSigned_lt 64 x)
    rw [hField, correction, beNat_beBytes, hWord]
    exact ofSigned_toSigned_add 64 _ _

end

section
/-! R335: work at a port die and in the egress queues of its switch half. -/

/-! Frames of a port die. -/

theorem OnlyPort.trans {y : Side} {p q r : Pkg} (h : OnlyPort y p q) (k : OnlyPort y q r) : OnlyPort y p r := by
  obtain ⟨hpq, hDies⟩ := h
  obtain ⟨hqr, kDies⟩ := k
  refine ⟨?_, fun e F i hF he => (kDies e F i hF he).trans (hDies e F i hF he)⟩
  rw [hqr, hpq]
  simp

theorem OnlyPort.onEth (y : Side) (f : Eth → Eth) (p : Pkg) : OnlyPort y p (onEth y f p) :=
  ⟨by simp [Machine.onEth], fun _ _ _ _ _ => rfl⟩

theorem DieKeeps.eth_eq {d : Die} {K : List Nat} {p q : Pkg} (h : DieKeeps d K p q) : q.eth = p.eth := by rw [h.1]

theorem DieKeeps.oc_eq {d : Die} {K : List Nat} {p q : Pkg} (h : DieKeeps d K p q) : q.oc = p.oc := by rw [h.1]

theorem DieKeeps.onlyPort {y : Side} {K : List Nat} {p q : Pkg} (h : DieKeeps y.port K p q) : OnlyPort y p q := by
  have hPorts : q.ports = p.ports := by rw [h.1]
  refine ⟨?_, h.2.1⟩
  rw [hPorts, h.eth_eq]
  simpa using h.1

/-- Work at one die leaves the fields of the identities in `K` on every die. -/
theorem DieKeeps.reads_everywhere {d : Die} {K : List Nat} {p q : Pkg} (h : DieKeeps d K p q) (e : Die) {F : Fld} {i : Nat}
    (hF : F.count ≤ 65536 ∧ F.id ∈ K) : rdI q e F i = rdI p e F i := by
  by_cases he : e = d
  · exact he ▸ h.reads hF
  · exact h.2.1 e F i hF.1 he

/-! Queues (R335). -/

/-- A switch half with other frames waiting. -/
def Eth.withQueues (l : List TxFrame) (e : Eth) : Eth := { e with queues := l }

theorem onEth_withQueues_self (y : Side) (p : Pkg) : onEth y (Eth.withQueues (p.eth.get y).queues) p = p := by
  cases y <;> rfl

theorem onEth_withQueues_txq (y z : Side) (l : List TxFrame) (p : Pkg) :
    ((onEth z (Eth.withQueues l) p).eth.get y).txq = (p.eth.get y).txq := by
  cases y <;> cases z <;> rfl

/-- A frame is put into its queue, or dropped with its count and its event. -/
theorem exists_ethQueue_eq {K : List Nat} (y : Side) (f : TxFrame) (p : Pkg)
    (hK : ∀ G ∈ [ETH_CNT.QDROP, ETH_EVENT.QUEUE_DROP, I_DIE.SEQ], G.id ∉ K) :
    ∃ q l, DieKeeps y.port K p q ∧ ethQueue y f p = onEth y (Eth.withQueues l) q := by
  unfold ethQueue
  split
  · exact ⟨p, _, .refl, rfl⟩
  · refine ⟨_, _, .event (cls := clsWarning) ⟨by decide, fun G hG => hK G (List.mem_cons_of_mem _ hG), by decide⟩
      (.write ⟨by decide, hK _ (by simp)⟩ .refl), (onEth_withQueues_self y _).symm⟩

/-- What sending a frame of the device comes to. -/
theorem exists_sendOwn_eq {K : List Nat} (k vid : Nat) (what : FrameOf) (at' : Int) (b : List Nat) (p : Pkg)
    (hK : ∀ G ∈ [ETH_CNT.QDROP, ETH_EVENT.QUEUE_DROP, I_DIE.SEQ], G.id ∉ K) :
    ∃ q l, DieKeeps (ethSide k).port K p q ∧ sendOwn k vid what at' b p = onEth (ethSide k) (Eth.withQueues l) q :=
  exists_ethQueue_eq (ethSide k) _ p hK

/-- What sending a message of the ordinary clock comes to. -/
theorem exists_ocSend_eq {K : List Nat} (kind seq : Nat) (ts : Int) (answers : List Nat) (p : Pkg)
    (hK : ∀ G ∈ [ETH_CNT.QDROP, ETH_EVENT.QUEUE_DROP, I_DIE.SEQ], G.id ∉ K) :
    ∃ q l, DieKeeps (ethSide (ocPort p)).port K p q ∧ ocSend kind seq ts answers p = onEth (ethSide (ocPort p)) (Eth.withQueues l) q :=
  exists_sendOwn_eq (ocPort p) _ _ _ _ p hK

end

section
/-! R335, R341, R343, R344, R349: a frame leaves its port. -/

/-! What a port sends (R335, R343). -/

/-- The bytes on the wire of a frame with its tag. -/
def taggedBytes (tag : Option Nat) (b : List Nat) : List Nat :=
  match tag with
  | some v => b.take 12 ++ [0x81, 0x00] ++ beBytes 2 v ++ b.drop 12
  | none => b

/-- A frame has left its queue with the bytes `body`, and is counted. -/
def frameSent (k : Nat) (f : TxFrame) (body : List Nat) (p : Pkg) : Pkg :=
  incI (ethSide k).port ETH_CNT.TX_FRAMES (k % 3)
    (onEth (ethSide k) (fun e => { e with queues := e.queues.erase f, last := e.last.set (k % 3) (taggedBytes f.tag body) }) p)

variable (k stamp : Nat) (f : TxFrame) (p : Pkg)

theorem frameSent_get (body : List Nat) : (frameSent k f body p).eth.get (ethSide k) =
    { p.eth.get (ethSide k) with
      queues := (p.eth.get (ethSide k)).queues.erase f
      last := (p.eth.get (ethSide k)).last.set (k % 3) (taggedBytes f.tag body) } := by
  simp [frameSent, incI]

theorem frameSent_onlyPort (body : List Nat) : OnlyPort (ethSide k) p (frameSent k f body p) :=
  (OnlyPort.onEth _ _ p).trans (DieKeeps.onlyPort (K := []) (.write (by decide) .refl))

/-- The port that has sent holds the frame's bytes as its last. -/
theorem frameSent_last (body : List Nat) (hLast : (p.eth.get (ethSide k)).last.length = 3) :
    ((frameSent k f body p).eth.get (ethSide k)).last.getD (k % 3) [] = taggedBytes f.tag body := by
  have hj : k % 3 < (p.eth.get (ethSide k)).last.length := by omega
  rw [frameSent_get, List.getD_eq_getElem?_getD, List.getElem?_set_self hj]
  rfl

theorem rdI_frameSent (body : List Nat) (d : Die) (G : Fld) (i : Nat) (hG : G.count ≤ 65536 ∧ ETH_CNT.TX_FRAMES.id ≠ G.id) :
    rdI (frameSent k f body p) d G i = rdI p d G i := rdI_wrI_field _ _ _ _ _ _ _ _ (by decide) hG.1 hG.2

/-! What the sending port adds to a frame (R343). -/

theorem residence_eq_none (egress : Int) (h : f.what = .device ∨ (f.what = .forwarded ∧ rd p (ethSide k).port PTP_CFG.TC_MODE = 0)) :
    residence p k f egress = none := by
  obtain h | ⟨h, hMode⟩ := h
  · simp only [residence, h]
  · rw [rd_eq] at hMode
    simp [residence, h, hMode]

/-- In E2E an event message takes the time since its ingress. -/
theorem residence_e2e (egress : Int) (hWhat : f.what = .forwarded) (hMode : rd p (ethSide k).port PTP_CFG.TC_MODE = 1)
    (hEvent : ptpEvent f.bytes = true) : residence p k f egress = some (psToScaled (egress - f.at')) := by
  obtain ⟨m, hBody, hType⟩ := exists_ptpBody_of_event hEvent
  rw [rd_eq] at hMode
  simp [residence, hWhat, hMode, hBody, hType]

/-! ETH_FRAME_TRANSMIT (R335, R343). -/

theorem ethTransmit_idle (h : portUsable p k = false ∨ nextFrame (p.eth.get (ethSide k)) (k % 3) = none) : ethTransmit k stamp p = p := by
  obtain h | h := h <;> simp [ethTransmit, h]

section
variable (hk : k < 6) (hUsable : portUsable p k = true) (hNext : nextFrame (p.eth.get (ethSide k)) (k % 3) = some f)
include hk hUsable hNext

/-- A frame of the device that leaves no timestamp, or a forwarded one to which nothing is added. -/
theorem ethTransmit_plain (hWhat : f.what = .device ∨ f.what = .forwarded) (hAdd : residence p k f (egressPs p k stamp) = none) :
    ethTransmit k stamp p = frameSent k f f.bytes p := by
  obtain hWhat | hWhat := hWhat <;>
  · simp only [ethTransmit, hk, hUsable, hNext, hWhat, hAdd, decide_true, Bool.and_self, if_true, Option.isSome_none, Bool.and_false, onlyIf_false]
    rfl

/-- A forwarded frame to whose correctionField something is added. -/
theorem ethTransmit_corrected (add : Int) (hWhat : f.what = .forwarded) (hAdd : residence p k f (egressPs p k stamp) = some add) :
    ethTransmit k stamp p = incI (ethSide k).port PTP_PORT.TC_CORRECTED (k % 3) (frameSent k f (correctFrame f.bytes add) p) := by
  simp only [ethTransmit, hk, hUsable, hNext, hWhat, hAdd, decide_true, Bool.and_self, if_true, Option.isSome_some, beq_self_eq_true, onlyIf_true]
  rfl

/-- An event message of the ordinary clock. -/
theorem ethTransmit_ocEvent (kind seq : Nat) (hWhat : f.what = .ocEvent kind seq) :
    ethTransmit k stamp p = txqPush k kind seq (egressPs p k stamp / 1000) (frameSent k f f.bytes p) := by
  have hAdd : residence p k f (egressPs p k stamp) = none := by simp [residence, hWhat]
  simp only [ethTransmit, hk, hUsable, hNext, hWhat, hAdd, decide_true, Bool.and_self, if_true, Option.isSome_none, Bool.and_false, onlyIf_false]
  rfl

end

/-- In E2E a forwarded event message leaves with its residence time in its correctionField, and is counted. -/
theorem ethTransmit_e2e (hk : k < 6) (hUsable : portUsable p k = true) (hNext : nextFrame (p.eth.get (ethSide k)) (k % 3) = some f)
    (hWhat : f.what = .forwarded) (hMode : rd p (ethSide k).port PTP_CFG.TC_MODE = 1) (hEvent : ptpEvent f.bytes = true) (hTag : f.tag = none)
    (hLast : (p.eth.get (ethSide k)).last.length = 3) :
    let q := ethTransmit k stamp p
    OnlyPort (ethSide k) p q ∧
      rdI q (ethSide k).port PTP_PORT.TC_CORRECTED (k % 3) = (rdI p (ethSide k).port PTP_PORT.TC_CORRECTED (k % 3) + 1) % 2 ^ 32 ∧
      (q.eth.get (ethSide k)).last.getD (k % 3) [] = correctFrame f.bytes (psToScaled (egressPs p k stamp - f.at')) := by
  intro q
  have hSent := ethTransmit_corrected k stamp f p hk hUsable hNext _ hWhat (residence_e2e k f p _ hWhat hMode hEvent)
  rw [show q = _ from hSent]
  generalize correctFrame f.bytes (psToScaled (egressPs p k stamp - f.at')) = body
  refine ⟨?frame, ?count, ?wire⟩
  case frame => exact (frameSent_onlyPort k f p body).trans (DieKeeps.onlyPort (K := []) (.write (by decide) .refl))
  case count =>
    rw [← rdI_frameSent k f p body _ PTP_PORT.TC_CORRECTED _ (by decide)]
    exact rdI_wrI_self _ _ _ _ _ (Nat.mod_lt k (by decide))
  case wire =>
    have hWire := frameSent_last k f p body hLast
    rwa [hTag] at hWire

end

section
/-! R349: the queue of transmit timestamps. -/

section
variable (k : Nat) (p : Pkg)

/-- The timestamps that wait for a port's key read, oldest first. -/
def txqOf (p : Pkg) (k : Nat) : List (Nat × Nat × Nat × Int) := (p.eth.get (ethSide k)).txq.filter (fun e => e.1 == k)

/-- A timestamp has been put at the end of its port's queue. -/
def timestampPut (k kind seq : Nat) (ts : Int) (p : Pkg) : Pkg :=
  onEth (ethSide k) (fun e => { e with txq := e.txq ++ [(k, seq, kind, ts)] }) p

/-- A timestamp has found its port's queue full. -/
def timestampDropped (k : Nat) (p : Pkg) : Pkg := p |> inc (ethSide k).port PTP_TXQ_OVF.COUNT |> raise (ethSide k).port clsWarning PTP_EVENT.TXQ_OVF

/-- The fields in which the timestamp queue of a port is shown. -/
def txqFlds : List Fld := [PTP_PORT.TXQ_DEPTH, PTP_TXQ.SEQ_ID, PTP_TXQ.MSG_TYPE, PTP_TXQ.PORT, PTP_TXQ.VALID]

theorem txqShow_keeps {K : List Nat} (hK : ∀ G ∈ txqFlds, G.id ∉ K) : DieKeeps (ethSide k).port K p (txqShow k p) := by
  simp only [txqFlds, List.forall_mem_cons] at hK
  obtain ⟨hDepth, hSeq, hType, hPort, hValid, -⟩ := hK
  unfold txqShow
  extract_lets y d j l counted
  have hCounted : DieKeeps d K p counted := .write ⟨by decide, hDepth⟩ .refl
  clear_value l
  cases l with
  | nil => exact .write ⟨by decide, hValid⟩ hCounted
  | cons x r =>
    exact .write ⟨by decide, hValid⟩ <| .write ⟨by decide, hPort⟩ <| .write ⟨by decide, hType⟩ <| .write ⟨by decide, hSeq⟩ hCounted

/-- A queue that holds some timestamp shows that it does, and how many. -/
theorem txqShow_shows (h : txqOf p k ≠ []) : rdI (txqShow k p) (ethSide k).port PTP_TXQ.VALID (k % 3) = 1 ∧
    rdI (txqShow k p) (ethSide k).port PTP_PORT.TXQ_DEPTH (k % 3) = (txqOf p k).length % 2 ^ 5 := by
  have hj : k % 3 < 3 := Nat.mod_lt k (by decide)
  unfold txqShow
  extract_lets y d j l counted
  have hCounted : rdI counted d PTP_PORT.TXQ_DEPTH j = l.length % 2 ^ 5 := rdI_wrI_self _ _ _ _ _ hj
  rw [show txqOf p k = l from rfl] at h ⊢
  clear_value counted l
  cases l with
  | nil => exact absurd rfl h
  | cons x r =>
    refine ⟨rdI_wrI_self _ _ _ _ _ hj, Eq.trans ?_ hCounted⟩
    have hKept : DieKeeps d [PTP_PORT.TXQ_DEPTH.id] counted
        (wrI d PTP_TXQ.VALID j 1 (wrI d PTP_TXQ.PORT j k (wrI d PTP_TXQ.MSG_TYPE j x.2.2.1 (wrI d PTP_TXQ.SEQ_ID j x.2.1 counted)))) :=
      .write (by decide) <| .write (by decide) <| .write (by decide) <| .write (by decide) .refl
    exact hKept.reads (by decide)

theorem txqOf_timestampPut (kind seq : Nat) (ts : Int) : txqOf (timestampPut k kind seq ts p) k = txqOf p k ++ [(k, seq, kind, ts)] := by
  simp [txqOf, timestampPut]

theorem timestampDropped_keeps : DieKeeps (ethSide k).port [] p (timestampDropped k p) :=
  .event (cls := clsWarning) (F := PTP_EVENT.TXQ_OVF) (by decide) (.write (F := PTP_TXQ_OVF.COUNT) (by decide) .refl)

theorem txqPush_room (kind seq : Nat) (ts : Int) (h : (txqOf p k).length < 16) :
    txqPush k kind seq ts p = txqShow k (timestampPut k kind seq ts p) := if_neg (Nat.not_le.mpr h)

theorem txqPush_full (kind seq : Nat) (ts : Int) (h : ¬(txqOf p k).length < 16) : txqPush k kind seq ts p = timestampDropped k p :=
  if_pos (Nat.not_lt.mp h)

theorem txqPush_onlyPort (kind seq : Nat) (ts : Int) : OnlyPort (ethSide k) p (txqPush k kind seq ts p) := by
  by_cases h : (txqOf p k).length < 16
  · rw [txqPush_room k p kind seq ts h]
    exact (OnlyPort.onEth _ _ p).trans (txqShow_keeps (K := []) k _ (by simp)).onlyPort
  · rw [txqPush_full k p kind seq ts h]
    exact (timestampDropped_keeps k p).onlyPort

/-- A timestamp is put at the end of its queue and shown, or, the queue being full, raises its overflow; no frame's queue changes. -/
theorem txqPush_pushes (kind seq : Nat) (ts : Int) :
    let q := txqPush k kind seq ts p
    (q.eth.get (ethSide k)).queues = (p.eth.get (ethSide k)).queues ∧
      if (txqOf p k).length < 16 then
        (q.eth.get (ethSide k)).txq = (p.eth.get (ethSide k)).txq ++ [(k, seq, kind, ts)] ∧ rdI q (ethSide k).port PTP_TXQ.VALID (k % 3) = 1 ∧
          rdI q (ethSide k).port PTP_PORT.TXQ_DEPTH (k % 3) = (txqOf p k).length + 1
      else (q.eth.get (ethSide k)).txq = (p.eth.get (ethSide k)).txq ∧ rd q (ethSide k).port PTP_EVENT.TXQ_OVF = 1 := by
  intro q
  by_cases h : (txqOf p k).length < 16
  · have hPut := txqOf_timestampPut k p kind seq ts
    obtain ⟨hValid, hDepth⟩ := txqShow_shows k (timestampPut k kind seq ts p) (by simp [hPut])
    rw [if_pos h, show q = _ from txqPush_room k p kind seq ts h, (txqShow_keeps (K := []) k _ (by simp)).eth_eq, timestampPut, onEth_get_self]
    refine ⟨rfl, rfl, hValid, hDepth.trans ?_⟩
    rw [hPut, List.length_append]
    exact Nat.mod_eq_of_lt (show (txqOf p k).length + 1 < 32 by omega)
  · rw [if_neg h, show q = _ from txqPush_full k p kind seq ts h, (timestampDropped_keeps k p).eth_eq]
    exact ⟨rfl, rfl, rdI_raise_self _ _ clsWarning PTP_EVENT.TXQ_OVF _ (by decide)⟩

end

/-! The read of the queue's key. -/

/-- An entry has been taken out of its port's queue, with its timestamp latched and the next entry shown. -/
def keyTaken (k : Nat) (e : Nat × Nat × Nat × Int) (p : Pkg) : Pkg :=
  p |> onEth (ethSide k) (fun h => { h with txq := h.txq.erase e }) |> wrSI (ethSide k).port PTP_TXQ.TS (k % 3) e.2.2.2 |> txqShow k

/-- A Delay_Req that waits for the egress time of an entry has it. -/
def delayTimed (e : Nat × Nat × Nat × Int) (p : Pkg) : Pkg :=
  match p.oc.delay with
  | some (seq, _) => if seq = e.2.1 then { p with oc := { p.oc with delay := some (seq, some (e.2.2.2 * 65536)) } } else p
  | none => p

theorem exists_delayTimed_eq (e : Nat × Nat × Nat × Int) (p : Pkg) : ∃ o, delayTimed e p = { p with oc := o } := by
  unfold delayTimed
  split
  · split
    · exact ⟨_, rfl⟩
    · exact ⟨p.oc, rfl⟩
  · exact ⟨p.oc, rfl⟩

theorem delayTimed_waiting (e : Nat × Nat × Nat × Int) (p : Pkg) (h : p.oc.delay = some (e.2.1, none)) :
    (delayTimed e p).oc.delay = some (e.2.1, some (e.2.2.2 * 65536)) := by simp [delayTimed, h]

variable (k : Nat) (e : Nat × Nat × Nat × Int) (p : Pkg)

theorem keyTaken_keeps :
    DieKeeps (ethSide k).port [] (onEth (ethSide k) (fun h => { h with txq := h.txq.erase e }) p) (keyTaken k e p) :=
  .trans (.write (by decide) .refl) (txqShow_keeps k _ (by decide))

theorem keyTaken_stamp (h : 0 ≤ e.2.2.2 ∧ e.2.2.2 < 9223372036854775808) :
    rdSI (keyTaken k e p) (ethSide k).port PTP_TXQ.TS (k % 3) = e.2.2.2 := by
  have hj : k % 3 < PTP_TXQ.TS.count := Nat.mod_lt k (by decide)
  rw [rdSI, keyTaken, (txqShow_keeps (K := [PTP_TXQ.TS.id]) k _ (by decide)).reads (by decide), wrSI, rdI_wrI_self _ _ _ _ _ hj]
  exact toSigned_ofSigned_of_nonneg _ h

theorem txqKeyRead_not (host : Bool) (h : host = true ∨ (p.eth.get (ethSide k)).txq.find? (fun x => x.1 == k) = none ∨ running p .sw = false) :
    txqKeyRead k host p = p := by
  cases hFirst : (p.eth.get (ethSide k)).txq.find? (fun x => x.1 == k) with
  | none => simp only [txqKeyRead, hFirst]
  | some e =>
    rw [hFirst] at h
    obtain h | h | h := h
    · simp [txqKeyRead, hFirst, h]
    · cases h
    · simp [txqKeyRead, hFirst, h]

section
variable (hk : k < 6) (hPort : running p (ethSide k).port = true) (hSteward : running p .sw = true)
  (hFirst : (p.eth.get (ethSide k)).txq.find? (fun x => x.1 == k) = some e)
include hk hPort hSteward hFirst

/-- The timestamp of a Sync goes into its Follow_Up, when the clock is still MASTER. -/
theorem txqKeyRead_sync (hSync : e.2.2.1 = 0) : txqKeyRead k false p =
    onlyIf (ocOn (keyTaken k e p) && ocState (keyTaken k e p) == 6) (ocSend 8 e.2.1 e.2.2.2 []) (keyTaken k e p) := by
  simp only [txqKeyRead, hFirst, hk, hPort, hSteward, hSync, decide_true, Bool.not_true, Bool.or_self, Bool.false_eq_true, if_false, if_true]
  rfl

theorem txqKeyRead_request (hRequest : e.2.2.1 ≠ 0) : txqKeyRead k false p = delayTimed e (keyTaken k e p) := by
  simp only [txqKeyRead, hFirst, hk, hPort, hSteward, hRequest, decide_true, Bool.not_true, Bool.or_self, Bool.false_eq_true, if_false]
  rfl

/-- The read takes the entry and latches its stamp, which the message that may follow leaves. -/
theorem txqKeyRead_takes (hStamp : 0 ≤ e.2.2.2 ∧ e.2.2.2 < 9223372036854775808) :
    ((txqKeyRead k false p).eth.get (ethSide k)).txq = (p.eth.get (ethSide k)).txq.erase e ∧
      rdSI (txqKeyRead k false p) (ethSide k).port PTP_TXQ.TS (k % 3) = e.2.2.2 := by
  have hTaken : ((keyTaken k e p).eth.get (ethSide k)).txq = (p.eth.get (ethSide k)).txq.erase e := by
    rw [(keyTaken_keeps k e p).eth_eq, onEth_get_self]
  have hLatched := keyTaken_stamp k e p hStamp
  by_cases hKind : e.2.2.1 = 0
  · rw [txqKeyRead_sync k e p hk hPort hSteward hFirst hKind]
    generalize keyTaken k e p = r at hTaken hLatched
    cases ocOn r && ocState r == 6 with
    | false => exact ⟨hTaken, hLatched⟩
    | true =>
      obtain ⟨q, l, hKept, hSent⟩ := exists_ocSend_eq (K := [PTP_TXQ.TS.id]) 8 e.2.1 e.2.2.2 [] r (by decide)
      rw [onlyIf_true, hSent]
      refine ⟨?_, ?_⟩
      · rw [onEth_withQueues_txq, hKept.eth_eq, hTaken]
      · rw [rdSI, rdI_onEth, hKept.reads_everywhere _ (by decide)]
        exact hLatched
  · obtain ⟨o, hTimed⟩ := exists_delayTimed_eq e (keyTaken k e p)
    rw [txqKeyRead_request k e p hk hPort hSteward hFirst hKind, hTimed]
    exact ⟨hTaken, hLatched⟩

/-- The clock goes on with the egress time of its Delay_Req. -/
theorem txqKeyRead_delay (hRequest : e.2.2.1 ≠ 0) (hWaits : p.oc.delay = some (e.2.1, none)) :
    (txqKeyRead k false p).oc.delay = some (e.2.1, some (e.2.2.2 * 65536)) := by
  rw [txqKeyRead_request k e p hk hPort hSteward hFirst hRequest]
  exact delayTimed_waiting e _ ((congrArg Oc.delay (keyTaken_keeps k e p).oc_eq).trans hWaits)

end

end

section
/-! R344: the Pdelay requests of a port. -/

/-- A Pdelay exchange that begins: an exchange before it that still waits has failed. -/
def Pdelay.asking (x : Pdelay) : Pdelay :=
  { x with
    seq := trunc 16 (x.seq + 1), waiting := true, t1 := Option.none, resp := Option.none
    fails := if x.waiting then min 3 (x.fails + 1) else x.fails }

/-- The period of a port's Pdelay requests. -/
def pdelayEvery (p : Pkg) (d : Die) : Nat := logNs (rdS p d PTP_OC_INTERVALS.LOG_PDELAY)

/-- The next request is due a period from now, and the third exchange in a row without an answer is an event. -/
def pdelayNoted (k : Nat) (p : Pkg) : Pkg :=
  p |> periodNext (ethSide k).port I_ETH.PDELAY_DUE (k % 3) (pdelayEvery p (ethSide k).port)
    |> onlyIf ((pdelayOf p k).waiting && (pdelayOf p k).fails == 2) (raise (ethSide k).port clsWarning PTP_EVENT.PDELAY_FAIL)

variable (k : Nat) (p : Pkg)

theorem pdelayNoted_keeps : DieKeeps (ethSide k).port [] p (pdelayNoted k p) :=
  .onlyIf (.write (by decide) .refl) (.event (by decide) .refl)

theorem pdelayNoted_third (h : (pdelayOf p k).waiting = true ∧ (pdelayOf p k).fails = 2) :
    rdI (pdelayNoted k p) (ethSide k).port PTP_EVENT.PDELAY_FAIL 0 = 1 := by
  obtain ⟨hWaits, hTwo⟩ := h
  rw [pdelayNoted, hWaits, hTwo]
  exact rdI_raise_self _ _ clsWarning PTP_EVENT.PDELAY_FAIL _ (by decide)

theorem setPdelay_onlyPort (x : Pdelay) : OnlyPort (ethSide k) p (setPdelay k x p) := .onEth _ _ p

theorem pdelayOf_setPdelay (x : Pdelay) (h : (p.eth.get (ethSide k)).pdelay.length = 3) : pdelayOf (setPdelay k x p) k = x := by
  have hj : k % 3 < (p.eth.get (ethSide k)).pdelay.length := by omega
  rw [pdelayOf, setPdelay, onEth_get_self, List.getD_eq_getElem?_getD, List.getElem?_set_self hj]
  rfl

theorem pdelayOf_congr {q : Pkg} (h : q.eth = p.eth) : pdelayOf q k = pdelayOf p k := by rw [pdelayOf, pdelayOf, h]

theorem pdelayOf_withQueues (l : List TxFrame) : pdelayOf (onEth (ethSide k) (Eth.withQueues l) p) k = pdelayOf p k := by
  rw [pdelayOf, onEth_get_self]
  rfl

/-- A timer that is due notes the exchange that has failed, begins a new one and queues its request. -/
theorem exists_pdelayTimer_eq (hk : k < 6) (hUsable : portUsable p k = true) (hMode : rd p (ethSide k).port PTP_CFG.TC_MODE = 2)
    (hDue : periodDue p (ethSide k).port I_ETH.PDELAY_DUE (k % 3) (pdelayEvery p (ethSide k).port) = true) :
    ∃ q l, DieKeeps (ethSide k).port [PTP_EVENT.PDELAY_FAIL.id] (setPdelay k (pdelayOf p k).asking (pdelayNoted k p)) q ∧
      pdelayTimer k p = onEth (ethSide k) (Eth.withQueues l) q := by
  rw [pdelayEvery] at hDue
  rw [rd_eq] at hMode
  rw [pdelayTimer, if_neg (by simp [hk, hUsable, hMode, hDue])]
  exact exists_sendOwn_eq k _ _ _ _ _ (by decide)

theorem pdelayTimer_idle (h : portUsable p k = false ∨ rd p (ethSide k).port PTP_CFG.TC_MODE ≠ 2 ∨
    periodDue p (ethSide k).port I_ETH.PDELAY_DUE (k % 3) (pdelayEvery p (ethSide k).port) = false) : pdelayTimer k p = p := by
  rw [pdelayEvery, rd_eq] at h
  obtain h | h | h := h <;> exact if_pos (by simp [h])

theorem pdelayTimer_acts (hk : k < 6) (hUsable : portUsable p k = true) (hMode : rd p (ethSide k).port PTP_CFG.TC_MODE = 2)
    (hDue : periodDue p (ethSide k).port I_ETH.PDELAY_DUE (k % 3) (pdelayEvery p (ethSide k).port) = true)
    (hLength : (p.eth.get (ethSide k)).pdelay.length = 3) :
    OnlyPort (ethSide k) p (pdelayTimer k p) ∧ pdelayOf (pdelayTimer k p) k = (pdelayOf p k).asking ∧
      ((pdelayOf p k).waiting = true ∧ (pdelayOf p k).fails = 2 → rd (pdelayTimer k p) (ethSide k).port PTP_EVENT.PDELAY_FAIL = 1) := by
  have hNoted := pdelayNoted_keeps k p
  obtain ⟨q, l, hKept, hTimer⟩ := exists_pdelayTimer_eq k p hk hUsable hMode hDue
  rw [hTimer]
  refine ⟨?frame, ?exchange, fun hThird => ?event⟩
  case frame => exact ((hNoted.onlyPort.trans (setPdelay_onlyPort k _ _)).trans hKept.onlyPort).trans (.onEth _ _ q)
  case exchange =>
    rw [pdelayOf_withQueues, pdelayOf_congr k _ hKept.eth_eq]
    exact pdelayOf_setPdelay k _ _ (by rwa [hNoted.eth_eq])
  case event =>
    rw [rd_eq, rdI_onEth, hKept.reads (by decide)]
    exact pdelayNoted_third k p hThird

end

/-- Settles O49: a frame leaves as `frameSent` says, with what `residence` adds to it (`correctFrame_raises`); the timestamp queue takes an entry
by `txqPush_pushes`, in whole nanoseconds rounded down (entry 178 of the model's log), and gives one by `txqKeyRead_takes`; a Pdelay exchange
begins by `pdelayTimer_acts`. -/
theorem framesLeaveWithTheirResidenceTime : Obligations.FramesLeaveWithTheirResidenceTime := by
  unfold Obligations.FramesLeaveWithTheirResidenceTime
  refine ⟨?idle, ?plain, ?corrected, ?event, ?request, ?early, ?taken, ?kept⟩
  case idle => exact fun k stamp s _ h => .of_nextPk (f := ethTransmit k stamp) rfl (ethTransmit_idle k stamp s.pk h)
  case plain =>
    intro k stamp f s hk hUsable hNext hWhat hLast
    have hSent := ethTransmit_plain k stamp f s.pk hk hUsable hNext (hWhat.imp_right And.left) (residence_eq_none k f s.pk _ hWhat)
    refine .of_nextPk (f := ethTransmit k stamp) rfl ?_ ⟨?_, ?_, ?_, ?_⟩ <;> rw [hSent]
    · exact frameSent_onlyPort k f s.pk f.bytes
    · exact FieldsKept.wrI _ ETH_CNT.TX_FRAMES _ _ _ (by decide)
    · exact rdI_wrI_self _ _ _ _ _ (Nat.mod_lt k (by decide))
    · rw [frameSent_get]
    · exact frameSent_last k f s.pk f.bytes hLast
  case corrected =>
    intro k stamp f s hk hUsable hNext hWhat hPtp hType hTag hLast
    obtain ⟨hForwarded, hMode⟩ := hWhat
    obtain ⟨hAt, hEvent⟩ := hPtp
    obtain ⟨hFrame, hCount, hWire⟩ := ethTransmit_e2e k stamp f s.pk hk hUsable hNext hForwarded hMode hEvent hTag hLast
    refine .of_nextPk (f := ethTransmit k stamp) rfl hFrame ⟨hCount, ?_⟩
    rw [hWire]
    exact correctFrame_raises f.bytes _ hAt hEvent hType
  case event =>
    intro k stamp kind seq f s hk hUsable hNext hWhat
    have hSent := ethTransmit_ocEvent k stamp f s.pk hk hUsable hNext kind seq hWhat
    refine .of_nextPk (f := ethTransmit k stamp) rfl ?_ ?_ <;> rw [hSent]
    · exact (frameSent_onlyPort k f s.pk f.bytes).trans (txqPush_onlyPort k _ kind seq _)
    · simpa only [txqOf, frameSent_get] using txqPush_pushes k (frameSent k f f.bytes s.pk) kind seq (egressPs s.pk k stamp / 1000)
  case request =>
    intro k s hk _ hUsable hMode hDue hLength
    obtain ⟨hFrame, hExchange, hThird⟩ := pdelayTimer_acts k s.pk hk hUsable hMode hDue hLength
    exact .of_nextPk (f := pdelayTimer k) rfl hFrame (hExchange ▸ ⟨rfl, rfl, rfl, rfl, hThird⟩)
  case early => exact fun k s _ h => .of_nextPk (f := pdelayTimer k) rfl (pdelayTimer_idle k s.pk h)
  case taken =>
    intro k e s hk hPort hSteward hFirst hStamp
    obtain ⟨hTaken, hLatched⟩ := txqKeyRead_takes k e s.pk hk hPort hSteward hFirst hStamp
    refine .of_nextPk (f := txqKeyRead k false) rfl ⟨rfl, hTaken, hLatched, fun ⟨hRequest, hWaits⟩ => ?_⟩
    exact txqKeyRead_delay k e s.pk hk hPort hSteward hFirst hRequest hWaits
  case kept => exact fun k host s h => .of_nextPk (f := txqKeyRead k host) rfl (txqKeyRead_not k s.pk host h)

end Sys2Proof.Machine
end

section
/-! R355 to R359: what the operations on the spine and on the state of device time write, and what they leave. -/

namespace Sys2Proof.Machine

variable (p : Pkg)

/-- A field that is none of those written reads as before at every die. -/
theorem OnlyFields.reads {d e : Die} {l : List Fld} {p q : Pkg} {G : Fld} {j : Nat} (h : OnlyFields (l.map (d, ·)) p q)
    (hG : G.count ≤ 65536 ∧ ∀ F ∈ l, F.id ≠ G.id) : rdI q e G j = rdI p e G j := by
  refine h.2 e G j hG.1 ?_
  simp only [List.mem_map, forall_exists_index, and_imp, forall_apply_eq_imp_iff₂]
  exact fun F hF hFG => hG.2 F hF hFG.2

theorem ofSigned_toSigned (w v : Nat) : ofSigned w (toSigned w v) = v % 2 ^ w := by
  have h := ofSigned_toSigned_add w v 0
  rw [Int.add_zero, Int.add_zero] at h
  exact_mod_cast h

theorem flag_of_one {p : Pkg} {d : Die} {F : Fld} (h : rd p d F = 1) : flag p d F = true := by
  rw [flag_eq, ← rd_eq, h]
  rfl

theorem flag_of_zero {p : Pkg} {d : Die} {F : Fld} (h : rd p d F = 0) : flag p d F = false := by
  rw [flag_eq, ← rd_eq, h]
  rfl

theorem b2n_lt (b : Bool) : b2n b < 2 := by cases b <;> decide

theorem rdI_logOpen (d e : Die) (cls blk k : Nat) (pl : Payload) (G : Fld) (j : Nat) (hCode : cls < 16 ∧ blk < 64 ∧ cls ≠ clsNme)
    (hG : G.count ≤ 65536 ∧ I_DIE.SEQ.id ≠ G.id) : rdI (logOpen d cls blk k pl p) e G j = rdI p e G j :=
  (logOpen_frame p d cls blk k pl hCode).2 e G j hG.1 (by simp [logFields, hG.2])

/-! The state of device time at a die (R348, R355, R374). -/

/-- What a die writes as it takes the state of device time: the state, the LOCK_OUT pins, the announced clockClass. -/
def stateFlds : List Fld := [TIM_STATUS.STATE, I_TP.LEVEL, PTP_OC_STATUS.CLOCK_CLASS]

theorem lockOutPins_fields (y : Side) : OnlyFields [(y.port, I_TP.LEVEL)] p (lockOutPins y p) :=
  .forAll _ p fun k q => .wrI y.port I_TP.LEVEL k _ q (by decide)

/-- Behind the state itself only the pins and the clockClass of a port die follow. -/
theorem takeState_follows (d : Die) (v : Nat) :
    OnlyFields [(d, I_TP.LEVEL), (d, PTP_OC_STATUS.CLOCK_CLASS)] (wr d TIM_STATUS.STATE v p) (takeState d v p) := by
  have hPort (y : Side) (q : Pkg) : OnlyFields [(y.port, I_TP.LEVEL), (y.port, PTP_OC_STATUS.CLOCK_CLASS)] q
      (wr y.port PTP_OC_STATUS.CLOCK_CLASS (clockClass q v) (lockOutPins y q)) :=
    (lockOutPins_fields q y).trans (.wrI _ _ _ _ _ (by decide))
  unfold takeState
  split
  next h => exact h ▸ hPort .a _
  next =>
    split
    next h => exact h ▸ hPort .b _
    next => exact .refl _ _

theorem takeState_fields (d : Die) (v : Nat) : OnlyFields (stateFlds.map (d, ·)) p (takeState d v p) :=
  OnlyFields.trans (.wrI d TIM_STATUS.STATE 0 v p (by decide)) (takeState_follows p d v)

theorem takeState_state (d : Die) (v : Nat) : rdI (takeState d v p) d TIM_STATUS.STATE 0 = v % 8 := by
  have hFollows := (takeState_follows p d v).2 d TIM_STATUS.STATE 0 (by decide) (by simp [TIM_STATUS.STATE, I_TP.LEVEL, PTP_OC_STATUS.CLOCK_CLASS])
  rw [hFollows, wr_eq, rdI_wrI_self _ _ _ _ _ (by decide)]
  rfl

theorem takeState_keeps {K : List Nat} (d : Die) (v : Nat) (hK : ∀ F ∈ stateFlds, F.id ∉ K) : DieKeeps d K p (takeState d v p) :=
  .of_onlyFieldsAndLog ((takeState_fields p d v).andLog d) hK

theorem rdI_takeState (d e : Die) (v : Nat) (G : Fld) (j : Nat) (hG : G.count ≤ 65536 ∧ ∀ F ∈ stateFlds, F.id ≠ G.id) :
    rdI (takeState d v p) e G j = rdI p e G j := (takeState_fields p d v).reads hG

/-! A mark that does not come (R358). -/

/-- What a die writes at a mark that is missing, besides the event. -/
def markMissed (d : Die) (p : Pkg) : Pkg :=
  p |> wr d TIM_STATUS.SPINE_LOST 1 |> wr d TIM_STATUS.SPINE_LOCKED 0 |> wr d I_TIM.GOOD_RUN 0 |> incSat d I_TIM.MISSED

/-- At the first missing mark the event is raised, at the next ones it is not. -/
theorem spineMissing_eq (d : Die) (hRun : running p d = true) (hSlave : d ≠ masterDie p) : spineMissing d p =
    markMissed d (if rd p d TIM_STATUS.SPINE_LOST = 0 then raise d clsWarning TIM_EVENT.SPINE_LOST p else p) := by
  by_cases hLost : rdI p d TIM_STATUS.SPINE_LOST 0 = 0 <;> simp [spineMissing, markMissed, onlyIf, hRun, hSlave, hLost]

theorem markMissed_fields (d : Die) : OnlyFields
    [(d, TIM_STATUS.SPINE_LOST), (d, TIM_STATUS.SPINE_LOCKED), (d, I_TIM.GOOD_RUN), (d, I_TIM.MISSED)] p (markMissed d p) :=
  .write (by decide) (by simp) <| .write (by decide) (by simp) <| .write (by decide) (by simp) <| .write (by decide) (by simp) (.refl _ p)

theorem markMissed_marks (d : Die) : rdI (markMissed d p) d TIM_STATUS.SPINE_LOST 0 = 1 ∧
    rdI (markMissed d p) d I_TIM.MISSED 0 = min (rdI p d I_TIM.MISSED 0 + 1) (2 ^ I_TIM.MISSED.w - 1) := by
  have hRange : min (rdI p d I_TIM.MISSED 0 + 1) (2 ^ I_TIM.MISSED.w - 1) < 2 ^ I_TIM.MISSED.w := by
    simp only [I_TIM.MISSED]
    omega
  simp (disch := decide) only [markMissed, incSat, addSatI, wr_eq, rdI_wrI_field, rdI_wrI_self, Nat.mod_eq_of_lt hRange]
  exact ⟨rfl, trivial⟩

/-- The fields of a mark that is missing. -/
def missingFlds : List Fld :=
  [TIM_STATUS.SPINE_LOST, TIM_STATUS.SPINE_LOCKED, I_TIM.GOOD_RUN, I_TIM.MISSED, TIM_EVENT.SPINE_LOST, I_DIE.SEQ]

theorem spineMissing_frame (d : Die) (hRun : running p d = true) (hSlave : d ≠ masterDie p) :
    OnlyFieldsAndLog d (missingFlds.map (d, ·)) p (spineMissing d p) := by
  rw [spineMissing_eq p d hRun hSlave]
  split
  · refine OnlyFieldsAndLog.mono ((raiseWith_frame d clsWarning TIM_EVENT.SPINE_LOST .unstated p (by decide) (by decide)).trans
      ((markMissed_fields _ d).andLog d)) (by simp [logFields, missingFlds])
  · exact ((markMissed_fields p d).andLog d).mono (by simp [missingFlds])

theorem spineMissing_marks (d : Die) (hRun : running p d = true) (hSlave : d ≠ masterDie p) :
    rdI (spineMissing d p) d TIM_STATUS.SPINE_LOST 0 = 1 ∧
      rdI (spineMissing d p) d I_TIM.MISSED 0 = min (rdI p d I_TIM.MISSED 0 + 1) (2 ^ I_TIM.MISSED.w - 1) := by
  have hCount : rdI (if rd p d TIM_STATUS.SPINE_LOST = 0 then raise d clsWarning TIM_EVENT.SPINE_LOST p else p) d I_TIM.MISSED 0 =
      rdI p d I_TIM.MISSED 0 := by
    split
    · exact rdI_raise_field _ _ _ _ _ _ _ _ (by decide) (by decide) (by decide) (by decide) (by decide)
    · rfl
  rw [spineMissing_eq p d hRun hSlave, ← hCount]
  exact markMissed_marks _ d

/-- The event is raised, and logged, only while SPINE_LOST does not stand. -/
theorem spineMissing_event (d : Die) (hRun : running p d = true) (hSlave : d ≠ masterDie p) :
    (rd p d TIM_STATUS.SPINE_LOST = 0 → rdI (spineMissing d p) d TIM_EVENT.SPINE_LOST 0 = 1) ∧
      (rd p d TIM_STATUS.SPINE_LOST ≠ 0 → (spineMissing d p).log = p.log) := by
  rw [spineMissing_eq p d hRun hSlave]
  refine ⟨fun hFirst => ?_, fun hAgain => ?_⟩
  · rw [if_pos hFirst]
    simp (disch := decide) only [markMissed, incSat, addSatI, wr_eq, rdI_wrI_field]
    exact rdI_raise_self _ _ _ _ _ (by decide)
  · rw [if_neg hAgain]
    rfl

/-! A mark (R355 to R357). -/

/-- What every mark gives a die: the loss has ended, the state and the master of the spine, the error measured. -/
def markTaken (d : Die) (e16 : Int) (p : Pkg) : Pkg :=
  p |> wr d TIM_STATUS.SPINE_LOST 0 |> wr d I_TIM.MISSED 0 |> takeState d (timeState p) |> wr d TIM_STATUS.MASTER_DIE (masterDie p).num
    |> wrSI d TIM_SPINE.ERR 0 (clampInt e16 (-32768) 32767)

/-- The alignment of a die to the master `m`. -/
def alignTo (m d : Die) (p : Pkg) : Pkg :=
  p |> setNow d (now p m) |> wr d TIM_STATUS.STEP_EPOCH (rd p m TIM_STATUS.STEP_EPOCH) |> wr d I_TIM.ALIGN_DUE 0 |> wr d I_TIM.FRESH 0
    |> incSat d TIM_SPINE.ALIGNS |> logOpen d clsInfo 0x03 8 .unstated

/-- The run of good marks after one of error `e16`. -/
def goodRun (d : Die) (e16 : Int) (p : Pkg) : Nat := if e16.natAbs ≤ 64 then min 16 (rd p d I_TIM.GOOD_RUN + 1) else 0

/-- The judgement of a mark (R357): a locked die stays so up to 8 ns, another locks with the 16th good mark in a row. -/
def markLocks (d : Die) (e16 : Int) (p : Pkg) : Bool :=
  if flag p d TIM_STATUS.SPINE_LOCKED then decide (e16.natAbs ≤ 128) else decide (16 ≤ goodRun d e16 p)

/-- The die notes the judgement and the greatest error since it locked. -/
def markJudged (d : Die) (e16 : Int) (p : Pkg) : Pkg :=
  p |> wr d I_TIM.GOOD_RUN (goodRun d e16 p) |> wr d TIM_STATUS.SPINE_LOCKED (b2n (markLocks d e16 p))
    |> wr d TIM_SPINE.MAX_ERR (if markLocks d e16 p && !(flag p d TIM_STATUS.SPINE_LOCKED) then min 255 ((e16.natAbs + 15) / 16)
      else max (rd p d TIM_SPINE.MAX_ERR) (min 255 ((e16.natAbs + 15) / 16)))

/-- The trim of a die that needs no alignment; a fresh one takes the step epoch of the master `m`. -/
def trimmed (m d : Die) (e16 : Int) (p : Pkg) : Pkg :=
  p |> onlyIf (flag p d I_TIM.FRESH) (wr d TIM_STATUS.STEP_EPOCH (rd p m TIM_STATUS.STEP_EPOCH)) |> wr d I_TIM.FRESH 0 |> trimIncr d e16

/-- The fields of `trimmed`. -/
def trimFlds : List Fld := [TIM_STATUS.STEP_EPOCH, I_TIM.FRESH, TIM_INCR.INCR]

/-- The fields of `markJudged`. -/
def judgedFlds : List Fld := [I_TIM.GOOD_RUN, TIM_STATUS.SPINE_LOCKED, TIM_SPINE.MAX_ERR]

/-- The fields in which a mark has given a die what every mark gives. -/
def takenMarks : List Nat := [TIM_STATUS.SPINE_LOST.id, I_TIM.MISSED.id, TIM_STATUS.STATE.id, TIM_STATUS.MASTER_DIE.id]

/-- The fields of `markTaken`. -/
def takenFlds : List Fld :=
  [TIM_STATUS.SPINE_LOST, I_TIM.MISSED, TIM_STATUS.STATE, TIM_STATUS.MASTER_DIE, TIM_SPINE.ERR, I_TP.LEVEL, PTP_OC_STATUS.CLOCK_CLASS]

section
variable (m d : Die) (e16 : Int)

theorem trimmed_fields : OnlyFields (trimFlds.map (d, ·)) p (trimmed m d e16 p) := by
  have hEpoch : OnlyFields (trimFlds.map (d, ·)) p (onlyIf (flag p d I_TIM.FRESH) (wr d TIM_STATUS.STEP_EPOCH (rd p m TIM_STATUS.STEP_EPOCH)) p) :=
    .onlyIf _ _ _ fun _ => .write (by decide) (by simp [trimFlds]) (.refl _ p)
  exact .write (by decide) (by simp [trimFlds]) <| .write (by decide) (by simp [trimFlds]) hEpoch

theorem rdI_trimmed (e : Die) (G : Fld) (j : Nat) (hG : G.count ≤ 65536 ∧ ∀ F ∈ trimFlds, F.id ≠ G.id) :
    rdI (trimmed m d e16 p) e G j = rdI p e G j := (trimmed_fields p m d e16).reads hG

/-- The trimmed increment stays within 2 % of the nominal. -/
theorem trimmed_bounds : incrNom * 98 / 100 ≤ rdI (trimmed m d e16 p) d TIM_INCR.INCR 0 ∧
    rdI (trimmed m d e16 p) d TIM_INCR.INCR 0 ≤ incrNom * 102 / 100 := by
  simp only [trimmed, trimIncr, wr_eq]
  rw [rdI_wrI_self _ _ _ _ _ (by decide)]
  simp only [clampInt, incrNom, TIM_INCR.INCR]
  omega

omit m

theorem markJudged_fields : OnlyFields (judgedFlds.map (d, ·)) p (markJudged d e16 p) :=
  .write (by decide) (by simp [judgedFlds]) <| .write (by decide) (by simp [judgedFlds]) <| .write (by decide) (by simp [judgedFlds]) (.refl _ p)

theorem rdI_markJudged (e : Die) (G : Fld) (j : Nat) (hG : G.count ≤ 65536 ∧ ∀ F ∈ judgedFlds, F.id ≠ G.id) :
    rdI (markJudged d e16 p) e G j = rdI p e G j := (markJudged_fields p d e16).reads hG

theorem markJudged_locked : rdI (markJudged d e16 p) d TIM_STATUS.SPINE_LOCKED 0 = b2n (markLocks d e16 p) := by
  simp (disch := decide) only [markJudged, wr_eq, rdI_wrI_field, rdI_wrI_self]
  exact Nat.mod_eq_of_lt (b2n_lt _)

theorem markLocks_eq : markLocks d e16 p = if rd p d TIM_STATUS.SPINE_LOCKED = 0 then decide (16 ≤ goodRun d e16 p)
    else decide (e16.natAbs ≤ 128) := by
  by_cases h : rdI p d TIM_STATUS.SPINE_LOCKED 0 = 0 <;> simp [markLocks, h]

/-- The judgement rests on the die's lock and its run of good marks alone. -/
theorem markLocks_congr {q : Pkg} (hLocked : rdI q d TIM_STATUS.SPINE_LOCKED 0 = rdI p d TIM_STATUS.SPINE_LOCKED 0)
    (hGood : rdI q d I_TIM.GOOD_RUN 0 = rdI p d I_TIM.GOOD_RUN 0) : markLocks d e16 q = markLocks d e16 p := by
  unfold markLocks goodRun
  rw [flag_eq, flag_eq, rd_eq, rd_eq, hLocked, hGood]

theorem markTaken_fields : OnlyFields (takenFlds.map (d, ·)) p (markTaken d e16 p) := by
  have hState (q : Pkg) : OnlyFields (takenFlds.map (d, ·)) q (takeState d (timeState p) q) :=
    (takeState_fields q d _).mono (by simp [takenFlds, stateFlds])
  have hLost : OnlyFields (takenFlds.map (d, ·)) p (wr d I_TIM.MISSED 0 (wr d TIM_STATUS.SPINE_LOST 0 p)) :=
    .write (by decide) (by simp [takenFlds]) <| .write (by decide) (by simp [takenFlds]) (.refl _ p)
  exact .write (by decide) (by simp [takenFlds]) <| .write (by decide) (by simp [takenFlds]) <| (hLost.trans (hState _)).mono (by simp)

theorem rdI_markTaken (e : Die) (G : Fld) (j : Nat) (hG : G.count ≤ 65536 ∧ ∀ F ∈ takenFlds, F.id ≠ G.id) :
    rdI (markTaken d e16 p) e G j = rdI p e G j := (markTaken_fields p d e16).reads hG

theorem markTaken_takes : rdI (markTaken d e16 p) d TIM_STATUS.SPINE_LOST 0 = 0 ∧ rdI (markTaken d e16 p) d I_TIM.MISSED 0 = 0 ∧
    rdI (markTaken d e16 p) d TIM_STATUS.STATE 0 = timeState p % 8 ∧ rdI (markTaken d e16 p) d TIM_STATUS.MASTER_DIE 0 = (masterDie p).num := by
  have hNum : (masterDie p).num % 2 ^ TIM_STATUS.MASTER_DIE.w = (masterDie p).num := Nat.mod_eq_of_lt (Die.num_lt _)
  simp (disch := decide) only [markTaken, wrSI, wr_eq, rdI_wrI_field, rdI_wrI_self, rdI_takeState, takeState_state, hNum]
  exact ⟨rfl, rfl, trivial, trivial⟩

section
variable (hRun : running p d = true) (hSlave : d ≠ masterDie p) (hMaster : running p (masterDie p) = true)
include hRun hSlave hMaster

/-- What a mark does to a running die that is not the master: after `markTaken` it aligns, notes that alignment is due, or trims. -/
theorem spineMark_eq : spineMark d e16 p =
    if flag p d I_TIM.ALIGN_DUE then alignTo (masterDie p) d (markTaken d e16 p)
    else if flag p d I_TIM.FRESH && decide (16000 < e16.natAbs) then wr d I_TIM.ALIGN_DUE 1 (markTaken d e16 p)
    else markJudged d e16 (trimmed (masterDie p) d e16 (markTaken d e16 p)) := by
  have hDue : flag (markTaken d e16 p) d I_TIM.ALIGN_DUE = flag p d I_TIM.ALIGN_DUE := by
    rw [flag_eq, flag_eq, rdI_markTaken p d e16 _ _ _ (by decide)]
  have hFresh : flag (markTaken d e16 p) d I_TIM.FRESH = flag p d I_TIM.FRESH := by
    rw [flag_eq, flag_eq, rdI_markTaken p d e16 _ _ _ (by decide)]
  have hSplit : spineMark d e16 p = if !(running p d) || d == masterDie p || !(running p (masterDie p)) then p
      else if flag (markTaken d e16 p) d I_TIM.ALIGN_DUE then alignTo (masterDie p) d (markTaken d e16 p)
      else if flag (markTaken d e16 p) d I_TIM.FRESH && decide (16000 < e16.natAbs) then wr d I_TIM.ALIGN_DUE 1 (markTaken d e16 p)
      else markJudged d e16 (trimmed (masterDie p) d e16 (markTaken d e16 p)) := rfl
  rw [hSplit, if_neg (by simp [hRun, hSlave, hMaster]), hDue, hFresh]

/-- What `markTaken` gives stands after the mark, which stays at its die. -/
theorem spineMark_keeps : DieKeeps d takenMarks (markTaken d e16 p) (spineMark d e16 p) := by
  have hTrim (q : Pkg) : DieKeeps d takenMarks q (trimmed (masterDie p) d e16 q) :=
    .of_onlyFieldsAndLog ((trimmed_fields q _ d e16).andLog d) (by decide)
  have hJudge (q : Pkg) : DieKeeps d takenMarks q (markJudged d e16 q) := .of_onlyFieldsAndLog ((markJudged_fields q d e16).andLog d) (by decide)
  rw [spineMark_eq p d e16 hRun hSlave hMaster]
  split
  · exact .logOpen (by decide) <| .write (by decide) <| .write (by decide) <| .write (by decide) <| .write (by decide) <|
      .write (by decide) <| .write (by decide) <| .write (by decide) .refl
  · split
    · exact .write (by decide) .refl
    · exact (hTrim _).trans (hJudge _)

theorem spineMark_otherDies : OtherDiesKept d p (spineMark d e16 p) := by
  have hTaken : OtherDiesKept d p (markTaken d e16 p) := .of_fieldsKept (markTaken_fields p d e16).2 (by simp)
  exact fun e F i hF he => ((spineMark_keeps p d e16 hRun hSlave hMaster).2.1 e F i hF he).trans (hTaken e F i hF he)

theorem spineMark_onlyRegsAndLog : OnlyRegsAndLog p (spineMark d e16 p) := by
  have hTaken : DieKeeps d [] p (markTaken d e16 p) := .of_onlyFieldsAndLog ((markTaken_fields p d e16).andLog d) (by simp)
  exact hTaken.onlyRegsAndLog.trans (spineMark_keeps p d e16 hRun hSlave hMaster).onlyRegsAndLog

theorem spineMark_takes : rdI (spineMark d e16 p) d TIM_STATUS.SPINE_LOST 0 = 0 ∧ rdI (spineMark d e16 p) d I_TIM.MISSED 0 = 0 ∧
    rdI (spineMark d e16 p) d TIM_STATUS.STATE 0 = timeState p % 8 ∧
    rdI (spineMark d e16 p) d TIM_STATUS.MASTER_DIE 0 = (masterDie p).num := by
  have hKept := spineMark_keeps p d e16 hRun hSlave hMaster
  simp only [hKept.reads (F := TIM_STATUS.SPINE_LOST) (by decide), hKept.reads (F := I_TIM.MISSED) (by decide),
    hKept.reads (F := TIM_STATUS.STATE) (by decide), hKept.reads (F := TIM_STATUS.MASTER_DIE) (by decide)]
  exact markTaken_takes p d e16

/-! Alignment (R356): the die whose alignment is due takes the master's tally and step epoch; a fresh one far off notes that it is due. -/

theorem spineMark_aligns (hDue : rd p d I_TIM.ALIGN_DUE = 1) : now (spineMark d e16 p) d = now p (masterDie p) % 2 ^ 64 ∧
    rd (spineMark d e16 p) d TIM_STATUS.STEP_EPOCH = rd p (masterDie p) TIM_STATUS.STEP_EPOCH % 2 ^ TIM_STATUS.STEP_EPOCH.w ∧
    rd (spineMark d e16 p) d I_TIM.ALIGN_DUE = 0 ∧ rd (spineMark d e16 p) d I_TIM.FRESH = 0 ∧
    rd (spineMark d e16 p) d TIM_SPINE.ALIGNS =
      min (rd p d TIM_SPINE.ALIGNS + 1) (2 ^ TIM_SPINE.ALIGNS.w - 1) % 2 ^ TIM_SPINE.ALIGNS.w := by
  rw [spineMark_eq p d e16 hRun hSlave hMaster, if_pos (flag_of_one hDue)]
  simp (disch := decide) only [alignTo, setNow, now, incSat, addSatI, rdI_logOpen, rd_eq, wr_eq, rdI_wrI_field, rdI_wrI_self, rdI_markTaken,
    Nat.zero_mod]
  exact ⟨rfl, trivial, trivial, trivial, trivial⟩

theorem spineMark_notes_due (hDue : rd p d I_TIM.ALIGN_DUE = 0) (hFresh : rd p d I_TIM.FRESH = 1) (hFar : 16000 < e16.natAbs) :
    spineMark d e16 p = wr d I_TIM.ALIGN_DUE 1 (markTaken d e16 p) := by
  rw [spineMark_eq p d e16 hRun hSlave hMaster, flag_of_zero hDue, flag_of_one hFresh, decide_eq_true hFar]
  rfl

/-! Trim (R356, R357). -/

theorem spineMark_trims (hDue : rd p d I_TIM.ALIGN_DUE = 0) (hNear : rd p d I_TIM.FRESH = 0 ∨ e16.natAbs ≤ 16000) :
    spineMark d e16 p = markJudged d e16 (trimmed (masterDie p) d e16 (markTaken d e16 p)) := by
  have hGuard : (flag p d I_TIM.FRESH && decide (16000 < e16.natAbs)) = false := by
    obtain hOld | hNear := hNear
    · rw [flag_of_zero hOld, Bool.false_and]
    · rw [decide_eq_false (Nat.not_lt.mpr hNear), Bool.and_false]
  rw [spineMark_eq p d e16 hRun hSlave hMaster, flag_of_zero hDue, hGuard]
  rfl

/-- A trim leaves the tally; the die locks as `markLocks` says, and its increment stays near the nominal. -/
theorem spineMark_trims_reads (hDue : rd p d I_TIM.ALIGN_DUE = 0) (hNear : rd p d I_TIM.FRESH = 0 ∨ e16.natAbs ≤ 16000) :
    now (spineMark d e16 p) d = now p d ∧ rd (spineMark d e16 p) d TIM_STATUS.SPINE_LOCKED = b2n (markLocks d e16 p) ∧
      incrNom * 98 / 100 ≤ rd (spineMark d e16 p) d TIM_INCR.INCR ∧ rd (spineMark d e16 p) d TIM_INCR.INCR ≤ incrNom * 102 / 100 := by
  have hLocks : markLocks d e16 (trimmed (masterDie p) d e16 (markTaken d e16 p)) = markLocks d e16 p :=
    markLocks_congr p d e16 (by simp (disch := decide) only [rdI_trimmed, rdI_markTaken])
      (by simp (disch := decide) only [rdI_trimmed, rdI_markTaken])
  simp only [now, rd_eq, spineMark_trims p d e16 hRun hSlave hMaster hDue hNear, markJudged_locked, hLocks]
  simp (disch := decide) only [rdI_markJudged, rdI_trimmed, rdI_markTaken]
  exact ⟨trivial, trivial, trimmed_bounds _ _ d e16⟩

theorem spineMark_trims_regs (hDue : rd p d I_TIM.ALIGN_DUE = 0) (hNear : rd p d I_TIM.FRESH = 0 ∨ e16.natAbs ≤ 16000) :
    spineMark d e16 p = { p with regs := (spineMark d e16 p).regs } := by
  rw [spineMark_trims p d e16 hRun hSlave hMaster hDue hNear]
  exact (((markTaken_fields p d e16).trans (trimmed_fields _ _ d e16)).trans (markJudged_fields _ d e16)).1

end

end

/-- The master meets no mark, and a die that does not run none either. -/
theorem spineMark_not (d : Die) (e16 : Int) (h : running p d = false ∨ d = masterDie p) : spineMark d e16 p = p :=
  if_pos (by obtain h | h := h <;> simp [h])

theorem spineMissing_not (d : Die) (h : running p d = false ∨ d = masterDie p) : spineMissing d p = p :=
  if_pos (by obtain h | h := h <;> simp [h])

/-- Settles O53: the die's fields are those of `markMissed`, the event is raised once, and every mark ends the loss (`spineMark_takes`). -/
theorem aMissingMarkIsLostAndTheNextOneClearsIt : Obligations.AMissingMarkIsLostAndTheNextOneClearsIt := by
  unfold Obligations.AMissingMarkIsLostAndTheNextOneClearsIt
  refine ⟨?missing, ?next⟩
  case missing =>
    intro d s hRun hSlave
    have hFrame := spineMissing_frame s.pk d hRun hSlave
    obtain ⟨hLost, hMissed⟩ := spineMissing_marks s.pk d hRun hSlave
    obtain ⟨hFirst, hAgain⟩ := spineMissing_event s.pk d hRun hSlave
    have hKept : DieKeeps d [TIM_INCR.INCR.id, TIM_NOW.NOW.id] s.pk (spineMissing d s.pk) := .of_onlyFieldsAndLog hFrame (by decide)
    have hNow : now (spineMissing d s.pk) d = now s.pk d := hKept.reads (F := TIM_NOW.NOW) (i := 0) (by decide)
    exact .of_nextPk (f := spineMissing d) rfl hFrame ⟨hLost, hKept.reads (F := TIM_INCR.INCR) (by decide), hNow, hMissed, hFirst, hAgain⟩
  case next =>
    intro d e s hRun hSlave hMaster
    exact .of_nextPk (f := spineMark d e) rfl ⟨rfl, (spineMark_takes s.pk d e hRun hSlave hMaster).1⟩

/-! The spine changes hands (R359). -/

/-- Work of device time at the steward and the port dies: registers and logs alone, and none of the helms, the basebands and the ledger. -/
def TimeWork (p q : Pkg) : Prop := OnlyRegsAndLog p q ∧ DiesKept [.ha, .hb, .ga, .gb, .ld] p q

theorem TimeWork.refl : TimeWork p p := ⟨rfl, fun _ _ _ _ _ => rfl⟩

theorem TimeWork.trans {p q r : Pkg} (h : TimeWork p q) (k : TimeWork q r) : TimeWork p r :=
  ⟨h.1.trans k.1, fun d hd F i hF => (k.2 d hd F i hF).trans (h.2 d hd F i hF)⟩

/-- Work at one die that is not kept. -/
theorem TimeWork.of_die {p q : Pkg} {d : Die} (hd : d ∉ [Die.ha, .hb, .ga, .gb, .ld]) (h : DieKeeps d [] p q) : TimeWork p q :=
  ⟨h.onlyRegsAndLog, fun e he F i hF => h.2.1 e F i hF (fun hed => hd (hed ▸ he))⟩

theorem TimeWork.write {p q : Pkg} {d : Die} {F : Fld} {i v : Nat} (hd : d ∉ [Die.ha, .hb, .ga, .gb, .ld]) (hF : F.count ≤ 65536)
    (h : TimeWork p q) : TimeWork p (wrI d F i v q) :=
  h.trans (.of_die hd (.write ⟨hF, List.not_mem_nil⟩ .refl))

theorem port_not_mem (y : Side) : y.port ∉ [Die.ha, .hb, .ga, .gb, .ld] := by cases y <;> decide

theorem masterDie_not_mem : masterDie p ∉ [Die.ha, .hb, .ga, .gb, .ld] := port_not_mem _

/-- The port die that is not the master is the backup of the other. -/
theorem masterDie_of_ne (y : Side) (h : y.port ≠ masterDie p) : masterDie p = y.other.port := by
  unfold masterDie at h ⊢
  generalize spineMaster p = m at h ⊢
  cases m <;> cases y
  · exact absurd rfl h
  · rfl
  · rfl
  · exact absurd rfl h

theorem setTimeState_work (v : Nat) : TimeWork p (setTimeState v p) := by
  have hMaster : TimeWork p (takeState (masterDie p) v p) := .of_die (masterDie_not_mem p) (takeState_keeps p _ v (by simp))
  unfold setTimeState onlyIf
  split
  · exact hMaster.trans (.of_die (d := .sw) (by decide) (takeState_keeps _ _ v (by simp)))
  · exact hMaster

theorem rdI_setTimeState (e : Die) (v : Nat) (G : Fld) (j : Nat) (hG : G.count ≤ 65536 ∧ ∀ F ∈ stateFlds, F.id ≠ G.id) :
    rdI (setTimeState v p) e G j = rdI p e G j := by
  unfold setTimeState onlyIf
  split
  · rw [rdI_takeState _ _ _ _ _ _ hG, rdI_takeState _ _ _ _ _ _ hG]
  · rw [rdI_takeState _ _ _ _ _ _ hG]

theorem rdI_degradeCheck (e : Die) (G : Fld) (j : Nat)
    (hG : G.count ≤ 65536 ∧ (∀ F ∈ stateFlds, F.id ≠ G.id) ∧ I_TIM.PRIOR.id ≠ G.id ∧ TIM_EVENT.DEGRADED.id ≠ G.id ∧ I_DIE.SEQ.id ≠ G.id) :
    rdI (degradeCheck p) e G j = rdI p e G j := by
  obtain ⟨hCount, hState, hPrior, hEvent, hSeq⟩ := hG
  simp only [degradeCheck]
  split
  · split
    · rfl
    · rw [raise, rdI_raise_field _ _ _ _ _ _ _ _ (by decide) hCount hEvent hSeq (by decide), rdI_setTimeState _ _ _ _ _ ⟨hCount, hState⟩, wr_eq,
        rdI_wrI_field _ _ _ _ _ _ _ _ (by decide) hCount hPrior]
  · split
    · exact rdI_setTimeState _ _ _ _ _ ⟨hCount, hState⟩
    · rfl

theorem degradeCheck_work : TimeWork p (degradeCheck p) := by
  have hPrior : TimeWork p (wr .sw I_TIM.PRIOR (timeState p) p) := .write (by decide) (by decide) (.refl p)
  simp only [degradeCheck]
  split
  · split
    · exact .refl p
    · exact (hPrior.trans (setTimeState_work _ 5)).trans (.of_die (masterDie_not_mem p) (.event (by decide) .refl))
  · split
    · exact setTimeState_work p _
    · exact .refl p

/-- The backup `d` takes the spine from the master `m`, with what is left of its slew. -/
def spineTaken (m d : Die) (p : Pkg) : Pkg :=
  p |> wr m TIM_STATUS.SPINE_MASTER 0 |> wr d TIM_STATUS.SPINE_MASTER 1 |> wr d TIM_STATUS.MASTER_DIE d.num |> wr d TIM_STATUS.SPINE_LOST 0
    |> wr d I_TIM.MISSED 0 |> wr d I_TIM.FRESH 0 |> wr d I_TIM.ALIGN_DUE 0 |> wr d I_TIM.INCR_AT (now p d)
    |> wrSI d TIM_SLEW.REMAIN 0 (rdS p m TIM_SLEW.REMAIN) |> wr d TIM_STATUS.SLEWING (rd p m TIM_STATUS.SLEWING)
    |> wrSI m TIM_SLEW.REMAIN 0 0 |> wr m TIM_STATUS.SLEWING 0 |> raise d clsInfo TIM_EVENT.MASTER_CHANGED

section
variable (y : Side)

theorem spineTakeover_takes (hRun : running p y.port = true) (hBackup : y.port ≠ masterDie p)
    (hFails : 2 ≤ rd p y.port I_TIM.MISSED ∨
      (running p y.other.port = true ∧ onFallback p y.other.port = true ∧ onFallback p y.port = false)) :
    spineTakeover y p = degradeCheck (spineTaken y.other.port y.port p) := by
  have hOther := masterDie_of_ne p y hBackup
  have hSplit : spineTakeover y p = if !(running p y.port) || y.port == masterDie p then p
      else if 2 ≤ rd p y.port I_TIM.MISSED ∨ (running p (masterDie p) ∧ onFallback p (masterDie p) ∧ ¬ onFallback p y.port)
      then degradeCheck (spineTaken (masterDie p) y.port p) else p := rfl
  rw [hSplit, if_neg (by simp [hRun, hBackup]), if_pos (by simpa only [hOther, Bool.not_eq_true] using hFails), hOther]

theorem spineTakeover_not (hBackup : y.port ≠ masterDie p) (hMissed : rd p y.port I_TIM.MISSED < 2)
    (hServes : running p y.other.port = false ∨ onFallback p y.other.port = false ∨ onFallback p y.port = true) : spineTakeover y p = p := by
  have hOther := masterDie_of_ne p y hBackup
  simp only [spineTakeover, hOther]
  split
  · rfl
  · refine if_neg ?_
    obtain h | h | h := hServes <;> simp [h] <;> simpa using hMissed

theorem spineTaken_work : TimeWork p (spineTaken y.other.port y.port p) := by
  have hPort {q : Pkg} (z : Side) {F : Fld} {v : Nat} (hF : F.count ≤ 65536) (h : TimeWork p q) : TimeWork p (wrI z.port F 0 v q) :=
    .write (port_not_mem z) hF h
  have hRaise (q : Pkg) : TimeWork q (raise y.port clsInfo TIM_EVENT.MASTER_CHANGED q) :=
    .of_die (port_not_mem y) (.event (by decide) .refl)
  refine .trans ?_ (hRaise _)
  exact hPort _ (by decide) <| hPort _ (by decide) <| hPort y (by decide) <| hPort y (by decide) <| hPort y (by decide) <|
    hPort y (by decide) <| hPort y (by decide) <| hPort y (by decide) <| hPort y (by decide) <| hPort y (by decide) <|
    hPort y (by decide) <| hPort _ (by decide) (.refl p)

theorem spineTaken_marks : rdI (spineTaken y.other.port y.port p) y.port TIM_STATUS.SPINE_MASTER 0 = 1 ∧
    rdI (spineTaken y.other.port y.port p) y.other.port TIM_STATUS.SPINE_MASTER 0 = 0 ∧
    rdI (spineTaken y.other.port y.port p) y.port TIM_EVENT.MASTER_CHANGED 0 = 1 ∧
    rdI (spineTaken y.other.port y.port p) y.port TIM_NOW.NOW 0 = rdI p y.port TIM_NOW.NOW 0 := by
  refine ⟨?_, ?_, rdI_raise_self _ _ _ _ _ (by decide), ?_⟩ <;> cases y <;>
    simp (disch := decide) only [spineTaken, raise, wrSI, wr_eq, rdI_raise_field, rdI_wrI_field, rdI_wrI_die, rdI_wrI_self, Side.port, Side.other,
      Nat.zero_mod]
  · rfl
  · rfl

/-- What is left of the slew moves to the new master. -/
theorem spineTaken_slew : rdI (spineTaken y.other.port y.port p) y.port TIM_SLEW.REMAIN 0 = rdI p y.other.port TIM_SLEW.REMAIN 0 % 2 ^ 32 ∧
    rdI (spineTaken y.other.port y.port p) y.other.port TIM_SLEW.REMAIN 0 = 0 := by
  have hMoved (v : Nat) : ofSigned TIM_SLEW.REMAIN.w (toSigned TIM_SLEW.REMAIN.w v) % 2 ^ TIM_SLEW.REMAIN.w = v % 2 ^ 32 := by
    rw [ofSigned_toSigned, Nat.mod_mod]
    rfl
  refine ⟨?_, ?_⟩ <;> cases y <;>
    simp (disch := decide) only [spineTaken, raise, wrSI, wr_eq, rdI_raise_field, rdI_wrI_field, rdI_wrI_die, rdI_wrI_self, Side.port, Side.other,
      rdS, rdSI, hMoved]
  · rfl
  · rfl

theorem masterDie_of_marks {q : Pkg} (hTaken : rdI q y.port TIM_STATUS.SPINE_MASTER 0 = 1)
    (hLeft : rdI q y.other.port TIM_STATUS.SPINE_MASTER 0 = 0) : masterDie q = y.port := by
  cases y
  · have hB : flag q .pb TIM_STATUS.SPINE_MASTER = false := flag_of_zero hLeft
    rw [masterDie, spineMaster, hB]
    rfl
  · have hB : flag q .pb TIM_STATUS.SPINE_MASTER = true := flag_of_one hTaken
    rw [masterDie, spineMaster, hB]
    rfl

end

/-- Settles O23: every mark gives a die what `markTaken` gives; then it aligns (`spineMark_aligns`), notes that it is to align, or trims its
increment within the clamp of `trimIncr`. A takeover is `spineTaken`, whose marks the check of R360 leaves. -/
theorem spineMarksAlignTrimAndHandOver : Obligations.SpineMarksAlignTrimAndHandOver := by
  unfold Obligations.SpineMarksAlignTrimAndHandOver
  refine ⟨?aligns, ?notes, ?trims, ?takes, ?serves, ?master⟩
  case aligns =>
    intro d e s hRun hSlave hMaster hDue
    obtain ⟨hNow, hEpoch, hDone, hFresh, hAligns⟩ := spineMark_aligns s.pk d e hRun hSlave hMaster hDue
    obtain ⟨hLost, -, hState, hDie⟩ := spineMark_takes s.pk d e hRun hSlave hMaster
    exact .of_nextPk (f := spineMark d e) rfl ⟨rfl, spineMark_onlyRegsAndLog s.pk d e hRun hSlave hMaster,
      spineMark_otherDies s.pk d e hRun hSlave hMaster, hNow, hEpoch, hDone, hFresh, hLost, hState, hDie, hAligns⟩
  case notes =>
    intro d e s hRun hSlave hMaster hDue hFresh hFar
    have hNotes := spineMark_notes_due s.pk d e hRun hSlave hMaster hDue hFresh hFar
    obtain ⟨hLost, -, hState, -⟩ := spineMark_takes s.pk d e hRun hSlave hMaster
    refine .of_nextPk (f := spineMark d e) rfl ⟨rfl, ?_, ?_, hLost, hState⟩ <;> rw [onPk_pk, hNotes]
    · exact .write (by decide) (by simp) ((markTaken_fields s.pk d e).mono (by simp [takenFlds]))
    · exact rdI_wrI_self _ _ _ _ _ (by decide)
  case trims =>
    intro d e s hRun hSlave hMaster hDue hNear
    obtain ⟨hNow, hLocked, hBounds⟩ := spineMark_trims_reads s.pk d e hRun hSlave hMaster hDue hNear
    obtain ⟨hLost, hMissed, hState, -⟩ := spineMark_takes s.pk d e hRun hSlave hMaster
    rw [markLocks_eq] at hLocked
    exact .of_nextPk (f := spineMark d e) rfl ⟨rfl, spineMark_trims_regs s.pk d e hRun hSlave hMaster hDue hNear,
      spineMark_otherDies s.pk d e hRun hSlave hMaster, hLost, hMissed, hState, hNow, hLocked, hBounds⟩
  case takes =>
    intro y s hRun hBackup hFails
    have hTakes := spineTakeover_takes s.pk y hRun hBackup hFails
    obtain ⟨hMaster, hLeft, hEvent, hNow⟩ := spineTaken_marks s.pk y
    obtain ⟨hSlew, hNone⟩ := spineTaken_slew s.pk y
    have hRead (d : Die) {F : Fld} (hF : F.count ≤ 65536 ∧ (∀ G ∈ stateFlds, G.id ≠ F.id) ∧ I_TIM.PRIOR.id ≠ F.id ∧
        TIM_EVENT.DEGRADED.id ≠ F.id ∧ I_DIE.SEQ.id ≠ F.id) :
        rdI (spineTakeover y s.pk) d F 0 = rdI (spineTaken y.other.port y.port s.pk) d F 0 := by
      rw [hTakes, rdI_degradeCheck _ _ _ _ hF]
    have hWork : TimeWork s.pk (spineTakeover y s.pk) := hTakes ▸ (spineTaken_work s.pk y).trans (degradeCheck_work _)
    have hMasterNow := (hRead y.port (F := TIM_STATUS.SPINE_MASTER) (by decide)).trans hMaster
    have hLeftNow := (hRead y.other.port (F := TIM_STATUS.SPINE_MASTER) (by decide)).trans hLeft
    exact .of_nextPk (f := spineTakeover y) rfl hWork.1 ⟨hMasterNow, hLeftNow, masterDie_of_marks y hMasterNow hLeftNow,
      (hRead _ (by decide)).trans hEvent, (hRead _ (by decide)).trans hSlew, (hRead _ (by decide)).trans hNone,
      (hRead _ (by decide)).trans hNow, hWork.2⟩
  case serves =>
    exact fun y s _ hBackup hMissed hServes => .of_nextPk (f := spineTakeover y) rfl (spineTakeover_not s.pk y hBackup hMissed hServes)
  case master =>
    exact fun d e s h => ⟨.of_nextPk (f := spineMark d e) rfl (spineMark_not s.pk d e h),
      .of_nextPk (f := spineMissing d) rfl (spineMissing_not s.pk d h)⟩

end Sys2Proof.Machine
end

section
/-! R368, R396: a step of device time moves the arrival of a first part that waits, so it does not leave the host side as it was. -/

namespace Sys2Proof.Machine

/-- A request in two messages of which the first part has come. -/
def firstPart : Part := ⟨⟨5, 1, 9, 0x0301, [0]⟩, 7⟩

/-- The steward runs, holds the first part of a request and has announced a step of 5 µs. -/
def firstPartState : State := State.reset.onPk fun p => { p with nhp := { p.nhp with parts := [firstPart] } }
  |> wrI .sw I_DIE.RUN 0 2 |> wrI .sw TIM_NOW.NOW 0 9 |> wrI .sw I_TIM.STEP_AT 0 8 |> wrI .sw I_TIM.STEP 0 5000 |> wrI .sw I_TIM.STEP_DUE 0 1

/-- The mark after the announcement has come. -/
theorem firstPartState_due : rd firstPartState.pk .sw I_TIM.STEP_DUE = 1 ∧
    rd firstPartState.pk .sw I_TIM.STEP_AT < now firstPartState.pk .sw := by decide

/-- The step moves the arrival of the part. -/
theorem stepMark_moves_firstPart : (stepMark firstPartState.pk).nhp.parts = [{ firstPart with at' := 5007 }] := by decide

/-- Refutes O25: its first clause keeps the host side's queues at a step, but the stored instants move with device time (entry 139 of the model's
log), and so does the arrival of the first part of a request (R396). -/
theorem not_stepsReachEveryDieAndPulsesFire : ¬ Obligations.StepsReachEveryDieAndPulsesFire := by
  unfold Obligations.StepsReachEveryDieAndPulsesFire
  rintro ⟨hStep, -⟩
  obtain ⟨hDue, hPast⟩ := firstPartState_due
  obtain ⟨t, hExec, -, -, -, -, hHosts, -⟩ := hStep firstPartState hDue hPast
  have hNext : firstPartState.onPk stepMark = t := Host.Outcome.next.inj hExec
  have hKept : t.pk.nhp.parts = [firstPart] := congrArg Nhp.parts hHosts
  rw [← hNext, onPk_pk, stepMark_moves_firstPart] at hKept
  exact absurd hKept (by decide)

end Sys2Proof.Machine
end

section
/-! R371: UTC_LEAP takes the offset that waits whenever UTC_DUE is not 0. -/

namespace Sys2Proof.Machine

/-- LEAP61 stands and its day is over, the offset in force is 37 s, one of 40 s waits, and the store, in its canonical form, holds 2 in the
cell of the one-bit field UTC_DUE. -/
def wideDueState : State := State.reset.onPk fun p => p
  |> wrI .sw I_DIE.RUN 0 2 |> wrI .sw TIM_UTC.LEAP61 0 1 |> wrI .sw TIM_UTC.UTC_OFFSET 0 37 |> wrI .sw I_TIM.UTC_NEW 0 40
  |> wrI .sw TIM_NOW.NOW 0 90000000000000
  |> fun q => { q with regs := cellsPut q.regs (I_TIM.UTC_DUE.key Die.sw.num 0) 2 }

theorem wideDueState_wf : wideDueState.wf = true := by decide

/-- The boundary after the end of the announced day has come. -/
theorem wideDueState_leaps : running wideDueState.pk .sw = true ∧ rd wideDueState.pk .sw TIM_UTC.LEAP61 = 1 ∧
    leapDayOver wideDueState.pk = true ∧ atSomeBoundary wideDueState.pk = true := by decide

theorem wideDueState_offset : rd wideDueState.pk .sw I_TIM.UTC_DUE = 2 ∧ rdS wideDueState.pk .sw TIM_UTC.UTC_OFFSET = 37 := by decide

/-- The command takes the offset that waits. -/
theorem utcLeap_takes_waiting : rd (utcLeap wideDueState.pk) .sw TIM_UTC.UTC_OFFSET = 40 := by decide

/-- Refutes O24: its clause on UTC_LEAP takes the offset that waits when UTC_DUE reads 1 and moves by one second otherwise, but the command
takes it whenever UTC_DUE is not 0. The clause speaks of every store, also of one whose cell of this one-bit field holds 2; no write of the model
leaves such a cell, since writes are cut to the field's width. -/
theorem not_referenceUpdatesSteerTheMaster : ¬ Obligations.ReferenceUpdatesSteerTheMaster := by
  unfold Obligations.ReferenceUpdatesSteerTheMaster
  rintro ⟨-, -, -, -, -, -, -, -, -, hLeap, -⟩
  obtain ⟨hRun, hFlag, hOver, hBoundary⟩ := wideDueState_leaps
  obtain ⟨hDue, hOffset⟩ := wideDueState_offset
  obtain ⟨t, hExec, -, -, -, hMoved, -⟩ := hLeap wideDueState hRun (.inl hFlag) hOver hBoundary
  have hNext : wideDueState.onPk utcLeap = t := Host.Outcome.next.inj hExec
  rw [← hNext, onPk_pk, utcLeap_takes_waiting, hDue, hOffset, hFlag] at hMoved
  exact absurd hMoved (by decide)

end Sys2Proof.Machine
end
